-- ==== Sys2Proof/Word.lean ====
section
/-! DEFINITION. The byte and word types of the EVH-8800 model. -/

namespace Sys2Proof

/-- One byte of a payload, a window or a frame (R9: little-endian everywhere it is part of a wider value). -/
abbrev Byte := BitVec 8

/-- A string of bytes in ascending address order. -/
abbrev Bytes := List Byte

/-- A 32-bit register, header field or Bench word. -/
abbrev Word := BitVec 32

end Sys2Proof
end

