-- ==== Sys2Proof/Machine/Request.lean ====
section
/-! DEFINITION. The operands of the commands: what a mailbox request, a register access, a frame or an event brings. -/

namespace Sys2Proof

/-- A mailbox request as the device copied it (R46, R49): header and payload. The opcode is the constructor; the header's
payload length is the payload's (a request whose lengths disagree is the row MBX_DOORBELL). -/
structure Req where
  flags : BitVec 16
  tag : Word
  node : Word
  rsvd : BitVec 16
  payload : Bytes
  deriving DecidableEq, Repr, Inhabited

/-- The fields of one 64-bit Bench instruction word below CLASS and OP (R367). -/
structure IWord where
  d : BitVec 5
  a : BitVec 5
  b : BitVec 5
  m : BitVec 3
  x : BitVec 4
  imm : Word
  deriving DecidableEq, Repr, Inhabited

/-- One access to a 64-bit host-queue data register (R398): whole, its low half, or its high half. -/
inductive DataAccess where
  | whole (w : BitVec 64)
  | low (w : Word)
  | high (w : Word)
  deriving DecidableEq, Repr, Inhabited

/-- The space an access of the host goes to (R44, R536, R541, R547): BAR0, BAR2, the 24-bit QSPI space, or the Message Control
word of the MSI-X capability in PCIe configuration space. -/
inductive Space where
  | msixControl
  | bar0
  | bar2
  | qspi
  deriving DecidableEq, Repr, Inhabited

/-- A write access (R537, R549): offset, bytes written, and which of them the byte enables cover. -/
structure Access where
  space : Space
  offset : Nat
  data : Bytes
  enables : List Bool
  deriving DecidableEq, Repr, Inhabited

/-- Something the scrubber or a read found (R478, R479, R480, R207). -/
inductive ScrubFinding where
  | sramCorrected
  | localCorrected (cluster : Fin 16)
  | localUncorrectable (cluster : Fin 16)
  | xpCorrected (out inp : Nat)
  | xpUncorrectable (out inp : Nat)
  | blockBuffer (node out sample : Nat)
  | aecFilter (beam ref : Nat)
  | rampEntry (out inp : Nat)
  | rendererState (obj : Nat)
  /-- A word held by a queue, counted from the oldest: uncorrectable in a large queue, of bad parity in a small one; a word of a
  large queue that was corrected (R394). -/
  | largeQueueWord (q word : Nat)
  | smallQueueWord (q word : Nat)
  | queueCorrected (q : Nat)
  | lpddrCorrected (channel : Nat)
  | lpddrBank (spk bank coef : Nat)
  /-- A sample of a loudspeaker's transform history or delay line, counted from the newest. -/
  | lpddrHistory (spk sample : Nat)
  | lpddrLine (spk sample : Nat)
  | lpddrJitter (stream seq : Nat)
  | lpddrStaging (slab : Nat)
  | lpddrImage (slot : Nat)
  | lpddrMirror (inst : Nat)
  | lpddrUser (word : Nat)
  deriving DecidableEq, Repr, Inhabited

/-- What lay on the input balls during the block that a strobe ends: per TDM port and primary sample the bits on TDM_DIN from the
frame-start edge on, in order of the bit clocks; PDM bits per microphone; the levels of undriven or driven GPIO inputs at the
strobe; and the words that the engines find in error when they read for the block that the strobe begins (R207, R477). -/
structure BlockIn where
  tdm : List (Nat × List (List Bool))
  pdm : List (Nat × List Bool)
  gpio : List (Nat × Bool)
  found : List ScrubFinding := []
  deriving DecidableEq, Repr, Inhabited

/-- The PTP message types the device sends (R138). -/
inductive PtpKind where
  | announce
  | sync
  | delayReq
  | delayResp
  | pdelayReq
  | pdelayResp
  deriving DecidableEq, Repr, Inhabited

/-- What an Announce carries of its sender (R139, TIME_GET). -/
structure Announce where
  port : Fin 4
  gm : BitVec 64
  steps : Nat
  deriving DecidableEq, Repr, Inhabited

/-- What one received PTP message says (R135, R136, R139). Time stamps and corrections are in 1/256 ns. -/
inductive PtpBody where
  /-- An Announce; `better` when the best master clock algorithm selects its sender; its path trace TLV, if any. -/
  | announce (gm : BitVec 64) (steps : Nat) (better : Bool) (path : List (BitVec 64))
  /-- A Sync, with its Follow_Up where it is a two-step one: origin time stamp, corrections in all. -/
  | sync (origin correction : Int)
  /-- Delay_Req and Pdelay_Req: the device answers (R138). -/
  | delayReq
  | pdelayReq
  /-- The answer to the device's own Delay_Req: receive time stamp, corrections. -/
  | delayResp (receipt correction : Int)
  /-- The answer to its Pdelay_Req, with its Follow_Up: request receipt and response origin time stamps, corrections in all. -/
  | pdelayResp (receipt origin correction : Int)
  /-- Management or signalling: to the host management queue (R135). -/
  | management (frame : Bytes)
  /-- With an Authentication TLV: discarded and counted (R135). -/
  | authenticated
  deriving DecidableEq, Repr, Inhabited

/-- A PTP message received on a port, with its domain number and the network time, in 1/256 ns, at which its start-of-frame
delimiter passed the MII boundary (R136). -/
structure PtpMessage where
  port : Fin 4
  domain : Nat
  stamp : Nat
  body : PtpBody
  deriving DecidableEq, Repr, Inhabited

/-- A received Ethernet frame without FCS, whether its FCS, size and code checks passed, and whether its last bit came
before the strobe margin of R318. -/
structure EthFrame where
  port : Fin 4
  bytes : Bytes
  fcsOk : Bool
  onTime : Bool
  deriving DecidableEq, Repr, Inhabited

/-- A DTMF decision of a detector (R345). -/
structure ToneDecision where
  digit : Nat
  begins : Bool
  durationMs : Nat
  low : Int
  high : Int
  onset : Nat
  deriving DecidableEq, Repr, Inhabited

/-- A call-progress decision (R345). -/
structure CpDecision where
  f1 : Nat
  f2 : Nat
  on : Bool
  level : Int
  deriving DecidableEq, Repr, Inhabited

/-- A TRAIN block of the partner (R435): message number and its field bytes 2 to 5. -/
structure TrainMessage where
  lane : Fin 8
  message : Nat
  f2 : Byte
  f3 : Byte
  f4 : Byte
  f5 : Byte
  deriving DecidableEq, Repr, Inhabited

/-- A CREDIT block (R425). -/
structure CreditBlock where
  nak0 : Bool
  nak1 : Bool
  credits0 : Nat
  credits1 : Nat
  last0 : Nat
  last1 : Nat
  deriving DecidableEq, Repr, Inhabited

/-- A HEARTBEAT block (R465). -/
structure Heartbeat where
  role : Nat
  state : Nat
  token : Bool
  outOfLockstep : Bool
  lastBlock : Nat
  deriving DecidableEq, Repr, Inhabited

/-- Where a frame-start edge of a slave TDM port lies (R165): the media sample boundary that it precedes or meets, and its
distance from that boundary in ns. -/
structure FrameEdge where
  m : Nat
  phase : Nat
  deriving DecidableEq, Repr, Inhabited

/-- What a rail's regulator answers on PMBUS_ALERT_N (R495): STATUS_WORD, or a transaction that still fails after its retries,
1 not acknowledged, 2 bad PEC. -/
structure PmbusAnswer where
  status : BitVec 16
  failure : Fin 3
  deriving DecidableEq, Repr, Inhabited

/-- The straps sampled at the release of PORST (R450, R518, R534). -/
structure Straps where
  pairEn : Bool
  pairSideB : Bool
  download : Bool
  hostQspi : Bool
  deriving DecidableEq, Repr, Inhabited

/-- The ladder of LPDDR5X data rates in MT/s, as the board block codes them (R383, R525). -/
def lpddrRates : List Nat := [8533, 7500, 6400, 5500, 4266]

/-- What a boot finds: the image that booted, the memory fitted, the units that fail self test (R519, R523, R384, R487). -/
structure BootReport where
  /-- Reason for which the active slot's image failed and the other was booted (R521, R524); 0 for none. -/
  fallbackReason : Nat
  major : Nat
  minor : Nat
  build : Nat
  pairLevel : Nat
  secVersion : Nat
  /-- Density per channel in Gbit, and the rate in MT/s that every channel's training reached (R383, R384). -/
  density : Nat
  rate : Nat
  auxMv : Nat
  rate96 : Bool
  boardOpen : Bool
  /-- PAIR_TOKEN reads low at the end of boot: the partner holds it (R454). -/
  tokenLow : Bool
  badClusters : List Nat
  badSlices : List Nat
  deriving DecidableEq, Repr, Inhabited

end Sys2Proof
end

