-- ==== Sys2Proof/Machine/Parts.lean ====
section
/-! DEFINITION. The parts of the state that a command or a packet of the pair can carry: sessions, boot, events, time, nodes and
the engines. Each field's docstring gives the rule that names it and its reset value; "log 2" means that the spec gives no reset
value. -/

namespace Sys2Proof.Machine

/-! ### Memories -/

/-- A sparse byte memory in canonical form: addresses strictly rising, no listed byte 0 (log 10). -/
abbrev Mem := List Host.Cell

/-! ### Sessions, mailboxes, tag memory (02) -/

/-- SESSION_STATE of R45. -/
inductive SessState where
  | closed
  | awaiting
  | opened
  deriving DecidableEq, Repr, Inhabited

/-- A response as it stands in the response area (R51). -/
structure Resp where
  /-- Status code of R57. -/
  status : Nat := 0
  degraded : Bool := false
  replayed : Bool := false
  late : Bool := false
  tag : Word := 0
  node : Word := 0
  count : Nat := 0
  payload : Bytes := []
  deriving DecidableEq, Repr, Inhabited

/-- An entry of tag memory (R67). -/
structure TagEntry where
  tag : Word
  crc : Word
  resp : Resp
  deriving DecidableEq, Repr, Inhabited

/-- A finished response that waits for the standby's acknowledgment (R462): the block whose record carries the command, and the
nodes that the command touches (R71). -/
structure Held where
  resp : Resp
  block : Nat
  nodes : List Nat
  deriving DecidableEq, Repr, Inhabited

/-- One mailbox with its session (R45, R58 to R67). -/
structure Mbx where
  /-- MBX_STATUS.BUSY (R45). Reset 0. -/
  busy : Bool := false
  /-- MBX_STATUS.RESP_READY (R45). Reset 0. -/
  respReady : Bool := false
  /-- MBX_STATUS.DB_OVERRUN (R45, R47). Reset 0. -/
  dbOverrun : Bool := false
  /-- MBX_STATUS.SESSION_STATE (R45). Reset closed. -/
  sess : SessState := .closed
  /-- MBX_STATUS.KEY_SLOT (R45). Reset 0. -/
  keySlot : Nat := 0
  /-- Device nonce of the pending or proven open (R59). Reset empty. -/
  nonce : Bytes := []
  /-- Key of the slot as it stood at the open (R529). Reset empty. -/
  openKey : Bytes := []
  /-- Instant at which the pending or remembered open lapses, in smp of local time (R59, R62). Reset 0. -/
  lapseAt : Nat := 0
  /-- A lock ended this mailbox's pending open and the mailbox remembers it: the locked slot (R62). Reset none. -/
  lockedOpen : Option Nat := none
  /-- Idle timeout in force, seconds (R58). Reset 0. -/
  idleTimeout : Nat := 0
  /-- Local time of the last accepted doorbell, smp (R64). Reset 0. -/
  lastDoorbell : Nat := 0
  /-- Session command count modulo 65,536 (R54). Reset 0. -/
  count : Nat := 0
  /-- Tag memory, newest first, at most 256 entries (R67). Reset empty. -/
  tags : List TagEntry := []
  /-- The response that was delivered last (R46). Reset empty response. -/
  resp : Resp := {}
  /-- The response area from its first byte (R43, R51); bytes past its end read 0. Reset empty. -/
  area : Bytes := []
  /-- A finished response that waits for the standby's acknowledgment (R462). Reset none. -/
  held : Option Held := none
  deriving DecidableEq, Repr, Inhabited

/-! ### Keys, images and boot (20) -/

/-- One key slot (R527, R81). -/
structure KeySlot where
  key : Option Bytes := none
  locked : Bool := false
  revoked : Bool := false
  failures : Nat := 0
  /-- Local time, in smp, at which the lock after failed proofs ends (R62); none when unlocked. -/
  lockUntil : Option Nat := none
  deriving DecidableEq, Repr, Inhabited

/-- What the device keeps of an image's header (R523, R533). -/
structure ImageInfo where
  major : Nat := 0
  minor : Nat := 0
  build : Nat := 0
  pairLevel : Nat := 0
  secVersion : Nat := 0
  deriving DecidableEq, Repr, Inhabited

/-- Boot ROM, image slots, update and key state (R518 to R533). -/
structure Boot where
  /-- BOOT_STATUS.CODE (R525). Reset 0. -/
  code : Nat := 0
  /-- BOOT_STATUS.FALLBACK. Reset 0. -/
  fallback : Bool := false
  /-- BOOT_STATUS.BOARD_OPEN. Reset 0. -/
  boardOpen : Bool := false
  /-- BOOT_STATUS.SOURCE: 0 slot A, 1 slot B, 2 download. Reset 0. -/
  source : Nat := 0
  /-- BOOT_DETAIL. Reset 0. -/
  detail : Word := 0
  /-- BOOT_DL_OFFSET [22:0]. Reset 0. -/
  dlOffset : Nat := 0
  /-- BOOT_DL_LENGTH [19:0]. Reset 0. -/
  dlLength : Nat := 0
  /-- BOOT_DL_CTRL.BUSY. Reset 0. -/
  dlBusy : Bool := false
  /-- Image downloaded so far (R522). Reset empty. -/
  dlImage : Mem := []
  /-- Local time at which a rejected download returns CODE to 0x03 (R522). Reset none. -/
  dlReturnAt : Option Nat := none
  /-- BOOT_UPDATE.STATE (R525). Reset 0. -/
  updState : Nat := 0
  /-- BOOT_UPDATE.REASON. Reset 0. -/
  updReason : Nat := 0
  /-- Staging area of FW_STAGE in the system region (R530). Reset empty. -/
  staging : Mem := []
  /-- Highest byte staged plus 1. Reset 0. -/
  stagedLen : Nat := 0
  /-- Header facts of the staged image, once verified. Reset zeros. -/
  staged : ImageInfo := {}
  /-- Header facts of the running image (R1, R523). Reset zeros until boot. -/
  running : ImageInfo := {}
  /-- Image header facts of the kept copy (R515). Reset zeros. -/
  kept : ImageInfo := {}
  /-- Flash descriptor: active slot, 0 A or 1 B (R521). Flash content; reset 0, log 2. -/
  active : Nat := 0
  /-- Flash descriptor: TRIAL (R521). Reset false, log 2. -/
  trial : Bool := false
  /-- Flash descriptor: sequence of the copy in force (R521). Reset 0, log 2. -/
  descSeq : Nat := 0
  /-- The kept copy was activated and has not yet reached 0x07 (R521, R531). Reset false. -/
  keptTrial : Bool := false
  /-- Block boundary at which an activated target performs its warm reset (R531). Reset none. -/
  activateAt : Option Nat := none
  /-- The next boot starts from the kept copy: steps 3, 5 and 6 only (R519). Reset false. -/
  warm : Bool := false
  /-- Local time at which the current boot began its image (R521: 2 s for a TRIAL image). Reset 0. -/
  startedAt : Nat := 0
  /-- OTP and volatile key slots 0 to 15 (R527). Reset blank, log 2 for OTP. -/
  slots : Vector KeySlot 16 := Vector.replicate 16 {}
  /-- Image-key rows 0 to 3: 0 blank, 1 programmed, 2 revoked (R528). Reset row 0 programmed (R524), others blank, log 2. -/
  rows : List Nat := [1, 0, 0, 0]
  /-- Hashes of the board-key rows 1 to 3 (R524). Reset empty. -/
  rowHashes : List Bytes := [[], [], []]
  /-- OTP security-version minimum (R524). Reset 0, log 2. -/
  secMin : Nat := 0
  /-- BOOT_KEY_DATA words 0 to 7 (R525). Reset 0. -/
  keyData : List Word := List.replicate 8 0
  /-- BOOT_KEY_STATUS.LOCKED (R525). Reset 0. -/
  keyLocked : Bool := false
  /-- BOOT_KEY_STATUS.REFUSED (R525). Reset 0. -/
  keyRefused : Bool := false
  deriving DecidableEq, Repr, Inhabited

/-! ### Events and interrupts (04) -/

/-- An event record of R110; data is 16 bytes. -/
structure EvRec where
  seq : Nat
  sec : Nat
  ns : Nat
  source : Nat
  code : Nat
  node : Nat
  data : Bytes
  latched : Bool := false
  lost : Bool := false
  redelivered : Bool := false
  deriving DecidableEq, Repr, Inhabited

/-- One latch of a latching source (R122). -/
structure Latch where
  source : Nat
  no : Nat
  node : Nat := 0
  code : Nat := 0
  count : Nat := 0
  extreme : Int := 0
  level : Int := 0
  holds : Bool := false
  sec : Nat := 0
  ns : Nat := 0
  /-- Data of the last first crossing, which a latched event of an unmask carries (R121). -/
  data : Bytes := []
  /-- Data of the last crossing, which the event of a clear carries (R123). -/
  latest : Bytes := []
  /-- Crossings in one block, that block, and the extreme of their levels: a clear in it counts them anew (R123). -/
  inBlock : Nat := 0
  block : Nat := 0
  blockLevel : Int := 0
  deriving DecidableEq, Repr, Inhabited

/-- An event held until Daluo is ready (R127): the local time at which it arose, and whether network time was counting then. -/
structure HeldEvent where
  ticks : Nat
  timed : Bool
  e : EvRec
  deriving DecidableEq, Repr, Inhabited

/-- Event numbering, retention store, ring and interrupts (R110 to R130). -/
structure Evq where
  /-- Sequence number the next raised event receives (R116). Reset 1. -/
  nextSeq : Nat := 1
  /-- Retention store, oldest first, at most 8192 records (R113). Reset empty. -/
  store : List EvRec := []
  /-- How many records at the front of the store lie in the ring, written and not yet acknowledged (R119, R120). Reset 0. -/
  written : Nat := 0
  /-- The open gap: first dropped number, count, seconds and nanoseconds of the first dropped event (R113). Reset none. -/
  gap : Option (Nat × Nat × Nat × Nat) := none
  /-- Highest sequence number ever written to a ring, for REDELIVERED (R117). Reset 0. -/
  everWritten : Nat := 0
  /-- An EVENTS_LOST record that ENABLE owes for numbers no longer retained: first and count (R117). Reset none. -/
  owed : Option EvRec := none
  /-- The first slot not yet acknowledged holds that record (R117, R119). Reset false. -/
  owedSlot : Bool := false
  /-- Masked sources (R115). Reset none. -/
  masked : List Nat := []
  /-- Urgent sources (R121). Reset none. -/
  urgent : List Nat := []
  /-- Latches that have ever crossed or been cleared (R122). Reset none. -/
  latches : List Latch := []
  /-- Events that arose before Daluo was ready, oldest first (R127). Reset empty. -/
  waiting : List HeldEvent := []
  /-- EVQ_CTRL.ENABLE (R116). Reset 0. -/
  enable : Bool := false
  /-- EVQ_CTRL.INTERNAL. Reset 0. -/
  internal : Bool := false
  /-- EVQ_CTRL.SIZE_LOG2. Reset 6. -/
  sizeLog2 : Nat := 6
  /-- EVQ_BASE. Reset 0. -/
  base : Nat := 0
  /-- EVQ_HEAD. Reset 0. -/
  head : Word := 0
  /-- EVQ_TAIL. Reset 0. -/
  tail : Word := 0
  /-- EVQ_RESUME. Reset 0. -/
  resume : Nat := 0
  /-- EVQ_MOD.COUNT. Reset 0. -/
  modCount : Nat := 0
  /-- EVQ_MOD.TIME, µs. Reset 0. -/
  modTime : Nat := 0
  /-- EVQ_STATUS.ACTIVE. Reset 0. -/
  active : Bool := false
  /-- EVQ_STATUS.CONFIG_ERR. Reset 0. -/
  configErr : Bool := false
  /-- EVQ_STATUS.TAIL_ERR. Reset 0. -/
  tailErr : Bool := false
  /-- EVQ_STATUS.FULL as last seen, for its rising edge (R124). Reset 0. -/
  full : Bool := false
  /-- Records written since cause 8 was last set (R126). Reset 0. -/
  since8 : Nat := 0
  /-- Sample at which the first record since cause 8 was last set was written (R126). Reset none. -/
  first8 : Option Nat := none
  /-- The internal ring at BAR0 0x2400, slot index and record (R119). Reset empty. -/
  ring : List (Nat × EvRec) := []
  /-- INT_STATUS (R116). Reset 0. -/
  intStatus : Word := 0
  /-- INT_ENABLE. Reset 0. -/
  intEnable : Word := 0
  /-- INT_PIN.PIN_EN. Reset 0. -/
  pinEn : Bool := false
  /-- MSI-X table (R545): per vector the words address low, address high, data and vector control, whose bit 0 masks it.
  Reset by the PCIe specification: masked, log 38; address and data 0, log 2. -/
  msixTable : List Word := (List.replicate 32 [0, 0, 0, 1]).flatten
  /-- MSI-X pending bit array (R125, R545). Reset 0. -/
  pba : Word := 0
  /-- MSI-X enable and function mask of the capability's Message Control (R536). Reset by the PCIe specification: 0, log 38. -/
  msixEnable : Bool := false
  msixMask : Bool := false
  deriving DecidableEq, Repr, Inhabited

/-! ### Time (05) -/

/-- Servo states of R139. -/
inductive Servo where
  | free
  | acquiring
  | locked
  | holdover
  deriving DecidableEq, Repr, Inhabited

/-- A port's PTP settings (TIME_PORT_SET, R578). -/
structure PtpPort where
  enable : Bool := false
  mech : Nat := 1
  transport : Nat := 1
  step : Nat := 2
  logSync : Int := -3
  logAnnounce : Int := 1
  logDelay : Int := 0
  announceTimeout : Nat := 3
  ingress : Int := 0
  egress : Int := 0
  asymmetry : Int := 0
  /-- Calibration of the PHY constant is complete (R137). Reset false. -/
  calibrated : Bool := false
  phy : Nat := 0
  /-- Mean path delay measured by the delay mechanism, 1/256 ns. Reset 0. -/
  delay : Int := 0
  /-- Sync in hand for the E2E delay: its origin with corrections, and its stamp; stamp of the last delay request or peer delay
  request sent. Reset none. -/
  lastSync : Option (Int × Int) := none
  asked : Option Int := none
  /-- Stamps of the delay request and of the peer delay request that wait for an answer (R138). Reset none. -/
  delayReqAt : Option Int := none
  pdelayReqAt : Option Int := none
  /-- Messages of another domain discarded (R135); authenticated messages discarded. Reset 0. -/
  otherDomain : Nat := 0
  authDropped : Nat := 0
  deriving DecidableEq, Repr, Inhabited

/-- TIME_CONFIG (R150, R578). -/
structure TimeCfg where
  profile : Nat := 0
  domain : Nat := 0
  role : Nat := 0
  clockType : Nat := 0
  priority1 : Nat := 128
  priority2 : Nat := 128
  clockClass : Nat := 248
  servoSource : Nat := 2
  stepThreshold : Nat := 10000000
  lockThreshold : Nat := 1000
  mediaSource : Nat := 0
  holdoverCount : Nat := 3
  deriving DecidableEq, Repr, Inhabited

/-- TIME_PIN_SET (R143). -/
structure TimePins where
  ppsOut : Nat := 0
  ppsWidth : Nat := 0
  ppsIn : Nat := 0
  mclkOut : Nat := 0
  mclkIn : Nat := 0
  cableDelay : Int := 0
  deriving DecidableEq, Repr, Inhabited

/-- The kinds of a scheduled action (TIME_SCHEDULE), and a timed Slab (R101). -/
inductive ActionBody where
  | command (opcode : Nat) (node : Word) (payload : Bytes)
  | gpio (g : Nat) (level : Bool)
  | portStart (node : Nat)
  | marker (value : Bytes)
  | slab (index : Nat)
  deriving DecidableEq, Repr, Inhabited

/-- One scheduled action (R144). Network times are counts of 1/65,536 ns. -/
structure Action where
  index : Nat
  /-- Network time of a timescale 1 action; none for media time. -/
  netTime : Option Nat
  due : Nat
  frozen : Bool := false
  /-- Fired late: passed over, or late at arming (R145, R148). -/
  late : Bool := false
  /-- A forward step passed over it before its due sample was frozen (R145). -/
  passed : Bool := false
  /-- Place among all armings and Slab commits (R103, R144). -/
  order : Nat := 0
  /-- Earlier than the earliest sample at arming (R148): the lateness in ns told at arming. -/
  lateNs : Nat := 0
  session : Nat
  body : ActionBody
  deriving DecidableEq, Repr, Inhabited

/-- Clock and time unit (R131 to R154). -/
structure Time where
  /-- Block number (R14). Reset 0. -/
  block : Nat := 0
  /-- Position in the block: media sample number m is 16 × block + pos (R131). Reset 0. -/
  pos : Nat := 0
  /-- Primary rate 96 kHz (R4, R66). Reset 48 kHz, log 2. -/
  rate96 : Bool := false
  /-- Network time in units of 1/(3 × 65,536) ns, of which one smp is exactly 4,096,000,000 (R131). Reset 0. -/
  net : Nat := 0
  /-- Epoch offset E, smp (R132). Reset 0, log 2. -/
  epoch : Int := 0
  /-- Local monotonic time, smp since cold power-up: the base of every timer (log 12). Reset 0. -/
  ticks : Nat := 0
  /-- Servo state (R139). Reset FREE. -/
  servo : Servo := .free
  /-- The servo has locked since network time last restarted (R153). Reset false. -/
  everLocked : Bool := false
  /-- Parent port 0 to 3, 0xFE PPS_IN, 0xFF none (TIME_GET). Reset 0xFF. -/
  parentPort : Nat := 0xFF
  /-- grandmasterIdentity and stepsRemoved of the last Announce. Reset 0. -/
  gm : BitVec 64 := 0
  steps : Nat := 0
  /-- Last measured offset, ns. Reset 0. -/
  offset : Int := 0
  /-- Rate adjustment, 1/65,536 ppm (TIME_GET). Reset 0. -/
  rateAdj : Int := 0
  /-- Local time of the last lock; rates in force since then, newest first, with the local time from which (R139). -/
  lockedAt : Nat := 0
  rates : List (Nat × Int) := []
  /-- Consecutive intervals with |offset| below the lock threshold (R139). Reset 0. -/
  lockRun : Nat := 0
  /-- Local time of holdover entry (R139). Reset 0. -/
  holdSince : Nat := 0
  /-- Local time of the last Sync from the parent, and of the last PPS_IN edge; edges seen in a row (R139). Reset 0. -/
  lastSync : Nat := 0
  lastAnnounce : Nat := 0
  lastPps : Nat := 0
  ppsRun : Nat := 0
  ppsSeconds : Nat := 0
  /-- PPS_IN loss has been reported (R151). Reset false. -/
  ppsLost : Bool := false
  /-- Step of network time that the next sample boundary applies, in 1/(3 × 65,536) ns (R139, R140). Reset none. -/
  pendStep : Option Int := none
  /-- Residual that the last step left, ns, whose MEDIA_ALIGNED is still owed (R140). Reset none. -/
  residual : Option Int := none
  /-- Media phase still to be removed, in 1/(3 × 65,536) ns: network time lies so far past T(m) (R132, R140). Reset 0. -/
  pull : Int := 0
  /-- Sample at which the present slew to a source began: pulled at no more than 10 ppm (R141). Reset 0. -/
  slewFrom : Nat := 0
  /-- A slew to a media source is under way (R141). Reset false. -/
  slewing : Bool := false
  /-- Media sample at which the PPS_OUT pulse in progress ends (R142). Reset none. -/
  pulse : Option Nat := none
  /-- MCLK_OUT: not driven, stopped low (0), or running at the frequency of TIME_PIN_SET (R143). Reset not driven. -/
  mclk : Option Nat := none
  /-- Path trace of the last Announce, under 802.1AS (R135). Reset empty. -/
  path : List (BitVec 64) := []
  cfg : TimeCfg := {}
  ports : Vector PtpPort 4 := Vector.replicate 4 {}
  pins : TimePins := {}
  /-- TIME_CONFIG, TIME_PORT_SET and TIME_PIN_SET values that the next block boundary applies (R150). Reset none. -/
  pendCfg : Option TimeCfg := none
  pendPorts : List (Nat × PtpPort) := []
  pendPins : Option TimePins := none
  /-- TIME_SET value, in 1/65,536 ns, that the next boundary or PPS_IN edge applies (R150). Reset none. -/
  pendSet : Option Nat := none
  /-- Scheduled-action table in arming order, at most 256 with the Slabs' entries (R144). Reset empty. -/
  actions : List Action := []
  deriving DecidableEq, Repr, Inhabited

/-! ### Nodes, connections, Slabs (03) -/

/-- Node states of R85. -/
inductive NodeState where
  | disabled
  | enabled
  | byDevice
  deriving DecidableEq, Repr, Inhabited

/-- A live node: life cycle and parameters that differ from their defaults (R85, R90). -/
structure Node where
  state : NodeState := .disabled
  /-- Disable reason of NODE_GET (R92). -/
  reason : Nat := 0
  /-- Cluster that runs the instance (R33). -/
  cluster : Option Nat := none
  /-- Committed bcu (R32). -/
  bcu : Nat := 0
  /-- Admission order (R36). -/
  order : Nat := 0
  /-- Parameter values in effect that differ from the default, parameter ID rising (R90, R92). -/
  params : List (Nat × Bytes) := []
  deriving DecidableEq, Repr, Inhabited

/-- A connection (R93). -/
structure Conn where
  src : Nat
  srcOut : Nat
  dst : Nat
  dstIn : Nat
  deriving DecidableEq, Repr, Inhabited

/-- A parameter or crosspoint change: node, parameter ID, value (R86, R98). Crosspoint i is parameter 0x1000 + i. -/
structure Change where
  node : Nat
  pid : Nat
  val : Bytes
  deriving DecidableEq, Repr, Inhabited

/-- What a command leaves for the block boundary of R86, in the order in which Daluo applied the commands. -/
inductive Pend where
  | change (c : Change)
  | profile (which length : Nat)
  | micReset (first count : Nat)
  | aecReset (beam mask : Nat)
  | locator (group k hyst hold : Nat)
  | lecReset (ch : Nat)
  | inject (target index : Nat)
  | soundSpeed (v : BitVec 32)
  /-- An object restarts as NODE_ENABLE does (R479). -/
  | restart (obj : Nat)
  deriving DecidableEq, Repr, Inhabited

/-- Where a Slab stands (R97, R486). -/
inductive SlabState where
  | open_
  | unusable
  | applying
  | pending
  deriving DecidableEq, Repr, Inhabited

/-- A Slab node (R97). -/
structure Slab where
  index : Nat
  session : Nat
  state : SlabState := .open_
  reserveKiB : Nat
  /-- Staged changes, the item written last last (R98). -/
  items : List Change := []
  /-- Staged crosspoint entries, parameter items and bytes (R99, R101). -/
  xpCount : Nat := 0
  parCount : Nat := 0
  bytes : Nat := 0
  /-- Sample at which it takes effect, once committed (R101). -/
  due : Nat := 0
  /-- Lateness in ns and LATE, as told in the response or event (R101). -/
  lateNs : Nat := 0
  late : Bool := false
  /-- Commit order (R103). -/
  order : Nat := 0
  /-- Mailbox whose SLAB_COMMIT waits for the effect, with its request (R577). -/
  waiter : Option (Nat × Req) := none
  /-- Cost reserved at commit per node (R102). -/
  reserved : List (Nat × Nat) := []
  deriving DecidableEq, Repr, Inhabited

/-! ### Ports and front end (06) -/

/-- STATE of a TDM port (R157). -/
inductive PortRun where
  | stopped
  | waiting
  | running
  | lost
  deriving DecidableEq, Repr, Inhabited

/-- A port that has started or waits to start; one that is listed as stopped keeps its SLIPS. -/
structure TdmPort where
  port : Nat
  run : PortRun := .stopped
  /-- Start sample (R162); none until a kind 0x03 action fires. -/
  start : Option Nat := none
  /-- Sample from which a lost port delivers zero, and the one from which it delivers its slots again (R166). -/
  lostFrom : Option Nat := none
  backAt : Option Nat := none
  /-- Primary sample of the last frame seen while the port is armed and has not started (R162). -/
  seen : Option Nat := none
  /-- PHASE in ns (R165), SLIPS (R166). -/
  phase : Nat := 0
  slips : Nat := 0
  /-- Primary sample with which the last frame was associated (R165). -/
  lastFrame : Nat := 0
  /-- In the block in progress, by primary sample: zeroed inputs, samples without a frame, repeated frames (R166). -/
  zeroAt : List Nat := []
  missed : List Nat := []
  extra : List Nat := []
  /-- Largest frame-length deviation in the block in progress (R166). -/
  worstLen : Nat := 0
  /-- Sample of this block from which an embedded NODE_DISABLE silences the port (R146). -/
  stopAt : Option Nat := none
  deriving DecidableEq, Repr, Inhabited

/-- A response cross-fade (R177): from, to, length in smp, first sample. -/
structure MicFade where
  src : Nat
  dst : Nat
  len : Nat
  start : Nat
  deriving DecidableEq, Repr, Inhabited

/-- The fifth-order CIC of stage 1 (R169): integrators and combs. -/
structure Cic where
  i1 : Int := 0
  i2 : Int := 0
  i3 : Int := 0
  i4 : Int := 0
  i5 : Int := 0
  c1 : Int := 0
  c2 : Int := 0
  c3 : Int := 0
  c4 : Int := 0
  c5 : Int := 0
  deriving DecidableEq, Repr, Inhabited

/-- Decimation state of a microphone (R169), which a synchronising reset clears (R173). -/
structure Decim where
  cic : Cic := {}
  /-- Outputs of stage 1 that a response can reach, newest first, at most 648. -/
  hist : List Int := []
  /-- Ones and primary samples of the quick-settle period in progress; the ones of the last whole one. -/
  ones : Nat := 0
  count : Nat := 0
  quick : Option Nat := none
  deriving DecidableEq, Repr, Inhabited

/-- The outputs of one microphone since its last synchronising reset (R173 to R179). -/
structure MicRun where
  /-- Sample of the reset (R173). -/
  since : Nat := 0
  /-- The main response has been valid (R174), the hand-over is over (R175). -/
  valid : Bool := false
  handed : Bool := false
  /-- Sample of the last change of response before validity: S counts, but not before it (R178). -/
  handFrom : Nat := 0
  active : Nat := 0
  fade : Option MicFade := none
  /-- Fades that ended in the block in progress, newest first. -/
  past : List MicFade := []
  deriving DecidableEq, Repr, Inhabited

/-- A microphone whose group clock runs. -/
structure Mic where
  mic : Nat
  now : MicRun := {}
  /-- Resets and changes of response within the block in progress, oldest first: the sample, and the run before it. -/
  cuts : List (Nat × MicRun) := []
  dec : Decim := {}
  /-- The decimated block that consumers read one period later than the input stage's, newest first (R20, R181). -/
  ready : List Int := []
  pendSwap : Option Nat := none
  /-- PDM_VALID kinds 1, 2 and 3 have been raised since the reset. -/
  said1 : Bool := false
  said2 : Bool := false
  said3 : Bool := false
  clips : Nat := 0
  deriving DecidableEq, Repr, Inhabited

/-- Audio ports and decimation (R155 to R185). -/
structure Front where
  tdm : List TdmPort := []
  mics : List Mic := []
  /-- Running clock groups and their start samples (R168). Reset none. -/
  groups : List (Nat × Nat) := []
  /-- Ports whose bit clock, and groups whose clock, stands stopped low since they ran (R164, R168). Reset none: R156. -/
  lowPorts : List Nat := []
  lowGroups : List Nat := []
  /-- CLIPS of microphones that are not running (R176). Reset none. -/
  clips : List (Nat × Nat) := []
  /-- What the ports shift out in the current period, per TDM output channel: slot words (R160, R163). Reset none. -/
  outNow : List (Nat × List Word) := []
  deriving DecidableEq, Repr, Inhabited

/-! ### Gallery (07) -/

/-- A running ramp (R195): gains in units of 2^-44; `start` and `len` count samples of the primary rate. -/
structure Ramp where
  out : Nat
  inp : Nat
  g0 : Int
  target : Int
  len : Nat
  start : Nat
  profile : Nat
  deriving DecidableEq, Repr, Inhabited

/-- Limiter of an output port or loudspeaker (R202): gains are binary32 patterns, sums in units of the caller. -/
structure Limiter where
  gPrev : BitVec 32 := 0x3F800000
  g : BitVec 32 := 0x3F800000
  /-- Delayed sums, newest first. -/
  line : List Int := []
  deriving DecidableEq, Repr, Inhabited

/-- What the Gallery holds of an output port besides its parameters. -/
structure GalOut where
  out : Nat
  lim : Limiter := {}
  clips : Nat := 0
  /-- GAIN_REDUCTION at the end of the last block. -/
  reduction : Nat := 0
  /-- Output repeats this sample until the block given (R208). -/
  hold : Option (Int × Nat) := none
  /-- Limiter, CLIPS and the sample delivered last, at the end of the last completed block (R208). -/
  base : Limiter := {}
  baseClips : Nat := 0
  delivered : Int := 0
  /-- Exact sums of the block in progress, newest first (R191). -/
  sums : List Int := []
  /-- Saturated samples of the block in progress, the first one's place, and the largest |sum| in units of 2^-16 (R209). -/
  clipN : Nat := 0
  clipAt : Nat := 0
  peak : Nat := 0
  deriving DecidableEq, Repr, Inhabited

/-- The Gallery (R186 to R211). -/
structure Gallery where
  /-- Crosspoint entries that differ from 0x0500_0000: output, input, entry, sorted (R190). Reset none. -/
  xp : List (Nat × Nat × BitVec 32) := []
  /-- Instantaneous gains that are not 0 of crosspoints without a running ramp, units 2^-44 (R195). Reset none. -/
  gain : List (Nat × Nat × Int) := []
  /-- Ramps in progress (R195). Reset none. -/
  ramps : List Ramp := []
  /-- Pool entries of ended ramps, free from the next block boundary (R198). Reset 0. -/
  freeing : Nat := 0
  /-- Wait queue of crosspoints in request order (R199). Reset empty. -/
  queue : List (Nat × Nat) := []
  /-- Lengths of profiles 14 and 15 (R194). Reset 256. -/
  prof14 : Nat := 256
  prof15 : Nat := 256
  outs : List GalOut := []
  /-- LEVEL of input ports in the last block, 0.01 dBFS, when not -32,768 (R205). Reset none. -/
  levels : List (Nat × Int) := []
  /-- Slices out of service (R40, R485). Reset none. -/
  slicesOut : List Nat := []
  /-- Carried ports that Daluo has moved off the slice first assigned to them, with their slices (R188, R208). Reset none. -/
  moves : List (Nat × Nat) := []
  /-- Corrected and uncorrectable entry errors (GAL_STATUS). Reset 0. -/
  corrected : Nat := 0
  uncorrectable : Nat := 0
  /-- XP_CORRECTED errors in the block in progress. Reset 0. -/
  corrBlock : Nat := 0
  /-- Figures of the last completed block for GAL_STATUS and GAL_XP_READ: pool entries, waiting requests. Reset 0. -/
  poolLast : Nat := 0
  waitLast : Nat := 0
  gainLast : List (Nat × Nat × Int) := []
  deriving DecidableEq, Repr, Inhabited

/-! ### Renderer (08) -/

/-- A geometry record waiting for its start (R224, R225): position, earliest start, and the commits counted when Daluo
applied it. -/
structure GeoRec where
  pos : Bytes
  start : Nat
  order : Nat
  /-- Made before a disable of its object: it goes when the object leaves the engines (R229). -/
  dying : Bool := false
  deriving DecidableEq, Repr, Inhabited

/-- A member or fading slot (R226 to R228). -/
structure RenSlot where
  spk : Nat
  /-- G in units of 2^-47: instantaneous, target, step, smp left of the move. -/
  g : Int := 0
  gTarget : Int := 0
  gStep : Int := 0
  /-- Target delay in units of 1/65,536 smp: instantaneous, final, step. -/
  d : Int := 0
  dTarget : Int := 0
  dStep : Int := 0
  left : Nat := 0
  /-- Applied delay. -/
  applied : Int := 0
  /-- Envelope in units of 1/512 and whether it rises. -/
  env : Nat := 512
  rising : Bool := false
  deriving DecidableEq, Repr, Inhabited

/-- What the renderer holds of an object besides its parameters. -/
structure ObjDyn where
  obj : Nat
  /-- Position of the most recently started record (R219). -/
  pos : Bytes := []
  /-- Parameters stored when Daluo applied the enable (R229). -/
  snap : List (Nat × Bytes) := []
  members : List RenSlot := []
  fading : List RenSlot := []
  pend : Option GeoRec := none
  lastStart : Option Nat := none
  /-- Entering speakers deferred at the last record (R222). -/
  deferred : Nat := 0
  records : Nat := 0
  superseded : Nat := 0
  /-- Input history, newest first (R231). -/
  hist : List Int := []
  /-- Slots, deferred count and last start at the end of the last completed block (REN_FOOTPRINT_READ). -/
  viewMembers : List RenSlot := []
  viewFading : List RenSlot := []
  viewDeferred : Nat := 0
  viewStart : Nat := 0
  deriving DecidableEq, Repr, Inhabited

/-- What the renderer holds of a zone. -/
structure ZoneDyn where
  zone : Nat
  clips : Nat := 0
  level : Int := -32768
  /-- Peak of the reference block in progress. -/
  peak : Nat := 0
  deriving DecidableEq, Repr, Inhabited

/-- The object renderer (R212 to R242). -/
structure Renderer where
  /-- Speed of sound, binary32 (REN_CONFIG). Reset 343.0. -/
  speed : BitVec 32 := 0x43AB8000
  objs : List ObjDyn := []
  zones : List ZoneDyn := []
  /-- Zone membership in force: loudspeaker and zone (R217). Reset none. -/
  members : List (Nat × Nat) := []
  /-- Membership changes that take effect at a start sample: sample, cause, loudspeaker or zone index (R217); with
  cause 5 a loudspeaker whose zone was destroyed, whose ZONE becomes 0xFF (R214). -/
  zoneWait : List (Nat × Nat × Nat) := []
  /-- Bound position queue (R235), an unbind that waits for the strobe, with the packets committed before it
  that are not applied yet (R237), packets discarded since the bind. Reset none. -/
  posQueue : Option Nat := none
  unbinding : Option Nat := none
  discarded : Nat := 0
  /-- Superseded and late records, saturated feeds and their first nodes in the block (R238). Reset 0. -/
  lateBlock : Nat := 0
  lateFirst : Nat := 0
  satBlock : Nat := 0
  satFirst : Nat := 0
  satPeak : Nat := 0
  deriving DecidableEq, Repr, Inhabited

/-! ### Loudspeaker stage (09) -/

/-- Bank states of R257. -/
inductive BankState where
  | empty
  | loading
  | ready
  deriving DecidableEq, Repr, Inhabited

/-- A coefficient bank of a loudspeaker. -/
structure Bank where
  state : BankState := .empty
  taps : Nat := 0
  /-- Coefficients that are not 0: index and Q1.31 value, index rising. -/
  coefs : List (Nat × Int) := []
  /-- Highest written index plus 1 (R259). -/
  top : Nat := 0
  deriving DecidableEq, Repr, Inhabited

/-- What the stage holds of a loudspeaker besides its parameters. -/
structure SpkDyn where
  spk : Nat
  bankA : Bank := {}
  bankB : Bank := {}
  /-- Bank in use by the filter: 0 none, 1 A, 2 B. -/
  active : Nat := 0
  /-- Fade: from, to, length in samples, samples done (R260). -/
  fade : Option (Nat × Nat × Nat × Nat) := none
  pendSwap : Option Nat := none
  /-- Input sums, newest first, units 2^-54 (R244). -/
  hist : List Int := []
  /-- Filtered samples, newest first (R247). -/
  delayed : List Int := []
  /-- Delay in force, and cross-fade from, to, samples done (R247); waiting change. -/
  delay : Nat := 0
  delayFade : Option (Nat × Nat × Nat) := none
  delayWait : Option Nat := none
  /-- Stage gain k, its target and step, units 2^-44, samples left (R248). -/
  k : Int := 17592186044416
  kTarget : Int := 17592186044416
  kStep : Int := 0
  kLeft : Nat := 0
  lim : Limiter := {}
  /-- Mute envelope u in units of 1/128 (R250). -/
  mute : Nat := 128
  clips : Nat := 0
  reduction : Nat := 0
  level : Int := -32768
  deriving DecidableEq, Repr, Inhabited

/-- The loudspeaker stage (R243 to R267). -/
structure SpkStage where
  spks : List SpkDyn := []
  /-- Saturated samples, first loudspeaker and largest value of the block in progress (R265). Reset 0. -/
  clipsBlock : Nat := 0
  clipFirst : Nat := 0
  peakBlock : Nat := 0
  deriving DecidableEq, Repr, Inhabited

/-! ### Capture (10) -/

/-- A reference filter of a canceller (R276 to R283). -/
structure RefDyn where
  /-- Coded coefficients under Config.aecUpdate (log 5). -/
  filter : Nat := 0
  quiet : Nat := 0
  idle : Bool := false
  /-- Re-convergence runs until this sample; none when not re-converging. -/
  reconv : Option Nat := none
  /-- A change reaches the canceller at this sample with this cause (R283); clear says whether the filter clears. -/
  due : Option (Nat × Nat × Bool) := none
  /-- Factors 10^(v/2000) that the filter takes at a sample, oldest first (R283). -/
  scale : List (Nat × Int) := []
  /-- A re-convergence has ended and AEC_CONVERGED has not been raised since (R282). -/
  awaitConv : Bool := false
  hist : List Int := []
  level : Int := -32768
  deriving DecidableEq, Repr, Inhabited

/-- What the capture stage holds of a beam besides its parameters. -/
structure BeamDyn where
  beam : Nat
  /-- MIC_FILTER set in use: input, delay, 32 taps (R271). -/
  inUse : List (Nat × Nat × List Int) := []
  /-- Fade: the set it leaves, length in samples, samples done (R273). -/
  fade : Option (List (Nat × Nat × List Int) × Nat × Nat) := none
  /-- Input histories, newest first. -/
  hist : List (Nat × List Int) := []
  refs : List RefDyn := List.replicate 8 {}
  /-- Power sums of the last 8 blocks of y and of the estimate (R280). -/
  py : List Nat := []
  pyh : List Nat := []
  /-- Sums of the block in progress: y², ŷ², peak |y|. -/
  accY : Nat := 0
  accH : Nat := 0
  peakY : Nat := 0
  /-- y was quiet in the last block (R284). -/
  yQuiet : Bool := true
  /-- Double talk holds until this sample (R280). -/
  dtUntil : Option Nat := none
  /-- Power of y and e per period, newest first, at most 16 (R284); current period. -/
  perY : List Nat := []
  perE : List Nat := []
  curY : Nat := 0
  curE : Nat := 0
  /-- Double talk lay in a block of the current period; references idle in a block of it. -/
  dtInPeriod : Bool := false
  idleInPeriod : List Nat := []
  /-- Consecutive periods of worse error (R281). -/
  worse : Nat := 0
  /-- e of the current period, newest first (R278). -/
  errs : List Int := []
  erle : Nat := 0
  updates : Nat := 0
  dtPeriods : Nat := 0
  clears : Nat := 0
  /-- Coded suppressor state (R286). -/
  supp : Nat := 0
  clips : Nat := 0
  level : Int := -32768
  /-- Locator: smoothed energy S and the energy sum of the block (R274). -/
  energy : Int := 0
  accE : Nat := 0
  /-- CAP_AEC_STATUS at the end of the last completed period; empty before the first. -/
  snap : Bytes := []
  /-- m of the enable (R286). -/
  begunAt : Nat := 0
  deriving DecidableEq, Repr, Inhabited

/-- A locator group (R274, R275). -/
structure LocGroup where
  k : Nat := 4
  hyst : Nat := 300
  hold : Nat := 500
  leader : Option Nat := none
  /-- Candidate and consecutive blocks it has led (R275). -/
  cand : Option (Nat × Nat) := none
  lastChange : Nat := 0
  deriving DecidableEq, Repr, Inhabited

/-- Beams, cancellers and the locator (R268 to R295). -/
structure Capture where
  beams : List BeamDyn := []
  groups : Vector LocGroup 16 := Vector.replicate 16 {}
  deriving DecidableEq, Repr, Inhabited

/-! ### Ethernet and streams (11) -/

/-- An IP interface (ETH_IF_SET, R299). -/
structure Iface where
  enable : Bool := false
  v4 : Bool := false
  v6 : Bool := false
  shared : Bool := false
  echo : Bool := false
  vlan : Nat := 0
  pcp : Nat := 0
  prefix4 : Nat := 0
  prefix6 : Nat := 0
  ip4 : Bytes := []
  gw4 : Bytes := []
  ip6 : Bytes := []
  gw6 : Bytes := []
  /-- Gratuitous announcements still to send (R299). -/
  announce : Nat := 0
  deriving DecidableEq, Repr, Inhabited

/-- Counters of ETH_COUNTERS (R326). -/
structure EthCount where
  rx : Nat := 0
  tx : Nat := 0
  errors : Nat := 0
  pause : Nat := 0
  discarded : Nat := 0
  toHost : Nat := 0
  hostDropped : Nat := 0
  hostSent : Nat := 0
  deriving DecidableEq, Repr, Inhabited

/-- What an Ethernet port holds besides its parameters (R297 to R303). -/
structure EthPort where
  /-- LINK parameter: 0 down, 1 block lock, 2 up and calibrated (R297). Reset 0. -/
  link : Nat := 0
  ifs : List Iface := List.replicate 8 {}
  cnt : EthCount := {}
  /-- Echo answers left in this second (R301). Reset 1000. -/
  echoLeft : Nat := 1000
  deriving DecidableEq, Repr, Inhabited

/-- An SRTP key of one direction (R307 to R309). -/
structure SrtpKey where
  suite : Nat
  key : Bytes
  deriving DecidableEq, Repr, Inhabited

/-- SRTP of one direction of a stream (R307 to R309). -/
structure SrtpDir where
  cur : Option SrtpKey := none
  old : Option SrtpKey := none
  /-- Pending key and the index from which it applies (R309). -/
  pend : Option (SrtpKey × Nat) := none
  /-- Index from which `cur` applies, while `old` still decrypts below it. -/
  since : Nat := 0
  /-- 48-bit packet index reached (rollover counter and sequence). -/
  index : Nat := 0
  /-- Replay window: indices seen among the last 128 (R308). -/
  seen : List Nat := []
  exhausted : Bool := false
  deriving DecidableEq, Repr, Inhabited

/-- A packet held by a jitter buffer: extended sequence, timestamp, payload type, payload. -/
structure JbPacket where
  ext : Nat
  ts : Nat
  pt : Nat
  payload : Bytes
  deriving DecidableEq, Repr, Inhabited

/-- A jitter buffer (R311 to R313). -/
structure Jb where
  packets : List JbPacket := []
  started : Bool := false
  /-- First release at or after this sample (R311). -/
  startAt : Nat := 0
  nextTs : Nat := 0
  /-- Depth and target, ms. -/
  depth : Nat := 0
  target : Nat := 0
  largest : Nat := 0
  /-- Absolute transit differences of the last 64 accepted packets, µs (R312). -/
  transits : List Nat := []
  /-- Arrival in µs and timestamp of the last accepted packet. -/
  lastTransit : Option (Nat × Nat) := none
  /-- Local time of the last depth change; time since which the depth exceeds the target; empty since. -/
  lastChange : Nat := 0
  overSince : Option Nat := none
  /-- Depth before a restart and its cause, for the canceller (R341). -/
  before : Option (Nat × Nat) := none
  /-- A frame has been released since the start. -/
  playing : Bool := false
  /-- Local time at which the buffer decided to drop a frame (R312). -/
  dropSince : Option Nat := none
  emptySince : Option Nat := none
  /-- Consecutive packets with far timestamps (R313). -/
  far : Nat := 0
  deriving DecidableEq, Repr, Inhabited

/-- Counters of STREAM_STATS (R326). -/
structure StreamCount where
  accepted : Nat := 0
  lost : Nat := 0
  late : Nat := 0
  early : Nat := 0
  dup : Nat := 0
  discarded : Nat := 0
  concealed : Nat := 0
  jitter : Nat := 0
  sent : Nat := 0
  octets : Nat := 0
  deriving DecidableEq, Repr, Inhabited

/-- What the stream engine holds of an RTP or AES67 stream besides its parameters. -/
structure StreamDyn where
  node : Nat
  rx : SrtpDir := {}
  tx : SrtpDir := {}
  jb : Jb := {}
  cnt : StreamCount := {}
  /-- Latched SSRC; rival SSRC and its consecutive packets (R306). -/
  ssrc : Option Nat := none
  rival : Option (Nat × Nat) := none
  /-- Highest extended sequence received (R326); the first one and the packets received since the counters were cleared. -/
  highest : Nat := 0
  anyRx : Bool := false
  baseSeq : Nat := 0
  received : Nat := 0
  /-- Expected and received packets at the last report (RFC 3550). -/
  prior : Nat × Nat := (0, 0)
  /-- Middle 32 bits of the last sender report received and its local time (RFC 3550). -/
  lastSr : Option (Nat × Nat) := none
  /-- SRTCP packets sent (RFC 3711). -/
  rtcpIndex : Nat := 0
  /-- SRTCP indices accepted within the replay window, newest first (R308). Reset empty. -/
  rtcpSeen : List Nat := []
  lastAccept : Nat := 0
  /-- A packet has been produced since creation; next sequence number (R320). -/
  begun : Bool := false
  nextSeq : Nat := 0
  /-- Local time of the last RTP or RTCP received; a timeout has been reported (R310). -/
  lastRx : Nat := 0
  timedOut : Bool := false
  /-- Local time of the next RTCP packet (R310). -/
  rtcpAt : Nat := 0
  /-- Next hop: resolved MAC; local time since which it is unresolved, and of the last request; reported (R301, R327). -/
  hop : Option Bytes := none
  noHopSince : Nat := 0
  askedAt : Nat := 0
  noRoute : Bool := false
  /-- First packet of a sending AES67 stream starts here (R319). -/
  nextPacketAt : Nat := 0
  /-- Samples received and not yet delivered: media sample (in samples of the primary rate), channel, value (R317). -/
  rxSamples : List (Nat × Nat × Int) := []
  /-- Samples to send, per channel, oldest first (R319). -/
  txSamples : List (Nat × List Int) := []
  /-- Event packets waiting for the call channel, oldest first (R311, R347). -/
  eventsIn : List JbPacket := []
  deriving DecidableEq, Repr, Inhabited

/-- An entry of the next-hop cache (R301). -/
structure Hop where
  port : Nat
  iface : Nat
  ip : Bytes
  mac : Bytes
  /-- Local time at which the entry was learnt or last probed. -/
  time : Nat
  deriving DecidableEq, Repr, Inhabited

/-- Ethernet and streams (R296 to R329). -/
structure Ethernet where
  ports : Vector EthPort 4 := Vector.replicate 4 {}
  streams : List StreamDyn := []
  /-- Next-hop cache, most recently used first, at most 4096 entries (R301). Reset empty. -/
  cache : List Hop := []
  /-- Joined multicast groups: port, interface, group address (R301). Reset empty. -/
  groups : List (Nat × Nat × Bytes) := []
  /-- Receive errors, host drops, losses, authentication failures in the block and their first nodes (R327). Reset 0. -/
  errBlock : Nat := 0
  dropBlock : Nat := 0
  lossBlock : Nat := 0
  authBlock : Nat := 0
  /-- Port or stream of the first of each in the block. Reset 0. -/
  errFirst : Nat := 0
  dropFirst : Nat := 0
  lossFirst : Nat := 0
  authFirst : Nat := 0
  deriving DecidableEq, Repr, Inhabited

/-! ### Voice (12) -/

/-- A digit to send (R348): code, volume, frames on and off, and the first sample at which it may start. -/
structure Digit where
  code : Nat
  volume : Nat
  on : Nat
  off : Nat
  from_ : Nat
  deriving DecidableEq, Repr, Inhabited

/-- A digit being sent: its start frame, frames of its on time begun, and whether it is cut short. -/
structure Sending where
  digit : Digit
  start : Nat
  begun : Nat := 0
  cut : Bool := false
  deriving DecidableEq, Repr, Inhabited

/-- An RFC 4733 packet to send: code, volume, duration in frames, E bit, marker, start frame of its digit. -/
structure EventOut where
  code : Nat
  volume : Nat
  frames : Nat
  ends : Bool
  marker : Bool
  start : Nat
  deriving DecidableEq, Repr, Inhabited

/-- The codec settings in force in one direction of a call channel: CODEC, LINEAR_RATE, VAD, OPUS_BITRATE and RX_PT (R338). -/
structure CodecNow where
  codec : Nat := 1
  linear : Nat := 0
  vad : Nat := 0
  bitrate : Nat := 0
  rxPt : Nat := 0xFF
  deriving DecidableEq, Repr, Inhabited

/-- A send frame from its boundary to its hand-over (R333, R334). -/
structure SendFrame where
  start : Nat
  /-- The codec at its start, the payload types of its packets, and whether the encoder starts from reset with it (R338). -/
  now : CodecNow := {}
  pt : Nat := 0
  eventPt : Nat := 0xFF
  fresh : Bool := false
  /-- An event packet in place of the audio packet, an end packet repeated after it, the in-band digit. -/
  event : Option EventOut := none
  again : Option EventOut := none
  tone : Option (Nat × Nat × Nat) := none
  /-- Send samples after TX_GAIN, newest first, units 2^-54. -/
  samples : List Int := []
  deriving DecidableEq, Repr, Inhabited

/-- A received RFC 4733 event (R347). -/
structure RxEvent where
  code : Nat
  volume : Nat
  ts : Nat
  duration : Nat
  at_ : Nat
  ended : Bool := false
  deriving DecidableEq, Repr, Inhabited

/-- What a call channel holds besides its parameters (R330 to R348). -/
structure CallDyn where
  ch : Nat
  /-- Coded codec, resampler and canceller states under Config (log 5). -/
  dec : Nat := 0
  enc : Nat := 0
  rsRx : Nat := 0
  rsTx : Nat := 0
  lec : Nat := 0
  /-- Gains in force, units 2^-44, targets, steps, samples left (R338). -/
  rxGain : Int := 17592186044416
  rxTarget : Int := 17592186044416
  rxStep : Int := 0
  rxLeft : Nat := 0
  txGain : Int := 17592186044416
  txTarget : Int := 17592186044416
  txStep : Int := 0
  txLeft : Nat := 0
  /-- A codec change takes effect at the next frame boundary of the direction (R338); codec rate of the canceller. -/
  rxStale : Bool := false
  txStale : Bool := false
  rxNow : CodecNow := {}
  txNow : CodecNow := {}
  rate : Nat := 0
  received : Bool := false
  /-- Frames concealed in a row (R335) and CONCEALED. -/
  run : Nat := 0
  concealed : Nat := 0
  /-- Tone disabler: canceller bypassed, processor off (R343). -/
  bypassed : Bool := false
  nlpOff : Bool := false
  /-- Digit queue, oldest first; digit in progress; end packet still to repeat and how often (R348). -/
  digits : List Digit := []
  sending : Option Sending := none
  endRepeat : Option (EventOut × Nat) := none
  /-- Received event, and the sample at which its playout began (R347). -/
  event : Option RxEvent := none
  playout : Option Nat := none
  /-- Last receive frame boundary handled; received audio with the sample at which the receive hop begins it, oldest first, and
  that of the frame in progress, units 2^-54 (R334, R351). -/
  rxAt : Option Nat := none
  rxQueue : List (Nat × List Int) := []
  rxBuf : List Int := []
  /-- Send frames not yet handed over, oldest first; the canceller's references of the last two frames sent with their hand-over
  samples, newest first. -/
  frames : List SendFrame := []
  references : List (Nat × List Int) := []
  deriving DecidableEq, Repr, Inhabited

/-- A tone detector: DETECTIONS, and the signals it has reported and not yet ended (R344 to R346). -/
structure ToneDyn where
  det : Nat
  count : Nat := 0
  /-- Digit in progress with its onset; last digit with its end. -/
  digit : Option (Nat × Nat) := none
  lastEnd : Option (Nat × Nat) := none
  /-- A call-progress tone is on; the fax signal that is on. -/
  cp : Bool := false
  fax : Option Nat := none
  deriving DecidableEq, Repr, Inhabited

/-- Voice channels and tone detectors (R330 to R355). -/
structure Voice where
  calls : List CallDyn := []
  /-- Detectors (R344). Reset none. -/
  tones : List ToneDyn := []
  /-- Concealed frames in the block, first channel (R353). Reset 0. -/
  concealBlock : Nat := 0
  concealFirst : Nat := 0
  deriving DecidableEq, Repr, Inhabited

/-! ### Bench (13) -/

/-- An image slot (R371, R372). -/
structure ImageSlot where
  slot : Nat
  state : BankState := .empty
  bytes : Mem := []
  top : Nat := 0
  /-- An uncorrectable word lies in the slot (R480). -/
  poisoned : Bool := false
  deriving DecidableEq, Repr, Inhabited

/-- A P register (R364), bytes. -/
structure PReg where
  base : Nat := 0
  len : Nat := 0
  idx : Nat := 0
  deriving DecidableEq, Repr, Inhabited

/-- A lane accumulator (R361): value in units of 2^-62, and OVF. -/
structure Acc where
  val : Int := 0
  ovf : Bool := false
  deriving DecidableEq, Repr, Inhabited

/-- The register context of one invocation (R359). Lane lists have 128 entries. -/
structure Ctx where
  /-- V0 to V31 that are not all zero: register and lanes. -/
  v : List (Nat × List Word) := []
  /-- A0 to A3 that are not clear. -/
  acc : List (Nat × List Acc) := []
  /-- M1 to M7 that are not 0 (M0 is all lanes). -/
  mask : List (Nat × BitVec 128) := []
  /-- S1 to S31 that are not 0 (S0 reads 0). -/
  sreg : List (Nat × Word) := []
  /-- P registers that are not 0. -/
  preg : List (Nat × PReg) := []
  sat : BitVec 128 := 0
  /-- Byte offset of the next instruction. -/
  pc : Nat := 0
  /-- LOOP stack: first byte, byte past the body, repetitions left (R368). -/
  loops : List (Nat × Nat × Nat) := []
  /-- Scratch, input and output words that are not 0: byte address and word. -/
  data : List (Nat × Word) := []
  /-- State lines written (R360). -/
  lines : List Nat := []
  /-- State words written in this invocation. -/
  stateW : List (Nat × Word) := []
  /-- Issue and stall cycles so far (R369, R370). -/
  cycles : Nat := 0
  /-- Cycle from which a result is usable: register key and cycle (R369). -/
  ready : List (Nat × Nat) := []
  /-- Byte offset of the last instruction issued, which a BUDGET trap names (R376). -/
  last : Nat := 0
  /-- Accumulators that had an overflow flag set in this invocation (R361). -/
  overflowed : List Nat := []
  deriving DecidableEq, Repr, Inhabited

/-- A kernel instance (R373 to R377). -/
structure KernDyn where
  inst : Nat
  /-- Invocation in progress. -/
  ctx : Option Ctx := none
  /-- State area words that are not 0 as the last completed invocation left them: byte address in the region (R360). -/
  stateMem : List (Nat × Word) := []
  /-- Managed-line current lengths, saved indices and pending lengths (R365). -/
  lineLen : List (Nat × Nat) := []
  lineIdx : List (Nat × Nat) := []
  linePend : List (Nat × Nat) := []
  /-- Parameter words that differ from the image's defaults at the start and at the end of the block, and the switch
  position (R375). -/
  parStart : List (Nat × Word) := []
  parEnd : List (Nat × Word) := []
  switch : Option Nat := none
  /-- The init entry still has to run (R374). -/
  initDue : Bool := false
  cyclesLast : Nat := 0
  cyclesMax : Nat := 0
  deriving DecidableEq, Repr, Inhabited

/-- The Bench (R356 to R381) with its clusters. -/
structure Bench where
  slots : List ImageSlot := []
  insts : List KernDyn := []
  /-- Clusters out of service (R487). Reset none. -/
  clustersOut : List Nat := []
  /-- Enables counted device-wide (R36). Reset 0. -/
  enables : Nat := 0
  deriving DecidableEq, Repr, Inhabited

/-! ### Memory, Haul and queues (14), Ashlar (15) -/

/-- A packet of a queue: its words, each with its poison tag. -/
abbrev QPacket := List (BitVec 64 × Bool)

/-- A host queue (R391 to R401). -/
structure HostQueue where
  /-- Capacity in words (R397). Reset 512. -/
  cap : Nat := 512
  /-- Committed packets, oldest first; the head packet loses its words as they are read. -/
  packets : List QPacket := []
  /-- Words of the packet in progress. -/
  partial_ : QPacket := []
  inProgress : Bool := false
  bad : Bool := false
  discarding : Bool := false
  overrun : Bool := false
  underrun : Bool := false
  poisonLast : Bool := false
  poisonSeen : Bool := false
  spoil : Nat := 0
  flushed : Nat := 0
  ignored : Nat := 0
  corrected : Nat := 0
  poisoned : Nat := 0
  /-- Ignored writes and poisoned words in the block in progress (R401). -/
  ignoredBlock : Nat := 0
  poisonBlock : Nat := 0
  high : Nat := 512
  low : Nat := 0
  /-- Window mode: mailbox, offset and length of the attachment (R399). -/
  window : Option (Nat × Nat × Nat) := none
  winHead : Word := 0
  winTail : Word := 0
  /-- Held halves of HQ_DATA writes, HQ_DATA_LAST writes and HQ_DATA reads (R398). -/
  heldWrite : Option Word := none
  heldLast : Option Word := none
  heldRead : Word := 0
  /-- Value of the last read of HQ_DATA, as the host saw it. -/
  readValue : BitVec 64 := 0
  deriving DecidableEq, Repr, Inhabited

/-- A Haul descriptor (R389). -/
structure HaulDesc where
  src : Nat
  dst : Nat
  len : Nat
  srcAddr : Nat
  dstAddr : Nat
  deriving DecidableEq, Repr, Inhabited

/-- A Haul job in progress (R577): mailbox, request, descriptors left, bytes moved. -/
structure HaulJob where
  mb : Nat
  req : Req
  descs : List HaulDesc
  deriving DecidableEq, Repr, Inhabited

/-- Memories and queues of chapter 14. -/
structure Memory where
  /-- BAR2 request areas and bulk windows as the host wrote them (R547). Reset all 0, log 10. -/
  bar2 : Mem := []
  /-- LPDDR5X user region (R385). Reset all 0, log 10. -/
  user : Mem := []
  /-- Word addresses of the user region that link ECC cannot correct (R480). Reset none. -/
  userBad : List Nat := []
  /-- Host memory as the device reads and writes it (R119, R389). The environment's; reset all 0, log 10. -/
  host : Mem := []
  queues : Vector HostQueue 16 := Vector.replicate 16 {}
  jobs : List HaulJob := []
  /-- LPDDR5X density code, rate in MT/s, link-ECC corrections, margins per channel (MEM_INFO). Reset 0 until boot. -/
  density : Nat := 0
  rate : Nat := 0
  linkEcc : Nat := 0
  margins : List Byte := List.replicate 8 0
  deriving DecidableEq, Repr, Inhabited

/-- Stream state of an Ashlar context (R405 to R418). -/
structure AshDyn where
  ctx : Nat
  inStream : Bool := false
  nextSeq : Nat := 0
  rawTotal : Nat := 0
  /-- Raw length of the stream header when known (R407). -/
  known : Option Nat := none
  /-- Last 4 samples per channel, newest first (R413). -/
  histA : List (List Int) := []
  /-- Last 32,768 raw bytes, newest first (R413). -/
  histB : Bytes := []
  /-- Held symbols not yet written, oldest first (R415). -/
  held : List Bytes := []
  /-- Job in progress: mailbox and request (R577). -/
  job : Option (Nat × Req) := none
  deriving DecidableEq, Repr, Inhabited

/-! ### Holds (18) -/

/-- A node whose outputs hold their last samples until a block (R377, R483). -/
structure Hold where
  node : Nat
  until_ : Nat
  outs : List (Nat × Int)
  deriving DecidableEq, Repr, Inhabited

/-! ### What the pair mirrors (R456, R458) -/

/-- What a frame boundary takes from a jitter buffer (R311). -/
inductive Release where
  /-- The buffer has not started. -/
  | none
  | frame (p : JbPacket)
  /-- Absent, or inserted when true. -/
  | conceal (inserted : Bool)
  deriving DecidableEq, Repr, Inhabited

/-- What a release does to the canceller (R341): a shift in ms of depth, or a clear. -/
inductive DepthChange where
  | shift (ms : Int)
  | clear
  deriving DecidableEq, Repr, Inhabited

/-- A command as a decision record carries it (R458, R462), with what the standby cannot know of its application: the
primary's block, position and network time, its draws from the random source and of free values as their place (log 3), and the
bytes of the bulk window that it reads. -/
structure Mirrored where
  opcode : Nat
  mb : Fin 8
  r : Req
  block : Nat
  pos : Nat
  net : Nat
  draws : Nat
  bulk : Mem
  deriving DecidableEq, Repr, Inhabited

/-- A decision of the primary's stream engine (R322): the stream, the sequence number and arrival of the packet where one led to
it, and what the engine holds of the stream after it: buffered packets with their payloads, counts of each classification, starts,
restarts, insertions and drops, SSRC, keys, RTCP instant and next hop. -/
structure StreamDecision where
  node : Nat
  seq : Nat
  /-- Network time of the arrival, in the unit of `Time.net`; the primary's local time, against which its timers stand. -/
  arrival : Nat
  ticks : Nat
  after : StreamDyn
  deriving DecidableEq, Repr, Inhabited

/-- Expiries that the primary decides (R59, R62, R64). -/
inductive Expiry where
  | idle (mb : Nat)
  | pendingOpen (mb : Nat)
  | lock (slot : Nat)
  deriving DecidableEq, Repr, Inhabited

/-- One decision of a decision record, in the primary's order (R458). -/
inductive Decision where
  /-- A command that takes effect in the block. -/
  | command (c : Mirrored)
  /-- A session counted a command; the tag-memory entry it left, device-local commands included (R462, R463). -/
  | counted (mb count : Nat) (entry : Option TagEntry)
  /-- A doorbell was accepted, from which the idle timer runs (R64, R81). -/
  | bell (mb : Nat)
  | expired (x : Expiry)
  /-- An event with its number (R467). -/
  | event (e : EvRec)
  /-- A latch as it stands (R129: mirrored). -/
  | latch (l : Latch)
  /-- The frozen due sample of an action and whether it fires late (R144). -/
  | due (index due : Nat) (late : Bool)
  /-- A packet of the bound position queue (R237). -/
  | position (packet : QPacket)
  /-- A decision of the stream engine (R322), and what a receive frame took from its buffer. -/
  | stream (d : StreamDecision)
  | callFrame (ch m : Nat) (r : Release) (change : DepthChange)
  /-- A next-hop resolution (R322). -/
  | hop (h : Hop) (ticks : Nat)
  /-- An output hold, a node that the device disabled, the cluster of an instance (R38, R208, R377). -/
  | hold (h : Hold)
  | shed (node reason : Nat)
  | placed (node : Nat) (cluster : Option Nat)
  /-- A crosspoint entry zeroed under R207. -/
  | xpZeroed (out inp : Nat)
  /-- The primary's E, after a step of its network time (R457). -/
  | epoch (e : Int)
  deriving DecidableEq, Repr, Inhabited

/-- The consistent cut of R456: everything that retention tables mark as kept in a failover. -/
structure Cut where
  block : Nat
  epoch : Int
  /-- Local time of the primary, against which its timers stand. -/
  ticks : Nat
  rate96 : Bool
  cfg : TimeCfg
  ports : Vector PtpPort 4
  pins : TimePins
  pendCfg : Option TimeCfg
  pendPorts : List (Nat × PtpPort)
  pendPins : Option TimePins
  pendSet : Option Nat
  actions : List Action
  mbx : Vector Mbx 8
  slots : Vector KeySlot 16
  evq : Evq
  nodes : List (Nat × Node)
  leaving : List (Nat × Node)
  conns : List Conn
  pend : List Pend
  pendLate : List Pend
  run : List (Nat × Nat)
  wires : List Conn
  slabs : List Slab
  commits : Nat
  slabSet : List (Nat × Nat × Nat × Nat)
  setHere : List (Nat × Nat)
  rd : List (Nat × Nat × List Int)
  wr : List (Nat × Nat × List Int)
  front : Front
  gal : Gallery
  ren : Renderer
  spk : SpkStage
  cap : Capture
  streams : List StreamDyn
  hops : List Hop
  ifs : List (List Iface)
  groups : List (Nat × Nat × Bytes)
  voice : Voice
  bench : Bench
  user : Mem
  holds : List Hold
  /-- Thresholds of the rails (R517). -/
  rails : List (Nat × Nat)
  throttle : Bool
  compareMode : Nat
  autoRejoin : Bool
  deriving DecidableEq, Repr, Inhabited

end Sys2Proof.Machine
end

