-- ==== Sys2Proof/Syntax.lean ====
section
/-! DEFINITION. The commands of the block: one constructor of `Instr` per row of spec/opcode_table.json, with the operands
that the row's rule gives it. -/

namespace Sys2Proof

/-- What a VC packet carries for the pair (R429, R456, R458, R467, R473). -/
inductive PairPayload where
  /-- The decision record of a block, complete: its decisions in order, and the number of the oldest event that the ring's tail
  has not freed (R130). -/
  | record (block : Nat) (decisions : List Machine.Decision) (oldest : Nat)
  /-- The pair level of the partner's running image (R532), and its clusters and slices in service (R462). -/
  | level (v clusters slices : Nat)
  /-- The standby's acknowledgment of a record. -/
  | ack (block : Nat)
  /-- The standby reports that it cannot apply a command. -/
  | cannotApply
  /-- A part of the cut, in bytes; the part that completes it brings its content. -/
  | cut (bytes : Nat) (content : Option Machine.Cut)
  /-- A compare CRC of the standby for a block. -/
  | compare (block : Nat) (crc : Word)
  /-- An event that only the partner raised. -/
  | event (source code node : Nat) (data : Bytes)
  /-- Sleep requested of both devices outside lockstep: when, and the wake sources, GPIOs and seconds; or cancelled (R507). -/
  | sleep (due : Option Nat) (sources gpios seconds : Nat)
  /-- Anything else. -/
  | other (bytes : Bytes)
  deriving DecidableEq, Repr, Inhabited

/-- A VC packet as received (R429, R430). -/
structure VcPacket where
  vc : Fin 2
  seq : Nat
  length : Nat
  headerCrcOk : Bool
  payloadCrcOk : Bool
  payload : PairPayload
  deriving DecidableEq, Repr, Inhabited

/-- The commands: a row of spec/opcode_table.json each, in the table's order. -/
inductive Instr where
  /-- SYS_GET_ID (R65). Command that returns the 40-byte identity record, allowed without a session. -/
  | sysGetId (mb : Fin 8) (r : Req)
  /-- SESSION_OPEN (R59). Command that starts a session on a key slot, draws a device nonce and waits for proof. -/
  | sessionOpen (mb : Fin 8) (r : Req)
  /-- SESSION_PROVE (R61). Command that checks the host proof and opens the session, or counts a failure, or reports a lock. -/
  | sessionProve (mb : Fin 8) (r : Req)
  /-- SESSION_CLOSE (R63). Command that closes the mailbox's session or pending open and discards its tag memory. -/
  | sessionClose (mb : Fin 8) (r : Req)
  /-- SYS_CAPACITY (R66). Command that returns cluster, slice, bcu and node capacity figures. -/
  | sysCapacity (mb : Fin 8) (r : Req)
  /-- EVT_SOURCE_SET (R121). Command that sets MASK and URGENT on a range of event sources. -/
  | evtSourceSet (mb : Fin 8) (r : Req)
  /-- EVT_LATCH_READ (R122). Command that returns a latch's crossings, extreme, current level and first-crossing time. -/
  | evtLatchRead (mb : Fin 8) (r : Req)
  /-- EVT_LATCH_CLEAR (R123). Command that zeroes a latch count, resets its extreme and re-arms it. -/
  | evtLatchClear (mb : Fin 8) (r : Req)
  /-- NODE_CREATE (R87). Command that creates a node of a created type from its creation record, disabled. -/
  | nodeCreate (mb : Fin 8) (r : Req)
  /-- NODE_DESTROY (R88). Command that disables a node, releases its cost, removes its connections and frees its index. -/
  | nodeDestroy (mb : Fin 8) (r : Req)
  /-- NODE_SET (R91). Command that writes parameter items of a node together at a block boundary. -/
  | nodeSet (mb : Fin 8) (r : Req)
  /-- NODE_GET (R92). Command that returns a node's status record and parameters in effect. -/
  | nodeGet (mb : Fin 8) (r : Req)
  /-- NODE_CONNECT (R95). Command that makes a connection from a source output to a destination input. -/
  | nodeConnect (mb : Fin 8) (r : Req)
  /-- NODE_DISCONNECT (R95). Command that removes an existing connection. -/
  | nodeDisconnect (mb : Fin 8) (r : Req)
  /-- NODE_ENABLE (R89). Command that admits, commits cost, places and enables a node. -/
  | nodeEnable (mb : Fin 8) (r : Req)
  /-- NODE_DISABLE (R89). Command that disables a node and releases its cost. -/
  | nodeDisable (mb : Fin 8) (r : Req)
  /-- SLAB_OPEN (R97). Command that creates an open Slab with a staging reserve. -/
  | slabOpen (mb : Fin 8) (r : Req)
  /-- SLAB_WRITE (R99). Command that stages parameter and crosspoint items into an open Slab. -/
  | slabWrite (mb : Fin 8) (r : Req)
  /-- SLAB_COMMIT (R101). Command that commits a Slab at once or arms it for a network time or media sample. -/
  | slabCommit (mb : Fin 8) (r : Req)
  /-- SLAB_ABORT (R104). Command that discards an open Slab or cancels a pending one. -/
  | slabAbort (mb : Fin 8) (r : Req)
  /-- TIME_SCHEDULE (R148). Command that arms a scheduled action of kind command, GPIO, port start or marker. -/
  | timeSchedule (mb : Fin 8) (r : Req)
  /-- TIME_CANCEL (R149). Command that frees a scheduled action before its due sample is frozen. -/
  | timeCancel (mb : Fin 8) (r : Req)
  /-- TIME_GET (R12). Command that returns network time, media time, E and servo data sampled on one MEDIA edge. -/
  | timeGet (mb : Fin 8) (r : Req)
  /-- TIME_CONFIG (R150). Command that sets PTP profile, clock role, servo and media sources. -/
  | timeConfig (mb : Fin 8) (r : Req)
  /-- TIME_PORT_SET (R150). Command that sets a port's PTP settings and corrections. -/
  | timePortSet (mb : Fin 8) (r : Req)
  /-- TIME_SET (R150). Command that steps network time, at a block boundary or at the next PPS_IN edge. -/
  | timeSet (mb : Fin 8) (r : Req)
  /-- TIME_PIN_SET (R150). Command that enables or disables PPS_OUT, PPS_IN, MCLK_OUT and MCLK_IN. -/
  | timePinSet (mb : Fin 8) (r : Req)
  /-- FE_RESYNC (R180). Command that applies a synchronising reset to a range of enabled PDM microphones. -/
  | feResync (mb : Fin 8) (r : Req)
  /-- GAL_XP_WRITE (R206). Command that writes a run of crosspoint entries of one output port. -/
  | galXpWrite (mb : Fin 8) (r : Req)
  /-- GAL_XP_BULK (R206). Command that writes a rectangle of crosspoint entries from the bulk window. -/
  | galXpBulk (mb : Fin 8) (r : Req)
  /-- GAL_XP_READ (R206). Command that returns stored crosspoint entries and optionally instantaneous gains. -/
  | galXpRead (mb : Fin 8) (r : Req)
  /-- GAL_PROFILE_SET (R206). Command that sets the length of ramp profile 14 or 15. -/
  | galProfileSet (mb : Fin 8) (r : Req)
  /-- GAL_STATUS (R206). Command that returns Gallery slice, pool, queue and error status. -/
  | galStatus (mb : Fin 8) (r : Req)
  /-- REN_CONFIG (R235). Command that sets the speed of sound and makes a geometry record for every enabled object. -/
  | renConfig (mb : Fin 8) (r : Req)
  /-- REN_POS_BATCH (R235). Command that makes geometry records for a batch of object positions. -/
  | renPosBatch (mb : Fin 8) (r : Req)
  /-- REN_POS_QUEUE (R235). Command that binds or unbinds a host queue as the position queue. -/
  | renPosQueue (mb : Fin 8) (r : Req)
  /-- REN_FOOTPRINT_READ (R235). Command that returns an object's members and fading slots. -/
  | renFootprintRead (mb : Fin 8) (r : Req)
  /-- SPK_BANK_LOAD (R258). Command that writes coefficients into a loudspeaker bank, optionally marking it READY. -/
  | spkBankLoad (mb : Fin 8) (r : Req)
  /-- SPK_BANK_READ (R258). Command that returns coefficients of a bank. -/
  | spkBankRead (mb : Fin 8) (r : Req)
  /-- SPK_BANK_CLEAR (R257). Command that sets an unlocked bank EMPTY. -/
  | spkBankClear (mb : Fin 8) (r : Req)
  /-- CAP_LOCATOR_CONFIG (R275). Command that sets a locator group's smoothing, hysteresis and hold. -/
  | capLocatorConfig (mb : Fin 8) (r : Req)
  /-- CAP_LOCATOR_READ (R289). Command that returns a locator group's leader and energy. -/
  | capLocatorRead (mb : Fin 8) (r : Req)
  /-- CAP_AEC_RESET (R283). Command that clears selected reference filters of a beam and starts re-convergence. -/
  | capAecReset (mb : Fin 8) (r : Req)
  /-- CAP_AEC_STATUS (R289). Command that returns a canceller's state, ERLE and counters. -/
  | capAecStatus (mb : Fin 8) (r : Req)
  /-- ETH_IF_SET (R299). Command that configures an IP interface of an Ethernet port. -/
  | ethIfSet (mb : Fin 8) (r : Req)
  /-- STREAM_KEY_SET (R307). Command that installs an SRTP key for a stream direction. -/
  | streamKeySet (mb : Fin 8) (r : Req)
  /-- STREAM_STATS (R326). Command that returns and optionally clears a stream's counters. -/
  | streamStats (mb : Fin 8) (r : Req)
  /-- ETH_COUNTERS (R326). Command that returns and optionally clears a port's counters. -/
  | ethCounters (mb : Fin 8) (r : Req)
  /-- VOICE_DIGIT_SEND (R348). Command that queues DTMF digits for sending on a call channel. -/
  | voiceDigitSend (mb : Fin 8) (r : Req)
  /-- VOICE_DIGIT_CANCEL (R348). Command that empties a channel's digit queue and ends a digit in progress. -/
  | voiceDigitCancel (mb : Fin 8) (r : Req)
  /-- VOICE_LEC_RESET (R341). Command that clears a channel's line echo canceller filter. -/
  | voiceLecReset (mb : Fin 8) (r : Req)
  /-- KRN_IMAGE_LOAD (R372). Command that writes bytes of a kernel image into a slot and optionally checks it. -/
  | krnImageLoad (mb : Fin 8) (r : Req)
  /-- KRN_IMAGE_CLEAR (R372). Command that sets a kernel image slot EMPTY. -/
  | krnImageClear (mb : Fin 8) (r : Req)
  /-- KRN_IMAGE_INFO (R372). Command that returns a slot's state and stored header. -/
  | krnImageInfo (mb : Fin 8) (r : Req)
  /-- QUEUE_CONFIG (R400). Command that sets a host queue's size and register or window mode. -/
  | queueConfig (mb : Fin 8) (r : Req)
  /-- QUEUE_STATUS (R400). Command that returns and optionally clears a queue's status and counters. -/
  | queueStatus (mb : Fin 8) (r : Req)
  /-- HAUL_SUBMIT (R389). Command that starts a list of Haul DMA descriptors. -/
  | haulSubmit (mb : Fin 8) (r : Req)
  /-- MEM_INFO (R383). Command that returns LPDDR5X configuration and margins. -/
  | memInfo (mb : Fin 8) (r : Req)
  /-- ASH_JOB (R414). Command that starts an Ashlar compress or decompress job on a context. -/
  | ashJob (mb : Fin 8) (r : Req)
  /-- ASH_CTX_SAVE (R418). Command that writes a context's stream state image. -/
  | ashCtxSave (mb : Fin 8) (r : Req)
  /-- ASH_CTX_RESTORE (R418). Command that replaces a context's stream state from an image. -/
  | ashCtxRestore (mb : Fin 8) (r : Req)
  /-- LINK_POWER (R443). Command that moves the link lanes to Active, Quiet or Deep. -/
  | linkPower (mb : Fin 8) (r : Req)
  /-- LINK_TEST (R446). Command that starts or stops a PRBS generator or checker on link lanes. -/
  | linkTest (mb : Fin 8) (r : Req)
  /-- LINK_COUNTERS (R445). Command that returns and optionally clears link counters. -/
  | linkCounters (mb : Fin 8) (r : Req)
  /-- PAIR_STATUS (R473). Command that returns role, pair state, token and link figures. -/
  | pairStatus (mb : Fin 8) (r : Req)
  /-- PAIR_CONFIG (R473). Command that sets compare mode and auto-rejoin. -/
  | pairConfig (mb : Fin 8) (r : Req)
  /-- PAIR_SWITCH (R471). Command that arranges a planned hand-over of the token at a block boundary. -/
  | pairSwitch (mb : Fin 8) (r : Req)
  /-- PWR_STATE (R506). Command that requests a change to Active, Standby or Sleep. -/
  | pwrState (mb : Fin 8) (r : Req)
  /-- PWR_THROTTLE (R503). Command that holds or releases a host throttle request. -/
  | pwrThrottle (mb : Fin 8) (r : Req)
  /-- FAULT_STATUS (R488). Command that returns and optionally clears fault counters and units in service. -/
  | faultStatus (mb : Fin 8) (r : Req)
  /-- FAULT_RESTORE (R488). Command that resets a retired cluster or slice and starts its self test. -/
  | faultRestore (mb : Fin 8) (r : Req)
  /-- FAULT_INJECT (R488). Command that arms an error injection on the next read of a target. -/
  | faultInject (mb : Fin 8) (r : Req)
  /-- KEY_WRITE (R529). Command that writes a key into an OTP or volatile slot. -/
  | keyWrite (mb : Fin 8) (r : Req)
  /-- KEY_LOCK (R529). Command that locks or clears a volatile slot or revokes an OTP slot. -/
  | keyLock (mb : Fin 8) (r : Req)
  /-- KEY_FUSE (R529). Command that programs or revokes a board-key row or raises the security-version minimum. -/
  | keyFuse (mb : Fin 8) (r : Req)
  /-- KEY_INFO (R528). Command that returns the state of every key slot and image-key row. -/
  | keyInfo (mb : Fin 8) (r : Req)
  /-- FW_STAGE (R530). Command that copies image bytes into staging and with FINAL starts background verification and programming. -/
  | fwStage (mb : Fin 8) (r : Req)
  /-- FW_ACTIVATE (R531). Command that makes a staged image active on a device and arranges its warm reset. -/
  | fwActivate (mb : Fin 8) (r : Req)
  /-- DEFERRED_COMMAND_APPLY (R80). Daluo applies a command that waited behind a recovery step, a retirement or a waiting command of another session. -/
  | deferredCommandApply
  /-- RST_CTRL_WARM (R513). Register write with KEY that starts a host warm reset. -/
  | rstCtrlWarm (v : Word)
  /-- RST_CTRL_FULL (R513). Register write with KEY that starts a PORST with cause 0x06. -/
  | rstCtrlFull (v : Word)
  /-- RST_LOG_CLEAR (R513). Register write that empties the reset-cause log. -/
  | rstLogClear (v : Word)
  /-- BOOT_DL_GO (R522). Register write that copies a downloaded chunk into the image. -/
  | bootDlGo (v : Word)
  /-- BOOT_DL_FINAL (R522). Register write that verifies a downloaded image and continues or rejects boot. -/
  | bootDlFinal (v : Word)
  /-- BOOT_KEY_WRITE (R528). Register write that copies BOOT_KEY_DATA into an empty volatile slot or sets REFUSED. -/
  | bootKeyWrite (v : Word)
  /-- BOOT_KEY_LOCK (R528). Register write that sets LOCKED and closes the register key path. -/
  | bootKeyLock (v : Word)
  /-- PMU_WAKE (R514). Register write with KEY that wakes the device from Sleep. -/
  | pmuWake (v : Word) (viaQspi : Bool)
  /-- HQ_FLUSH (R393). Register write that empties a host queue, entering discarding if a packet is in progress. -/
  | hqFlush (q : Fin 16) (v : Word)
  /-- HQ_SPOIL (R392). Register write that marks the packet in progress bad and rewinds it. -/
  | hqSpoil (q : Fin 16) (v : Word)
  /-- HQ_DATA_WRITE (R391). Register write that appends a word to a from-host queue. -/
  | hqDataWrite (q : Fin 16) (d : DataAccess)
  /-- HQ_DATA_LAST (R391). Register write that appends the last word and commits the packet. -/
  | hqDataLast (q : Fin 16) (d : DataAccess)
  /-- HQ_DATA_READ (R397). Register read that removes and returns the next word of the head packet of a toward-host queue. -/
  | hqDataRead (q : Fin 16) (d : DataAccess)
  /-- HQ_WIN_HEAD_WRITE (R399). Register write that advances the head of a from-host window ring. -/
  | hqWinHeadWrite (q : Fin 16) (v : Word)
  /-- HQ_WIN_TAIL_WRITE (R399). Register write that advances the tail of a toward-host window ring. -/
  | hqWinTailWrite (q : Fin 16) (v : Word)
  /-- EVQ_ENABLE (R117). Register write of ENABLE 1 that checks the ring configuration and starts delivery from the resume number. -/
  | evqEnable (v : Word)
  /-- EVQ_DISABLE (R118). Register write of ENABLE 0 that stops ring delivery. -/
  | evqDisable (v : Word)
  /-- EVQ_TAIL_WRITE (R119). Register write that acknowledges ring records and frees them, or sets TAIL_ERR. -/
  | evqTailWrite (v : Word)
  /-- REGISTER_WRITE (R537). Write to a register without behaviour of its own, including W1C clears and ignored or flagged accesses. -/
  | registerWrite (a : Access)
  /-- QSPI_READ_STATUS (R550). QSPI instruction that returns the status byte. -/
  | qspiReadStatus
  /-- QSPI_INVALID_INSTRUCTION (R548). QSPI transaction with an unknown instruction, ignored with QSPI_CMD set. -/
  | qspiInvalidInstruction (insn : Byte)
  /-- BLOCK_STROBE (R16). Block strobe every 16 smp at which every engine starts processing one block. -/
  | blockStrobe (io : BlockIn)
  /-- SESSION_IDLE_CLOSED (R64). Idle timeout expiry that closes a session and raises its event. -/
  | sessionIdleClosed (mb : Fin 8)
  /-- OPEN_LAPSE (R59). Expiry of the 10 s after SESSION_OPEN that returns the mailbox to closed. -/
  | openLapse (mb : Fin 8)
  /-- SLOT_UNLOCK (R62). Expiry of a key slot's 60 s lock, resetting its failure count. -/
  | slotUnlock (slot : Fin 16)
  /-- SLAB_APPLIED (R100). A Slab takes effect at its sample m on every engine it touches. -/
  | slabApplied (slab : Nat)
  /-- ACTION_FIRED (R147). A scheduled action fires at its due sample, with its firing check. -/
  | actionFired (action : Nat)
  /-- RING_RECORD_WRITE (R120). Device writes a stored record into the ring once a slot is free. -/
  | ringRecordWrite
  /-- EVENTS_LOST (R113). Gap closes once 2 store slots are free and its EVENTS_LOST record is stored. -/
  | eventsLost
  /-- RING_COALESCE_TIMER (R126). Expiry of EVQ_MOD.TIME that sets ring interrupt cause 8. -/
  | ringCoalesceTimer
  /-- PTP_MESSAGE_RX (R136). Received PTP message, stamped and processed by the servo and BMCA. -/
  | ptpMessageRx (p : PtpMessage)
  /-- PTP_MESSAGE_TX (R138). PTP message sent at its interval, one-step or two-step. -/
  | ptpMessageTx (port : Fin 4) (kind : PtpKind)
  /-- TIME_STEP (R140). Network time steps at a sample boundary and E changes. -/
  | timeStep
  /-- HOLDOVER_ENTRY (R139). Missed Sync count or 3 s without PPS_IN puts the servo in HOLDOVER. -/
  | holdoverEntry
  /-- PPS_IN_EDGE (R142). PPS_IN edge stamped to network time for the servo or a pending TIME_SET. -/
  | ppsInEdge (stamp : Nat)
  /-- PPS_IN_LOST (R151). No PPS_IN edge for 3 s. -/
  | ppsInLost
  /-- MEDIA_ALIGNED (R140). Residual of a step reaches zero after the phase pull. -/
  | mediaAligned
  /-- MEDIA_SOURCE_SLEW_END (R141). The slew to a new media source ends. -/
  | mediaSourceSlewEnd (phase : Int)
  /-- PORT_CALIBRATED (R137). Calibration of a port's PHY constant completes after block lock. -/
  | portCalibrated (port : Fin 4) (phy : Nat)
  /-- TDM_FRAME (R166). A slave TDM frame arrives and is associated with a media sample, slipping or counted as length error. -/
  | tdmFrame (port : Fin 32) (bits : Nat) (edge : FrameEdge)
  /-- TDM_CLOCK_LOST (R166). No frame-start edge for 2 frame periods on a slave port. -/
  | tdmClockLost (port : Fin 32)
  /-- PDM_VALID (R174). A microphone's main response reaches its settling count S. -/
  | pdmValid (mic : Fin 256)
  /-- HAND_OVER_COMPLETE (R175). The quick-settle hand-over cross-fade ends. -/
  | handOverComplete (mic : Fin 256)
  /-- RESPONSE_SWAP (R178). A PDM response cross-fade ends and a pending swap starts or drops. -/
  | responseSwap (mic : Fin 256)
  /-- RAMP_QUEUE_START (R199). Waiting crosspoint ramp requests start at a block boundary once pool entries are free. -/
  | rampQueueStart
  /-- RAMP_END (R198). A crosspoint ramp reaches its target and its pool entry frees at the next block boundary. -/
  | rampEnd (out inp : Nat)
  /-- GEOMETRY_RECORD_START (R225). A pending geometry record starts at its sample s. -/
  | geometryRecordStart (obj : Nat)
  /-- FADING_SLOT_FREE (R227). A fading slot's envelope reaches 0 and the slot frees. -/
  | fadingSlotFree (obj spk : Nat)
  /-- POS_PACKET_APPLY (R237). At a strobe Daluo applies position packets committed to the bound queue. -/
  | posPacketApply
  /-- SPK_BANK_SWAP (R261). A bank cross-fade ends and a pending swap starts or drops. -/
  | spkBankSwap (spk : Nat)
  /-- DELAY_XFADE_END (R247). A loudspeaker delay cross-fade ends and a waiting delay change starts. -/
  | delayXfadeEnd (spk : Nat)
  /-- MIC_FILTER_FADE_END (R273). A beam filter-set fade ends and a new fade starts if the stored set differs. -/
  | micFilterFadeEnd (beam : Nat)
  /-- ADAPTATION_PERIOD (R278). End of a 256-smp period at which canceller filters update and ERLE is estimated. -/
  | adaptationPeriod (beam : Nat)
  /-- AEC_DIVERGED (R281). After 32 periods of worse error the beam's filters are cleared. -/
  | aecDiverged (beam : Nat)
  /-- AEC_REF_IDLE (R279). A reference turns idle after 600 quiet blocks. -/
  | aecRefIdle (beam ref : Nat)
  /-- DOUBLE_TALK_END (R280). DT_HOLD expires after the last double-talk block. -/
  | doubleTalkEnd (beam : Nat)
  /-- RECONVERGENCE_END (R282). RECONV_TIME expires and step, threshold and ceiling return. -/
  | reconvergenceEnd (beam ref : Nat)
  /-- AEC_RECONVERGE (R283). A reference change reaches the canceller 16 smp after the zone change. -/
  | aecReconverge (beam ref : Nat)
  /-- LOCATOR_CHANGE (R275). A candidate has led for N blocks and becomes leader. -/
  | locatorChange (group : Fin 16)
  /-- ETH_FRAME_RX (R300). A received Ethernet frame is classified and handed on, answered or discarded. -/
  | ethFrameRx (f : EthFrame)
  /-- ETH_LINK (R298). A port's link comes up or goes down. -/
  | ethLink (port : Fin 4) (up : Bool)
  /-- GRATUITOUS_ARP (R299). One of 3 gratuitous ARP and Neighbor Advertisements sent 100 ms apart. -/
  | gratuitousArp (port : Fin 4) (iface : Fin 8)
  /-- HOST_FRAME_TX (R303). A HOST_TX frame is sent once no stream frame is ready. -/
  | hostFrameTx (port : Fin 4)
  /-- STREAM_NO_ROUTE (R327). A stream's next hop stays unresolved for 3 s. -/
  | streamNoRoute (stream : Nat)
  /-- STREAM_TIMEOUT (R310). No RTP or RTCP arrives for MEDIA_TIMEOUT. -/
  | streamTimeout (stream : Nat)
  /-- RTCP_SEND (R310). The RTCP interval expires and a compound RTCP packet is sent. -/
  | rtcpSend (stream : Nat)
  /-- JB_RESYNC (R313). A jitter buffer empty for 200 ms restarts. -/
  | jbResync (stream : Nat)
  /-- AES67_PACKET_SEND (R319). A sending AES67 stream sends a packet at each packet-time boundary. -/
  | aes67PacketSend (stream : Nat)
  /-- CALL_RECEIVE_FRAME (R330). At a receive frame boundary a channel decodes or conceals a frame. -/
  | callReceiveFrame (ch : Nat)
  /-- CALL_SEND_FRAME (R330). At a send frame boundary a channel encodes and hands over a frame or event packet. -/
  | callSendFrame (ch : Nat)
  /-- VOICE_DIGIT_DONE (R348). A sent digit's off time ends. -/
  | voiceDigitDone (ch : Nat)
  /-- VOICE_DIGIT (R345). A DTMF digit begin or end is decided. -/
  | voiceDigit (det : Nat) (d : ToneDecision)
  /-- VOICE_CP_TONE (R345). A call-progress tone is steady for 100 ms or absent for 50 ms. -/
  | voiceCpTone (det : Nat) (d : CpDecision)
  /-- VOICE_FAX_TONE (R346). A fax or modem signal begin or end is decided. -/
  | voiceFaxTone (det : Nat) (kind : Nat) (begins : Bool)
  /-- VOICE_LEC (R343). The tone disabler bypasses, turns off or releases the canceller. -/
  | voiceLec (ch : Nat) (change : Nat)
  /-- EVENT_TIMEOUT (R347). An RFC 4733 event stops without an E bit for 250 ms. -/
  | eventTimeout (ch : Nat)
  /-- NOP (R368). Instruction that does nothing. -/
  | nop (inst : Nat) (w : IWord)
  /-- END (R368). Instruction that ends the invocation. -/
  | endInvocation (inst : Nat) (w : IWord)
  /-- BR (R368). Instruction that branches by a signed offset. -/
  | br (inst : Nat) (w : IWord)
  /-- BRZ (R368). Instruction that branches if a scalar register is zero. -/
  | brz (inst : Nat) (w : IWord)
  /-- BRNZ (R368). Instruction that branches if a scalar register is non-zero. -/
  | brnz (inst : Nat) (w : IWord)
  /-- LOOP (R368). Instruction that repeats the following instructions a counted number of times. -/
  | loop (inst : Nat) (w : IWord)
  /-- TRAP (R376). Instruction that raises a USER trap. -/
  | trap (inst : Nat) (w : IWord)
  /-- ADD (R368). Scalar add instruction. -/
  | add (inst : Nat) (w : IWord)
  /-- SUB (R368). Scalar subtract instruction. -/
  | sub (inst : Nat) (w : IWord)
  /-- ADDI (R368). Scalar add-immediate instruction. -/
  | addi (inst : Nat) (w : IWord)
  /-- AND (R368). Scalar AND instruction. -/
  | andS (inst : Nat) (w : IWord)
  /-- OR (R368). Scalar OR instruction. -/
  | orS (inst : Nat) (w : IWord)
  /-- XOR (R368). Scalar XOR instruction. -/
  | xorS (inst : Nat) (w : IWord)
  /-- SHL (R368). Scalar shift-left instruction. -/
  | shl (inst : Nat) (w : IWord)
  /-- SHR (R368). Scalar logical shift-right instruction. -/
  | shr (inst : Nat) (w : IWord)
  /-- SAR (R368). Scalar arithmetic shift-right instruction. -/
  | sar (inst : Nat) (w : IWord)
  /-- MUL (R368). Scalar multiply instruction keeping the low 32 bits. -/
  | mul (inst : Nat) (w : IWord)
  /-- SLT (R368). Scalar signed set-less-than instruction. -/
  | slt (inst : Nat) (w : IWord)
  /-- SHLI (R368). Scalar shift-left-immediate instruction. -/
  | shli (inst : Nat) (w : IWord)
  /-- LDS (R368). Scalar load instruction. -/
  | lds (inst : Nat) (w : IWord)
  /-- STS (R368). Scalar store instruction. -/
  | sts (inst : Nat) (w : IWord)
  /-- VLD (R368). Vector load of 128 consecutive words. -/
  | vld (inst : Nat) (w : IWord)
  /-- VST (R368). Vector store of 128 consecutive words. -/
  | vst (inst : Nat) (w : IWord)
  /-- VLDB (R368). Broadcast load of one word to every lane. -/
  | vldb (inst : Nat) (w : IWord)
  /-- VLDS (R368). Strided vector load. -/
  | vlds (inst : Nat) (w : IWord)
  /-- VSTS (R368). Strided vector store. -/
  | vsts (inst : Nat) (w : IWord)
  /-- VADD (R363). Saturating vector add. -/
  | vadd (inst : Nat) (w : IWord)
  /-- VSUB (R363). Saturating vector subtract. -/
  | vsub (inst : Nat) (w : IWord)
  /-- VMUL (R363). Rounding vector multiply. -/
  | vmul (inst : Nat) (w : IWord)
  /-- VAND (R368). Bitwise vector AND. -/
  | vand (inst : Nat) (w : IWord)
  /-- VOR (R368). Bitwise vector OR. -/
  | vor (inst : Nat) (w : IWord)
  /-- VXOR (R368). Bitwise vector XOR. -/
  | vxor (inst : Nat) (w : IWord)
  /-- VSHL (R363). Saturating vector shift left. -/
  | vshl (inst : Nat) (w : IWord)
  /-- VSAR (R368). Vector arithmetic shift right. -/
  | vsar (inst : Nat) (w : IWord)
  /-- VMOV (R368). Vector register move. -/
  | vmov (inst : Nat) (w : IWord)
  /-- VBC (R368). Broadcast of a scalar register to every lane. -/
  | vbc (inst : Nat) (w : IWord)
  /-- VCMPLT (R368). Vector compare writing a lane mask. -/
  | vcmplt (inst : Nat) (w : IWord)
  /-- VSEL (R368). Vector select by lane mask. -/
  | vsel (inst : Nat) (w : IWord)
  /-- VLANE (R368). Writes each lane's number. -/
  | vlane (inst : Nat) (w : IWord)
  /-- MAC (R361). Multiply-accumulate into a lane accumulator. -/
  | mac (inst : Nat) (w : IWord)
  /-- MSU (R361). Multiply-subtract from a lane accumulator. -/
  | msu (inst : Nat) (w : IWord)
  /-- MACS (R361). Multiply-accumulate by a scalar. -/
  | macs (inst : Nat) (w : IWord)
  /-- MACM (R361). Multiply-accumulate with a vector read through a P register. -/
  | macm (inst : Nat) (w : IWord)
  /-- MACMM (R361). Multiply-accumulate of two vectors read through P registers. -/
  | macmm (inst : Nat) (w : IWord)
  /-- ACLR (R368). Clears an accumulator and its OVF flags. -/
  | aclr (inst : Nat) (w : IWord)
  /-- EXT (R362). Rounds and saturates an accumulator to Q1.31. -/
  | ext (inst : Nat) (w : IWord)
  /-- EXTW (R362). Rounds an accumulator to Q10.54 into a register pair. -/
  | extw (inst : Nat) (w : IWord)
  /-- ALD (R368). Loads an accumulator from a vector register. -/
  | ald (inst : Nat) (w : IWord)
  /-- OVFM (R368). Writes the mask of overflowed lanes. -/
  | ovfm (inst : Nat) (w : IWord)
  /-- SATM (R368). Writes the mask of saturated lanes and clears SAT. -/
  | satm (inst : Nat) (w : IWord)
  /-- SMAX (R366). Running maximum with index. -/
  | smax (inst : Nat) (w : IWord)
  /-- SMIN (R366). Running minimum with index. -/
  | smin (inst : Nat) (w : IWord)
  /-- RMAX (R366). Maximum over masked lanes with lowest lane. -/
  | rmax (inst : Nat) (w : IWord)
  /-- RMIN (R366). Minimum over masked lanes with lowest lane. -/
  | rmin (inst : Nat) (w : IWord)
  /-- PSETB (R364). Sets a P register base. -/
  | psetb (inst : Nat) (w : IWord)
  /-- PSETL (R364). Sets a P register length. -/
  | psetl (inst : Nat) (w : IWord)
  /-- PSETI (R364). Sets a P register index. -/
  | pseti (inst : Nat) (w : IWord)
  /-- PGETI (R368). Reads a P register index into a scalar. -/
  | pgeti (inst : Nat) (w : IWord)
  /-- PADD (R364). Advances a P register index without access. -/
  | padd (inst : Nat) (w : IWord)
  /-- BUDGET_TRAP (R370). An invocation's cycle count reaches its budget before END. -/
  | budgetTrap (inst : Nat)
  /-- HAUL_COMPLETE (R389). A Haul job finishes moving its data and its response is written. -/
  | haulComplete (mb : Fin 8)
  /-- HAUL_TIMEOUT (R390). A PCIe completion takes longer than 50 ms and Haul stops. -/
  | haulTimeout (mb : Fin 8) (moved : Nat)
  /-- ASH_JOB_COMPLETE (R414). An Ashlar job finishes writing output and its completion record is written. -/
  | ashJobComplete (ctx : Nat)
  /-- WINDOW_COPY_TO_HOST (R399). A committed packet is copied into a toward-host window ring once room exists. -/
  | windowCopyToHost (q : Fin 16)
  /-- WINDOW_MOVE_FROM_HOST (R399). A packet of a from-host window ring moves into the queue once space exists. -/
  | windowMoveFromHost (q : Fin 16)
  /-- LPDDR_RETRAIN (R384). Once a second per channel read and write DQ timing is retrained. -/
  | lpddrRetrain (channel : Fin 8) (margin : Byte)
  /-- SCRUB_PASS (R478). The scrubber reads SRAM and system-region words and acts on errors it finds. -/
  | scrubPass (found : List ScrubFinding)
  /-- CLUSTER_RETIRED (R483). A faulty cluster is stopped, nodes shed and instances moved. -/
  | clusterRetired (cluster : Fin 16) (cause : Nat)
  /-- GALLERY_SLICE_LOST (R485). A faulty Gallery slice leaves service and ports are re-carried. -/
  | gallerySliceLost (slice : Fin 12)
  /-- UNIT_SELF_TEST_DONE (R488). A FAULT_RESTORE self test completes and the unit returns or stays out. -/
  | unitSelfTestDone (pass : Bool)
  /-- TRAIN_MESSAGE_RX (R435). A TRAIN message from the partner advances link bring-up. -/
  | trainMessageRx (m : TrainMessage)
  /-- BLOCK_LOCK (R428). A link lane gains block lock after 64 valid headers. -/
  | blockLock (lane : Fin 8)
  /-- LANE_LOST (R439). A lane of the width loses block lock or deskew and a rewidth starts. -/
  | laneLost (lane : Fin 8)
  /-- CTLE_SWEEP (R435). The CTLE sweep completes and SWEEP_DONE is sent. Per physical lane, the mask of error-free codes. -/
  | ctleSweep (codes : List Nat)
  /-- PRBS_TEST (R436). The PRBS test completes and TEST_RESULT is sent. -/
  | prbsTest (mask : Byte)
  /-- LINK_TRAIN_FAIL (R435). A bring-up wait times out 10 ms after the device's own part and the attempt fails. -/
  | linkTrainFail (badMessage : Bool)
  /-- LINK_ABSENT_RETRY (R437). An ABSENT link starts an attempt every 1 s. -/
  | linkAbsentRetry
  /-- LINK_PACKET_RX (R430). A VC packet is received and accepted or discarded with NAK. -/
  | linkPacketRx (p : VcPacket)
  /-- LINK_PACKET_TX (R431). A VC packet is sent once its credits are held. -/
  | linkPacketTx (vc : Fin 2)
  /-- CREDIT_RX (R430). A CREDIT block returns credits, acknowledges or NAKs packets. -/
  | creditRx (c : CreditBlock)
  /-- CREDIT_TX (R431). A CREDIT block is sent within 32 rows. -/
  | creditTx
  /-- REWIDTH_RX (R439). A REWIDTH from the partner changes the width. -/
  | rewidthRx (mask : Byte) (width : Nat)
  /-- LANE_MARKER_TX (R427). A row of LANE_MARKER blocks is sent every 16,384 rows. -/
  | laneMarkerTx
  /-- LINK_CLOCK_LOST (R440). The forwarded clock stops for 64 periods and the link goes down. -/
  | linkClockLost
  /-- LINK_QUIET (R443). QUIET_IDLE passes with no packet and lanes enter Quiet. -/
  | linkQuiet
  /-- CTLE_TRACK (R441). Background CTLE adjustment after 2^20 qualifying blocks. -/
  | ctleTrack (lane : Fin 8) (up : Bool)
  /-- LINK_ERRORS (R447). A 1 ms interval ends with sync-header errors over ERR_THRESHOLD. -/
  | linkErrors (lane : Fin 8) (count : Nat)
  /-- HEARTBEAT_INSTANT (R465). At every 4th sample a device toggles PAIR_ALIVE_O and sends HEARTBEAT, or withholds and releases the token. -/
  | heartbeatInstant
  /-- HEARTBEAT_RX (R465). A HEARTBEAT block from the partner arrives. -/
  | heartbeatRx (h : Heartbeat)
  /-- PAIR_ALIVE_EDGE (R465). An edge arrives on PAIR_ALIVE_I. -/
  | pairAliveEdge
  /-- TOKEN_ACQUIRE (R454). Side B acquires PAIR_TOKEN after 20 ms high without PAIR_ALIVE_I edges. -/
  | tokenAcquire
  /-- PAIR_DECLARE_FAILURE (R468). Three missed heartbeat instants lead to a failure declaration, a path report or state 1. -/
  | pairDeclareFailure
  /-- PAIR_TAKEOVER (R469). The standby takes over at the next block boundary after declaring failure. -/
  | pairTakeover
  /-- JOIN_COMPLETE (R456). The standby has caught up and enters lockstep. -/
  | joinComplete
  /-- DECISION_RECORD_CLOSE (R458). The primary closes block n's decision record 5 µs before its strobe. -/
  | decisionRecordClose
  /-- RECORD_ACK (R462). The standby acknowledges a record and the primary writes waiting responses. -/
  | recordAck (block : Nat)
  /-- ACK_TIMEOUT (R462). No acknowledgment within 4 blk and the pair leaves lockstep. -/
  | ackTimeout
  /-- TOKEN_HANDOVER (R471). At m_s the token passes to the new primary and PAIR_SWITCH responds. -/
  | tokenHandover
  /-- PORST_N (R510). PORST_N pin low causes a PORST. -/
  | porstN (straps : Straps)
  /-- RST_N (R510). RST_N pin low resets everything outside the always-on domain. -/
  | rstN
  /-- PCIE_HOT_RESET (R510). A PCIe hot reset causes a host warm reset. -/
  | pcieHotReset
  /-- PERST (R510). PERST# low causes a host warm reset. -/
  | perst
  /-- CP_WATCHDOG_RESET (R510). Daluo fails to serve its watchdog for 20 ms. -/
  | cpWatchdogReset
  /-- PMU_POWER_UP (R492). The always-on rails are stable for 1 ms and sequencing starts. -/
  | pmuPowerUp
  /-- PMU_PG_RISE (R492). A power-good reads high and the next pair starts after 1 ms. -/
  | pmuPgRise
  /-- SEQUENCING_FAILURE (R493). A power-good stays low 10 ms and the PMU powers down. -/
  | sequencingFailure
  /-- SEQUENCING_RETRY (R493). The PMU retries power-up 1 s after a sequencing failure. -/
  | sequencingRetry
  /-- RAIL_WARNING (R500). A rail falls below its warning level and a throttle is requested. -/
  | railWarning (rail : Fin 16) (mv : Nat)
  /-- PWR_WARN (R501). A crossing dip ends or 1 ms passes and the LATCHED event is raised. -/
  | pwrWarn (rail : Fin 16) (minimum belowUs : Nat) (ended : Bool)
  /-- BROWN_OUT (R500). A rail lies at or below its reset level, or a power-good falls, and the device powers down and restarts. -/
  | brownOut (detail : Byte)
  /-- THROTTLE_RELEASE (R503). The last throttle request ends and the Bench clock is restored. -/
  | throttleRelease
  /-- THERMAL_WARN (R502). Tj reaches 100 °C and a throttle is requested. -/
  | thermalWarn (tj : Int) (sensor : Fin 16)
  /-- THERMAL_WARN_END (R502). Tj falls below 95 °C and the thermal throttle request ends. -/
  | thermalWarnEnd (tj : Int)
  /-- THERMAL_SHUTDOWN (R502). Tj reaches 115 °C and the device powers down. -/
  | thermalShutdown (sensor : Fin 16)
  /-- THERMAL_RECOVERY (R502). Tj falls below 85 °C after shutdown and power-up starts. -/
  | thermalRecovery (tj : Int)
  /-- PMBUS_ALERT (R495). PMBUS_ALERT_N falls and STATUS_WORD is read from every regulator. -/
  | pmbusAlert (rail : Fin 16) (answer : PmbusAnswer)
  /-- AVS_STEP (R496). AVS changes VDD_CORE by one step at most once per 1 ms. -/
  | avsStep (up : Bool)
  /-- POWER_STATE (R506). A pending Standby or Active change takes effect at its block boundary. -/
  | powerState
  /-- SLEEP_ENTRY (R508). The device enters Sleep at e. -/
  | sleepEntry
  /-- WAKE_N (R508). WAKE_N falling wakes the device from Sleep. -/
  | wakeN
  /-- WAKE_GPIO (R570). An edge on an enabled GPIO 0 to 7 wakes the device from Sleep. -/
  | wakeGpio (g : Fin 8)
  /-- WAKE_TIMER (R505). The AON wake timer expires in Sleep. -/
  | wakeTimer
  /-- DALUO_READY (R519). Boot reaches CODE 0x07, RESET_RECORD and held events are numbered. -/
  | daluoReady (b : BootReport)
  /-- TRIAL_FALLBACK (R521). A TRIAL image does not reach 0x07 within 2 s and the other slot is booted. -/
  | trialFallback (b : BootReport)
  /-- DOWNLOAD_RETURN (R522). 10 ms after a rejected download CODE returns to 0x03. -/
  | downloadReturn
  /-- FW_STAGED (R530). Background verification and programming of a staged image ends. -/
  | fwStaged (readBackOk : Bool)
  /-- FW_ACTIVATE_RESET (R531). At the block boundary after FW_ACTIVATE the target performs a host warm reset. -/
  | fwActivateReset
  /-- GPIO_EDGE (R570). A selected GPIO edge is reported at the end of its block. -/
  | gpioEdge (g : Fin 32) (level : Bool) (further : Nat)
  /-- MBX_DOORBELL (R55). An accepted doorbell whose request has an illegal length or names no defined opcode, answered with ERR_LENGTH or ERR_OPCODE. -/
  | mbxDoorbell (mb : Fin 8) (length : Nat) (opcode : BitVec 16) (hdrLength : Nat) (r : Req)
  /-- BOOT_STOP (R526). The boot ROM ends in a stop code 0x81, 0x82, 0x84, 0x85 or 0x86 and accepts no doorbell. -/
  | bootStop (code : Byte) (unit : Nat)
  /-- ANNOUNCE_RECEIPT_TIMEOUT (R139). announceReceiptTimeout Announce intervals pass without an Announce from the parent, and the BMCA selects another parent or none. -/
  | announceReceiptTimeout (next : Option Announce)
  deriving DecidableEq, Repr

end Sys2Proof
end

