-- ==== Sys2Proof/Decode.lean ====
section
/-! DEFINITION. Words that spell commands. spec/opcode_table.json gives no row any bits: the block takes commands as register
accesses, mailbox requests and events, not as encoded words, so no word spells one. -/

namespace Sys2Proof

/-- A row of the opcode table that gives bits: how many, the mask of its fixed bits, their value and the command. -/
structure TableRow where
  nbits : Nat
  mask : Nat
  value : Nat
  command : Instr

/-- The rows of the table that give bits: none. -/
def tableRows : List TableRow := []

/-- The command that a word spells by the table's bits; `none` where no row gives bits. -/
def decodeTableWord (nbits w : Nat) : Option Instr :=
  (tableRows.find? fun r => r.nbits == nbits && w &&& r.mask == r.value).map (·.command)

end Sys2Proof
end

