-- ==== Sys2Proof/Config.lean ====
section
/-! DEFINITION. What the spec leaves open or gives only by an outside standard: opaque constants without a body
(notes/assumptions/3.md to 9.md). No proof can see a value of theirs. -/

namespace Sys2Proof.Config

/-- A fresh free value: applied to the counter `State.free` that the step reads and advances (log entry 3). -/
opaque freeValue : Nat → Nat

/-- The device's random source (R59, R304, R310): the n-th drawn byte (log entry 3). -/
opaque randomByte : Nat → Byte

/-- The die unique identifier, fixed per device (R542, R65). -/
opaque dieUid : Nat

/-- The clockIdentity of the device's PTP clock (R135; log entry 25). -/
opaque clockIdentity : BitVec 64

/-- ECDSA P-256 with SHA-256 under FIPS 186-5 (R524): public key, signature r ‖ s, message (log entry 4). -/
opaque ecdsaVerify : Bytes → Bytes → Bytes → Bool

/-- The OTP image-key row 0, programmed at manufacture (R524): SHA-256 of Lerund's firmware public key. -/
opaque lerundKeyHash : Bytes

/-- SRTP protection of a packet (RFC 3711, RFC 7714): suite, master key and salt, 48-bit index, packet (log entry 4). -/
opaque srtpProtect : Nat → Bytes → Nat → Bytes → Bytes

/-- SRTP authentication and decryption: `none` when the packet fails authentication (log entry 4). -/
opaque srtpUnprotect : Nat → Bytes → Nat → Bytes → Option Bytes

/-- SRTCP protection of a compound packet (RFC 3711): suite, master key and salt, 31-bit index, packet (log entry 4). -/
opaque srtcpProtect : Nat → Bytes → Nat → Bytes → Bytes

/-- SRTCP authentication and decryption: suite, master key and salt, packet (log entry 4). -/
opaque srtcpUnprotect : Nat → Bytes → Bytes → Option Bytes

/-- Encoder of a codec (R331): codec, parameters, coded state, frame samples at the codec rate; the next coded state and
the frame's bytes (empty when discontinuous transmission suppresses it) (log entry 5). -/
opaque encode : Nat → Nat → Nat → List Int → Nat × Bytes

/-- Decoder of a codec: codec, parameters, coded state, payload; the next coded state and the samples (log entry 5). -/
opaque decode : Nat → Nat → Nat → Bytes → Nat × List Int

/-- Concealment of one frame (R335): codec, coded state, frames already concealed in the run (log entry 5). -/
opaque conceal : Nat → Nat → Nat → Nat × List Int

/-- Resampler between a codec rate and the primary rate (R330): from rate, to rate, coded state, samples in units of 2^-54. -/
opaque resample : Nat → Nat → Nat → List Int → Nat × List Int

/-- Line echo canceller (R339, R342): coded filter, mode, reference, input; next coded filter and output (log entry 5). -/
opaque lecRun : Nat → Nat → List Int → List Int → Nat × List Int

/-- Echo return loss and its enhancement, 0.01 dB, of a coded canceller (R336; typical only, R352). -/
opaque lecLevels : Nat → Nat × Nat

/-- Shift of a line echo canceller filter by a signed number of smp (R341). -/
opaque lecShift : Nat → Int → Nat

/-- In-band tone pair of an RFC 4733 digit (R347, R348): digit, volume, first sample, count, rate. -/
opaque tonePair : Nat → Nat → Nat → Nat → Nat → List Int

/-- Exact stage-4 output of a response (R169), in units of 2^-60 before rounding, from the stage 1 outputs that it reaches, newest
first, in units of 2^-40 (log entry 5). -/
opaque pdmOutput : Nat → List Int → Int

/-- Tap w[l] of a reference filter that is not clear (R276), in units of 2^-64: coded filter, l - BULK_DELAY (log entry 5). -/
opaque aecTap : Nat → Nat → Int

/-- One normalised frequency-domain update of a reference filter (R278): filter, step, error, reference history. -/
opaque aecUpdate : Nat → Nat → List Int → List Int → Nat

/-- A filter multiplied by 10^((G1 - G2)/2000) and rounded to the coefficient format (R283): filter, G1 - G2. -/
opaque aecScale : Nat → Int → Nat

/-- Residual suppressor (R286): coded state, ceiling dB, comfort, error, estimate, double talk; next state and output. -/
opaque suppress : Nat → Nat → Bool → Int → Int → Bool → Nat × Int

/-- The suppressor's seed at NODE_ENABLE from beam index and enable m (R286). -/
opaque suppressSeed : Nat → Nat → Nat

/-- Mean band attenuation of the suppressor, 0.01 dB (CAP_AEC_STATUS). -/
opaque suppression : Nat → Nat

/-- Which of the binary32 numbers within 1 ulp exp2, log2 (operand) and 10^x (numerator and denominator of x) of the geometry unit
give (R221; log entry 6): at most 0 the one below the exact result, else the one above. -/
opaque exp2Pick : BitVec 32 → Int
opaque log2Pick : BitVec 32 → Int
opaque pow10Pick : Int → Nat → Int

/-- Rounding error of the partitioned tail of R246 in units of 2^-54, before its bound: of the sample's place in its period, the
tail's taps with their indices, and the input before the period, newest first (log entry 6). -/
opaque tailError : Nat → List (Nat × Int) → List Int → Int

/-- What a Q10.54 value of the loudspeaker stage beyond its range becomes, which the spec does not state (log 24). -/
opaque overflow54 : Int → Int

/-- Whether the device rounds a level of num / den that falls between two steps of 0.01 dB up (R204, R205; log entry 6). -/
opaque levelUp : Nat → Nat → Bool

/-- Level in 0.01 dB that the device gives for an energy of 0 where the spec states none (R275; log entry 6). -/
opaque silentLevel : Int

/-- A coding of an Ashlar block that the compressor picks (R408): mode, word, channels, history, raw bytes (log entry 7). -/
opaque ashlarCode : Nat → Nat → Nat → Bytes → Bytes → Bytes

/-- Bytes of the board's regulators: STATUS_WORD and READ_IOUT live values (R495, R498). -/
opaque readIout : Nat → Nat

/-- Firmware build of the loaded image when a boot takes it from flash slot A (0) or B (1) (R65, R523). -/
opaque bootBuild : Nat → Nat

/-- How Daluo spreads the carried output ports over the slices in service, of the slices out (R188; log 3). -/
opaque sliceRotation : List Nat → Nat

/-- Capacity in words of Daluo's internal queues 16 to 127, which the spec does not give (R400; log 3). -/
opaque queueCapacity : Nat → Nat

/-- Word that the padding of a kernel's constant and parameter areas reads as, by byte address (R360; log 26). -/
opaque krnPadding : Nat → BitVec 32

/-- Which lane's word stands where several lanes of one store write one address, by address (R368; log 26). -/
opaque laneWinner : Nat → Nat

/-- IDLE rows on the link before the rows that follow this many others (R424, R426; log entry 56). -/
opaque idleRows : Nat → Nat

end Sys2Proof.Config
end

