-- ==== Sys2Proof/Machine/State.lean ====
section
/-! DEFINITION. The state of the EVH-8800: every register, table, queue, mode and pin the spec names, as plain data. Each
field's docstring gives the rule that names it and its reset value; "log 2" means that the spec gives no reset value. -/

namespace Sys2Proof.Machine

/-- Reasons the machine stops. No row of this hardware stops it: kept as a closed type for the host's interface. -/
inductive Fault where
  /-- Raised by no command; safe. -/
  | none
  deriving DecidableEq, Repr, Inhabited

/-- Reasons a command has no meaning. -/
inductive Refusal where
  /-- Raised by an arm of exec whose row has no meaning yet; safe. -/
  | notModelled (mnemonic : String)
  deriving DecidableEq, Repr, Inhabited

/-! ### Farxis link (16) -/

/-- STATE of the link node (R434). -/
inductive LinkState where
  | disabled
  | detect
  | wake
  | caps
  | rungTest
  | active
  | quiet
  | deep
  | absent
  | test
  deriving DecidableEq, Repr, Inhabited

/-- A packet of a virtual channel that waits for its acknowledgment. -/
structure SentPacket where
  seq : Nat
  length : Nat
  payload : PairPayload
  times : Nat
  deriving DecidableEq, Repr, Inhabited

/-- One virtual channel (R429 to R431). -/
structure Vc where
  /-- Next sequence to send, next one expected, and last one received good. -/
  txSeq : Nat := 0
  rxSeq : Nat := 0
  lastGood : Nat := 4095
  /-- Packets sent and not acknowledged, oldest first, and how many of them this pass has sent. -/
  unacked : List SentPacket := []
  sent : Nat := 0
  /-- Packets ready to send, oldest first: length and payload. The head has waited for credits. -/
  ready : List (Nat × PairPayload) := []
  waited : Bool := false
  /-- Credits held; credits the partner has returned and credits this receiver has freed, both modulo 65,536. -/
  credits : Nat := 0
  returned : Nat := 0
  freed : Nat := 0
  /-- NAK owed in the next CREDIT block. -/
  nak : Bool := false
  deriving DecidableEq, Repr, Inhabited

/-- A block on a lane: sync header, and the 128 payload bits as they are sent, first bit first (R423, R424). -/
structure LaneBlock where
  lane : Nat
  header : BitVec 2
  payload : List Bool
  deriving DecidableEq, Repr, Inhabited

/-- The Farxis link (R422 to R449). Lists of lanes name physical lanes. -/
structure Link where
  /-- STATE (R434). Reset disabled. -/
  state : LinkState := .disabled
  /-- RUNG, WIDTH, LANE_MAP, CTLE. Reset 0, 0, none, log 2. -/
  rung : Nat := 0
  width : Nat := 0
  laneMap : List Nat := []
  ctle : List Nat := List.replicate 8 0
  /-- Codes trained in step 4b (R441), and those of every rung trained (R436). -/
  ctleTrained : List Nat := List.replicate 8 0
  stored : List (Nat × List Nat) := []
  /-- ATTEMPTS; the link is ABSENT between and during its retries (R437). -/
  attempts : Nat := 0
  absent : Bool := false
  /-- PARTNER (R434). -/
  partnerRung : Nat := 0
  partnerMask : Nat := 0
  partnerSideB : Bool := false
  /-- Lanes with block lock; lanes in use; lanes lost since the last link reset. -/
  lock : List Nat := []
  laneSet : List Nat := []
  lost : List Nat := []
  /-- Bring-up step as in LINK_TRAIN_FAIL, 0 outside bring-up; when the device finished its own part (R435). -/
  step : Nat := 0
  since : Nat := 0
  wakes : Nat := 0
  /-- RATE_ACK received; own and partner's part of the sweep done; results of the PRBS test; GO received. -/
  acked : Bool := false
  swept : Bool := false
  sweepSeen : Bool := false
  ownMask : Option Nat := none
  partnerResult : Option Nat := none
  goSeen : Bool := false
  /-- Going back to the rung below after a failed test (R436); leaving Deep for this state (R442). -/
  returning : Bool := false
  leavingDeep : Option LinkState := none
  /-- A pair had formed; token holder at the moment of the loss: 1 this device, 2 the partner (R438). -/
  hadPair : Bool := false
  holder : Nat := 0
  vc0 : Vc := {}
  vc1 : Vc := {}
  /-- Marker rows sent (R427). -/
  markers : Nat := 0
  /-- Local time of the last VC packet sent (R443). -/
  lastPacket : Nat := 0
  /-- Running test: pattern, rung, lanes, mode (R446). -/
  test : Option (Nat × Nat × Nat × Nat) := none
  /-- Counters of LINK_COUNTERS. -/
  syncErr : List Nat := List.replicate 8 0
  prbsErr : List Nat := List.replicate 8 0
  crcErr : Nat := 0
  resent : Nat := 0
  waited : Nat := 0
  rewidths : Nat := 0
  resets : Nat := 0
  checkerLock : Nat := 0
  /-- Packets sent again in the block in progress (R447). -/
  resentBlock : Nat := 0
  /-- Channel and sequence number of the first of them. Reset 0. -/
  resentFirst : Nat × Nat := (0, 0)
  /-- Scrambler of each physical lane: the last 58 bits it sent, the newest in bit 0 (R424). Reset 0, DESIGN CHOICE log 56. -/
  scramblers : List (BitVec 58) := List.replicate 8 0
  /-- Rows that commands have sent (the model's own, log 56). Reset 0. -/
  rows : Nat := 0
  /-- The 1 ms interval of the last LINK_ERRORS row and the most errors on one lane in it (R447). Reset none. -/
  errInterval : Option (Nat × Nat) := none
  deriving DecidableEq, Repr, Inhabited

/-! ### Pair (17) -/

/-- The redundant pair (R450 to R476). -/
structure Pair where
  /-- Role: 0 disabled, 1 primary, 2 standby, 3 candidate (PAIR_STATUS). Reset 0 without PAIR_EN. -/
  role : Nat := 0
  /-- Pair state of R455; 0 while pairing is disabled. Reset 0. -/
  state : Nat := 0
  /-- Cause of state 4, as PAIR_STATE gives it; 0 when none stands. -/
  cause : Nat := 0
  /-- This device drives PAIR_TOKEN; the partner does. Reset false. -/
  token : Bool := false
  partnerToken : Bool := false
  /-- Line PAIR_TOKEN reads high since this local time (R454). Reset 0. -/
  highSince : Nat := 0
  /-- Heartbeat paths good: link and pin (PAIR_STATUS). Reset false. -/
  linkHb : Bool := false
  pinHb : Bool := false
  /-- Heartbeat instants missed in a row per path (R468). Reset 0. -/
  missLink : Nat := 0
  missPin : Nat := 0
  /-- A heartbeat arrived for the current instant per path. -/
  gotLink : Bool := false
  gotPin : Bool := false
  /-- Local time of the last PAIR_ALIVE_I edge (R454). -/
  lastEdge : Nat := 0
  /-- Next heartbeat instant, m; PAIR_ALIVE_O level; instants withheld in a row (R465, R466). -/
  nextBeat : Nat := 0
  aliveOut : Bool := false
  withheld : Nat := 0
  /-- Last record closed (primary), complete (standby), acknowledged. -/
  recordClosed : Nat := 0
  recordGot : Nat := 0
  recordAcked : Nat := 0
  /-- Decisions since the last record closed (primary); records not yet applied (standby) (R458). -/
  log : List Decision := []
  records : List (Nat × List Decision) := []
  /-- Events that the standby raised and the record has not numbered yet, oldest first (R467). -/
  unnumbered : List EvRec := []
  /-- The cut of this join has been sent (primary) or loaded (standby) (R456). -/
  cutDone : Bool := false
  /-- Input of the blocks that a joining standby has not processed yet, oldest first (R456). -/
  stored : List BlockIn := []
  /-- Records closed and not acknowledged, with the next sequence number at their close; that number as the standby
  acknowledged it (R467). Reset 0. -/
  closes : List (Nat × Nat) := []
  seqAcked : Nat := 0
  /-- The standby decides for itself: a record was incomplete at its strobe (R460). -/
  deciding : Bool := false
  /-- PAIR_CONFIG (R473). Reset 0 and 1. -/
  compareMode : Nat := 0
  autoRejoin : Bool := true
  /-- Mismatching blocks since PORST; in the second in progress (R473, R474). -/
  mismatches : Nat := 0
  mismatchSecond : Nat := 0
  /-- Bytes of the cut received (PAIR_STATUS). -/
  joinBytes : Nat := 0
  /-- m of the last takeover (PAIR_STATUS). Reset 0. -/
  lastTakeover : Nat := 0
  /-- A takeover is declared and waits for the next block boundary (R468). -/
  takeover : Bool := false
  /-- A failure is declared while the token line reads low (R468). -/
  averted : Bool := false
  /-- Planned hand-over at this media sample, with its mailbox and request (R471). -/
  switchAt : Option (Nat × Nat × Req) := none
  /-- Own compare CRCs, block and value, newest first (R473). -/
  ownCrc : List (Nat × Word) := []
  /-- RTP payloads produced in the block in progress, while comparing (R473). Reset empty. -/
  rtpOut : Bytes := []
  /-- PAIR_CHANGES and PAIR_ALERT bits (R543). Reset 0. -/
  changes : Word := 0
  alertRole : Bool := false
  alertState : Bool := false
  alertToken : Bool := false
  /-- Pair level of the partner's image (R532). Reset 1, log 2. -/
  partnerLevel : Nat := 1
  /-- Clusters and slices in service on the partner, as it last told (R462). -/
  partnerClusters : Nat := 16
  partnerSlices : Nat := 12
  /-- The partner reported its image staged (R531). Reset false. -/
  partnerStaged : Bool := false
  deriving DecidableEq, Repr, Inhabited

/-! ### Faults (18) -/

/-- A retirement in progress (R483): block f and its clusters. -/
structure Retire where
  f : Nat
  clusters : List Nat
  deriving DecidableEq, Repr, Inhabited

/-- A self test of FAULT_RESTORE: kind 1 cluster, 2 slice; index; its command; its end in local time (R488). -/
structure SelfTest where
  kind : Nat
  index : Nat
  mb : Fin 8
  req : Req
  doneAt : Nat
  deriving DecidableEq, Repr, Inhabited

/-- Fault counters and recovery steps (R477 to R490). -/
structure Faults where
  /-- Counts of FAULT_STATUS. Reset 0. -/
  sramCorr : Nat := 0
  sramUnc : Nat := 0
  localCorr : Nat := 0
  localUnc : Nat := 0
  lpddrUnc : Nat := 0
  poison : Nat := 0
  scrubs : Nat := 0
  retirements : Nat := 0
  sliceLosses : Nat := 0
  /-- Retirement in progress (R483). Reset none. -/
  retire : Option Retire := none
  /-- Nodes whose outputs hold (R377). Reset none. -/
  holds : List Hold := []
  /-- Slices that leave service at the next block boundary (R485). Reset none. -/
  sliceLost : List Nat := []
  /-- Slice hold in progress until this block (R208). Reset none. -/
  sliceHold : Option Nat := none
  /-- Instances whose state mirror holds an uncorrectable word (R480). Reset none. -/
  badMirrors : List Nat := []
  /-- Self tests running, oldest first (R488). Reset none. -/
  tests : List SelfTest := []
  /-- Units that passed and enter service at the next block boundary: kind and index. Reset none. -/
  restoring : List (Nat × Nat) := []
  /-- Armed injections: target and index (R488). Reset none. -/
  armed : List (Nat × Nat) := []
  /-- Errors in the block per latch source (R489). Reset 0. -/
  sramBlock : Nat := 0
  lpddrBlock : Nat := 0
  localBlock : List (Nat × Nat) := []
  /-- Corrected local-store errors of the last second: cluster, local time, count (R477). Reset none. -/
  localRecent : List (Nat × Nat × Nat) := []
  /-- Packets dropped for poison in the block: queue, consumer, count (R481). Reset empty. -/
  poisonBlock : List (Nat × Nat × Nat) := []
  deriving DecidableEq, Repr, Inhabited

/-! ### Power and resets (19) -/

inductive PowerState where
  | active
  | standby
  | sleep
  /-- Powered down after brown-out, thermal shutdown or sequencing failure, or powering up (R492 to R494). -/
  | down
  deriving DecidableEq, Repr, Inhabited

/-- A supply rail (R498 to R501). -/
structure Rail where
  setpoint : Nat
  voltage : Nat
  warn : Nat := 30
  reset : Nat := 60
  /-- STATE parameter: 0 off, 1 sequencing, 2 good, 3 below warning (R498). -/
  state : Nat := 2
  /-- Setpoint on which the levels in force rest, and the local time at which AVS raised the setpoint above it (R499). -/
  levelSet : Nat
  raisedAt : Option Nat := none
  /-- Local time of the last AVS step: at most one in 1 ms (R496). Reset none. -/
  stepAt : Option Nat := none
  /-- Dip in progress: minimum, m of its start, whether it owes PWR_WARN; end of the last dip (R500, R501). -/
  dip : Option (Nat × Nat × Bool) := none
  lastDipEnd : Option Nat := none
  /-- A throttle request of this rail is held; until this local time after the dip (R500). -/
  throttle : Bool := false
  deriving DecidableEq, Repr, Inhabited

/-- Setpoints of the rails in mV (R491): VDD_CORE at 720 within AVS's range and AUX_SENSE at 1800 within its own (log 2). -/
def railSetpoints : Vector Nat 16 :=
  #v[720, 750, 800, 800, 1800, 850, 850, 850, 750, 1200, 1800, 1050, 500, 1800, 3300, 1800]

/-- The rails as power-up leaves them: good, at their setpoints, default thresholds (R498). -/
def Rail.initial : Vector Rail 16 := railSetpoints.map fun mv => { setpoint := mv, voltage := mv, levelSet := mv }

/-- Power states, rails, resets (R491 to R517). -/
structure Power where
  state : PowerState := .active
  /-- Pending change: new state and its block-boundary sample (R506). Reset none. -/
  change : Option (PowerState × Nat) := none
  /-- Wake sources and GPIOs of the pending or present Sleep, timer seconds (PWR_STATE). Reset 0. -/
  wakeSources : Nat := 0
  wakeGpios : Nat := 0
  wakeSeconds : Nat := 0
  rails : Vector Rail 16 := Rail.initial
  /-- Throttle requests: thermal, host (rails hold their own) (R503). Reset none. -/
  thermReq : Bool := false
  hostReq : Bool := false
  /-- Throttle in force since this local time, with the causes seen (R503). Reset none. -/
  throttled : Option (Nat × Nat) := none
  /-- Junction temperature, 0.01 °C (R514). Live; reset 2500, log 2. -/
  tj : Int := 2500
  /-- PMU_STATUS.THERM_WARN (R514). Reset 0. -/
  thermWarn : Bool := false
  /-- Power-up sequencing: next pair, attempts failed in a row (R492, R493). Reset done. -/
  seqPair : Nat := 8
  seqFails : Nat := 0
  /-- Local time from which a retry, a power-up or cooling may go on. -/
  retryAt : Nat := 0
  /-- Shut down thermally: waits for Tj below 85 °C (R502). -/
  hot : Bool := false
  /-- Reset-cause log, newest first, at most 8: cause, detail, PMU_SECONDS (R513). Reset one cold power-up entry. -/
  log : List (Nat × Nat × Nat) := [(1, 0, 0)]
  /-- RST_CAUSE.LAST and DETAIL (R513). Reset 0x01, 0. -/
  lastCause : Nat := 1
  lastDetail : Nat := 0
  /-- ID_SCRATCH (R542). Reset 0. -/
  scratch : Word := 0
  deriving DecidableEq, Repr, Inhabited

/-- Identity, straps, access errors (R542). -/
structure Ident where
  /-- Straps (R450, R518, R534). Pins; reset PAIR_EN low, side A, flash boot, PCIe, log 2. -/
  straps : Straps := ⟨false, false, false, false⟩
  /-- ID_ACCESS_ERR (R542). Reset 0. -/
  errPartial : Bool := false
  errUnmapped : Bool := false
  errNotReady : Bool := false
  errQspi : Bool := false
  errOffset : Nat := 0
  deriving DecidableEq, Repr, Inhabited

/-- GPIO levels (R569, R570). -/
structure Gpio where
  /-- Level at the balls of inputs as last sampled. Reset 0, log 2. -/
  inputs : List (Nat × Bool) := []
  /-- Selected edges of the block in progress: GPIO, level and m of the first, and how many followed (R570). Reset none. -/
  edges : List (Nat × Bool × Nat × Nat) := []
  deriving DecidableEq, Repr, Inhabited

/-- Boundary scan (R571). Reset BYPASS and all 0, log 2. No row of the table reaches it. -/
structure Jtag where
  /-- Instruction register. -/
  ir : BitVec 4 := 0xF
  /-- Boundary register: 351 cells of input, output and enable. -/
  cells : List (BitVec 3) := List.replicate 351 0
  deriving DecidableEq, Repr, Inhabited

/-- A command that waits (R39, R71, R80): its opcode, mailbox and request. -/
structure Waiting where
  opcode : Nat
  mb : Nat
  req : Req
  /-- Packets of the bound position queue that were committed before its doorbell and are not applied yet (R237). -/
  ahead : Nat := 0
  deriving DecidableEq, Repr, Inhabited

/-- The framing of a running TDM port (R155, R158, R159). -/
structure Framing where
  /-- The device drives TDM_BCLK and TDM_FS. -/
  master : Bool
  /-- Bit clocks of a frame, and from the frame-start edge to the end of the sync and to the first bit of slot 0. -/
  length : Nat
  sync : Nat
  slot0 : Nat
  /-- A falling edge of TDM_FS starts the frame; data is driven on the rising edge of TDM_BCLK. -/
  falling : Bool
  rising : Bool
  deriving DecidableEq, Repr, Inhabited

/-- A PTP message as it leaves (R136, R138); stamps and corrections in 1/256 ns. -/
structure PtpSent where
  kind : PtpKind
  /-- 1 UDP over IPv4, whose checksum is sent as 0; 2 UDP over IPv6; 3 Ethernet. -/
  transport : Nat
  /-- Time stamp field of the message where the device writes one: the departure stamp in a one-step Sync, the receipt of the
  request in an answer. -/
  origin : Option Int
  /-- What the device adds to correctionField: the turnaround in a one-step Pdelay_Resp. -/
  correction : Int
  /-- The stamp that the Follow_Up or Pdelay_Resp_Follow_Up carries in two-step mode. -/
  followUp : Option Int
  /-- Bytes appended to the PTP payload, which keep the UDP checksum over IPv6 valid. -/
  appended : Nat
  /-- Path trace of an Announce under 802.1AS (R135). -/
  path : List (BitVec 64)
  deriving DecidableEq, Repr, Inhabited

/-- What the device has sent on its pins and attachments, newest first (the model's own transcript, log 11). -/
inductive Sent where
  /-- An MSI-X message of this vector (R125). -/
  | msix (vector : Nat)
  /-- An Ethernet frame on a port (R303). -/
  | frame (port : Nat) (bytes : Bytes)
  /-- A PTP message on a port (R138). -/
  | ptp (port : Nat) (p : PtpSent)
  /-- PPS_OUT: no longer driven, or at a level (R142); MCLK_OUT stopped low (0) or running at a frequency (R143). -/
  | ppsOut (level : Option Bool)
  | mclkOut (f : Nat)
  /-- Slot words shifted out on a TDM output channel in a block, most significant bit first (R163). -/
  | tdm (channel : Nat) (words : List Word)
  /-- A TDM port begins to run with this framing, or its balls no longer carry it (R155, R164). -/
  | tdmClocks (port : Nat) (f : Option Framing)
  /-- A PDM clock begins to run, or stops low (R168). -/
  | pdmClock (group : Nat) (on : Bool)
  /-- A GPIO ball driven to a level (R570). -/
  | gpio (g : Nat) (level : Bool)
  /-- A GPIO ball no longer driven (R570). -/
  | gpioFree (g : Nat)
  /-- Link blocks: TRAIN message and field, packet, CREDIT, REWIDTH, marker, HEARTBEAT (R425). -/
  | train (message : Nat) (field : Nat)
  | packet (vc seq length : Nat) (payload : PairPayload)
  | credit (c : CreditBlock)
  | rewidth (mask width : Nat)
  | marker (count : Nat)
  | heartbeat (h : Heartbeat)
  /-- Rows of blocks on the link's lanes, in the order they are sent (R424, R426). -/
  | lanes (rows : List (List LaneBlock))
  /-- PAIR_ALIVE_O toggled to a level; PAIR_TOKEN driven low or released (R465, R466). -/
  | alive (level : Bool)
  | token (drive : Bool)
  /-- A byte answered to a QSPI read status instruction (R550). -/
  | qspiStatus (b : Byte)
  /-- PMU_ENk driven to a level (R492, R494). -/
  | pmuEn (pair : Nat) (level : Bool)
  deriving DecidableEq, Repr, Inhabited

/-- The whole state. -/
structure State where
  /-- Commands that wait, first in, first out (the model's queue). Reset empty. -/
  pending : List Instr := []
  /-- Counter of free values drawn (the model's own, log 3). Reset 0, DESIGN CHOICE log 3. -/
  free : Nat := 0
  /-- What the device has sent (the model's own, log 11). Reset empty. -/
  sent : List Sent := []
  id : Ident := {}
  mbx : Vector Mbx 8 := Vector.replicate 8 {}
  /-- Commands that wait behind a recovery step or a waiting command, in doorbell order (R71, R80). Reset empty. -/
  deferred : List Waiting := []
  boot : Boot := {}
  evq : Evq := {}
  time : Time := {}
  /-- Live nodes that are created, or fixed and no longer at their defaults: node ID and node, ID rising (R82). Reset none. -/
  nodes : List (Nat × Node) := []
  /-- Nodes destroyed in this strobe period, as the engines still run them until its end (R88). Reset none. -/
  leaving : List (Nat × Node) := []
  /-- Connections (R94). Reset none. -/
  conns : List Conn := []
  /-- Changes for the next block boundary (R86). Reset none. -/
  pend : List Pend := []
  /-- Changes for the boundary after it: applied once the record of the next block is closed (R458). Reset none. -/
  pendLate : List Pend := []
  /-- Node and parameter of the changes that took effect at the boundary of this block: they were applied later than the
  commit of any Slab due there (R103). Reset none. -/
  setHere : List (Nat × Nat) := []
  /-- Enabled nodes as the engines run them in this strobe period, with the admission order of their enable (R86).
  Reset none. -/
  run : List (Nat × Nat) := []
  /-- Connections as the engines read them in this strobe period (R86). Reset none. -/
  wires : List Conn := []
  /-- Input channels, microphones and AES67 streams enabled (true) or disabled within this block, with the position (R146).
  Reset none. -/
  midway : List (Nat × Nat × Bool) := []
  /-- Enables and connections of the closed record of the next block (R458). Reset none. -/
  closedView : Option (List (Nat × Nat) × List Conn) := none
  slabs : List Slab := []
  /-- Slab commits and armed actions counted, for their order (R103, R144). Reset 0. -/
  commits : Nat := 0
  /-- Items that Slabs set at the last sample at which one took effect: sample, node, parameter, commit order (R103).
  Reset none. -/
  slabSet : List (Nat × Nat × Nat × Nat) := []
  /-- Block buffers that consumers read in this period: source node, output, samples (R16). Reset none. -/
  rd : List (Nat × Nat × List Int) := []
  /-- Block buffers that producers fill in this period, samples newest first (R16). Reset none. -/
  wr : List (Nat × Nat × List Int) := []
  front : Front := {}
  gal : Gallery := {}
  ren : Renderer := {}
  spk : SpkStage := {}
  cap : Capture := {}
  eth : Ethernet := {}
  voice : Voice := {}
  bench : Bench := {}
  mem : Memory := {}
  ash : List AshDyn := []
  link : Link := {}
  pair : Pair := {}
  faults : Faults := {}
  power : Power := {}
  gpio : Gpio := {}
  jtag : Jtag := {}
  deriving DecidableEq, Repr, Inhabited

/-- The machine right after a cold power-up: rails up, internal reset released, boot not yet begun (R492, R513, R519). -/
def State.reset : State := {}

end Sys2Proof.Machine
end

