-- ==== Sys2Proof/Machine/Bits.lean ====
section
/-! DEFINITION. Byte order, fields of payloads, rounding, keyed lists and the sparse byte memory. -/

namespace Sys2Proof.Machine

/-! ### Bytes (R9: little-endian) -/

/-- `v` as `n` bytes, least significant first, modulo 256^n. -/
def leBytes : Nat → Nat → Bytes
  | 0, _ => []
  | n + 1, v => BitVec.ofNat 8 v :: leBytes n (v / 256)

/-- The number that bytes in ascending order hold. -/
def leNat : Bytes → Nat
  | [] => 0
  | b :: r => b.toNat + 256 * leNat r

/-- `v` as `n` bytes, most significant first: network headers and signature records. -/
def beBytes (n v : Nat) : Bytes := (leBytes n v).reverse

def beNat (b : Bytes) : Nat := leNat b.reverse

/-- Two's complement of an n-byte number. -/
def toSigned (n v : Nat) : Int := if 2 * v < 256 ^ n then (v : Int) else (v : Int) - (256 ^ n : Nat)

/-- A signed value as n bytes of two's complement. -/
def leSigned (n : Nat) (v : Int) : Bytes := leBytes n ((v % (256 ^ n : Nat)).toNat)

/-- The n bytes at an offset, 0 beyond the end. -/
def slice (p : Bytes) (off n : Nat) : Bytes := (p.drop off).take n

def field (p : Bytes) (off n : Nat) : Nat := leNat (slice p off n)

def sfield (p : Bytes) (off n : Nat) : Int := toSigned n (field p off n)

def zeros (n : Nat) : Bytes := List.replicate n 0

/-- Cut or zero-pad to n bytes. -/
def padTo (n : Nat) (b : Bytes) : Bytes := b.take n ++ zeros (n - b.length)

/-- Byte count rounded up to a multiple of 4. -/
def align4 (n : Nat) : Nat := (n + 3) / 4 * 4

/-- Bytes with entry `off` on replaced. -/
def patch (b : Bytes) (off : Nat) (v : Bytes) : Bytes :=
  b.take off ++ v.take (b.length - off) ++ b.drop (off + v.length)

def bit (v i : Nat) : Bool := v.testBit i

def ofBool (b : Bool) : Nat := if b then 1 else 0

/-- Saturation of a count at a field's maximum. -/
def satN (top v : Nat) : Nat := if v ≤ top then v else top

def clampI (lo hi v : Int) : Int := if v < lo then lo else if hi < v then hi else v

def u32max : Nat := 0xFFFFFFFF

/-! ### Rounding and Q formats (R11) -/

/-- Quotient rounded to nearest, halves to even. -/
def divEven (a : Int) (b : Nat) : Int :=
  let q := a / (b : Int)
  let r := (a % (b : Int)).toNat
  if 2 * r < b then q else if b < 2 * r then q + 1 else if q % 2 = 0 then q else q + 1

/-- Quotient rounded to nearest, halves away from zero. -/
def divAway (a : Int) (b : Nat) : Int :=
  let q := (2 * a.natAbs + b) / (2 * b)
  if a < 0 then -(q : Int) else q

/-- Quotient rounded up. -/
def ceilDiv (a b : Nat) : Nat := (a + b - 1) / b

def q31max : Int := 2147483647
def q31min : Int := -2147483648

/-- Saturation to Q1.31. -/
def sat31 (v : Int) : Int := clampI q31min q31max v

def isqrtGo : Nat → Nat → Nat → Nat
  | 0, _, r => r
  | n + 1, v, r => let c := r + 2 ^ n; isqrtGo n v (if c * c ≤ v then c else r)

/-- Integer square root, rounded down, of numbers below 4^n. -/
def isqrt (n v : Nat) : Nat := isqrtGo n v 0

/-! ### Levels in 0.01 dB -/

/-- k · 0.01 dB is at most 10 log₁₀(num / den): 10^k · den^1000 ≤ num^1000. -/
def levelLe (k : Int) (num den : Nat) : Bool :=
  if 0 ≤ k then 10 ^ k.toNat * den ^ 1000 ≤ num ^ 1000 else den ^ 1000 ≤ num ^ 1000 * 10 ^ k.natAbs

/-- The largest such k among `base` to base + 2^n - 1, when base is one. -/
def levelSearch (num den : Nat) : Nat → Int → Int
  | 0, base => base
  | n + 1, base => levelSearch num den n (if levelLe (base + 2 ^ n) num den then base + 2 ^ n else base)

/-- 10 log₁₀(num / den) in 0.01 dB, rounded down, from -65,536 to 65,535. -/
def levelFloor (num den : Nat) : Int := levelSearch num den 17 (-65536)

/-- 10 log₁₀(num / den) in 0.01 dB: exact where a whole number, else one of its two neighbours (log 6). -/
def levelOf (num den : Nat) : Int :=
  let k := levelFloor num den
  let exact := if 0 ≤ k then 10 ^ k.toNat * den ^ 1000 == num ^ 1000 else den ^ 1000 == num ^ 1000 * 10 ^ k.natAbs
  if !exact && Config.levelUp num den then k + 1 else k

/-- 10 log₁₀(num / den) rounded to the nearest 0.01 dB (R284); a tie is impossible, since 10^(2k + 1) is no power of 2000. -/
def levelNearest (num den : Nat) : Int :=
  let k := levelFloor num den
  let e := 2 * k + 1
  let up := if 0 ≤ e then 10 ^ e.toNat * den ^ 2000 ≤ num ^ 2000 else den ^ 2000 ≤ num ^ 2000 * 10 ^ e.natAbs
  if up then k + 1 else k

/-! ### Keyed lists -/

/-- The entry of key k. -/
def findKey {α : Type} (key : α → Nat) (k : Nat) (l : List α) : Option α := l.find? fun x => key x == k

/-- Replace the entry of x's key, or insert x keeping keys rising. -/
def putKey {α : Type} (key : α → Nat) (x : α) : List α → List α
  | [] => [x]
  | y :: r =>
    if key x = key y then x :: r else if key x < key y then x :: y :: r else y :: putKey key x r

def dropKey {α : Type} (key : α → Nat) (k : Nat) (l : List α) : List α := l.filter fun x => key x != k

/-- Association lists with rising keys. -/
def getA {β : Type} (k : Nat) (l : List (Nat × β)) : Option β := (l.find? fun x => x.1 == k).map (·.2)

def setA {β : Type} (k : Nat) (v : β) (l : List (Nat × β)) : List (Nat × β) := putKey (·.1) (k, v) l

def delA {β : Type} (k : Nat) (l : List (Nat × β)) : List (Nat × β) := l.filter fun x => x.1 != k

/-- Write a value into a sparse association list that lists no default. -/
def setSparse {β : Type} [BEq β] (dflt : β) (k : Nat) (v : β) (l : List (Nat × β)) : List (Nat × β) :=
  if v == dflt then delA k l else setA k v l

/-- The lowest natural number below `bound` that is not listed. -/
def lowestFree (used : List Nat) (bound : Nat) : Option Nat := (List.range bound).find? fun i => !used.contains i

/-- Sum of a list. -/
def sumN (l : List Nat) : Nat := l.foldl (· + ·) 0

def sumI (l : List Int) : Int := l.foldl (· + ·) 0

/-- Repeat a state change. -/
def times {α : Type} : Nat → (α → α) → α → α
  | 0, _, x => x
  | n + 1, f, x => times n f (f x)

/-! ### Sparse byte memory (log 10) -/

/-- Read one byte: an unlisted address reads 0. -/
def Mem.read : Mem → Nat → Byte
  | [], _ => 0
  | c :: r, a => if c.1 = a then c.2 else Mem.read r a

/-- Remove an address. -/
def Mem.erase : Mem → Nat → Mem
  | [], _ => []
  | c :: r, a => if c.1 = a then r else if a < c.1 then c :: r else c :: Mem.erase r a

/-- Insert a listed byte at its place. -/
def Mem.insert : Mem → Nat → Byte → Mem
  | [], a, b => [(a, b)]
  | c :: r, a, b =>
    if c.1 = a then (a, b) :: r else if a < c.1 then (a, b) :: c :: r else c :: Mem.insert r a b

/-- Write one byte: writing what an unlisted address reads removes the entry. -/
def Mem.write (m : Mem) (a : Nat) (b : Byte) : Mem := if b = 0 then m.erase a else m.insert a b

/-- Write bytes at ascending addresses. -/
def Mem.writeBytes : Mem → Nat → Bytes → Mem
  | m, _, [] => m
  | m, a, b :: r => Mem.writeBytes (m.write a b) (a + 1) r

/-- The memory that holds these cells, the last of equal addresses. -/
def Mem.ofCells (l : List Host.Cell) : Mem := l.foldl (fun m c => m.write c.1 c.2) []

/-- Read n bytes at ascending addresses. -/
def Mem.readBytes (m : Mem) (a n : Nat) : Bytes := (List.range n).map fun i => m.read (a + i)

/-- Addresses rise strictly above `lo`, and no listed byte is 0. -/
def Mem.wfFrom : Option Nat → Mem → Bool
  | _, [] => true
  | lo, c :: r => (match lo with | none => true | some l => l < c.1) && c.2 != 0 && Mem.wfFrom (some c.1) r

/-- The canonical form: addresses strictly rising, no entry equal to what an unlisted address reads as. -/
def Mem.wf (m : Mem) : Bool := Mem.wfFrom none m

end Sys2Proof.Machine
end

