-- ==== Sys2Proof/Machine/Operands.lean ====
section
/-! DEFINITION. Operand forms: node IDs and types (R82, R83), parameter tables with lengths, legal values and defaults of
every node type, parameter items (R90), creation records, kernel image headers (R371). -/

namespace Sys2Proof.Machine

/-! ### Node identifiers -/

def nodeType (id : Nat) : Nat := id / 0x1000000
def nodeIdx (id : Nat) : Nat := id % 0x1000000
def mkNode (t i : Nat) : Nat := t * 0x1000000 + i

namespace Ty
def call : Nat := 0x01
def rtp : Nat := 0x02
def aes : Nat := 0x03
def tdmPort : Nat := 0x04
def tdmCh : Nat := 0x05
def mic : Nat := 0x06
def beam : Nat := 0x07
def galIn : Nat := 0x08
def galOut : Nat := 0x09
def obj : Nat := 0x0A
def spk : Nat := 0x0B
def zone : Nat := 0x0C
def tone : Nat := 0x0D
def queue : Nat := 0x0E
def kernel : Nat := 0x0F
def slab : Nat := 0x10
def action : Nat := 0x11
def ash : Nat := 0x12
def session : Nat := 0x13
def eth : Nat := 0x14
def link : Nat := 0x15
def rail : Nat := 0x16
def gpio : Nat := 0x17
end Ty

/-- Types whose nodes exist from reset, with the number of their nodes (R83). -/
def fixedCount (rate96 : Bool) (t : Nat) : Nat :=
  if t = Ty.tdmPort then 32 else if t = Ty.tdmCh then 2048 else if t = Ty.mic then 256
  else if t = Ty.galIn then 4096 else if t = Ty.galOut then (if rate96 then 2048 else 4096)
  else if t = Ty.queue then 128 else if t = Ty.session then 8 else if t = Ty.eth then 4
  else if t = Ty.link then 1 else if t = Ty.rail then 16 else if t = Ty.gpio then 32 else 0

def fixedTypes : List Nat :=
  [Ty.tdmPort, Ty.tdmCh, Ty.mic, Ty.galIn, Ty.galOut, Ty.queue, Ty.session, Ty.eth, Ty.link, Ty.rail, Ty.gpio]

def isFixed (t : Nat) : Bool := fixedTypes.contains t

/-- Types that NODE_CREATE makes. -/
def createdTypes : List Nat :=
  [Ty.call, Ty.rtp, Ty.aes, Ty.beam, Ty.obj, Ty.spk, Ty.zone, Ty.tone, Ty.kernel, Ty.ash]

def isCreated (t : Nat) : Bool := createdTypes.contains t

/-- Number of indices of a created type (R82, R83); kernel instances to the live-node limit. -/
def indexCount (rate96 : Bool) (t : Nat) : Nat :=
  if t = Ty.call ∨ t = Ty.rtp then 8192 else if t = Ty.aes then 1024 else if t = Ty.beam then 256
  else if t = Ty.obj ∨ t = Ty.spk then (if rate96 then 512 else 1024) else if t = Ty.zone then 64
  else if t = Ty.tone then 9216 else if t = Ty.kernel then 131072 else if t = Ty.ash then 64 else 0

/-- R84: the live-node limit. -/
def liveLimit : Nat := 131072

/-- R84: the fixed nodes number 10,718 at 48 kHz and 8,670 at 96 kHz; node ID 0, the control processor, counts. -/
def fixedNodes (rate96 : Bool) : Nat := 1 + sumN (fixedTypes.map (fixedCount rate96))

/-! ### Legal values -/

def isNat (lo hi : Nat) (b : Bytes) : Bool := lo ≤ leNat b && leNat b ≤ hi

def isInt (lo hi : Int) (b : Bytes) : Bool := lo ≤ toSigned b.length (leNat b) && toSigned b.length (leNat b) ≤ hi

def isOf (l : List Nat) (b : Bytes) : Bool := l.contains (leNat b)

def isAny (_ : Bytes) : Bool := true

/-- Three finite binary32 numbers of magnitude at most 1000.0 (R212, R218). -/
def isVec (b : Bytes) : Bool :=
  (List.range 3).all fun i => field b (4 * i) 4 % 0x80000000 ≤ 0x447A0000

/-- A binary32 number from 0.01 to 100.0 (R218). -/
def isBlur (b : Bytes) : Bool := isNat 0x3C23D70A 0x42C80000 b

/-- A MIC_FILTER value (R270): delay 0 to 480, reserved bytes 0, any taps. -/
def isMicFilter (b : Bytes) : Bool := field b 0 2 ≤ 480 && field b 2 2 = 0

/-- A crosspoint entry (R190): bits [31:29] are 0. -/
def isXp (b : Bytes) : Bool := leNat b < 0x20000000

/-- A station address: unicast, that is bit 0 of byte 0 clear. -/
def isUnicast (b : Bytes) : Bool := !(b.getD 0 0).getLsbD 0

/-- 0 or a host queue (R297). -/
def isQueueOr0 (lo : Nat) (b : Bytes) : Bool :=
  leNat b = 0 || (mkNode Ty.queue lo ≤ leNat b && leNat b ≤ mkNode Ty.queue (lo + 7))

/-- One parameter of a node type. -/
structure Par where
  id : Nat
  len : Nat
  legal : Bytes → Bool := isAny
  dflt : Nat := 0
  /-- Fixed while enabled. -/
  fixed : Bool := false
  slab : Bool := false
  /-- Read-only: a live value (livePar? in Nodes.lean). -/
  ro : Bool := false

def twos2 (v : Int) : Nat := (v % 65536).toNat

/-! ### Parameter tables -/

def parsTdmPort : List Par := [
  { id := 1, len := 1, legal := isNat 0 1, dflt := 1, fixed := true },
  { id := 2, len := 1, legal := isNat 1 32, dflt := 8, fixed := true },
  { id := 3, len := 1, legal := isNat 0 2, dflt := 1, fixed := true },
  { id := 4, len := 1, legal := isNat 0 2, fixed := true },
  { id := 5, len := 1, legal := isNat 0 1, fixed := true },
  { id := 6, len := 1, legal := isNat 0 1, dflt := 1, fixed := true },
  { id := 7, len := 1, legal := isNat 0 1, fixed := true },
  { id := 8, len := 1, legal := isNat 0 1 },
  { id := 9, len := 1, legal := isNat 0 1, fixed := true },
  { id := 10, len := 4, ro := true }, { id := 11, len := 4, ro := true }, { id := 12, len := 4, ro := true }]

def parsMic : List Par := [
  { id := 1, len := 1, legal := isNat 0 5, slab := true },
  { id := 2, len := 2, legal := isOf [16, 32, 64, 128, 256], dflt := 64 },
  { id := 3, len := 1, legal := isNat 0 2, fixed := true },
  { id := 4, len := 1, legal := isNat 0 1, fixed := true },
  { id := 5, len := 1, legal := isNat 0 1, fixed := true },
  { id := 6, len := 4, ro := true }, { id := 7, len := 4, ro := true }]

def parsGalOut : List Par := [
  { id := 1, len := 1, legal := isNat 0 1, slab := true },
  { id := 2, len := 2, legal := isInt (-4800) 0, dflt := twos2 (-100), slab := true },
  { id := 3, len := 1, legal := isNat 0 64, fixed := true },
  { id := 4, len := 2, legal := isNat 1 5000, dflt := 100, slab := true },
  { id := 5, len := 4, ro := true }, { id := 6, len := 2, ro := true },
  { id := 7, len := 4, ro := true }, { id := 8, len := 1, ro := true }]

def parsObj : List Par := [
  { id := 1, len := 12, legal := isVec, slab := true },
  { id := 2, len := 2, legal := fun b => isInt (-9600) 0 b || leNat b = 0x8000, slab := true },
  { id := 3, len := 2, legal := isNat 0 1024, dflt := 256, slab := true },
  { id := 4, len := 4, legal := isBlur, dflt := 0x3E4CCCCD, slab := true },
  { id := 5, len := 1, legal := isNat 1 64, dflt := 8, slab := true },
  { id := 6, len := 1, legal := isNat 0 2, slab := true },
  { id := 7, len := 4, legal := isNat 0 0x12C00000, slab := true },
  { id := 8, len := 8, dflt := 0xFFFFFFFFFFFFFFFF, slab := true },
  { id := 16, len := 4, ro := true }, { id := 17, len := 4, ro := true }, { id := 18, len := 4, ro := true }]

def parsSpk : List Par := [
  { id := 1, len := 12, legal := isVec, fixed := true },
  { id := 2, len := 1, legal := fun b => isNat 0 63 b || leNat b = 0xFF, dflt := 0xFF, slab := true },
  { id := 3, len := 2, legal := isInt (-2400) 600, slab := true },
  { id := 0x100, len := 2, legal := isNat 0 4800, slab := true },
  { id := 0x101, len := 2, legal := isInt (-9600) 1200, slab := true },
  { id := 0x102, len := 1, legal := isNat 0 1, slab := true },
  { id := 0x103, len := 1, legal := isNat 0 1, slab := true },
  { id := 0x104, len := 1, legal := isNat 0 1, slab := true },
  { id := 0x105, len := 2, legal := isInt (-4800) 0, dflt := twos2 (-100), slab := true },
  { id := 0x106, len := 1, legal := isNat 0 64, fixed := true },
  { id := 0x107, len := 2, legal := isNat 1 5000, dflt := 100, slab := true },
  { id := 0x108, len := 2, legal := isOf [0, 256, 8192], fixed := true },
  { id := 0x109, len := 1, legal := isNat 0 2, slab := true },
  { id := 0x10A, len := 2, legal := isOf [64, 128, 256, 512, 1024, 2048], dflt := 256, slab := true },
  { id := 0x10B, len := 8, ro := true }, { id := 0x10C, len := 4, ro := true },
  { id := 0x10D, len := 2, ro := true }, { id := 0x10E, len := 2, ro := true }]

def parsZone : List Par := [
  { id := 1, len := 2, legal := isInt (-4800) 0, slab := true },
  { id := 2, len := 2, ro := true }, { id := 3, len := 2, ro := true }, { id := 4, len := 4, ro := true }]

def parsBeam : List Par := [
  { id := 1, len := 1, legal := isNat 0 1, fixed := true },
  { id := 2, len := 2, legal := isNat 0 4800, fixed := true },
  { id := 3, len := 1, legal := isNat 0 1, dflt := 1, slab := true },
  { id := 4, len := 2, legal := isNat 1 4096, dflt := 1024, slab := true },
  { id := 5, len := 2, legal := isInt (-1000) 2000, dflt := 600, slab := true },
  { id := 6, len := 2, legal := isNat 0 1000, dflt := 50, slab := true },
  { id := 7, len := 1, legal := isNat 0 1, slab := true },
  { id := 8, len := 2, legal := isNat 0 10000, dflt := 1000, slab := true },
  { id := 9, len := 1, legal := isNat 0 1, fixed := true },
  { id := 10, len := 1, legal := isNat 0 40, dflt := 18, slab := true },
  { id := 11, len := 1, legal := isNat 0 1, dflt := 1, slab := true },
  { id := 12, len := 1, legal := fun b => isNat 0 15 b || leNat b = 0xFF, dflt := 0xFF, slab := true },
  { id := 13, len := 2, legal := isOf [16, 32, 64, 128, 256], dflt := 64, slab := true },
  { id := 16, len := 4, ro := true }, { id := 17, len := 2, ro := true },
  { id := 18, len := 2, ro := true }, { id := 19, len := 4, ro := true }]

def parsEth : List Par := [
  { id := 1, len := 1, legal := isNat 1 2, dflt := 2, fixed := true },
  { id := 2, len := 1, legal := isNat 0 1, fixed := true },
  { id := 3, len := 6, legal := isUnicast, fixed := true },
  { id := 4, len := 6, legal := isUnicast, fixed := true },
  { id := 5, len := 2, legal := isNat 1518 9216, dflt := 1522, fixed := true },
  { id := 6, len := 4, legal := isQueueOr0 0 }, { id := 7, len := 4, legal := isQueueOr0 8 },
  { id := 16, len := 1, ro := true }]

def parsRtp : List Par := [
  { id := 1, len := 1, legal := isNat 0 3, fixed := true },
  { id := 2, len := 1, legal := isNat 0 7, fixed := true },
  { id := 3, len := 1, legal := isNat 1 3, fixed := true },
  { id := 4, len := 1, legal := isNat 0 15, fixed := true },
  { id := 5, len := 2, legal := fun b => isNat 1024 65534 b && leNat b % 2 = 0, fixed := true },
  { id := 6, len := 2 }, { id := 7, len := 16 }, { id := 8, len := 4, fixed := true },
  { id := 9, len := 1, legal := isNat 0 127 },
  { id := 10, len := 1, legal := fun b => isNat 96 127 b || leNat b = 0xFF },
  { id := 11, len := 1, legal := isNat 0 63 },
  { id := 12, len := 2, fixed := true }, { id := 13, len := 1, legal := isNat 0 1 },
  { id := 14, len := 4, fixed := true },
  { id := 15, len := 2, legal := isNat 0 500 }, { id := 16, len := 2, legal := isNat 0 500 },
  { id := 17, len := 2, legal := isNat 0 500 },
  { id := 18, len := 4 }, { id := 19, len := 2, legal := isNat 1 60, dflt := 5 },
  { id := 20, len := 2, legal := fun b => leNat b = 0 || isNat 100 60000 b, dflt := 2000 },
  { id := 21, len := 16 }]

def parsAes : List Par := [
  { id := 1, len := 1, legal := isNat 0 3, fixed := true }, { id := 2, len := 1, legal := isNat 0 7, fixed := true },
  { id := 3, len := 1, legal := isNat 1 2, fixed := true }, { id := 4, len := 1, legal := isNat 1 8, fixed := true },
  { id := 5, len := 1, legal := isNat 0 1, fixed := true }, { id := 6, len := 1, legal := isNat 0 4, fixed := true },
  { id := 7, len := 1, legal := isNat 96 127, fixed := true }, { id := 8, len := 1, legal := isNat 0 63, fixed := true },
  { id := 9, len := 16, fixed := true }, { id := 10, len := 16, fixed := true },
  { id := 11, len := 2, legal := isNat 1024 65535, fixed := true },
  { id := 12, len := 1, legal := isNat 0 3, fixed := true }, { id := 13, len := 4, fixed := true },
  { id := 14, len := 2, legal := isNat 0 4800, fixed := true },
  { id := 15, len := 2, fixed := true }, { id := 16, len := 4, fixed := true }]

def parsCall : List Par := [
  { id := 1, len := 1, legal := isNat 1 10, dflt := 1 },
  { id := 2, len := 1, legal := isOf [10, 20], dflt := 20, fixed := true },
  { id := 3, len := 1, legal := isNat 0 2 },
  { id := 4, len := 1, legal := fun b => isNat 0 127 b || leNat b = 0xFF, dflt := 0xFF },
  { id := 5, len := 1, legal := isNat 0 1 },
  { id := 6, len := 2, legal := fun b => leNat b = 0 || isNat 6 128 b },
  { id := 7, len := 1, legal := isNat 0 2 }, { id := 8, len := 2, legal := isNat 0 400 },
  { id := 9, len := 1, legal := isNat 0 1, dflt := 1 },
  { id := 10, len := 2, legal := isInt (-2400) 1200, slab := true },
  { id := 11, len := 2, legal := isInt (-2400) 1200, slab := true },
  { id := 12, len := 1, legal := isNat 0 1 }, { id := 13, len := 1, legal := isNat 1 3, dflt := 1 },
  { id := 16, len := 4, ro := true }, { id := 17, len := 2, ro := true },
  { id := 18, len := 2, ro := true }, { id := 19, len := 4, ro := true }]

def parsTone : List Par := [
  { id := 1, len := 1, ro := true },
  { id := 2, len := 2, legal := isInt (-4500) (-2000), dflt := twos2 (-3600) },
  { id := 3, len := 1, legal := isNat 0 1, dflt := 1 }, { id := 16, len := 4, ro := true }]

def parsKernel : List Par := [
  { id := 1, len := 1, ro := true },
  { id := 2, len := 1, legal := fun b => isNat 0 15 b || leNat b = 0xFF, dflt := 0xFF, fixed := true },
  { id := 3, len := 4, ro := true }, { id := 4, len := 4, ro := true },
  { id := 5, len := 4, ro := true }, { id := 6, len := 4, ro := true }]

def parsAsh : List Par := [
  { id := 1, len := 1, legal := isNat 1 2, fixed := true }, { id := 2, len := 1, legal := isNat 1 2, fixed := true },
  { id := 3, len := 1, legal := isNat 0 1, fixed := true }, { id := 4, len := 1, legal := isNat 0 2, fixed := true },
  { id := 5, len := 1, legal := isOf [0, 1, 2, 4, 8], fixed := true },
  { id := 16, len := 1, ro := true }, { id := 17, len := 4, ro := true },
  { id := 18, len := 4, ro := true }, { id := 19, len := 8, ro := true }]

def parsLink : List Par := [
  { id := 1, len := 1, legal := isNat 0 6, dflt := 6, fixed := true },
  { id := 2, len := 1, legal := isNat 1 255, dflt := 0xFF, fixed := true },
  { id := 3, len := 2, legal := isNat 0 1000 }, { id := 4, len := 2, legal := isNat 1 65535, dflt := 4 },
  { id := 16, len := 1, ro := true }, { id := 17, len := 1, ro := true }, { id := 18, len := 1, ro := true },
  { id := 19, len := 8, ro := true }, { id := 20, len := 8, ro := true }, { id := 21, len := 1, ro := true },
  { id := 22, len := 4, ro := true }]

def parsRail : List Par := [
  { id := 1, len := 2, legal := isNat 10 50, dflt := 30 }, { id := 2, len := 2, legal := isNat 20 100, dflt := 60 },
  { id := 16, len := 2, ro := true }, { id := 17, len := 2, ro := true }, { id := 18, len := 4, ro := true },
  { id := 19, len := 1, ro := true }]

def parsGpio : List Par := [
  { id := 1, len := 1, legal := isNat 0 1, fixed := true }, { id := 2, len := 1, legal := isNat 0 1, slab := true },
  { id := 3, len := 1, legal := isNat 0 2 }, { id := 4, len := 1, legal := isNat 0 1, fixed := true },
  { id := 5, len := 1, legal := isNat 0 3 }, { id := 16, len := 1, ro := true }]

/-- Parameters below 0x1000 of a type, by rising ID (R92). -/
def parsOf (t : Nat) : List Par :=
  if t = Ty.call then parsCall else if t = Ty.rtp then parsRtp else if t = Ty.aes then parsAes
  else if t = Ty.tdmPort then parsTdmPort else if t = Ty.mic then parsMic else if t = Ty.beam then parsBeam
  else if t = Ty.galIn then [{ id := 1, len := 2, ro := true }] else if t = Ty.galOut then parsGalOut
  else if t = Ty.obj then parsObj else if t = Ty.spk then parsSpk else if t = Ty.zone then parsZone
  else if t = Ty.tone then parsTone else if t = Ty.kernel then parsKernel else if t = Ty.ash then parsAsh
  else if t = Ty.eth then parsEth else if t = Ty.link then parsLink else if t = Ty.rail then parsRail
  else if t = Ty.gpio then parsGpio else []

/-! ### Parameter items (R90) -/

/-- Parse a payload of parameter items: each with its padding; `none` when one is malformed. The fuel is the length. -/
def parseItems : Nat → Bytes → Option (List (Nat × Bytes))
  | 0, p => if p.isEmpty then some [] else none
  | n + 1, p =>
    if p.isEmpty then some []
    else
      let len := field p 2 2
      let whole := 4 + align4 len
      if p.length < whole then none
      else if (slice p (4 + len) (align4 len - len)).any (· != 0) then none
      else (parseItems n (p.drop whole)).map fun r => (field p 0 2, slice p 4 len) :: r

def itemsOf (p : Bytes) : Option (List (Nat × Bytes)) := parseItems p.length p

/-- One parameter item as it stands in a response. -/
def itemBytes (pid : Nat) (v : Bytes) : Bytes := leBytes 2 pid ++ leBytes 2 v.length ++ padTo (align4 v.length) v

/-! ### Creation records: parameter ID, offset, length; reserved ranges -/

structure Record where
  len : Nat
  fields : List (Nat × Nat × Nat)
  reserved : List (Nat × Nat)

def recordOf (t : Nat) : Record :=
  if t = Ty.call then
    ⟨16, [(1, 0, 1), (2, 1, 1), (7, 2, 1), (3, 3, 1), (4, 4, 1), (5, 5, 1), (6, 6, 2), (8, 8, 2)], [(10, 6)]⟩
  else if t = Ty.rtp then
    ⟨48, [(1, 0, 1), (2, 1, 1), (3, 2, 1), (4, 3, 1), (5, 4, 2), (6, 6, 2), (7, 8, 16), (8, 24, 4), (9, 28, 1),
      (10, 29, 1), (11, 30, 1), (12, 32, 2), (13, 34, 1), (14, 36, 4), (15, 40, 2), (16, 42, 2), (17, 44, 2)],
      [(31, 1), (35, 1), (46, 2)]⟩
  else if t = Ty.aes then
    ⟨56, [(1, 0, 1), (2, 1, 1), (3, 2, 1), (4, 3, 1), (5, 4, 1), (6, 5, 1), (7, 6, 1), (8, 7, 1), (9, 8, 16),
      (10, 24, 16), (11, 40, 2), (12, 42, 1), (13, 44, 4), (14, 48, 2), (15, 50, 2), (16, 52, 4)], [(43, 1)]⟩
  else if t = Ty.beam then ⟨8, [(1, 0, 1), (9, 1, 1), (12, 2, 1), (2, 4, 2)], [(3, 1), (6, 2)]⟩
  else if t = Ty.obj then
    ⟨36, [(1, 0, 12), (2, 12, 2), (3, 14, 2), (4, 16, 4), (5, 20, 1), (6, 21, 1), (7, 24, 4), (8, 28, 8)], [(22, 2)]⟩
  else if t = Ty.spk then
    ⟨24, [(1, 0, 12), (2, 12, 1), (3, 14, 2), (0x100, 16, 2), (0x101, 18, 2), (0x108, 20, 2), (0x102, 22, 1)],
      [(13, 1), (23, 1)]⟩
  else if t = Ty.zone then ⟨4, [(1, 0, 2)], [(2, 2)]⟩
  else if t = Ty.tone then ⟨4, [(1, 0, 1)], [(1, 3)]⟩
  else if t = Ty.kernel then ⟨8, [(1, 0, 1), (2, 1, 1)], [(2, 6)]⟩
  else if t = Ty.ash then ⟨8, [(1, 0, 1), (2, 1, 1), (3, 2, 1), (4, 3, 1), (5, 4, 1)], [(5, 3)]⟩
  else ⟨0, [], []⟩

/-- Every byte of the ranges is 0. -/
def reservedZero (p : Bytes) (l : List (Nat × Nat)) : Bool := l.all fun r => (slice p r.1 r.2).all (· == 0)

/-! ### Kernel images (R371) -/

/-- The 64-byte header of an image. -/
structure KrnHeader where
  magic : Nat
  format : Nat
  flags : Nat
  lines : Nat
  length : Nat
  crc : Nat
  kernelId : Nat
  cost48 : Nat
  cost96 : Nat
  inputs : Nat
  outputs : Nat
  delay : Nat
  rsvd1 : Nat
  code : Nat
  const : Nat
  state : Nat
  scratch : Nat
  words : Nat
  rsvd2 : Nat
  main : Nat
  init : Nat
  deriving DecidableEq, Repr, Inhabited

def krnHeader (h : Bytes) : KrnHeader :=
  { magic := field h 0 4, format := field h 4 2, flags := field h 6 1, lines := field h 7 1, length := field h 8 4,
    crc := field h 12 4, kernelId := field h 16 4, cost48 := field h 20 4, cost96 := field h 24 4,
    inputs := field h 28 2, outputs := field h 30 2, delay := field h 32 2, rsvd1 := field h 34 2,
    code := field h 36 4, const := field h 40 4, state := field h 44 4, scratch := field h 48 4,
    words := field h 52 2, rsvd2 := field h 54 2, main := field h 56 4, init := field h 60 4 }

/-- The image slot. -/
def ImageSlot.of (slots : List ImageSlot) (n : Nat) : ImageSlot :=
  (findKey ImageSlot.slot n slots).getD { slot := n }

def ImageSlot.header (s : ImageSlot) : KrnHeader := krnHeader (s.bytes.readBytes 0 64)

/-- Line i of the table: offset in the state area, maximum and default length. -/
def ImageSlot.line (s : ImageSlot) (i : Nat) : Nat × Nat × Nat :=
  let b := s.bytes.readBytes (64 + 12 * i) 12
  (field b 0 4, field b 4 4, field b 8 4)

/-- Offsets in the image of code, constants and parameter defaults. -/
def ImageSlot.codeAt (s : ImageSlot) : Nat := 64 + 12 * s.header.lines
def ImageSlot.constAt (s : ImageSlot) : Nat := s.codeAt + s.header.code
def ImageSlot.wordsAt (s : ImageSlot) : Nat := s.constAt + s.header.const

def round512 (n : Nat) : Nat := (n + 511) / 512 * 512

/-- Region bytes of R360 at a primary rate: `samples` is S7. -/
def KrnHeader.region (h : KrnHeader) (samples : Nat) : Nat :=
  round512 h.code + round512 h.const + round512 (8 * h.words) + round512 h.state + round512 h.scratch
    + round512 (4 * samples * h.inputs) + round512 (4 * samples * h.outputs)

/-- Samples per block of a channel (R17). -/
def spb (rate96 : Bool) : Nat := if rate96 then 32 else 16

/-! ### Codecs (R331) -/

/-- Codec rate in Hz of a codec and LINEAR_RATE. -/
def codecRate (codec linear : Nat) : Nat :=
  if codec = 3 ∨ codec = 7 then 16000 else if codec = 8 then 48000
  else if codec = 9 ∨ codec = 10 then (if linear = 0 then 8000 else if linear = 1 then 16000 else 48000) else 8000

def codecClock (codec linear : Nat) : Nat :=
  if 6 ≤ codec ∧ codec ≤ 8 then 48000 else if codec = 3 then 8000 else codecRate codec linear

def codecCost (codec : Nat) : Nat :=
  [0, 1, 1, 6, 4, 12, 30, 45, 90, 1, 1].getD codec 0

/-- OPUS_BITRATE range of the bandwidth (R336). -/
def opusRange (codec : Nat) : Nat × Nat :=
  if codec = 6 then (6, 24) else if codec = 7 then (12, 48) else (24, 128)

end Sys2Proof.Machine
end

