-- ==== Sys2Proof/Machine/BenchCode.lean ====
section
/-! DEFINITION. The instruction set of the Bench (R359 to R370): the context, the encoding of R367, and what each
instruction of R368 does to the context of one invocation. -/

namespace Sys2Proof.Machine

/-! ### Encoding (R367) -/

/-- The fields of an instruction word: class, operation, and the operand fields. -/
structure Code where
  cls : Nat
  op : Nat
  w : IWord
  deriving DecidableEq, Repr, Inhabited

def Code.ofWord (v : BitVec 64) : Code :=
  { cls := (v.extractLsb' 60 4).toNat, op := (v.extractLsb' 54 6).toNat,
    w := { d := v.extractLsb' 49 5, a := v.extractLsb' 44 5, b := v.extractLsb' 39 5, m := v.extractLsb' 36 3,
           x := v.extractLsb' 32 4, imm := v.extractLsb' 0 32 } }

/-- Which fields an operation uses, with the bound of each (0: not used, must be 0), and whether D is even or not 0. -/
structure Fields where
  d : Nat := 0
  a : Nat := 0
  b : Nat := 0
  m : Bool := false
  x : Nat := 0
  imm : Bool := false
  pair : Bool := false
  fromOne : Bool := false

def below (n v : Nat) : Bool := if n = 0 then v = 0 else v < n

/-- The field checks of R367. -/
def Fields.ok (f : Fields) (w : IWord) : Bool :=
  below f.d w.d.toNat && below f.a w.a.toNat && below f.b w.b.toNat && (f.m || w.m = 0) && below f.x w.x.toNat
    && (f.imm || w.imm = 0) && (!f.pair || w.d.toNat % 2 = 0) && (!f.fromOne || w.d ≠ 0)

/-- Used fields of class 0x3: X = 0 addresses through S[A], X = 1 through P[A] (R368). -/
def memFields (w : IWord) : Fields := if w.x = 1 then { d := 32, a := 16, m := true, x := 2, imm := true }
  else { d := 32, a := 32, m := true, x := 2, imm := true }

def strideFields : Fields := { d := 32, a := 32, b := 32, m := true, imm := true }
def scalar3 : Fields := { d := 32, a := 32, b := 32 }
def scalarImm : Fields := { d := 32, a := 32, imm := true }
def vector3 : Fields := { d := 32, a := 32, b := 32, m := true }
def vectorImm : Fields := { d := 32, a := 32, m := true, imm := true }
def search : Fields := { d := 32, a := 32, b := 32, m := true, x := 2, pair := true }
def reduce : Fields := { d := 32, a := 32, m := true, x := 2, pair := true }
def pset : Fields := { d := 16, a := 32, imm := true }

/-- Fields of an operation, none for an undefined class or operation (R367, R368). -/
def fieldsOf (cls op : Nat) (w : IWord) : Option Fields :=
  match cls, op with
  | 0, 0 | 0, 1 => some {}
  | 0, 2 | 0, 6 => some { imm := true }
  | 0, 3 | 0, 4 | 0, 5 => some { a := 32, imm := true }
  | 1, 2 | 1, 11 => some scalarImm
  | 1, n => if n ≤ 10 then some scalar3 else none
  | 2, 0 | 2, 1 => some scalarImm
  | 3, 0 | 3, 1 | 3, 2 => some (memFields w)
  | 3, 3 | 3, 4 => some strideFields
  | 4, 6 | 4, 7 => some vectorImm
  | 4, 8 | 4, 9 => some { d := 32, a := 32, m := true }
  | 4, 10 => some { d := 8, a := 32, b := 32, m := true, fromOne := true }
  | 4, 11 => some { d := 32, a := 32, b := 32, m := true, x := 8 }
  | 4, 12 => some { d := 32, m := true }
  | 4, n => if n ≤ 5 then some vector3 else none
  | 5, 0 | 5, 1 | 5, 2 => some { d := 4, a := 32, b := 32, m := true }
  | 5, 3 => some { d := 4, a := 32, b := 16, m := true, imm := true }
  | 5, 4 => some { d := 4, a := 16, b := 16, m := true, imm := true }
  | 6, 0 => some { d := 4, m := true }
  | 6, 1 => some { d := 32, a := 4, m := true, x := 16 }
  | 6, 2 => some { d := 32, a := 4, m := true, pair := true }
  | 6, 3 => some { d := 4, a := 32, m := true }
  | 6, 4 => some { d := 8, a := 4, m := true, fromOne := true }
  | 6, 5 => some { d := 8, m := true, fromOne := true }
  | 7, 0 | 7, 1 => some search
  | 7, 2 | 7, 3 => some reduce
  | 8, 0 | 8, 1 | 8, 2 | 8, 4 => some pset
  | 8, 3 => some { d := 32, a := 16 }
  | _, _ => none

/-- The field checks of one instruction word (R367, R372). -/
def Code.legal (c : Code) : Bool :=
  match fieldsOf c.cls c.op c.w with
  | some f => f.ok c.w
  | none => false

/-! ### Traps (R376) -/

namespace Trap
def illegal : Nat := 1
def budget : Nat := 2
def address : Nat := 3
def align : Nat := 4
def user : Nat := 5
def stateWrites : Nat := 6
def pcRange : Nat := 7
end Trap

/-! ### Areas (R360) -/

/-- First bytes of the areas: constants, parameters, state, scratch, input, output, and the end. -/
structure Areas where
  const : Nat
  par : Nat
  state : Nat
  scratch : Nat
  inp : Nat
  out : Nat
  stop : Nat
  deriving DecidableEq, Repr, Inhabited

def KrnHeader.areas (h : KrnHeader) (samples : Nat) : Areas :=
  let const := round512 h.code
  let par := const + round512 h.const
  let state := par + round512 (8 * h.words)
  let scratch := state + round512 h.state
  let inp := scratch + round512 h.scratch
  let out := inp + round512 (4 * samples * h.inputs)
  { const, par, state, scratch, inp, out, stop := out + round512 (4 * samples * h.outputs) }

/-! ### The run of one invocation -/

/-- One invocation as an instruction sees it: image with its header and areas, samples per block S7, the instance, its
context, the offset of the next instruction, whether END has executed, and the line lengths applied at wraps (line, length), newest first. -/
structure Run where
  im : ImageSlot
  h : KrnHeader
  areas : Areas
  samples : Nat
  k : KernDyn
  c : Ctx
  next : Nat := 0
  ended : Bool := false
  wraps : List (Nat × Nat) := []
  deriving DecidableEq, Repr, Inhabited

/-- An instruction goes on, or traps with a cause and a user code. -/
abbrev Exec := Except (Nat × Nat) Run

/-! #### Registers (R359) -/

def zeroLanes : List Word := List.replicate 128 0

def Ctx.sr (c : Ctx) (i : Nat) : Word := if i = 0 then 0 else (getA i c.sreg).getD 0
def Ctx.setS (i : Nat) (v : Word) (c : Ctx) : Ctx := if i = 0 then c else { c with sreg := setSparse 0 i v c.sreg }
def Ctx.vr (c : Ctx) (i : Nat) : List Word := (getA i c.v).getD zeroLanes
def Ctx.setV (i : Nat) (v : List Word) (c : Ctx) : Ctx := { c with v := setSparse zeroLanes i v c.v }
def Ctx.mr (c : Ctx) (i : Nat) : BitVec 128 := if i = 0 then BitVec.allOnes 128 else (getA i c.mask).getD 0
def Ctx.setM (i : Nat) (v : BitVec 128) (c : Ctx) : Ctx := if i = 0 then c else { c with mask := setSparse 0 i v c.mask }
def Ctx.pr (c : Ctx) (i : Nat) : PReg := (getA i c.preg).getD {}
def Ctx.setP (i : Nat) (v : PReg) (c : Ctx) : Ctx := { c with preg := setSparse {} i v c.preg }
def zeroAcc : List Acc := List.replicate 128 {}
def Ctx.ar (c : Ctx) (i : Nat) : List Acc := (getA i c.acc).getD zeroAcc
def Ctx.setAcc (i : Nat) (v : List Acc) (c : Ctx) : Ctx :=
  { c with
    acc := setSparse zeroAcc i v c.acc
    overflowed := if v.any (·.ovf) && !c.overflowed.contains i then i :: c.overflowed else c.overflowed }

/-- Lane values where the mask is set, old ones elsewhere; `f` gets the lane number and two source lanes. -/
def laneMap (mask : BitVec 128) (f : Nat → Word → Word → Word) : Nat → List Word → List Word → List Word → List Word
  | l, o :: os, x :: xs, y :: ys => (if mask.getLsbD l then f l x y else o) :: laneMap mask f (l + 1) os xs ys
  | _, _, _, _ => []

/-- The mask of lanes whose two source lanes meet a test. -/
def laneTest (mask old : BitVec 128) (t : Word → Word → Bool) (xs ys : List Word) : BitVec 128 :=
  (xs.zip ys).zipIdx.foldl (init := old) fun m z =>
    if mask.getLsbD z.2 then (if t z.1.1 z.1.2 then m ||| (1#128 <<< z.2) else m &&& ~~~(1#128 <<< z.2)) else m

/-- The mask with the lanes of a second mask set or cleared as `v` says. -/
def maskWrite (mask old v : BitVec 128) : BitVec 128 := (old &&& ~~~mask) ||| (v &&& mask)

/-! #### Timing (R369) -/

def keyS (i : Nat) : Nat := i
def keyV (i : Nat) : Nat := 32 + i
def keyA (i : Nat) : Nat := 64 + i
def keyM (i : Nat) : Nat := 72 + i
def keyP (i : Nat) : Nat := 80 + i
def keySat : Nat := 96

/-- Issue an instruction of `n` issue cycles once its operands are usable; its results, by key, are usable `lat` cycles
after the last issue cycle. -/
def Ctx.issue (reads : List Nat) (n : Nat) (writes : List (Nat × Nat)) (c : Ctx) : Ctx :=
  let t := reads.foldl (init := c.cycles) fun t k => max t ((getA k c.ready).getD 0)
  { c with cycles := t + n, last := c.pc
           ready := (writes.filter fun x => x.1 ≠ keyS 0).foldl (init := c.ready) fun l x =>
             setA x.1 (max (t + n - 1 + x.2) (if x.1 = keySat then (getA keySat c.ready).getD 0 else 0)) l }

def Run.issue (reads : List Nat) (n : Nat) (writes : List (Nat × Nat)) (r : Run) : Run :=
  { r with c := r.c.issue reads n writes }

/-! #### Data memory (R360) -/

/-- A parameter word: the first copy holds at the start of the block, the second at its end (R375). -/
def Run.parWord (r : Run) (i : Nat) : Word :=
  let n := r.h.words
  let l := if i < n then r.k.parStart else r.k.parEnd
  let j := if i < n then i else i - n
  (getA j l).getD (BitVec.ofNat 32 (leNat (r.im.bytes.readBytes (r.im.wordsAt + 4 * j) 4)))

/-- The word at a byte address of the region. -/
def Run.load (r : Run) (a : Nat) : Except (Nat × Nat) Word :=
  let z := r.areas
  let h := r.h
  if a % 4 ≠ 0 then .error (Trap.align, 0)
  else if a < z.const ∨ z.stop ≤ a then .error (Trap.address, 0)
  else if a < z.par then
    .ok (if a - z.const < h.const then BitVec.ofNat 32 (leNat (r.im.bytes.readBytes (r.im.constAt + (a - z.const)) 4))
         else Config.krnPadding a)
  else if a < z.state then
    .ok (if (a - z.par) / 4 < 2 * h.words then r.parWord ((a - z.par) / 4) else Config.krnPadding a)
  else if a < z.scratch then .ok ((getA a r.c.stateW).getD ((getA a r.k.stateMem).getD 0))
  else .ok ((getA a r.c.data).getD 0)

/-- State lines that one invocation may write (R360). -/
def maxLines : Nat := 512

/-- Store a word at a byte address of the region. -/
def Run.store (a : Nat) (v : Word) (r : Run) : Exec :=
  let z := r.areas
  if a % 4 ≠ 0 then .error (Trap.align, 0)
  else if a < z.state ∨ z.stop ≤ a then .error (Trap.address, 0)
  else if a < z.scratch then
    let line := (a - z.state) / 512
    let c := r.c
    if c.lines.contains line then .ok { r with c := { c with stateW := setA a v c.stateW } }
    else if c.lines.length = maxLines then .error (Trap.stateWrites, 0)
    else .ok { r with c := { c with stateW := setA a v c.stateW, lines := line :: c.lines } }
  else .ok { r with c := { r.c with data := setSparse 0 a v r.c.data } }

/-- The word of each masked lane at its address; unmasked lanes keep theirs. -/
def Run.gather (r : Run) (mask : BitVec 128) (old : List Word) (addr : Nat → Nat) : Except (Nat × Nat) (List Word) :=
  old.zipIdx.mapM fun x => if mask.getLsbD x.2 then r.load (addr x.2) else .ok x.1

/-- Store the masked lanes; where several lanes write one address, one of their words stands (log 26). -/
def Run.scatter (mask : BitVec 128) (vals : List Word) (addr : Nat → Nat) (r : Run) : Exec :=
  let ws := (vals.zipIdx.filter fun x => mask.getLsbD x.2).map fun x => (addr x.2, x.1)
  ws.foldlM (init := r) fun r x =>
    let same := (ws.filter fun y => y.1 == x.1).map (·.2)
    let v := if same.length = 1 then x.2 else same.getD (Config.laneWinner x.1 % same.length) x.2
    r.store x.1 v

/-! #### Circular addressing (R364, R365) -/

/-- P registers are 22 bits wide. -/
def p22 (v : Int) : Nat := (v % 4194304).toNat

/-- The index reduced modulo the length where it lies at or beyond it (step 1 of R364). -/
def PReg.norm (p : PReg) : PReg := if p.len ≠ 0 ∧ p.len ≤ p.idx then { p with idx := p.idx % p.len } else p

/-- Address of word w of an access. -/
def PReg.addr (p : PReg) (w : Nat) : Nat :=
  if p.len = 0 then p22 (p.base + p.idx + 4 * w : Nat) else p22 (p.base + (p.idx + 4 * w) % p.len : Nat)

/-- The index after a signed increment (step 3). -/
def PReg.bump (p : PReg) (inc : Int) : PReg :=
  { p with idx := if p.len = 0 then p22 (p.idx + inc) else ((p.idx + inc) % p.len).toNat }

/-- An access through P[n] leaves the register at its next index; a forward wrap of a managed line applies a pending
length and sets the index to 0 (R365). -/
def Run.stepP (n : Nat) (inc : Int) (r : Run) : Run :=
  let p := (r.c.pr n).norm
  let q := p.bump inc
  match (if 8 ≤ n then getA (n - 8) r.k.linePend else none) with
  | some len =>
    if p.len ≠ 0 ∧ 0 < inc ∧ (p.len : Int) ≤ p.idx + inc ∧ q.idx < p.idx then
      { r with
        c := r.c.setP n { p with len := len, idx := 0 }
        k := { r.k with lineLen := setA (n - 8) len r.k.lineLen, linePend := delA (n - 8) r.k.linePend }
        wraps := (n - 8, len) :: r.wraps }
    else { r with c := r.c.setP n q }
  | none => { r with c := r.c.setP n q }

/-- The addresses of an access through P[n], before its post-increment. -/
def Run.pAddr (r : Run) (n : Nat) : Nat → Nat := (r.c.pr n).norm.addr

/-- Addresses of a class 0x3 access: words from S[A] + IMM, or through P[A]. -/
def Run.vAddr (r : Run) (w : IWord) : Nat → Nat :=
  if w.x = 1 then r.pAddr w.a.toNat else fun i => (r.c.sr w.a.toNat + w.imm + BitVec.ofNat 32 (4 * i)).toNat

def Run.vStep (w : IWord) (r : Run) : Run := if w.x = 1 then r.stepP w.a.toNat w.imm.toInt else r

def vReads (w : IWord) : List Nat := [if w.x = 1 then keyP w.a.toNat else keyS w.a.toNat, keyM w.m.toNat]

/-- Results of an access through a P register: its index (R368, R369). -/
def vWrites (w : IWord) : List (Nat × Nat) := if w.x = 1 then [(keyP w.a.toNat, 1)] else []

/-! ### Instructions: control (class 0x0) -/

abbrev Op := IWord → Run → Exec

def iNop : Op := fun _ r => .ok (r.issue [] 1 [])

def iEnd : Op := fun _ r => .ok { r.issue [] 1 [] with ended := true }

/-- A branch inside a LOOP body traps; a taken branch takes 3 cycles (R367, R369). -/
def Run.branch (taken : Bool) (reads : List Nat) (w : IWord) (r : Run) : Exec :=
  if !r.c.loops.isEmpty then .error (Trap.illegal, 0)
  else if taken then .ok { r.issue reads 3 [] with next := (BitVec.ofNat 32 r.c.pc + 8 * w.imm).toNat }
  else .ok (r.issue reads 1 [])

def iBr : Op := fun w r => r.branch true [] w
def iBrz : Op := fun w r => r.branch (r.c.sr w.a.toNat = 0) [keyS w.a.toNat] w
def iBrnz : Op := fun w r => r.branch (r.c.sr w.a.toNat ≠ 0) [keyS w.a.toNat] w

/-- LOOP: the next IMM[15:0] instructions run S[A] times; nesting is at most 4 deep (R367, R368). -/
def iLoop : Op := fun w r =>
  let n := (r.c.sr w.a.toNat).toNat
  let body := w.imm.toNat % 65536
  let first := r.c.pc + 8
  let stop := first + 8 * body
  let s := r.issue [keyS w.a.toNat] 1 []
  if r.c.loops.length = 4 then .error (Trap.illegal, 0)
  else if n = 0 ∨ body = 0 then .ok { s with next := if n = 0 then stop else first }
  else .ok { s with c := { s.c with loops := (first, stop, n) :: s.c.loops } }

def iTrap : Op := fun w _ => .error (Trap.user, w.imm.toNat % 65536)

/-! ### Instructions: scalar (classes 0x1 and 0x2) -/

/-- S[D] ← f S[A] S[B]. -/
def scalarOp (f : Word → Word → Word) : Op := fun w r =>
  let v := f (r.c.sr w.a.toNat) (r.c.sr w.b.toNat)
  let r := r.issue [keyS w.a.toNat, keyS w.b.toNat] 1 [(keyS w.d.toNat, 1)]
  .ok { r with c := r.c.setS w.d.toNat v }

/-- S[D] ← f S[A] IMM. -/
def scalarImmOp (f : Word → Word → Word) : Op := fun w r =>
  let v := f (r.c.sr w.a.toNat) w.imm
  let r := r.issue [keyS w.a.toNat] 1 [(keyS w.d.toNat, 1)]
  .ok { r with c := r.c.setS w.d.toNat v }

/-- Shift amounts are the low 5 bits. -/
def amount (v : Word) : Nat := v.toNat % 32

def iAdd : Op := scalarOp (· + ·)
def iSub : Op := scalarOp (· - ·)
def iAddi : Op := scalarImmOp (· + ·)
def iAnd : Op := scalarOp (· &&& ·)
def iOr : Op := scalarOp (· ||| ·)
def iXor : Op := scalarOp (· ^^^ ·)
def iShl : Op := scalarOp fun x y => x <<< amount y
def iShr : Op := scalarOp fun x y => x >>> amount y
def iSar : Op := scalarOp fun x y => x.sshiftRight (amount y)
def iMul : Op := scalarOp (· * ·)
def iSlt : Op := scalarOp fun x y => if x.slt y then 1 else 0
def iShli : Op := scalarImmOp fun x y => x <<< amount y

def iLds : Op := fun w r => do
  let v ← r.load (r.c.sr w.a.toNat + w.imm).toNat
  let r := r.issue [keyS w.a.toNat] 1 [(keyS w.d.toNat, 3)]
  .ok { r with c := r.c.setS w.d.toNat v }

def iSts : Op := fun w r =>
  (r.issue [keyS w.a.toNat, keyS w.d.toNat] 1 []).store (r.c.sr w.a.toNat + w.imm).toNat (r.c.sr w.d.toNat)

/-! ### Instructions: vector memory (class 0x3) -/

def iVld : Op := fun w r => do
  let v ← r.gather (r.c.mr w.m.toNat) (r.c.vr w.d.toNat) (r.vAddr w)
  let r := (r.issue (vReads w) 1 ((keyV w.d.toNat, 3) :: vWrites w)).vStep w
  .ok { r with c := r.c.setV w.d.toNat v }

def iVst : Op := fun w r => do
  let t ← (r.issue (keyV w.d.toNat :: vReads w) 1 (vWrites w)).scatter (r.c.mr w.m.toNat) (r.c.vr w.d.toNat) (r.vAddr w)
  .ok (t.vStep w)

/-- One word to every lane of the mask. -/
def iVldb : Op := fun w r => do
  let v ← r.load (r.vAddr w 0)
  let t := (r.issue (vReads w) 1 ((keyV w.d.toNat, 3) :: vWrites w)).vStep w
  let lanes := laneMap (r.c.mr w.m.toNat) (fun _ _ _ => v) 0 (r.c.vr w.d.toNat) zeroLanes zeroLanes
  .ok { t with c := t.c.setV w.d.toNat lanes }

/-- Lane l at S[A] + IMM + l × S[B]. -/
def Run.sAddr (r : Run) (w : IWord) (l : Nat) : Nat :=
  (r.c.sr w.a.toNat + w.imm + BitVec.ofNat 32 l * r.c.sr w.b.toNat).toNat

def strideReads (w : IWord) : List Nat := [keyS w.a.toNat, keyS w.b.toNat, keyM w.m.toNat]

def iVlds : Op := fun w r => do
  let v ← r.gather (r.c.mr w.m.toNat) (r.c.vr w.d.toNat) (r.sAddr w)
  let r := r.issue (strideReads w) 4 [(keyV w.d.toNat, 3)]
  .ok { r with c := r.c.setV w.d.toNat v }

def iVsts : Op := fun w r =>
  (r.issue (keyV w.d.toNat :: strideReads w) 4 []).scatter (r.c.mr w.m.toNat) (r.c.vr w.d.toNat) (r.sAddr w)

/-! ### Instructions: vector arithmetic (class 0x4) -/

/-- V[D] ← f lane V[A] V[B] in the lanes of the mask; `sat` marks the lanes that saturate (R363). `two`: V[B] is an
operand (R369). -/
def vectorOp (two : Bool) (f : Nat → Word → Word → Word) (sat : Word → Word → Bool) : Op := fun w r =>
  let m := r.c.mr w.m.toNat
  let x := r.c.vr w.a.toNat
  let y := r.c.vr w.b.toNat
  let v := laneMap m f 0 (r.c.vr w.d.toNat) x y
  let flags := r.c.sat ||| laneTest m 0 sat x y
  let reads := keyV w.a.toNat :: if two then [keyV w.b.toNat, keyM w.m.toNat] else [keyM w.m.toNat]
  let r := r.issue reads 1 [(keyV w.d.toNat, 1), (keySat, 1)]
  let c := r.c.setV w.d.toNat v
  .ok { r with c := { c with sat := flags } }

/-- A Q1.31 lane as a number of units of 2^-31, and a saturated result as a lane. -/
def lane31 (v : Int) : Word := BitVec.ofInt 32 (sat31 v)

def overflows31 (v : Int) : Bool := v < q31min || q31max < v

/-- A vector operation given by its exact result in units of 2^-31 (R363). -/
def satOp (two : Bool) (f : Int → Int → Int) : Op :=
  vectorOp two (fun _ x y => lane31 (f x.toInt y.toInt)) fun x y => overflows31 (f x.toInt y.toInt)

/-- A vector operation without saturation. -/
def bitOp (two : Bool) (f : Word → Word → Word) : Op := vectorOp two (fun _ x y => f x y) fun _ _ => false

def iVadd : Op := satOp true (· + ·)
def iVsub : Op := satOp true (· - ·)
def iVmul : Op := satOp true fun x y => divEven (x * y) (2 ^ 31)
def iVand : Op := bitOp true (· &&& ·)
def iVor : Op := bitOp true (· ||| ·)
def iVxor : Op := bitOp true (· ^^^ ·)
def iVshl : Op := fun w r => satOp false (fun x _ => x * 2 ^ amount w.imm) w r
def iVsar : Op := fun w r => bitOp false (fun x _ => x.sshiftRight (amount w.imm)) w r
def iVmov : Op := bitOp false fun x _ => x

def iVbc : Op := fun w r =>
  let v := r.c.sr w.a.toNat
  let lanes := laneMap (r.c.mr w.m.toNat) (fun _ _ _ => v) 0 (r.c.vr w.d.toNat) zeroLanes zeroLanes
  let r := r.issue [keyS w.a.toNat, keyM w.m.toNat] 1 [(keyV w.d.toNat, 1)]
  .ok { r with c := r.c.setV w.d.toNat lanes }

def iVcmplt : Op := fun w r =>
  let v := laneTest (r.c.mr w.m.toNat) (r.c.mr w.d.toNat) BitVec.slt (r.c.vr w.a.toNat) (r.c.vr w.b.toNat)
  let r := r.issue [keyV w.a.toNat, keyV w.b.toNat, keyM w.m.toNat] 1 [(keyM w.d.toNat, 1)]
  .ok { r with c := r.c.setM w.d.toNat v }

def iVsel : Op := fun w r =>
  let p := r.c.mr w.x.toNat
  let v := laneMap (r.c.mr w.m.toNat) (fun l x y => if p.getLsbD l then x else y) 0 (r.c.vr w.d.toNat)
    (r.c.vr w.a.toNat) (r.c.vr w.b.toNat)
  let r := r.issue [keyV w.a.toNat, keyV w.b.toNat, keyM w.m.toNat, keyM w.x.toNat] 1 [(keyV w.d.toNat, 1)]
  .ok { r with c := r.c.setV w.d.toNat v }

def iVlane : Op := fun w r =>
  let v := laneMap (r.c.mr w.m.toNat) (fun l _ _ => BitVec.ofNat 32 l) 0 (r.c.vr w.d.toNat) zeroLanes zeroLanes
  let r := r.issue [keyM w.m.toNat] 1 [(keyV w.d.toNat, 1)]
  .ok { r with c := r.c.setV w.d.toNat v }

/-! ### Instructions: multiply-accumulate (class 0x5) -/

/-- Largest Q10.62 value in units of 2^-62 (R361). -/
def accMax : Int := 2361183241434822606847

/-- Add an exact product to a lane: beyond the range the lane takes the extreme, sets OVF and stays there. -/
def Acc.add (p : Int) (a : Acc) : Acc :=
  if a.ovf then a
  else
    let v := a.val + p
    if v < -accMax - 1 then { val := -accMax - 1, ovf := true }
    else if accMax < v then { val := accMax, ovf := true }
    else { a with val := v }

/-- A[D] ← A[D] + sign × x × y in the lanes of the mask. -/
def accLanes (mask : BitVec 128) (sign : Int) : Nat → List Acc → List Word → List Word → List Acc
  | l, o :: os, x :: xs, y :: ys =>
    (if mask.getLsbD l then o.add (sign * (x.toInt * y.toInt)) else o) :: accLanes mask sign (l + 1) os xs ys
  | _, _, _, _ => []

/-- The MAC class: operands, the registers read, and the P registers it steps. -/
def macOp (sign : Int) (x y : List Word) (reads : List Nat) (writes : List (Nat × Nat)) (w : IWord) (r : Run) : Run :=
  let v := accLanes (r.c.mr w.m.toNat) sign 0 (r.c.ar w.d.toNat) x y
  let r := r.issue (keyM w.m.toNat :: reads) 1 ((keyA w.d.toNat, 4) :: writes)
  { r with c := r.c.setAcc w.d.toNat v }

def iMac : Op := fun w r =>
  .ok (macOp 1 (r.c.vr w.a.toNat) (r.c.vr w.b.toNat) [keyV w.a.toNat, keyV w.b.toNat] [] w r)

def iMsu : Op := fun w r =>
  .ok (macOp (-1) (r.c.vr w.a.toNat) (r.c.vr w.b.toNat) [keyV w.a.toNat, keyV w.b.toNat] [] w r)

def iMacs : Op := fun w r =>
  .ok (macOp 1 (r.c.vr w.a.toNat) (List.replicate 128 (r.c.sr w.b.toNat)) [keyV w.a.toNat, keyS w.b.toNat] [] w r)

def iMacm : Op := fun w r => do
  let y ← r.gather (r.c.mr w.m.toNat) zeroLanes (r.pAddr w.b.toNat)
  let r := macOp 1 (r.c.vr w.a.toNat) y [keyV w.a.toNat, keyP w.b.toNat] [(keyP w.b.toNat, 1)] w r
  .ok (r.stepP w.b.toNat w.imm.toInt)

/-- P[A] is read and stepped before P[B] (R368; log 26). -/
def iMacmm : Op := fun w r => do
  let x ← r.gather (r.c.mr w.m.toNat) zeroLanes (r.pAddr w.a.toNat)
  let t := r.stepP w.a.toNat (w.imm.extractLsb' 0 16).toInt
  let y ← t.gather (r.c.mr w.m.toNat) zeroLanes (t.pAddr w.b.toNat)
  let t := macOp 1 x y [keyP w.a.toNat, keyP w.b.toNat] [(keyP w.a.toNat, 1), (keyP w.b.toNat, 1)] w t
  .ok (t.stepP w.b.toNat (w.imm.extractLsb' 16 16).toInt)

/-! ### Instructions: accumulators (class 0x6) -/

def accSet (mask : BitVec 128) (f : Word → Acc) : Nat → List Acc → List Word → List Acc
  | l, o :: os, x :: xs => (if mask.getLsbD l then f x else o) :: accSet mask f (l + 1) os xs
  | _, _, _ => []

def iAclr : Op := fun w r =>
  let v := accSet (r.c.mr w.m.toNat) (fun _ => {}) 0 (r.c.ar w.d.toNat) zeroLanes
  let r := r.issue [keyM w.m.toNat] 1 [(keyA w.d.toNat, 1)]
  .ok { r with c := r.c.setAcc w.d.toNat v }

/-- A[D] ← V[A] as Q1.31, in units of 2^-62. -/
def iAld : Op := fun w r =>
  let v := accSet (r.c.mr w.m.toNat) (fun x => { val := x.toInt * 2 ^ 31 }) 0 (r.c.ar w.d.toNat) (r.c.vr w.a.toNat)
  let r := r.issue [keyV w.a.toNat, keyM w.m.toNat] 1 [(keyA w.d.toNat, 1)]
  .ok { r with c := r.c.setAcc w.d.toNat v }

/-- Lane words of the accumulator, where the mask is set. -/
def accOut (mask : BitVec 128) (f : Int → Word) : Nat → List Word → List Acc → List Word
  | l, o :: os, x :: xs => (if mask.getLsbD l then f x.val else o) :: accOut mask f (l + 1) os xs
  | _, _, _ => []

def accTest (t : Acc → Bool) (l : List Acc) : BitVec 128 :=
  l.zipIdx.foldl (init := 0) fun m z => if t z.1 then m ||| (1#128 <<< z.2) else m

/-- A × 2^X rounded to a multiple of 2^-31 (R362). -/
def extVal (x : Nat) (v : Int) : Int := divEven (v * 2 ^ x) (2 ^ 31)

def iExt : Op := fun w r =>
  let m := r.c.mr w.m.toNat
  let acc := r.c.ar w.a.toNat
  let v := accOut m (fun a => lane31 (extVal w.x.toNat a)) 0 (r.c.vr w.d.toNat) acc
  let flags := r.c.sat ||| (m &&& accTest (fun a => overflows31 (extVal w.x.toNat a.val)) acc)
  let r := r.issue [keyA w.a.toNat, keyM w.m.toNat] 1 [(keyV w.d.toNat, 3), (keySat, 3)]
  let c := r.c.setV w.d.toNat v
  .ok { r with c := { c with sat := flags } }

/-- A rounded to a multiple of 2^-54 as 64 bits; 512, which the format does not hold, is log 24. -/
def extwVal (v : Int) : BitVec 64 :=
  let q := divEven v (2 ^ 8)
  BitVec.ofInt 64 (if q = 9223372036854775808 then Config.overflow54 q else q)

def iExtw : Op := fun w r =>
  let m := r.c.mr w.m.toNat
  let acc := r.c.ar w.a.toNat
  let d := w.d.toNat
  let lo := accOut m (fun a => (extwVal a).extractLsb' 0 32) 0 (r.c.vr d) acc
  let hi := accOut m (fun a => (extwVal a).extractLsb' 32 32) 0 (r.c.vr (d + 1)) acc
  let r := r.issue [keyA w.a.toNat, keyM w.m.toNat] 1 [(keyV d, 3), (keyV (d + 1), 3)]
  .ok { r with c := r.c.setV d lo |>.setV (d + 1) hi }

def iOvfm : Op := fun w r =>
  let v := maskWrite (r.c.mr w.m.toNat) (r.c.mr w.d.toNat) (accTest (·.ovf) (r.c.ar w.a.toNat))
  let r := r.issue [keyA w.a.toNat, keyM w.m.toNat] 1 [(keyM w.d.toNat, 1)]
  .ok { r with c := r.c.setM w.d.toNat v }

def iSatm : Op := fun w r =>
  let v := maskWrite (r.c.mr w.m.toNat) (r.c.mr w.d.toNat) r.c.sat
  let r := r.issue [keySat, keyM w.m.toNat] 1 [(keyM w.d.toNat, 1), (keySat, 1)]
  let c := r.c.setM w.d.toNat v
  .ok { r with c := { c with sat := 0 } }

/-! ### Instructions: search (class 0x7, R366) -/

/-- Compared values: signed, or magnitudes with X bit 0. -/
def searchKey (w : IWord) (v : Word) : Int := if w.x = 1 then (v.toInt.natAbs : Int) else v.toInt

/-- SMAX and SMIN: `better new old` says when a lane takes the new value and its index. -/
def searchOp (better : Int → Int → Bool) : Op := fun w r =>
  let m := r.c.mr w.m.toNat
  let d := w.d.toNat
  let x := r.c.vr w.a.toNat
  let cur := r.c.vr d
  let idx := r.c.sr w.b.toNat
  let takes := laneTest m 0 (fun n o => better (searchKey w n) (searchKey w o)) x cur
  let v := laneMap takes (fun _ n _ => n) 0 cur x zeroLanes
  let i := laneMap takes (fun _ _ _ => idx) 0 (r.c.vr (d + 1)) zeroLanes zeroLanes
  let r := r.issue [keyV w.a.toNat, keyS w.b.toNat, keyV d, keyV (d + 1), keyM w.m.toNat] 1
    [(keyV d, 1), (keyV (d + 1), 1)]
  .ok { r with c := r.c.setV d v |>.setV (d + 1) i }

def iSmax : Op := searchOp fun n o => o < n
def iSmin : Op := searchOp fun n o => n < o

/-- The best lane of the mask, the lowest of equals. -/
def bestLane (better : Int → Int → Bool) (w : IWord) (mask : BitVec 128) (x : List Word) : Option (Word × Nat) :=
  x.zipIdx.foldl (init := none) fun best z =>
    if mask.getLsbD z.2 then
      match best with
      | none => some z
      | some b => if better (searchKey w z.1) (searchKey w b.1) then some z else best
    else best

def reduceOp (better : Int → Int → Bool) : Op := fun w r =>
  let d := w.d.toNat
  let (v, l) : Word × Word :=
    match bestLane better w (r.c.mr w.m.toNat) (r.c.vr w.a.toNat) with
    | some b => (b.1, BitVec.ofNat 32 b.2)
    | none => (0x80000000, 0xFFFFFFFF)
  let r := r.issue [keyV w.a.toNat, keyM w.m.toNat] 1 [(keyS d, 1), (keyS (d + 1), 1)]
  .ok { r with c := r.c.setS d v |>.setS (d + 1) l }

def iRmax : Op := reduceOp fun n o => o < n
def iRmin : Op := reduceOp fun n o => n < o

/-! ### Instructions: P registers (class 0x8, R364, R365) -/

/-- A write of a part of P[D], which traps on a managed register. -/
def psetOp (f : Nat → PReg → PReg) : Op := fun w r =>
  if 8 ≤ w.d.toNat then .error (Trap.illegal, 0)
  else
    let v := (r.c.sr w.a.toNat + w.imm).toNat % 4194304
    let p := f v (r.c.pr w.d.toNat)
    let r := r.issue [keyS w.a.toNat, keyP w.d.toNat] 1 [(keyP w.d.toNat, 1)]
    .ok { r with c := r.c.setP w.d.toNat p }

def iPsetb : Op := psetOp fun v p => { p with base := v }
def iPsetl : Op := psetOp fun v p => { p with len := v }
def iPseti : Op := psetOp fun v p => { p with idx := v }

def iPgeti : Op := fun w r =>
  let v := BitVec.ofNat 32 (r.c.pr w.a.toNat).idx
  let r := r.issue [keyP w.a.toNat] 1 [(keyS w.d.toNat, 1)]
  .ok { r with c := r.c.setS w.d.toNat v }

def iPadd : Op := fun w r =>
  let p := ((r.c.pr w.d.toNat).norm).bump (r.c.sr w.a.toNat + w.imm).toInt
  let r := r.issue [keyS w.a.toNat, keyP w.d.toNat] 1 [(keyP w.d.toNat, 1)]
  .ok { r with c := r.c.setP w.d.toNat p }

/-! ### One instruction -/

/-- The operation of a class and operation number (R368). -/
def opOf (cls op : Nat) : Option Op :=
  match cls with
  | 0 => [iNop, iEnd, iBr, iBrz, iBrnz, iLoop, iTrap][op]?
  | 1 => [iAdd, iSub, iAddi, iAnd, iOr, iXor, iShl, iShr, iSar, iMul, iSlt, iShli][op]?
  | 2 => [iLds, iSts][op]?
  | 3 => [iVld, iVst, iVldb, iVlds, iVsts][op]?
  | 4 => [iVadd, iVsub, iVmul, iVand, iVor, iVxor, iVshl, iVsar, iVmov, iVbc, iVcmplt, iVsel, iVlane][op]?
  | 5 => [iMac, iMsu, iMacs, iMacm, iMacmm][op]?
  | 6 => [iAclr, iExt, iExtw, iAld, iOvfm, iSatm][op]?
  | 7 => [iSmax, iSmin, iRmax, iRmin][op]?
  | 8 => [iPsetb, iPsetl, iPseti, iPgeti, iPadd][op]?
  | _ => none

/-- Where the sequencer goes after an instruction that ends at `pc`: bodies that end there repeat or are left (R368). -/
def closeLoops : List (Nat × Nat × Nat) → Nat → List (Nat × Nat × Nat) × Nat
  | [], pc => ([], pc)
  | (f, e, n) :: r, pc =>
    if pc = e then (if 1 < n then ((f, e, n - 1) :: r, f) else closeLoops r pc) else ((f, e, n) :: r, pc)

/-- Execute one operation at the PC: the field checks, its effect, the next PC. -/
def Run.exec1 (f : Op) (cls op : Nat) (w : IWord) (r : Run) : Exec :=
  if !(Code.legal ⟨cls, op, w⟩) then .error (Trap.illegal, 0)
  else
    match f w { r with next := r.c.pc + 8 } with
    | .error e => .error e
    | .ok r =>
      if r.ended then .ok r
      else
        let (loops, pc) := closeLoops r.c.loops r.next
        .ok { r with c := { r.c with loops := loops, pc := pc } }

/-- The instruction word at a code offset, none beyond the code length (R367). -/
def ImageSlot.fetch (im : ImageSlot) (pc : Nat) : Option Code :=
  if pc + 8 ≤ im.header.code then some (Code.ofWord (BitVec.ofNat 64 (leNat (im.bytes.readBytes (im.codeAt + pc) 8))))
  else none

/-- Budget in cycles of a cost (R370). -/
def budgetOf (cost : Nat) : Nat := cost * 125 / 48

/-- Run an invocation on: the run as far as it comes, and the trap that ends it. Every instruction takes a cycle, so a fuel
above the budget ends it. -/
def Run.finish (budget : Nat) : Nat → Run → Run × Option (Nat × Nat)
  | 0, r => (r, some (Trap.budget, 0))
  | fuel + 1, r =>
    if r.ended then (r, none)
    else if budget ≤ r.c.cycles then ({ r with c := { r.c with pc := r.c.last } }, some (Trap.budget, 0))
    else
      match r.im.fetch r.c.pc with
      | none => (r, some (Trap.pcRange, 0))
      | some k =>
        match opOf k.cls k.op with
        | none => (r, some (Trap.illegal, 0))
        | some f =>
          match r.exec1 f k.cls k.op k.w with
          | .error e => (r, some e)
          | .ok r => Run.finish budget fuel r

end Sys2Proof.Machine
end

