-- ==== Sys2Proof/Machine/Ops.lean ====
section
/-! DEFINITION. The named operations every command uses: clocks, free values, interrupts, event numbering and latches,
node and parameter access, bcu admission, and the command contract of a mailbox. -/

namespace Sys2Proof.Machine

/-! ### Error codes (R57) -/

namespace Err
def opcode : Nat := 1
def length : Nat := 2
def range : Nat := 3
def noNode : Nat := 4
def nodeType : Nat := 5
def capacity : Nat := 6
def busy : Nat := 7
def state : Nat := 8
def auth : Nat := 9
def noSession : Nat := 10
def late : Nat := 11
def conflict : Nat := 12
def fault : Nat := 13
def peer : Nat := 14
def power : Nat := 15
def tag : Nat := 16
def slab : Nat := 17
def locked : Nat := 18
def image : Nat := 19
end Err

/-! ### Clocks -/

/-- Media sample number m of the sample in progress (R131). -/
def State.m (s : State) : Nat := 16 * s.time.block + s.time.pos

/-- smp per second of local time. -/
def smpPerSecond : Nat := 48000

/-- Units of `time.net` per nanosecond and per smp. -/
def netPerNs : Nat := 196608
def netPerSmp : Nat := 4096000000

def State.netNs (s : State) : Nat := s.time.net / netPerNs
def State.secs (s : State) : Nat := s.netNs / 1000000000
def State.nanos (s : State) : Nat := s.netNs % 1000000000

/-- PMU_SECONDS (R514). -/
def State.pmuSeconds (s : State) : Nat := s.time.ticks / smpPerSecond

/-- Samples per block at the primary rate (R17). -/
def State.spb (s : State) : Nat := Machine.spb s.time.rate96

/-- Daluo is ready: mailboxes, ring and host queues answer (R538). -/
def State.ready (s : State) : Bool := s.boot.code == 7

/-! ### Free values (log 3) -/

def State.drawFree (s : State) : Nat × State := (Config.freeValue s.free, { s with free := s.free + 1 })

/-- Bytes from the random source (R59, R304). -/
def State.drawBytes (s : State) (n : Nat) : Bytes × State :=
  ((List.range n).map fun i => Config.randomByte (s.free + i), { s with free := s.free + n })

/-! ### Decisions of the pair (R458) -/

/-- The device puts its decisions into records: the primary of a formed pair, or of one that joins once its cut is sent. -/
def State.recording (s : State) : Bool :=
  s.id.straps.pairEn && s.pair.role == 1 && (s.pair.state == 3 || (s.pair.state == 2 && s.pair.cutDone))

/-- The device follows the primary's decisions: the standby of a formed pair, or of one that joins once it has the cut, until it
decides for itself (R460). -/
def State.following (s : State) : Bool :=
  s.pair.role == 2 && !s.pair.deciding && !s.pair.takeover && (s.pair.state == 3 || (s.pair.state == 2 && s.pair.cutDone))

/-- A standby of a join that has the cut and processes stored blocks: its blocks lie behind real time (R456). -/
def State.behind (s : State) : Bool := s.pair.role == 2 && s.pair.state == 2 && s.pair.cutDone

/-- Enter a decision in the record of the next block. -/
def State.note (d : Decision) (s : State) : State :=
  if s.recording then { s with pair := { s.pair with log := s.pair.log ++ [d] } } else s

/-! ### Output transcript (log 11) -/

def State.emit (s : State) (x : Sent) : State := { s with sent := x :: s.sent }

/-! ### Interrupts (R124, R125) -/

/-- Vector v's mask bit in the MSI-X table. -/
def Evq.masksVector (q : Evq) (v : Nat) : Bool := (q.msixTable.getD (4 * v + 3) 1).getLsbD 0

/-- MSI-X masking holds vector v's message: the function mask, or the vector's own (R125). -/
def Evq.holdsVector (q : Evq) (v : Nat) : Bool := q.msixMask || q.masksVector v

/-- A cause sets its bit; a rising enabled bit sends the MSI-X message over PCIe, or sets the PBA bit while masking holds it.
While MSI-X is not enabled there is no message (PCIe specification, log 38). -/
def State.setCause (v : Nat) (s : State) : State :=
  if s.evq.intStatus.getLsbD v then s
  else
    let q := { s.evq with intStatus := s.evq.intStatus ||| (1#32 <<< v) }
    if q.intEnable.getLsbD v && q.msixEnable && !s.id.straps.hostQspi then
      if q.holdsVector v then { s with evq := { q with pba := q.pba ||| (1#32 <<< v) } }
      else { s with evq := q, sent := .msix v :: s.sent }
    else { s with evq := q }

/-- The INT_N condition of R125. -/
def State.intN (s : State) : Bool := s.evq.pinEn && (s.evq.intStatus &&& s.evq.intEnable) != 0

/-! ### Events (R110 to R115, R127) -/

/-- Event data: bytes placed in 16 zero bytes. -/
def evData (l : List (Nat × Bytes)) : Bytes := l.foldl (fun d x => patch d x.1 x.2) (zeros 16)

/-- Bytes 8 to 15: m. -/
def State.mBytes (s : State) : Nat × Bytes := (8, leBytes 8 s.m)

def storeSize : Nat := 8192

/-- Number an event: store it, or let it join or open the gap (R113). The record tells the standby (R467). -/
def State.number (e : EvRec) (s : State) : State :=
  let q := s.evq
  let e := { e with seq := q.nextSeq }
  let s := s.note (.event e)
  match q.gap with
  | some (f, n, sec, ns) =>
    { s with evq := { q with nextSeq := q.nextSeq + 1, gap := some (f, n + 1, sec, ns) } }
  | none =>
    if q.store.length < storeSize then
      let s := { s with evq := { q with nextSeq := q.nextSeq + 1, store := q.store ++ [e] } }
      if q.urgent.contains e.source then s.setCause 9 else s
    else
      State.setCause 10 { s with evq := { q with nextSeq := q.nextSeq + 1, gap := some (e.seq, 1, e.sec, e.ns) } }

/-- Sources whose events are a device's own in a pair (R467): power and thermal, port link, clusters, link, faults. -/
def deviceLocalSource (src : Nat) : Bool :=
  (64 ≤ src && src ≤ 127) || src == 132 || (192 ≤ src && src ≤ 255) || (384 ≤ src && src ≤ 511 && 4 ≤ src % 8)
    || src == 512 || (864 ≤ src && src ≤ 927) || 960 ≤ src

/-- The standby of a formed pair sends its own device-local events to the primary (R467). -/
def State.forwardsEvent (s : State) (src : Nat) : Bool := s.following && deviceLocalSource src

/-- Network time counts: outside Sleep and the power-down states (R153). -/
def State.netCounts (s : State) : Bool := s.power.state == .active || s.power.state == .standby

/-- Raise an event: nothing from a masked source (R115); held before Daluo is ready (R127); on the standby sent to the primary, or
left for the number that the record brings (R467); else numbered. -/
def State.raiseRec (e : EvRec) (s : State) : State :=
  if s.evq.masked.contains e.source then s
  else if !s.ready then { s with evq := { s.evq with waiting := s.evq.waiting ++ [⟨s.time.ticks, s.netCounts, e⟩] } }
  else if s.forwardsEvent e.source then
    let v := s.link.vc0
    { s with link := { s.link with vc0 := { v with
        ready := v.ready ++ [(32, .event e.source e.code e.node e.data)] } } }
  else if s.following then { s with pair := { s.pair with unnumbered := s.pair.unnumbered ++ [e] } }
  else s.number e

def State.raise (src code node : Nat) (data : Bytes) (s : State) : State :=
  s.raiseRec { seq := 0, sec := s.secs, ns := s.nanos, source := src, code := code, node := node, data := data }

def State.raiseLatched (src code node : Nat) (data : Bytes) (s : State) : State :=
  s.raiseRec { seq := 0, sec := s.secs, ns := s.nanos, source := src, code := code, node := node, data := data,
               latched := true }

/-! ### Latches (R122, R123) -/

/-- The latches a source owns: number and event code. -/
def latchCodes (src : Nat) : List Nat :=
  if 64 ≤ src ∧ src ≤ 79 then [0x0F00]
  else if src = 80 then [0x0F01]
  else if 256 ≤ src ∧ src ≤ 383 then [0x0B00, 0x0B01, 0x0B02, 0x0B03]
  else if 384 ≤ src ∧ src ≤ 511 then (if src % 8 = 1 then [0x0A01] else if src % 8 = 4 then [0x1000] else [])
  else
    match [(193, 0x0801), (194, 0x0802), (513, 0x0401), (514, 0x0402), (516, 0x0404), (576, 0x0500), (577, 0x0501),
      (578, 0x0502), (581, 0x0505), (584, 0x0602), (641, 0x0301), (648, 0x0704), (706, 0x0806), (707, 0x0807),
      (717, 0x0905), (867, 0x0D03), (868, 0x0D04), (930, 0x0E02), (960, 0x1010), (962, 0x1012)].lookup src with
    | some c => [c]
    | none => []

/-- Node a latch watches before its first crossing: the rail, the queue, else none of one (0). -/
def latchNode (src : Nat) : Nat :=
  if 64 ≤ src ∧ src ≤ 79 then mkNode Ty.rail (src - 64)
  else if 256 ≤ src ∧ src ≤ 383 then mkNode Ty.queue (src - 256) else 0

def Latch.key (l : Latch) : Nat := 4 * l.source + l.no

def State.latch (s : State) (src no : Nat) : Latch :=
  (findKey Latch.key (4 * src + no) s.evq.latches).getD
    { source := src, no := no, code := (latchCodes src).getD no 0, node := latchNode src }

def State.setLatch (l : Latch) (s : State) : State :=
  { s with evq := { s.evq with latches := putKey Latch.key l s.evq.latches } }

/-- Change a latch; the record tells the standby (R129). -/
def State.putLatch (l : Latch) (s : State) : State := (s.setLatch l).note (.latch l)

/-- The farther of two levels in a latch's direction. -/
def farther (lowest : Bool) (x y : Int) : Int := if lowest then min x y else max x y

/-- k crossings, one or more, of a latch that has these contents: the first while armed records the time and raises the LATCHED
event, every other one counts (R122). -/
def State.crossLatch (l : Latch) (k : Nat) (lowest : Bool) (data : Bytes) (s : State) : State :=
  let same := l.block = s.time.block
  let l := { l with
    inBlock := if same then l.inBlock + k else k, block := s.time.block
    blockLevel := if same && l.inBlock ≠ 0 then farther lowest l.blockLevel l.level else l.level, latest := data }
  if l.count = 0 then
    (s.putLatch { l with
      count := satN 65535 k, extreme := l.level, sec := s.secs, ns := s.nanos, data := data }).raiseLatched l.source l.code
      l.node data
  else s.putLatch { l with count := satN 65535 (l.count + k), extreme := farther lowest l.extreme l.level }

/-- A latch as its first crossing names the node it watches. -/
def State.latchOn (s : State) (src no node : Nat) : Latch :=
  let l := s.latch src no
  if l.count = 0 then { l with node := node } else l

/-- A crossing at a live level: the condition holds at that level. -/
def State.cross (src no node : Nat) (level : Int) (lowest : Bool) (data : Bytes) (s : State) : State :=
  s.crossLatch { s.latchOn src no node with level := level, holds := true } 1 lowest data

/-- Restore the current level of a latch and its condition. -/
def State.asBefore (l : Latch) (s : State) : State :=
  s.putLatch { s.latch l.source l.no with level := l.level, holds := l.holds }

/-- A crossing within a block or interval that goes on: the current level and the condition stay those of the last completed one
(R122); the extreme takes the count or value so far. -/
def State.crossWithin (src no node : Nat) (value : Int) (data : Bytes) (s : State) : State :=
  (s.crossLatch { s.latchOn src no node with level := value } 1 false data).asBefore (s.latch src no)

/-- The current level of a latch, kept apart from its count; a disarmed latch also tracks its extreme. -/
def State.setLevel (src no : Nat) (level : Int) (holds lowest : Bool) (s : State) : State :=
  let l := s.latch src no
  let x := if l.count = 0 then l.extreme else farther lowest l.extreme level
  s.putLatch { l with level := level, holds := holds, extreme := x }

/-- The end of a block or interval for a latch whose level is its count or largest value: k crossings lay in it (R122). -/
def State.blockCross (src no node k : Nat) (level : Int) (data : Bytes) (s : State) : State :=
  if k ≠ 0 then s.crossLatch { s.latchOn src no node with level := level, holds := true } k false data
  else if (findKey Latch.key (4 * src + no) s.evq.latches).isSome then s.setLevel src no 0 false false else s

/-- The end of a block that counts as one crossing when the value is not 0. -/
def State.blockLatch (src no node : Nat) (value : Nat) (data : Bytes) (s : State) : State :=
  s.blockCross src no node (min 1 value) value data

/-! ### Nodes (R82 to R85) -/

def State.slab? (s : State) (i : Nat) : Option Slab := findKey Slab.index i s.slabs
def State.action? (s : State) (i : Nat) : Option Action := s.time.actions.find? fun a => a.index == i

/-- A live node exists with this ID. -/
def State.live (s : State) (id : Nat) : Bool :=
  let t := nodeType id
  let i := nodeIdx id
  if id = 0 then true
  else if isFixed t then i < fixedCount s.time.rate96 t
  else if t = Ty.slab then (s.slab? i).isSome
  else if t = Ty.action then (s.action? i).isSome
  else isCreated t && (getA id s.nodes).isSome

/-- The node; one destroyed in this strobe period keeps its parameters for the engines until the period ends (R88). -/
def State.node (s : State) (id : Nat) : Node :=
  match getA id s.nodes with
  | some n => n
  | none => (getA id s.leaving).getD {}

/-- Store a node: a fixed node at its defaults is not listed. -/
def State.setNode (id : Nat) (n : Node) (s : State) : State :=
  if isFixed (nodeType id) && n == {} then { s with nodes := delA id s.nodes }
  else { s with nodes := setA id n s.nodes }

def State.enabled (s : State) (id : Nat) : Bool := (s.node id).state == .enabled

/-- The engines run this node in this strobe period (R86). -/
def State.running (s : State) (id : Nat) : Bool := s.run.any fun x => x.1 == id

/-- Created nodes of a type, by rising index. -/
def State.nodesOf (s : State) (t : Nat) : List (Nat × Node) := s.nodes.filter fun x => nodeType x.1 == t

def State.runningOf (s : State) (t : Nat) : List Nat := (s.run.filter fun x => nodeType x.1 == t).map (·.1)

/-- Nodes in existence (R84). -/
def State.liveCount (s : State) : Nat :=
  fixedNodes s.time.rate96 + (s.nodes.filter fun x => !isFixed (nodeType x.1)).length + s.slabs.length
    + s.time.actions.length

/-! ### Parameters (R90 to R92) -/

/-- Slot of a kernel instance, read from the raw parameter list. -/
def State.krnSlot (s : State) (id : Nat) : ImageSlot :=
  ImageSlot.of s.bench.slots (leNat ((getA 1 (s.node id).params).getD []))

/-- The parameter of a node, families from 0x0020 and 0x1000 included. -/
def State.par? (s : State) (id pid : Nat) : Option Par :=
  let t := nodeType id
  match (parsOf t).find? fun p => p.id == pid with
  | some p => some p
  | none =>
    if t = Ty.galOut ∧ 0x1000 ≤ pid ∧ pid ≤ 0x1FFF then
      some { id := pid, len := 4, legal := isXp, dflt := 0x05000000, slab := true }
    else if t = Ty.beam ∧ 0x1000 ≤ pid ∧ pid ≤ 0x103F then
      some { id := pid, len := 132, legal := isMicFilter, slab := true }
    else if t = Ty.kernel then
      let im := s.krnSlot id
      let h := im.header
      if 0x20 ≤ pid ∧ pid < 0x20 + h.lines then
        let l := im.line (pid - 0x20)
        some { id := pid, len := 4, legal := fun b => isNat 4 l.2.1 b && leNat b % 4 = 0, dflt := l.2.2 }
      else if 0x1000 ≤ pid ∧ pid < 0x1000 + h.words then
        some { id := pid, len := 4, dflt := leNat (im.bytes.readBytes (im.wordsAt + 4 * (pid - 0x1000)) 4),
               slab := bit h.flags 0 }
      else none
    else none

/-- IDs of a type below 0x1000, rising (R92). -/
def State.parIds (s : State) (id : Nat) : List Nat :=
  (parsOf (nodeType id)).map (·.id)
    ++ if nodeType id = Ty.kernel then (List.range (s.krnSlot id).header.lines).map (0x20 + ·) else []

/-- Default value bytes of a parameter; CNAME's is "EVH" and the stream index in decimal (R304). -/
def digitsOf : Nat → Nat → Bytes
  | 0, _ => []
  | n + 1, v => (if v < 10 then [] else digitsOf n (v / 10)) ++ [BitVec.ofNat 8 (0x30 + v % 10)]

def State.dfltBytes (s : State) (id pid : Nat) : Bytes :=
  if nodeType id = Ty.rtp ∧ pid = 21 then padTo 16 ([0x45, 0x56, 0x48] ++ digitsOf 8 (nodeIdx id))
  else
    match s.par? id pid with
    | some p => leBytes p.len p.dflt
    | none => []

/-- Stored entry of a crosspoint (R190). -/
def Gallery.entry (g : Gallery) (o i : Nat) : BitVec 32 :=
  match g.xp.find? fun x => x.1 == o && x.2.1 == i with
  | some x => x.2.2
  | none => 0x05000000

/-- Value in effect of a stored parameter. Crosspoints lie in the Gallery store, rail thresholds in the PMU. -/
def State.par (s : State) (id pid : Nat) : Bytes :=
  let t := nodeType id
  if t = Ty.galOut ∧ 0x1000 ≤ pid then leBytes 4 (s.gal.entry (nodeIdx id) (pid - 0x1000)).toNat
  else if t = Ty.rail then
    match s.power.rails[nodeIdx id]? with
    | some r => leBytes 2 (if pid = 1 then r.warn else r.reset)
    | none => []
  else (getA pid (s.node id).params).getD (s.dfltBytes id pid)

def State.parN (s : State) (id pid : Nat) : Nat := leNat (s.par id pid)

def State.parI (s : State) (id pid : Nat) : Int := let b := s.par id pid; toSigned b.length (leNat b)

/-- The value last written: a change that waits for its boundary, else the value in effect. -/
def lastPend (id pid : Nat) : List Pend → Option Bytes
  | [] => none
  | .change c :: r =>
    match lastPend id pid r with
    | some v => some v
    | none => if c.node = id ∧ c.pid = pid then some c.val else none
  | _ :: r => lastPend id pid r

def State.latest (s : State) (id pid : Nat) : Bytes :=
  match lastPend id pid (s.pend ++ s.pendLate) with
  | some v => v
  | none => s.par id pid

def State.latestN (s : State) (id pid : Nat) : Nat := leNat (s.latest id pid)

/-- Store a parameter value in a live node; the default is not listed. -/
def State.storePar (id pid : Nat) (v : Bytes) (s : State) : State :=
  if s.live id then
    let n := s.node id
    let ps := if v = s.dfltBytes id pid then delA pid n.params else setA pid v n.params
    s.setNode id { n with params := ps }
  else s

/-- Leave a change for the next block boundary (R86), or the one after once the next record is closed (R458). -/
def State.atBoundary (p : Pend) (s : State) : State :=
  if s.closedView.isSome then { s with pendLate := s.pendLate ++ [p] } else { s with pend := s.pend ++ [p] }

/-! ### Bench cost units (R29 to R38) -/

/-- Cost of a node with its parameters given by `get` (R30, R239, R256, R291, R325, R350, R374). -/
def nodeCost (s : State) (id : Nat) (get : Nat → Nat) : Nat :=
  let t := nodeType id
  if t = Ty.call then
    codecCost (get 1)
      + (if get 7 = 0 then 0 else if codecRate (get 1) (get 3) = 16000 then 80
         else if codecRate (get 1) (get 3) = 8000 then 40 else 0)
  else if t = Ty.rtp then (if get 3 = 2 then 0 else 3)
  else if t = Ty.beam then (if get 1 = 1 then 300 else 40)
  else if t = Ty.obj then 20
  else if t = Ty.spk then 4 + (if get 0x108 = 0 then 0 else if get 0x108 = 256 then 26 else 140)
  else if t = Ty.tone then (if get 1 = 2 then 3 else 2)
  else if t = Ty.kernel then
    (if s.time.rate96 then (s.krnSlot id).header.cost96 else (s.krnSlot id).header.cost48)
  else 0

/-- Region bytes an instance needs on a cluster: kernel images only (R360; log 13). -/
def regionOf (s : State) (id : Nat) : Nat :=
  if nodeType id = Ty.kernel then (s.krnSlot id).header.region s.spb else 0

def clusterLimit : Nat := 143360
def clusterStore : Nat := 3670016

def State.clustersIn (s : State) : List Nat := (List.range 16).filter fun c => !s.bench.clustersOut.contains c

/-- Clusters that admission counts: in a formed pair the lesser of both devices' (R462). -/
def State.clusterCount (s : State) : Nat :=
  if s.pair.state = 3 then min s.clustersIn.length s.pair.partnerClusters else s.clustersIn.length

def State.admissionLimit (s : State) : Nat := s.clusterCount * clusterLimit

/-- Cost increases that pending Slabs reserve (R102), for a cluster or in all. -/
def State.reserved (s : State) (c : Option Nat) : Nat :=
  sumN (s.slabs.flatMap fun sl => sl.reserved.map fun x =>
    match c with
    | none => x.2
    | some k => if (s.node x.1).cluster = some k then x.2 else 0)

def State.committed (s : State) : Nat := sumN (s.nodes.map fun x => x.2.bcu) + s.reserved none

def State.clusterLoad (s : State) (c : Nat) : Nat :=
  sumN (s.nodes.map fun x => if x.2.cluster = some c then x.2.bcu else 0) + s.reserved (some c)

def State.storeUsed (s : State) (c : Nat) : Nat :=
  sumN ((s.nodesOf Ty.kernel).map fun x => if x.2.cluster = some c then regionOf s x.1 else 0)

/-- A cluster can take an instance (R357). -/
def State.canTake (s : State) (cost region c : Nat) : Bool :=
  !s.bench.clustersOut.contains c && c < 16 && s.clusterLoad c + cost ≤ clusterLimit
    && s.storeUsed c + region ≤ clusterStore

/-- Clusters in service by rising committed bcu, ties to the lower index: the first that can take the instance. -/
def State.pick (s : State) (cost region : Nat) : Option Nat :=
  (s.clustersIn.filter (s.canTake cost region)).foldl (init := none) fun best c =>
    match best with
    | none => some c
    | some b => if s.clusterLoad c < s.clusterLoad b then some c else some b

/-- Placement with a preference, 0xFF for none (R357). -/
def State.place (s : State) (pref cost region : Nat) : Option Nat :=
  if pref = 0xFF then s.pick cost region else if s.canTake cost region pref then some pref else none

/-- R33: the device-wide condition for an increase. -/
def State.admits (s : State) (increase : Nat) : Bool := s.committed + increase ≤ s.admissionLimit

/-! ### Links between nodes (R93 to R95) -/

/-- Source that feeds an input, as the engines see it. -/
def State.sourceOf (s : State) (dst inp : Nat) : Option (Nat × Nat) :=
  (s.wires.find? fun c => c.dst == dst && c.dstIn == inp).map fun c => (c.src, c.srcOut)

/-- Samples that an input reads in this strobe period: those its source made in the last one, else zeros (R16). -/
def State.inputBlock (s : State) (dst inp : Nat) : List Int :=
  match s.sourceOf dst inp with
  | none => []
  | some (n, o) =>
    match s.rd.find? fun x => x.1 == n && x.2.1 == o with
    | some x => x.2.2
    | none => []

def State.inputSample (s : State) (dst inp k : Nat) : Int := (s.inputBlock dst inp).getD k 0

/-- Append one sample to the block a producer makes; blocks in the making are kept newest first. -/
def pushSample (n o : Nat) (v : Int) : List (Nat × Nat × List Int) → List (Nat × Nat × List Int)
  | [] => [(n, o, [v])]
  | x :: r => if x.1 = n ∧ x.2.1 = o then (n, o, v :: x.2.2) :: r else x :: pushSample n o v r

def State.produce (n o : Nat) (v : Int) (s : State) : State := { s with wr := pushSample n o v s.wr }

/-! ### The command contract (R45 to R56, R67 to R72, R577) -/

def State.box (s : State) (mb : Nat) : Mbx := s.mbx[mb]?.getD {}

def State.setBox (mb : Nat) (b : Mbx) (s : State) : State := { s with mbx := s.mbx.setIfInBounds mb b }

/-- Success of a command: response fields that the opcode fills (R51, R52). -/
structure Reply where
  status : Nat := 0
  late : Bool := false
  node : Option Word := none
  payload : Bytes := []
  deriving DecidableEq, Repr, Inhabited

/-- What applying a command comes to: a failure changes no state (R72). -/
inductive Verdict where
  | fail (code : Nat) (payload : Bytes)
  | done (s : State) (r : Reply)
  /-- The response is written later (R577). -/
  | wait (s : State)

def failWith (code : Nat) : Verdict := .fail code []
def okay (s : State) : Verdict := .done s {}
def answer (s : State) (p : Bytes) : Verdict := .done s { payload := p }

/-- What R55 tests of an opcode before and at its application. -/
structure Contract where
  opcode : Nat
  /-- Accepted without a session (R58). -/
  closedOk : Bool := false
  /-- Check 5: legal payload lengths (R575). -/
  len : Nat → Bool
  /-- Flag bits that the opcode defines. -/
  flags : BitVec 16 := 0
  /-- Check 6: the payload table's fixed fields, each alone (R575). -/
  fixed : State → Fin 8 → Req → Bool := fun _ _ _ => true
  /-- Check 7: 0, or the code of the failure. -/
  node : State → Fin 8 → Req → Nat
  /-- Check 8: allowed in Standby (R505). -/
  standby : Bool := true
  /-- The legalities of check 9 that hang on the values carried, on the node or on the state (R575): ERR_RANGE before the
  rest of check 9, unless the owning rule puts another code first, when they stand in the body (log 17). -/
  fields : State → Fin 8 → Req → Bool := fun _ _ _ => true
  /-- The rest of check 9 and the effect. -/
  body : State → Fin 8 → Req → Verdict

/-- Check 7 for an opcode on the control processor, node ID 0x0000_0000. -/
def onCp (_ : State) (_ : Fin 8) (r : Req) : Nat :=
  if nodeType r.node.toNat ≠ 0 then Err.nodeType else if r.node = 0 then 0 else Err.noNode

/-- Check 7 for an opcode on the types listed. -/
def onTypes (l : List Nat) (s : State) (_ : Fin 8) (r : Req) : Nat :=
  if !l.contains (nodeType r.node.toNat) then Err.nodeType else if s.live r.node.toNat then 0 else Err.noNode

/-- Check 7 left to check 9 by the owning rule. -/
def onAny (_ : State) (_ : Fin 8) (_ : Req) : Nat := 0

def lenIs (n : Nat) (l : Nat) : Bool := l = n
def lenIn (lo hi : Nat) (l : Nat) : Bool := lo ≤ l && l ≤ hi

/-- The 16 header bytes and the payload of a response as they lie in the response area (R51). -/
def Resp.bytes (p : Resp) : Bytes :=
  leBytes 2 p.status ++ leBytes 2 (ofBool p.degraded + 2 * ofBool p.replayed + 4 * ofBool p.late) ++ leBytes 4 p.tag.toNat
    ++ leBytes 4 p.node.toNat ++ leBytes 2 p.payload.length ++ leBytes 2 p.count ++ p.payload

/-- Device-local opcodes (R463). -/
def localOpcodes : List Nat :=
  [0x0001, 0x0005, 0x0203, 0x0804, 0x0B10, 0x0B20, 0x0B01, 0x0B02, 0x0C01, 0x0C02, 0x0C03, 0x0D03, 0x0E01]

def isLocal (op : Nat) : Bool := localOpcodes.contains op

/-- Checks 5 and 6 (R55): 0 or the code. -/
def Contract.early (c : Contract) (s : State) (mb : Fin 8) (r : Req) : Nat :=
  if !c.len r.payload.length then Err.length
  else if (r.flags &&& ~~~ c.flags) ≠ 0 then Err.range
  else if r.rsvd ≠ 0 then Err.range
  else if !c.fixed s mb r then Err.range
  else 0

/-- Checks 7, 8 and 9 with the effect (R55). -/
def Contract.apply (c : Contract) (s : State) (mb : Fin 8) (r : Req) : Verdict :=
  let k := c.node s mb r
  if k ≠ 0 then failWith k
  else if s.power.state == .standby && !c.standby then failWith Err.power
  else if !c.fields s mb r then failWith Err.range
  else c.body s mb r

/-- The CRC of R67 over header bytes 0 to 3, 8 to 15 and the payload. -/
def reqCrc (op : Nat) (r : Req) : Word :=
  crc32c (leBytes 2 op ++ leBytes 2 r.flags.toNat ++ leBytes 4 r.node.toNat ++ leBytes 2 r.payload.length
    ++ leBytes 2 r.rsvd.toNat ++ r.payload)

def tagSize : Nat := 256

/-- Put a complete response into the response area (R46 steps 4 and 5) and raise the mailbox's cause (R124). -/
def State.deliver (mb : Nat) (p : Resp) (s : State) : State :=
  let b := s.box mb
  (s.setBox mb { b with
    resp := p, area := p.bytes ++ b.area.drop p.bytes.length, busy := false, respReady := true, held := none }).setCause mb

def State.pairEn (s : State) : Bool := s.id.straps.pairEn

/-- A device of a pair drives outputs only while it holds the token (R453). -/
def State.drivesOutputs (s : State) : Bool := !s.pairEn || s.pair.token

/-- Something on an output of R453. -/
def State.emitDriven (s : State) (x : Sent) : State := if s.drivesOutputs then s.emit x else s

/-- PAIR_DEGRADED of a response written now (R52, R455). -/
def State.degraded (s : State) : Bool := s.pairEn && s.pair.state != 3

/-- The response waits for the standby's acknowledgment (R462): a mirrored command on the primary of a formed pair. -/
def State.holdsResponses (s : State) (op : Nat) : Bool :=
  s.pairEn && s.pair.role == 1 && s.pair.state == 3 && !isLocal op

/-- The block in which a command applied now takes effect (R86, R458). -/
def State.effectBlock (s : State) : Nat := s.time.block + (if s.closedView.isSome then 2 else 1)

/-- Opcodes that read the bulk window of their mailbox (R43). -/
def bulkOpcodes : List Nat := [0x0111, 0x0402, 0x0601, 0x0A01, 0x1110]

/-- The bulk window of a mailbox (R43). -/
def inBulk (mb a : Nat) : Bool := 0x20000 + 0x1C000 * mb ≤ a && a < 0x20000 + 0x1C000 * (mb + 1)

/-- A command with what its record carries of this device: the clocks, the draws, the bulk bytes. -/
def State.mirrored (s : State) (op : Nat) (mb : Fin 8) (r : Req) : Mirrored :=
  { opcode := op, mb := mb, r := r, block := s.time.block, pos := s.time.pos, net := s.time.net, draws := s.free
    bulk := if bulkOpcodes.contains op then s.mem.bar2.filter fun c => inBulk mb c.1 else [] }

/-- Put a command that took effect into the record, before the decisions that its effect brought (R458, R462); `before` is the
state in which it was applied. -/
def State.recordCommand (s : State) (op : Nat) (mb : Fin 8) (r : Req) (before : State) : State :=
  if s.recording && !isLocal op then
    let n := before.pair.log.length
    { s with pair := { s.pair with log := s.pair.log.take n ++ .command (before.mirrored op mb r) :: s.pair.log.drop n } }
  else s

/-- Complete a command: count it in the session, remember its response, deliver or hold it (R46, R54, R67, R462).
`opened`: a session was open when the command was accepted; `tagged`: it passed check 4, so tag memory takes it. -/
def State.finish (op : Nat) (mb : Fin 8) (r : Req) (opened tagged : Bool) (status : Nat) (rep : Reply) (s : State) :
    State :=
  let b := s.box mb
  let counts := opened && s.pair.role != 2
  let n := if counts then (b.count + 1) % 65536 else b.count
  let p : Resp :=
    { status := status, degraded := s.degraded, late := rep.late, tag := r.tag, node := rep.node.getD r.node,
      count := if opened then n else 0, payload := rep.payload }
  let stores := counts && tagged && op != 0x0004 && b.sess == .opened
  let e : TagEntry := ⟨r.tag, reqCrc op r, p⟩
  let b := { b with
    count := if b.sess == .opened then n else b.count
    tags := if stores then (e :: b.tags).take tagSize else b.tags }
  let s := s.setBox mb b
  let s := if counts then s.note (.counted mb n (if stores then some e else none)) else s
  if tagged && s.holdsResponses op then s.setBox mb { b with held := some ⟨p, s.effectBlock, []⟩ }
  else s.deliver mb p

/-- The nodes that a held response keeps others from (R71). -/
def State.keepNodes (mb : Fin 8) (nodes : List Nat) (s : State) : State :=
  match (s.box mb).held with
  | some h => s.setBox mb { s.box mb with held := some { h with nodes := h.nodes ++ nodes } }
  | none => s

/-- A session takes a counted command and its tag-memory entry (R462). -/
def State.takeEntry (mb n : Nat) (e : Option TagEntry) (s : State) : State :=
  let b := s.box mb
  if b.sess == .opened then
    s.setBox mb { b with count := n, tags := match e with | some x => (x :: b.tags).take tagSize | none => b.tags }
  else s

/-- Complete a command that waited (R577). The standby leaves it to the primary; on a device whose mailbox did not ring it, which
took over since, the session remembers the response, which no mailbox waits for (R470). -/
def State.finishWaited (op : Nat) (mb : Fin 8) (r : Req) (status : Nat) (rep : Reply) (s : State) : State :=
  let b := s.box mb
  if s.pair.role == 2 then s
  else if !b.busy then
    let n := (b.count + 1) % 65536
    let p : Resp :=
      { status := status, degraded := s.degraded, late := rep.late, tag := r.tag, node := rep.node.getD r.node, count := n
        payload := rep.payload }
    let e : TagEntry := ⟨r.tag, reqCrc op r, p⟩
    (s.takeEntry mb n (some e)).note (.counted mb n (some e))
  else s.finish op mb r (b.sess == .opened) true status rep

/-- The first access flagged since the error bits were last all 0 leaves its offset (R542). -/
def State.flagAccess (off : Nat) (f : Ident → Ident) (s : State) : State :=
  let i := s.id
  let clear := !(i.errPartial || i.errUnmapped || i.errNotReady || i.errQspi)
  { s with id := f { i with errOffset := if clear then off % 65536 else i.errOffset } }

/-- In Sleep, or powered down, no doorbell reaches the CP and no bit is set (R538, R551). -/
def State.awake (s : State) : Bool := s.power.state == .active || s.power.state == .standby

/-! ### Commands that wait (R39, R71, R80, R577) -/

/-- Families of opcodes, by high byte, that the recovery from a cluster move affects: nodes and Slabs, every engine with Bench
nodes, power and units (R39, R80, R509); SYS_CAPACITY tells the outcome. -/
def moveAffects (op : Nat) : Bool := op == 0x0005 || [1, 5, 6, 7, 9, 0xA, 0xF, 0x10].contains (op / 256)

/-- Families that the recovery from a slice loss affects. -/
def sliceAffects (op : Nat) : Bool := op == 0x0005 || [1, 4, 0xF, 0x10].contains (op / 256)

/-- Nodes of a Slab payload's items (R71): targets of parameter items and output ports of crosspoint items. -/
def slabItemNodes : Nat → Bytes → List Nat
  | 0, _ => []
  | n + 1, p =>
    if p.length < 4 then []
    else
      let len := max 4 (field p 2 2)
      let here :=
        if field p 0 1 = 1 then [field p 4 4]
        else if field p 0 1 = 2 then [mkNode Ty.galOut (field p 4 2)]
        else (List.range (field p 6 2)).map fun i => mkNode Ty.galOut (field p 4 2 + i)
      here ++ slabItemNodes n (p.drop len)

/-- Nodes that the items of a Slab touch, with the Slab itself. -/
def Slab.touches (sl : Slab) : List Nat := mkNode Ty.slab sl.index :: sl.items.map (·.node)

/-- Nodes that the body of a TIME_SCHEDULE names (R71, R148): its GPIO or port, or what its embedded command names. -/
def actionBodyNodes (kind : Nat) (b : Bytes) : List Nat :=
  if kind = 2 then [mkNode Ty.gpio (field b 0 1)]
  else if kind = 3 then [field b 0 4]
  else if kind = 1 then
    let op := field b 0 2
    if op = 0x0301 then (List.range (field b 14 2)).map fun i => mkNode Ty.mic (field b 12 2 + i)
    else if op = 0x0105 ∨ op = 0x0106 then [field b 4 4, field b 16 4]
    else [field b 4 4]
  else []

/-- Objects that a REN_POS_BATCH or a packet of the position queue names. -/
def batchNodes (p : Bytes) : List Nat := (List.range (field p 0 2)).map fun i => mkNode Ty.obj (field p (8 + 24 * i) 4)

/-- Packets of the bound position queue that the next strobes apply: those before an unbind (R237). -/
def State.packetsDue (s : State) : Nat :=
  match s.ren.posQueue with
  | some q => s.ren.unbinding.getD ((s.mem.queues[q]?.map fun h => h.packets.length).getD 0)
  | none => 0

/-- Objects of the first n packets of the bound queue, which keep later commands back as doorbells would (R71, R237). -/
def State.packetNodes (s : State) (n : Nat) : List Nat :=
  match s.ren.posQueue.bind fun q => s.mem.queues[q]? with
  | some h => (h.packets.take n).flatMap fun p => batchNodes (p.flatMap fun w => leBytes 8 w.1.toNat)
  | none => []

/-- Nodes that a command touches (R71). -/
def State.touches (s : State) (op : Nat) (r : Req) : List Nat :=
  let h := r.node.toNat
  let p := r.payload
  let own := if h = 0 then [] else [h]
  if op = 0x0105 ∨ op = 0x0106 then [h, field p 4 4]
  else if op = 0x0111 then h :: slabItemNodes p.length p
  else if op = 0x0112 ∨ op = 0x0113 then
    match s.slab? (nodeIdx h) with
    | some sl => sl.touches
    | none => own
  else if op = 0x0201 then own ++ actionBodyNodes (field p 1 1) (p.drop 20)
  else if op = 0x0301 then (List.range (field p 2 2)).map fun i => mkNode Ty.mic (field p 0 2 + i)
  else if op = 0x0402 then (List.range (field p 2 2)).map fun i => mkNode Ty.galOut (field p 0 2 + i)
  else if op = 0x0502 then batchNodes p
  else if op = 0x0503 then (if field p 0 4 = 0 then [] else [field p 0 4])
  else if op = 0x1002 ∨ op = 0x0E03 ∨ op = 0x0B10 then []
  else own

/-- Nodes that waiting commands touch (R71, R577): Slab commits, Ashlar jobs, commands whose response the partner has still to
acknowledge. -/
def State.waitingNodes (s : State) : List Nat :=
  (s.slabs.flatMap fun sl => if sl.waiter.isSome then sl.touches else [])
    ++ (s.ash.flatMap fun a => if a.job.isSome then [mkNode Ty.ash a.ctx] else [])
    ++ s.mbx.toList.flatMap fun b => match b.held with | some h => h.nodes | none => []

/-- Between a fault and the recovery that affects the command (R39, R80). -/
def State.inRecovery (s : State) (op : Nat) : Bool :=
  (s.faults.retire.isSome && moveAffects op) || s.pair.takeover
    || (sliceAffects op && (!s.faults.sliceLost.isEmpty || match s.faults.sliceHold with
        | some b => s.time.block < b
        | none => false))

/-- A command waits behind the nodes given, or behind a recovery step. -/
def State.blocked (s : State) (nodes : List Nat) (op : Nat) (r : Req) : Bool :=
  s.inRecovery op || (s.touches op r).any nodes.contains

def State.mustWait (s : State) (op : Nat) (r : Req) : Bool :=
  s.blocked (s.waitingNodes ++ s.packetNodes s.packetsDue ++ s.deferred.flatMap fun w => s.touches w.opcode w.req) op r

/-- Apply a command that passed checks 1 to 6 and complete it, unless its response comes later. -/
def Contract.settle (c : Contract) (mb : Fin 8) (r : Req) (opened : Bool) (s : State) : State :=
  match c.apply s mb r with
  | .fail k p => s.finish c.opcode mb r opened true k { payload := p }
  | .done s' rep =>
    ((s'.recordCommand c.opcode mb r s).finish c.opcode mb r opened true rep.status rep).keepNodes mb (s.touches c.opcode r)
  | .wait s' => s'.recordCommand c.opcode mb r s

/-- R46 step 1 and R62: the doorbell is accepted; any command but SESSION_PROVE ends the memory of a locked open. -/
def State.accept (op : Nat) (mb : Fin 8) (s : State) : State :=
  let b := s.box mb
  s.setBox mb { b with
    busy := true, respReady := false, lastDoorbell := s.time.ticks
    lockedOpen := if op = 0x0003 then b.lockedOpen else none }

/-- The tag memory entry of a tag. -/
def Mbx.tagOf (b : Mbx) (t : Word) : Option TagEntry := b.tags.find? fun e => e.tag == t

/-- Checks 3 to 6 and the command (R55), after its doorbell was accepted and passed checks 1 and 2. -/
def Contract.checked (c : Contract) (mb : Fin 8) (r : Req) (s : State) : State :=
  let b := s.box mb
  let opened := b.sess == .opened
  let out (tagged : Bool) (k : Nat) : State := s.finish c.opcode mb r opened tagged k {}
  let fresh : State :=
    let k := c.early s mb r
    if k ≠ 0 then out true k
    else if s.mustWait c.opcode r then { s with deferred := s.deferred ++ [⟨c.opcode, mb.val, r, s.packetsDue⟩] }
    else c.settle mb r opened s
  if !opened && !c.closedOk then out false Err.noSession
  else if s.pair.role == 2 && !isLocal c.opcode then out false Err.peer
  else if opened && c.opcode != 0x0004 && s.pair.role != 2 then
    match b.tagOf r.tag with
    | some e =>
      if e.crc = reqCrc c.opcode r then s.deliver mb { e.resp with replayed := true } else out false Err.tag
    | none => fresh
  else fresh

/-- A doorbell write: refused before Daluo is ready (R538), ignored while BUSY (R47), else accepted. -/
def State.doorbell (op : Nat) (mb : Fin 8) (s : State) (k : State → State) : State :=
  if !s.awake then s
  else if !s.ready then s.flagAccess (0x1000 + 0x100 * mb.val) fun i => { i with errNotReady := true }
  else if (s.box mb).busy then s.setBox mb { s.box mb with dbOverrun := true }
  else k ((s.note (.bell mb)).accept op mb)

/-- A mailbox command, from its doorbell to its response (R46, R55). -/
def runCommand (c : Contract) (mb : Fin 8) (r : Req) (s : State) : Host.Outcome State Fault Refusal :=
  .next (s.doorbell c.opcode mb fun s =>
    if 8176 < r.payload.length then s.finish c.opcode mb r ((s.box mb).sess == .opened) false Err.length {}
    else c.checked mb r s)

end Sys2Proof.Machine
end

