-- ==== Sys2Proof/Machine/Events.lean ====
section
/-! DEFINITION. Events: source settings, latches, the event ring and its interrupts (R110 to R130). -/

namespace Sys2Proof.Machine

/-! ### Live levels of latches (R122, R395, R501, R517) -/

/-- Words a queue holds, committed or not (R391). -/
def HostQueue.level (q : HostQueue) : Nat := sumN (q.packets.map List.length) + q.partial_.length

def State.queue (s : State) (q : Nat) : HostQueue := s.mem.queues[q]?.getD {}

/-- HIGH acts as the capacity above it (R397). -/
def HostQueue.highMark (q : HostQueue) : Nat := min q.high q.cap

/-- Setpoint on which a rail's levels rest: a raise counts 2 ms after the change (R499). -/
def Rail.base (now : Nat) (r : Rail) : Nat :=
  match r.raisedAt with
  | some t => if t + 96 ≤ now then r.setpoint else r.levelSet
  | none => r.setpoint

/-- Warning level of a rail (R499). -/
def Rail.warnLevel (now : Nat) (r : Rail) : Nat := r.base now * (1000 - r.warn) / 1000

/-- A latch with its live level, where the level is a live value. -/
def State.latchLive (s : State) (src no : Nat) : Latch :=
  let l := s.latch src no
  if 64 ≤ src ∧ src ≤ 79 then
    match s.power.rails[src - 64]? with
    | some r => { l with level := r.voltage, holds := r.voltage < r.warnLevel s.time.ticks }
    | none => l
  else if src = 80 then { l with level := s.power.tj, holds := s.power.thermWarn }
  else if 256 ≤ src ∧ src ≤ 271 ∧ no ≤ 1 then
    let q := s.queue (src - 256)
    { l with level := q.level, holds := if no = 0 then q.highMark < q.level else q.level < q.low }
  else if src = 513 then { l with level := s.gal.queue.length, holds := s.gal.queue ≠ [] }
  else l

/-- The latch as a command sees it: until its first crossing or clear its extreme is its level (DEDUCED, log 43). -/
def State.latchNow (s : State) (src no : Nat) : Latch :=
  let l := s.latchLive src no
  if (findKey Latch.key (4 * src + no) s.evq.latches).isNone then { l with extreme := l.level } else l

/-! ### EVT_SOURCE_SET, EVT_LATCH_READ, EVT_LATCH_CLEAR -/

/-- One latched event for each latch of a source that still counts crossings (R121). -/
def State.raiseHeldLatches (src : Nat) (s : State) : State :=
  (s.evq.latches.filter fun l => l.source == src && 0 < l.count).foldl (init := s) fun s l =>
    s.raiseLatched src l.code l.node l.data

/-- Apply the settings to one source (R115, R121). -/
def State.setSource (mask urgent : Bool) (s : State) (src : Nat) : State :=
  let q := s.evq
  let was := q.masked.contains src
  let mask := mask && src != 2
  let s := { s with evq := { q with
    masked := if mask then (if was then q.masked else q.masked ++ [src]) else q.masked.filter (· != src)
    urgent := if urgent then (if q.urgent.contains src then q.urgent else q.urgent ++ [src])
              else q.urgent.filter (· != src) } }
  if was && !mask then s.raiseHeldLatches src else s

def evtSourceSet : Contract where
  opcode := 0x0010
  len := lenIs 8
  fixed _ _ r :=
    let p := r.payload
    field p 0 2 ≤ 1023 && 1 ≤ field p 2 2 && field p 2 2 ≤ 1024 && field p 4 1 < 4 && reservedZero p [(5, 3)]
  node := onCp
  fields _ _ r := field r.payload 0 2 + field r.payload 2 2 ≤ 1024
  body s _ r :=
    let p := r.payload
    okay (((List.range (field p 2 2)).map (field p 0 2 + ·)).foldl
      (State.setSource (bit (field p 4 1) 0) (bit (field p 4 1) 1)) s)

def execEvtSourceSet (mb : Fin 8) (r : Req) (s : State) : Host.Outcome State Fault Refusal := runCommand evtSourceSet mb r s

/-- The payload of both latch commands: source, latch, reserved. -/
def latchFieldsOk (r : Req) : Bool :=
  field r.payload 0 2 ≤ 1023 && field r.payload 2 1 ≤ 3 && reservedZero r.payload [(3, 1)]

def hasLatch (src no : Nat) : Bool := no < (latchCodes src).length

def evtLatchRead : Contract where
  opcode := 0x0011
  len := lenIs 4
  fixed _ _ r := latchFieldsOk r
  node := onCp
  body s _ r :=
    let src := field r.payload 0 2
    let no := field r.payload 2 1
    if !hasLatch src no then failWith Err.state
    else
      let l := s.latchNow src no
      answer s (leBytes 2 l.count ++ leBytes 2 l.code ++ leBytes 4 l.node ++ leSigned 4 l.extreme ++ leSigned 4 l.level
        ++ leBytes 8 (if l.count = 0 then 0 else l.sec) ++ leBytes 4 (if l.count = 0 then 0 else l.ns)
        ++ leBytes 4 (ofBool l.holds + 2 * ofBool (s.evq.masked.contains src)))

def execEvtLatchRead (mb : Fin 8) (r : Req) (s : State) : Host.Outcome State Fault Refusal := runCommand evtLatchRead mb r s

/-- Microseconds from a sample to the present one. -/
def State.usSince (s : State) (m : Nat) : Nat := (s.m - m) * 1000 / 48

/-- Event data of a crossing that a clear makes: the live values where the level is one, else those of the last crossing. -/
def State.clearData (s : State) (l : Latch) : Bytes :=
  let src := l.source
  if 64 ≤ src ∧ src ≤ 79 then
    match (s.power.rails[src - 64]?).bind Rail.dip with
    | some (low, start, _) =>
      evData [(0, leBytes 1 (src - 64)), (1, leBytes 1 1), (2, leBytes 2 low), (4, leBytes 4 (satN u32max (s.usSince start))),
        (8, leBytes 8 start)]
    | none => l.latest
  else if src = 80 then patch (patch (padTo 16 l.latest) 0 (leSigned 2 s.power.tj)) 8 (leBytes 8 s.m)
  else if (256 ≤ src ∧ src ≤ 271 ∧ l.no ≤ 1) ∨ src = 513 then evData [(0, leBytes 4 l.level.toNat), s.mBytes]
  else l.latest

/-- R123: count 0, extreme at the current level, armed. A condition that holds counts as a crossing; crossings that coincide with
the clear in its block are counted after it (log 52). -/
def State.clearLatch (src no : Nat) (s : State) : State :=
  let l := s.latchNow src no
  let here := if l.block = s.time.block then l.inBlock else 0
  let armed := { l with count := 0, extreme := l.level, inBlock := 0 }
  let s' := s.putLatch armed
  if here ≠ 0 then (s'.crossLatch { armed with level := l.blockLevel } here false (s.clearData l)).asBefore l
  else if l.holds then s'.crossLatch armed 1 false (s.clearData l)
  else s'

def evtLatchClear : Contract where
  opcode := 0x0012
  len := lenIs 4
  fixed _ _ r := latchFieldsOk r
  node := onCp
  body s _ r :=
    let src := field r.payload 0 2
    let no := field r.payload 2 1
    if !hasLatch src no then failWith Err.state else okay (s.clearLatch src no)

def execEvtLatchClear (mb : Fin 8) (r : Req) (s : State) : Host.Outcome State Fault Refusal :=
  runCommand evtLatchClear mb r s

/-! ### The ring (R116 to R120, R126) -/

/-- Slots of the ring: 2^SIZE_LOG2, 64 for the internal ring. -/
def Evq.size (q : Evq) : Nat := 2 ^ (if q.internal then 6 else q.sizeLog2)

/-- Records waiting in the ring (R116). -/
def Evq.waitingInRing (q : Evq) : Nat := (q.head - q.tail).toNat

/-- FULL: the ring holds as many records as it has slots, with its rising edge on cause 10 (R116, R124). -/
def State.updateFull (s : State) : State :=
  let now := s.evq.waitingInRing == s.evq.size
  let s' := { s with evq := { s.evq with full := now } }
  if now && !s.evq.full then s'.setCause 10 else s'

def State.setConfigErr (s : State) : State :=
  let s' := { s with evq := { s.evq with configErr := true } }
  if s.evq.configErr then s' else s'.setCause 10

def State.setTailErr (s : State) : State :=
  let s' := { s with evq := { s.evq with tailErr := true } }
  if s.evq.tailErr then s' else s'.setCause 10

/-- The 48 bytes of a record (R110). -/
def EvRec.bytes (e : EvRec) : Bytes :=
  leBytes 8 e.seq ++ leBytes 8 e.sec ++ leBytes 4 e.ns ++ leBytes 2 e.source ++ leBytes 2 e.code ++ leBytes 4 e.node
    ++ padTo 16 e.data ++ leBytes 4 (ofBool e.latched + 2 * ofBool e.lost + 4 * ofBool e.redelivered)

def lostRecord (seq count sec ns : Nat) : EvRec :=
  { seq := seq, sec := sec, ns := ns, source := 2, code := 2, node := 0, data := evData [(0, leBytes 8 count)],
    lost := true }

/-- The checks of R117. -/
def Evq.configOk (q : Evq) : Bool :=
  (q.internal || (q.base % 4096 == 0 && q.base != 0)) && (q.internal || (6 ≤ q.sizeLog2 && q.sizeLog2 ≤ 12))
    && 1 ≤ q.resume && q.resume ≤ q.nextSeq

/-- What stays of an open gap for a ring that resumes at a number: the numbers from there on (log 53). -/
def gapFrom (resume next : Nat) (g : Nat × Nat × Nat × Nat) : Option (Nat × Nat × Nat × Nat) :=
  if resume ≤ g.1 then some g else if next ≤ resume then none else some (resume, next - resume, g.2.2)

/-- ENABLE with a legal configuration: head and tail 0, records below the resume number freed, delivery from there (R117). -/
def State.startRing (s : State) : State :=
  let q := s.evq
  let kept := q.store.filter fun e => q.resume ≤ e.seq
  let gap := q.gap.bind (gapFrom q.resume q.nextSeq)
  let oldest := match kept with
    | e :: _ => e.seq
    | [] => match gap with
      | some g => g.1
      | none => q.nextSeq
  let owed := decide (q.resume < oldest)
  let s := { s with evq := { q with
      head := 0, tail := 0, store := kept, gap := gap, written := 0, active := true, full := false, owedSlot := false
      owed := if owed then some (lostRecord q.resume (oldest - q.resume) s.secs s.nanos) else none } }
  if owed && q.urgent.contains 2 then s.setCause 9 else s

/-- A register of the blocks that answer only while CODE is 0x07 (R538). -/
def State.whenReady (off : Nat) (s : State) (k : State → State) : State :=
  if !s.awake then s
  else if !s.ready then s.flagAccess off fun i => { i with errNotReady := true }
  else k s

/-- A write of EVQ_CTRL: INTERNAL and SIZE_LOG2 hold while ACTIVE (R118), then ENABLE. With INTERNAL the size written is ignored
and reads as 6 (R116). -/
def State.writeEvqCtrl (v : Word) (s : State) : State :=
  let q := s.evq
  let internal := v.getLsbD 1
  let size := if internal then 6 else (v.toNat / 4) % 16
  if q.active then
    let differs := internal != q.internal || size != q.sizeLog2
    let s := if differs then s.setConfigErr else s
    if v.getLsbD 0 then s else { s with evq := { s.evq with enable := false, active := false } }
  else
    let s := State.updateFull { s with evq := { q with internal := internal, sizeLog2 := size, enable := v.getLsbD 0 } }
    if !v.getLsbD 0 then s else if s.evq.configOk then s.startRing else s.setConfigErr

/-- EVQ_ENABLE (R117): a write of EVQ_CTRL with ENABLE 1. -/
def execEvqEnable (v : Word) (s : State) : Host.Outcome State Fault Refusal :=
  .next (s.whenReady 0x2000 (State.writeEvqCtrl (v ||| 1)))

/-- EVQ_DISABLE (R118): a write of EVQ_CTRL with ENABLE 0. -/
def execEvqDisable (v : Word) (s : State) : Host.Outcome State Fault Refusal :=
  .next (s.whenReady 0x2000 (State.writeEvqCtrl (v &&& ~~~ 1)))

/-- A tail write inside the ring's records frees every record it passes, while ACTIVE is 0 too (log 54); any other sets TAIL_ERR
(R119). -/
def State.writeTail (v : Word) (s : State) : State :=
  let q := s.evq
  let n := (v - q.tail).toNat
  if q.waitingInRing < n then s.setTailErr
  else
    let k := if q.owedSlot && 0 < n then n - 1 else n
    State.updateFull { s with evq := { q with
      tail := v, store := q.store.drop k, written := q.written - k, owedSlot := q.owedSlot && n == 0 } }

def execEvqTailWrite (v : Word) (s : State) : Host.Outcome State Fault Refusal :=
  .next (s.whenReady 0x2014 (State.writeTail v))

/-- The record that the ring takes next: the one ENABLE owes, else the oldest stored and not yet written. -/
def Evq.nextRecord (q : Evq) : Option EvRec :=
  match q.owed with
  | some e => some e
  | none => q.store[q.written]?

/-- The device drives its ring: alone, or as the primary once the standby holds the number (R130, R467). -/
def State.mayDeliver (s : State) (e : EvRec) : Bool :=
  !s.pairEn || (s.pair.role == 1 && (s.pair.state != 3 || e.seq < s.pair.seqAcked))

/-- Write a record into the slot at head and advance head (R119). -/
def State.putRecord (e : EvRec) (s : State) : State :=
  let q := s.evq
  let fromStore := q.owed.isNone
  let e := { e with redelivered := e.redelivered || (fromStore && e.seq ≤ q.everWritten) }
  let slot := q.head.toNat % q.size
  let head := q.head + 1
  let q' := { q with
    head := head, written := if fromStore then q.written + 1 else q.written, owed := none
    owedSlot := q.owedSlot || !fromStore, everWritten := max q.everWritten e.seq
    ring := if q.internal then setA slot e q.ring else q.ring }
  let host :=
    if q.internal then s.mem.host
    else (s.mem.host.writeBytes (q.base + 48 * slot) e.bytes).writeBytes (q.base + 48 * q.size) (leBytes 4 head.toNat)
  { s with evq := q', mem := { s.mem with host := host } }

/-- Coalescing (R126): cause 8 when COUNT records were written since it was last set. -/
def State.countRecord (s : State) : State :=
  let q := s.evq
  if max 1 q.modCount ≤ q.since8 + 1 then State.setCause 8 { s with evq := { q with since8 := 0, first8 := none } }
  else { s with evq := { q with since8 := q.since8 + 1, first8 := some (q.first8.getD s.m) } }

/-- RING_RECORD_WRITE (R120): once a slot is free, the next stored record goes into the ring. -/
def execRingRecordWrite (s : State) : Host.Outcome State Fault Refusal :=
  match s.evq.nextRecord with
  | some e =>
    if s.evq.active && s.evq.waitingInRing < s.evq.size && s.mayDeliver e then
      .next ((s.putRecord e).countRecord.updateFull)
    else .next s
  | none => .next s

/-- EVENTS_LOST (R113): the gap closes once 2 store slots are free. -/
def execEventsLost (s : State) : Host.Outcome State Fault Refusal :=
  match s.evq.gap with
  | some (f, n, sec, ns) =>
    if s.evq.store.length + 2 ≤ storeSize then
      let s' := { s with evq := { s.evq with store := s.evq.store ++ [lostRecord f n sec ns], gap := none } }
      .next (if s.evq.urgent.contains 2 then s'.setCause 9 else s')
    else .next s
  | none => .next s

/-- RING_COALESCE_TIMER (R126): EVQ_MOD.TIME µs have passed since the first record not yet signalled, to a sample. -/
def execRingCoalesceTimer (s : State) : Host.Outcome State Fault Refusal :=
  match s.evq.first8 with
  | some m =>
    if s.evq.modTime ≠ 0 ∧ 48 * s.evq.modTime ≤ 1000 * (s.m + 1 - m) then
      .next (State.setCause 8 { s with evq := { s.evq with since8 := 0, first8 := none } })
    else .next s
  | none => .next s

end Sys2Proof.Machine
end

