-- ==== Sys2Proof/Machine/Memory.lean ====
section
/-! DEFINITION. LPDDR5X, Haul and the packet queues (R382 to R404). -/

namespace Sys2Proof.Machine

/-! ### Windows and regions -/

def bulkBytes : Nat := 114688

/-- BAR2 offset of a mailbox's bulk window (R43). -/
def bulkBase (mb : Nat) : Nat := 0x20000 + mb * 0x1C000

def State.readBulk (s : State) (mb off n : Nat) : Bytes := s.mem.bar2.readBytes (bulkBase mb + off) n

def State.writeBulk (mb off : Nat) (b : Bytes) (s : State) : State :=
  { s with mem := { s.mem with bar2 := s.mem.bar2.writeBytes (bulkBase mb + off) b } }

/-- User region in bytes: what lies above 2 GiB of 8 channels of the density fitted (R383, R385). -/
def State.userBytes (s : State) : Nat := (s.mem.density - 2) * 0x40000000

/-- Two byte ranges share a byte. -/
def overlaps (a n b k : Nat) : Bool := a < b + k && b < a + n && 0 < n && 0 < k

/-- A bulk range of a mailbox overlaps a queue attachment (R399). -/
def State.hitsAttachment (s : State) (mb off n : Nat) : Bool :=
  s.mem.queues.any fun q =>
    match q.window with
    | some (m, o, l) => m == mb && overlaps off n o l
    | none => false

/-! ### Queue operations (R391 to R396) -/

def queueNode (q : Nat) : Nat := mkNode Ty.queue q

def HostQueue.isFull (q : HostQueue) : Bool := q.level == q.cap

/-- Words of the head committed packet. -/
def HostQueue.headWords (q : HostQueue) : QPacket := q.packets.headD []

def satAdd32 (a b : Nat) : Nat := satN u32max (a + b)

/-- Rewind the packet in progress (R392). -/
def HostQueue.rewind (q : HostQueue) : HostQueue :=
  { q with partial_ := [], inProgress := false, bad := false, spoil := satAdd32 q.spoil 1 }

/-- Commit the packet in progress: a bad one is rewound (R391, R392). -/
def HostQueue.commit (q : HostQueue) : HostQueue :=
  if q.bad then q.rewind
  else { q with packets := q.packets ++ [q.partial_], partial_ := [], inProgress := false }

/-- The producer writes a word (R391, R393). -/
def HostQueue.push (w : BitVec 64 × Bool) (last : Bool) (q : HostQueue) : HostQueue :=
  if q.discarding then { q with flushed := satAdd32 q.flushed 1, discarding := !last }
  else
    let q :=
      if q.isFull then
        { q with overrun := true, bad := true, ignored := satAdd32 q.ignored 1, ignoredBlock := q.ignoredBlock + 1,
                 inProgress := true }
      else { q with partial_ := q.partial_ ++ [w], inProgress := true }
    if last then q.commit else q

/-- Flush (R393). -/
def HostQueue.flush (q : HostQueue) : HostQueue :=
  { q with
    packets := [], partial_ := [], bad := false, inProgress := false, flushed := satAdd32 q.flushed q.level
    discarding := q.discarding || q.inProgress }

/-- SPOIL of the packet in progress (R392, R393). -/
def HostQueue.spoilNow (q : HostQueue) : HostQueue :=
  if q.discarding then { q with discarding := false } else if q.inProgress then q.rewind else q

/-- The consumer takes the next word of the head packet. -/
def HostQueue.popWord (q : HostQueue) : Option ((BitVec 64 × Bool) × HostQueue) :=
  match q.packets with
  | [] => none
  | [] :: r => some ((0, false), { q with packets := r })
  | (w :: ws) :: r =>
    some (w, { q with
      packets := if ws.isEmpty then r else ws :: r
      poisoned := if w.2 then satAdd32 q.poisoned 1 else q.poisoned
      poisonBlock := if w.2 then q.poisonBlock + 1 else q.poisonBlock })

/-- Keep a latch's extreme while it is disarmed (R122). -/
def State.trackLatch (src no : Nat) (level : Int) (lowest : Bool) (s : State) : State :=
  let l := s.latch src no
  if l.count = 0 then s
  else s.setLatch { l with extreme := if lowest then min l.extreme level else max l.extreme level }

/-- Store a queue after an operation: watermark crossings, then its cause (R395, R396). -/
def State.putQueue (i : Nat) (n : HostQueue) (s : State) : State :=
  let o := s.queue i
  let src := 256 + i
  let data := evData [(0, leBytes 4 n.level), s.mBytes]
  let s := { s with mem := { s.mem with queues := s.mem.queues.setIfInBounds i n } }
  let s := if o.level ≤ o.highMark && n.highMark < n.level then s.cross src 0 (queueNode i) n.level false data
    else s.trackLatch src 0 n.level false
  let low := o.low ≤ o.level && n.level < n.low
  let s := if low then s.cross src 1 (queueNode i) n.level true data else s.trackLatch src 1 n.level true
  let fires := if i < 8 then o.packets.isEmpty && !n.packets.isEmpty else low || (!o.overrun && n.overrun)
  if fires then s.setCause (16 + i) else s

/-- An engine commits a whole packet to a toward-host queue. -/
def State.pushPacket (i : Nat) (ws : List (BitVec 64)) (s : State) : State :=
  let n := ws.length
  (List.range n).foldl (init := s) fun s k =>
    s.putQueue i ((s.queue i).push (ws.getD k 0, false) (k + 1 == n))

/-- The consumer takes a word. -/
def State.popOne (i : Nat) (s : State) : State :=
  match (s.queue i).popWord with
  | some (_, h) => s.putQueue i h
  | none => s

/-- Take the head packet out of a queue, word by word. -/
def State.popPacket (i : Nat) (s : State) : Option (QPacket × State) :=
  match (s.queue i).packets with
  | [] => none
  | p :: _ => some (p, (List.range (max 1 p.length)).foldl (fun s _ => s.popOne i) s)

/-- The end of a block: ignored writes are one crossing of latch 2, each poisoned word one of latch 3 (R394, R401). -/
def State.queueBlock (s : State) : State :=
  (List.range 16).foldl (init := s) fun s i =>
    let q := s.queue i
    let data (n : Nat) : Bytes := evData [(0, leBytes 4 n), s.mBytes]
    let s := s.blockLatch (256 + i) 2 (queueNode i) q.ignoredBlock (data q.ignoredBlock)
    let s := s.blockCross (256 + i) 3 (queueNode i) q.poisonBlock q.poisonBlock (data q.poisonBlock)
    { s with mem := { s.mem with
      queues := s.mem.queues.setIfInBounds i { q with ignoredBlock := 0, poisonBlock := 0 } } }

/-- A word of the packet carries a poison tag (R394). -/
def QPacket.poisoned (p : QPacket) : Bool := p.any (·.2)

/-- A poisoned packet is discarded whole: consumer 1 Daluo, 2 an engine (R481); POISON_DROP comes at the block's end. -/
def State.dropPoison (q consumer : Nat) (p : QPacket) (s : State) : State :=
  let f := s.faults
  let n := match f.poisonBlock.find? fun x => x.1 == q && x.2.1 == consumer with
    | some x => x.2.2
    | none => 0
  { s with faults := { f with
      poison := satAdd32 f.poison (p.filter (·.2)).length
      poisonBlock := (f.poisonBlock.filter fun x => !(x.1 == q && x.2.1 == consumer)) ++ [(q, consumer, n + 1)] } }

/-- Bytes of a packet in ascending order. -/
def packetBytes (p : QPacket) : Bytes := p.flatMap fun w => leBytes 8 w.1.toNat

/-- Bytes as 64-bit words, the last zero-padded. -/
def wordsOfBytes : Nat → Bytes → List (BitVec 64)
  | 0, _ => []
  | n + 1, b => if b.isEmpty then [] else BitVec.ofNat 64 (leNat (b.take 8)) :: wordsOfBytes n (b.drop 8)

/-! ### Host queue registers (R397, R398) -/

def hqOffset (q off : Nat) : Nat := 0x3000 + 0x80 * q + off

/-- A write of HQ_CTRL: FLUSH, then SPOIL, which only from-host queues take. -/
def State.writeHqCtrl (q : Nat) (v : Word) (s : State) : State :=
  let s := if v.getLsbD 0 then s.putQueue q (s.queue q).flush else s
  if v.getLsbD 1 && 8 ≤ q then s.putQueue q (s.queue q).spoilNow else s

/-- HQ_FLUSH (R393). -/
def execHqFlush (q : Fin 16) (v : Word) (s : State) : Host.Outcome State Fault Refusal :=
  .next (s.whenReady (hqOffset q 0) (State.writeHqCtrl q (v ||| 1)))

/-- HQ_SPOIL (R392). -/
def execHqSpoil (q : Fin 16) (v : Word) (s : State) : Host.Outcome State Fault Refusal :=
  .next (s.whenReady (hqOffset q 0) (State.writeHqCtrl q (v ||| 2)))

/-- A word pushed through HQ_DATA or HQ_DATA_LAST: only into a from-host queue in register mode. -/
def State.pushHost (q : Nat) (last : Bool) (w : BitVec 64) (s : State) : State :=
  if q < 8 || (s.queue q).window.isSome then s else s.putQueue q ((s.queue q).push (w, false) last)

/-- A low half is held; a high half pushes the word with it (R398). -/
def State.writeHqData (q : Nat) (last : Bool) (d : DataAccess) (s : State) : State :=
  let h := s.queue q
  match d with
  | .whole w => s.pushHost q last w
  | .low v =>
    if last then { s with mem := { s.mem with queues := s.mem.queues.setIfInBounds q { h with heldLast := some v } } }
    else { s with mem := { s.mem with queues := s.mem.queues.setIfInBounds q { h with heldWrite := some v } } }
  | .high v =>
    let lo := ((if last then h.heldLast else h.heldWrite).getD 0).toNat
    let h' := if last then { h with heldLast := none } else { h with heldWrite := none }
    let s := { s with mem := { s.mem with queues := s.mem.queues.setIfInBounds q h' } }
    s.pushHost q last (BitVec.ofNat 64 (lo + 0x100000000 * v.toNat))

/-- HQ_DATA_WRITE (R391). -/
def execHqDataWrite (q : Fin 16) (d : DataAccess) (s : State) : Host.Outcome State Fault Refusal :=
  .next (s.whenReady (hqOffset q 0x40) (State.writeHqData q false d))

/-- HQ_DATA_LAST (R391). -/
def execHqDataLast (q : Fin 16) (d : DataAccess) (s : State) : Host.Outcome State Fault Refusal :=
  .next (s.whenReady (hqOffset q 0x48) (State.writeHqData q true d))

def State.setQueueRaw (q : Nat) (h : HostQueue) (s : State) : State :=
  { s with mem := { s.mem with queues := s.mem.queues.setIfInBounds q h } }

/-- Remove the next word of the head packet for a host read; none readable sets UNDERRUN and reads 0 (R397). -/
def State.takeHqWord (q : Nat) (s : State) : BitVec 64 × State :=
  let h := s.queue q
  if 8 ≤ q || h.window.isSome then (0, s)
  else
    match h.popWord with
    | none => (0, s.setQueueRaw q { h with underrun := true })
    | some (w, h') =>
      let s := s.putQueue q { h' with poisonLast := w.2, poisonSeen := h'.poisonSeen || w.2 }
      (w.1, if (s.queue q).packets.isEmpty then s else s.setCause (16 + q))

def State.readHqData (q : Nat) (d : DataAccess) (s : State) : State :=
  match d with
  | .high _ => s.setQueueRaw q { s.queue q with readValue := BitVec.ofNat 64 (s.queue q).heldRead.toNat }
  | .low _ =>
    let (w, s) := s.takeHqWord q
    s.setQueueRaw q { s.queue q with
      readValue := BitVec.ofNat 64 (w.toNat % 0x100000000), heldRead := BitVec.ofNat 32 (w.toNat / 0x100000000) }
  | .whole _ =>
    let (w, s) := s.takeHqWord q
    s.setQueueRaw q { s.queue q with readValue := w }

/-- HQ_DATA_READ (R397, R398): the value read stands in `readValue`. -/
def execHqDataRead (q : Fin 16) (d : DataAccess) (s : State) : Host.Outcome State Fault Refusal :=
  .next (s.whenReady (hqOffset q 0x40) (State.readHqData q d))

/-- HQ_WIN_HEAD_WRITE (R399): read-only toward the host. -/
def execHqWinHeadWrite (q : Fin 16) (v : Word) (s : State) : Host.Outcome State Fault Refusal :=
  .next (s.whenReady (hqOffset q 0x20) fun s =>
    if q.val < 8 then s else s.setQueueRaw q { s.queue q with winHead := v })

/-- HQ_WIN_TAIL_WRITE (R399): read-only from the host. -/
def execHqWinTailWrite (q : Fin 16) (v : Word) (s : State) : Host.Outcome State Fault Refusal :=
  .next (s.whenReady (hqOffset q 0x24) fun s =>
    if 8 ≤ q.val then s else s.setQueueRaw q { s.queue q with winTail := v })

/-! ### Window rings (R399) -/

/-- Write bytes into a ring of the bulk window, wrapping at its end. -/
def State.ringPut (mb off len pos : Nat) (b : Bytes) (s : State) : State :=
  (List.range b.length).foldl (init := s) fun s i => s.writeBulk mb (off + (pos + i) % len) [b.getD i 0]

def State.ringGet (s : State) (mb off len pos n : Nat) : Bytes :=
  (List.range n).map fun i => s.mem.bar2.read (bulkBase mb + off + (pos + i) % len)

/-- WINDOW_COPY_TO_HOST: a committed packet goes into the ring once length - (HEAD - TAIL) bytes can take it. -/
def execWindowCopyToHost (q : Fin 16) (s : State) : Host.Outcome State Fault Refusal :=
  let h := s.queue q
  match h.window, h.packets with
  | some (mb, off, len), p :: _ =>
    let need := 8 + 8 * p.length
    if q.val < 8 ∧ need ≤ len - (h.winHead - h.winTail).toNat then
      let poison := p.any (·.2)
      let head := leBytes 8 (8 * p.length + 0x100000000 * ofBool poison)
      let s := s.ringPut mb off len h.winHead.toNat (head ++ packetBytes p)
      match s.popPacket q with
      | some (_, s) => .next (s.setQueueRaw q { s.queue q with winHead := h.winHead + BitVec.ofNat 32 need })
      | none => .next s
    else .next s
  | _, _ => .next s

/-- WINDOW_MOVE_FROM_HOST: a packet of the ring moves into the queue once space exists; BAD or a reserved header bit
rewinds it. -/
def execWindowMoveFromHost (q : Fin 16) (s : State) : Host.Outcome State Fault Refusal :=
  let h := s.queue q
  match h.window with
  | some (mb, off, len) =>
    let avail := (h.winHead - h.winTail).toNat
    let head := leNat (s.ringGet mb off len h.winTail.toNat 8)
    let n := (head % 0x100000000 + 7) / 8
    let advance (h : HostQueue) : HostQueue := { h with winTail := h.winTail + BitVec.ofNat 32 (8 + 8 * n) }
    if q.val < 8 ∨ avail < 8 + 8 * n ∨ avail < 8 then .next s
    else if bit head 33 ∨ head / 0x100000000 ≠ 0 ∨ head % 8 ≠ 0 then
      .next (s.putQueue q (advance { h with spoil := satAdd32 h.spoil 1 }))
    else if h.cap < h.level + n then .next s
    else
      let ws := wordsOfBytes n (s.ringGet mb off len (h.winTail.toNat + 8) (8 * n))
      let s := s.setQueueRaw q (advance h)
      .next (s.pushPacket q ws)
  | none => .next s

/-! ### QUEUE_CONFIG and QUEUE_STATUS (R400) -/

/-- Capacity in words of a size code. -/
def queueWords (code : Nat) : Nat := [128, 256, 512, 1024, 2048, 8192, 16384, 32768, 65536, 131072].getD code 128

/-- The queue is bound: HOST_RX or HOST_TX of a port, or the renderer's position queue. -/
def State.queueBound (s : State) (q : Nat) : Bool :=
  ((List.range 4).any fun p =>
      s.latestN (mkNode Ty.eth p) 6 == queueNode q || s.latestN (mkNode Ty.eth p) 7 == queueNode q)
    || s.ren.posQueue == some q

/-- Host share of the partition with queue q given `w` words (R382): 131,072 words small, 1,048,576 words large. -/
def State.queueShareOk (s : State) (q w : Nat) : Bool :=
  let caps := (List.range 16).map fun i => if i = q then w else (s.queue i).cap
  sumN (caps.filter (· ≤ 2048)) ≤ 131072 && sumN (caps.filter (2048 < ·)) ≤ 1048576

def queueConfig : Contract where
  opcode := 0x0B01
  len := lenIs 16
  fixed _ _ r :=
    let p := r.payload
    field p 0 1 ≤ 9 && field p 1 1 ≤ 1 && field p 4 4 % 4096 = 0 && field p 8 4 % 4096 = 0
      && reservedZero p [(2, 2), (12, 4)]
  node := onTypes [Ty.queue]
  fields _ _ r :=
    let p := r.payload
    if field p 1 1 = 0 then field p 4 4 = 0 && field p 8 4 = 0
    else 4096 ≤ field p 8 4 && field p 4 4 + field p 8 4 ≤ bulkBytes
  body s mb r :=
    let p := r.payload
    let q := nodeIdx r.node.toNat
    let w := queueWords (field p 0 1)
    let clash := (List.range 16).any fun i =>
      i != q && match (s.queue i).window with
        | some (m, o, l) => m == mb.val && overlaps (field p 4 4) (field p 8 4) o l
        | none => false
    if 15 < q then failWith Err.range
    else if s.queueBound q then failWith Err.busy
    else if clash then failWith Err.conflict
    else if !s.queueShareOk q w then failWith Err.capacity
    else
      let h := (s.queue q).flush
      okay (s.putQueue q { h with
        cap := w, high := min h.high w, winHead := 0, winTail := 0
        window := if field p 1 1 = 1 then some (mb.val, field p 4 4, field p 8 4) else none })

def execQueueConfig (mb : Fin 8) (r : Req) (s : State) : Host.Outcome State Fault Refusal := runCommand queueConfig mb r s

/-- HQ_STATUS (R397). -/
def HostQueue.status (h : HostQueue) (q : Nat) : Nat :=
  ofBool (h.level == 0) + 2 * ofBool h.isFull + 4 * ofBool h.overrun + 8 * ofBool h.inProgress
    + 16 * ofBool h.poisonLast + 32 * ofBool h.poisonSeen + 64 * ofBool h.underrun + 128 * ofBool (8 ≤ q)
    + 256 * ofBool h.window.isSome + 512 * ofBool h.discarding

def queueStatus : Contract where
  opcode := 0x0B02
  len := lenIs 4
  fixed _ _ r := field r.payload 0 1 ≤ 1 && reservedZero r.payload [(1, 3)]
  node := onTypes [Ty.queue]
  body s _ r :=
    let q := nodeIdx r.node.toNat
    if q < 16 then
      let h := s.queue q
      let p := [h.cap, h.level, h.packets.length, h.spoil, h.flushed, h.ignored, h.corrected, h.poisoned,
        h.status q, 0].flatMap (leBytes 4)
      let s := if bit (field r.payload 0 1) 0 then
          s.setQueueRaw q { h with spoil := 0, flushed := 0, ignored := 0, corrected := 0, poisoned := 0 }
        else s
      answer s p
    else
      let w := (List.range 8).map fun i => Config.freeValue (s.free + i)
      answer { s with free := s.free + 8 } ((([Config.queueCapacity q] ++ w ++ [0]).flatMap (leBytes 4)))

def execQueueStatus (mb : Fin 8) (r : Req) (s : State) : Host.Outcome State Fault Refusal := runCommand queueStatus mb r s

/-- Queues attached to a mailbox return to register mode and are flushed when its session closes (R399). -/
def State.detachQueues (mb : Nat) (s : State) : State :=
  (List.range 16).foldl (init := s) fun s q =>
    match (s.queue q).window with
    | some (m, _, _) => if m = mb then s.putQueue q { (s.queue q).flush with window := none } else s
    | none => s

/-! ### Haul (R389, R390) -/

def haulDesc (p : Bytes) (j : Nat) : HaulDesc :=
  let o := 8 + 32 * j
  { src := field p o 1, dst := field p (o + 1) 1, len := field p (o + 4) 4, srcAddr := field p (o + 8) 8,
    dstAddr := field p (o + 16) 8 }

/-- A range lies in its space: user region, 64-bit host bus, bulk window. -/
def State.haulRange (s : State) (space addr len : Nat) : Bool :=
  if space = 1 then addr + len ≤ s.userBytes
  else if space = 2 then addr + len ≤ 2 ^ 64
  else space = 3 && addr + len ≤ bulkBytes

def State.haulDescOk (s : State) (p : Bytes) (j : Nat) : Bool :=
  let d := haulDesc p j
  let o := 8 + 32 * j
  1 ≤ d.src && d.src ≤ 3 && 1 ≤ d.dst && d.dst ≤ 3 && 4 ≤ d.len && d.len ≤ 16777216 && d.len % 4 = 0
    && d.srcAddr % 4 = 0 && d.dstAddr % 4 = 0 && reservedZero p [(o + 2, 2), (o + 24, 8)]
    && s.haulRange d.src d.srcAddr d.len && s.haulRange d.dst d.dstAddr d.len
    && !(d.src = d.dst && overlaps d.srcAddr d.len d.dstAddr d.len)

def haulSubmit : Contract where
  opcode := 0x0B10
  len := lenIn 8 8176
  fixed _ _ r := 1 ≤ field r.payload 0 2 && field r.payload 0 2 ≤ 255 && reservedZero r.payload [(2, 6)]
  node := onCp
  body s mb r :=
    let p := r.payload
    let n := field p 0 2
    let ds := (List.range n).map (haulDesc p)
    if p.length ≠ 8 + 32 * n then failWith Err.length
    else if !(List.range n).all (s.haulDescOk p) then failWith Err.range
    else if s.id.straps.hostQspi && ds.any (fun d => d.src = 2 || d.dst = 2) then failWith Err.state
    else if ds.any (fun d => (d.src = 3 && s.hitsAttachment mb d.srcAddr d.len)
        || (d.dst = 3 && s.hitsAttachment mb d.dstAddr d.len)) then failWith Err.conflict
    else .wait { s with mem := { s.mem with jobs := s.mem.jobs ++ [{ mb := mb, req := r, descs := ds }] } }

def execHaulSubmit (mb : Fin 8) (r : Req) (s : State) : Host.Outcome State Fault Refusal := runCommand haulSubmit mb r s

def State.haulRead (s : State) (mb space addr n : Nat) : Bytes :=
  if space = 1 then s.mem.user.readBytes addr n
  else if space = 2 then s.mem.host.readBytes addr n
  else s.readBulk mb addr n

def State.haulWrite (mb space addr : Nat) (b : Bytes) (s : State) : State :=
  if space = 1 then
    { s with mem := { s.mem with
        user := s.mem.user.writeBytes addr b
        userBad := s.mem.userBad.filter fun w => !(addr ≤ 4 * w && 4 * w + 4 ≤ addr + b.length) } }
  else if space = 2 then { s with mem := { s.mem with host := s.mem.host.writeBytes addr b } }
  else s.writeBulk mb addr b

/-- The first byte of a user-region range that link ECC cannot deliver, counted from its start (R480). -/
def State.badAt (s : State) (space addr len : Nat) : Option Nat :=
  if space = 1 then
    ((s.mem.userBad.filter fun w => addr ≤ 4 * w && 4 * w < addr + len).map fun w => 4 * w - addr).min?
  else none

/-- Move up to `limit` bytes of the descriptors; the count moved, and the descriptor in which the move stopped. -/
def State.haulRun (mb limit : Nat) : List HaulDesc → Nat → State → Nat × Option (HaulDesc × Nat) × State
  | [], moved, s => (moved, none, s)
  | d :: r, moved, s =>
    let stop := min (limit - moved) ((s.badAt d.src d.srcAddr d.len).getD d.len)
    let s := s.haulWrite mb d.dst d.dstAddr (s.haulRead mb d.src d.srcAddr (min stop d.len))
    if stop < d.len then (moved + stop, some (d, stop), s) else State.haulRun mb limit r (moved + d.len) s

/-- Destination bytes of a failing descriptor beyond the count are undefined (R390): free values. -/
def State.haulSmear (mb : Nat) (d : HaulDesc) (k : Nat) (s : State) : State :=
  let n := d.len - k
  let b := (List.range n).map fun i => BitVec.ofNat 8 (Config.freeValue (s.free + i))
  State.haulWrite mb d.dst (d.dstAddr + k) b { s with free := s.free + n }

def State.job? (s : State) (mb : Nat) : Option HaulJob := s.mem.jobs.find? fun j => j.mb == mb

/-- End a job: its bytes are moved, then its response is written (R577). -/
def State.endHaul (mb : Fin 8) (j : HaulJob) (limit : Nat) (s : State) : State :=
  let s := { s with mem := { s.mem with jobs := s.mem.jobs.filter fun x => x.mb != mb.val } }
  let opened := (s.box mb).sess == .opened
  match s.haulRun mb limit j.descs 0 with
  | (moved, none, s) => s.finish 0x0B10 mb j.req opened true 0 { payload := leBytes 8 moved }
  | (moved, some (d, k), s) =>
    (s.haulSmear mb d k).finish 0x0B10 mb j.req opened true Err.fault { payload := leBytes 8 moved }

/-- HAUL_COMPLETE (R389); a user-region word that stays uncorrectable ends the job with ERR_FAULT (R480). -/
def execHaulComplete (mb : Fin 8) (s : State) : Host.Outcome State Fault Refusal :=
  match s.job? mb with
  | some j => .next (s.endHaul mb j (sumN (j.descs.map (·.len))))
  | none => .next s

/-! ### MEM_INFO, LPDDR_RETRAIN (R383, R384) -/

def memInfo : Contract where
  opcode := 0x0B20
  len := lenIs 0
  node := onCp
  body s _ _ :=
    answer s ([8#8] ++ leBytes 1 s.mem.density ++ leBytes 2 s.mem.rate ++ leBytes 4 ((s.mem.density - 2) * 1024)
      ++ leBytes 4 s.mem.linkEcc ++ padTo 8 s.mem.margins ++ zeros 12)

def execMemInfo (mb : Fin 8) (r : Req) (s : State) : Host.Outcome State Fault Refusal := runCommand memInfo mb r s

/-- LPDDR_RETRAIN (R384): the channel's smallest read-eye margin of this retrain. -/
def execLpddrRetrain (channel : Fin 8) (margin : Byte) (s : State) : Host.Outcome State Fault Refusal :=
  if s.ready then .next { s with mem := { s.mem with margins := s.mem.margins.set channel margin } } else .next s

end Sys2Proof.Machine
end

