-- ==== Sys2Proof/Machine/Bench.lean ====
section
/-! DEFINITION. The Bench fabric: kernel instances, their invocations, traps and instructions (R356 to R381), image slots
(R371, R372), and what disabling by the device does (R38, R85). -/

namespace Sys2Proof.Machine

def krnId (i : Nat) : Nat := mkNode Ty.kernel i

def State.krn (s : State) (i : Nat) : KernDyn := (findKey KernDyn.inst i s.bench.insts).getD { inst := i }
def State.setKrn (x : KernDyn) (s : State) : State :=
  { s with bench := { s.bench with insts := putKey KernDyn.inst x s.bench.insts } }

/-! ### Disabling by the device -/

/-- NODE_DISABLED_BY_DEVICE (R85, R107): the node's cost is released; reason 1 shed, 2 hardware fault, 3 power state. -/
def State.disableByDevice (id reason : Nat) (s : State) : State :=
  let n := s.node id
  if n.state == .enabled then
    (s.setNode id { n with state := .byDevice, reason := reason, cluster := none, bcu := 0 }).raise 17 0x0013 id
      (evData [(0, leBytes 1 reason), (4, leBytes 4 n.bcu), (8, leBytes 4 n.order)])
  else s

/-! ### Parameters, lines and enable (R374, R375) -/

/-- Parameter words that differ from the image's defaults. -/
def State.krnWords (s : State) (i : Nat) : List (Nat × Word) :=
  ((s.node (krnId i)).params.filter fun x => 0x1000 ≤ x.1).map fun x => (x.1 - 0x1000, BitVec.ofNat 32 (leNat x.2))

/-- Step 2 of R374, at the block boundary from which the instance runs. -/
def State.krnBegin (i : Nat) (s : State) : State :=
  let im := s.krnSlot (krnId i)
  let h := im.header
  let old := s.krn i
  let ws := s.krnWords i
  s.setKrn
    { inst := i, lineLen := (List.range h.lines).map fun l => (l, s.parN (krnId i) (0x20 + l)), parStart := ws, parEnd := ws
      initDue := h.init ≠ 0xFFFFFFFF, cyclesLast := old.cyclesLast }

/-- The state is discarded when invocations stop (R374). -/
def State.krnEnd (i : Nat) (s : State) : State :=
  let old := s.krn i
  s.setKrn { inst := i, cyclesLast := old.cyclesLast, cyclesMax := old.cyclesMax }

/-! ### One invocation (R358, R359) -/

def State.krnRun (s : State) (k : KernDyn) (c : Ctx) : Run :=
  let im := s.krnSlot (krnId k.inst)
  { im := im, h := im.header, areas := im.header.areas s.spb, samples := s.spb, k := k, c := c }

/-- Input blocks in the input area (R360). -/
def State.krnInputs (s : State) (i : Nat) (h : KrnHeader) : List (Nat × Word) :=
  let a := h.areas s.spb
  (List.range h.inputs).flatMap fun j =>
    ((s.inputBlock (krnId i) j).zipIdx.map fun x => (a.inp + 4 * (s.spb * j + x.2), BitVec.ofInt 32 x.1)).filter
      fun x => x.2 != 0

/-- The context at the start of an invocation (R359). -/
def State.krnContext (s : State) (k : KernDyn) : Ctx :=
  let im := s.krnSlot (krnId k.inst)
  let h := im.header
  let a := h.areas s.spb
  let regs : List (Nat × Nat) :=
    [(1, a.par), (2, a.const), (3, a.state), (4, a.scratch), (5, a.inp), (6, a.out), (7, s.spb), (8, k.switch.getD s.spb),
     (9, s.time.block % 2 ^ 32), (10, s.time.block / 2 ^ 32)]
  { sreg := (regs.filter fun x => x.2 % 2 ^ 32 ≠ 0).map fun x => (x.1, BitVec.ofNat 32 x.2)
    preg := (List.range h.lines).map fun l =>
      (8 + l, { base := a.state + (im.line l).1, len := (getA l k.lineLen).getD 0, idx := (getA l k.lineIdx).getD 0 })
    data := s.krnInputs k.inst h
    pc := if k.initDue then h.init else h.main }

/-- An invocation starts: parameter words in force, no switch yet (R358, R375). -/
def State.krnStart (i : Nat) (s : State) : State :=
  let ws := s.krnWords i
  let k := { s.krn i with parStart := ws, parEnd := ws, switch := none, ctx := none }
  s.setKrn { k with ctx := some (s.krnContext k) }

/-- Parameters of a SLAB_AWARE instance changed at sample m: the second copy holds from S8 on, and the invocation of this
block runs with it (R375). -/
def State.krnSwitch (i m : Nat) (s : State) : State :=
  let k := s.krn i
  let at_ := (m % 16) * (s.spb / 16)
  let k := { k with parEnd := s.krnWords i, switch := some (k.switch.getD at_) }
  s.setKrn (if k.ctx.isSome then { k with ctx := some (s.krnContext k) } else k)

/-- LINE_LEN takes effect as a pending length of the line (R365). -/
def State.krnLine (i l : Nat) (s : State) : State :=
  let k := s.krn i
  if s.running (krnId i) then s.setKrn { k with linePend := setA l (s.parN (krnId i) (0x20 + l)) k.linePend } else s

/-! ### How an invocation ends -/

/-- Sources of the cluster that runs the instance (R379). -/
def State.krnSource (s : State) (i off : Nat) : Nat := 384 + 8 * ((s.node (krnId i)).cluster.getD 0) + off

/-- Samples of one output, oldest first. -/
def Run.output (r : Run) (j : Nat) : List Int :=
  (List.range r.samples).map fun k => ((getA (r.areas.out + 4 * (r.samples * j + k)) r.c.data).getD 0).toInt

/-- Lanes in overflow (R379). -/
def Ctx.overflowLanes (c : Ctx) : Nat :=
  ((List.range 128).filter fun l => c.acc.any fun a => (a.2.getD l {}).ovf).length

/-- KRN_LINE_LENGTH of each wrap that applied a pending length (R365). Where in the block a wrap lies is log 27. -/
def State.krnWraps (i : Nat) (l : List (Nat × Nat)) (s : State) : State :=
  l.reverse.foldl (init := s) fun s x =>
    let (v, s) := s.drawFree
    s.raise (s.krnSource i 3) 0x0A03 (krnId i)
      (evData [(0, leBytes 1 x.1), (4, leBytes 4 x.2), (8, leBytes 8 (16 * s.time.block + v % 16))])

/-- The outputs of a completed invocation as blocks in the making, newest sample first; zero for the init entry (R374). -/
def State.krnOutputs (r : Run) (s : State) : State :=
  let i := r.k.inst
  let blocks : List (Nat × List Int) := (List.range r.h.outputs).map fun j => (j, if r.k.initDue then [] else r.output j)
  let wr := s.wr.filter fun x => x.1 != krnId i
  { s with wr := wr ++ blocks.map fun (x : Nat × List Int) => (krnId i, x.1, x.2.reverse) }

/-- END: state, line indices and outputs of the invocation stand; KRN_ACC_OVERFLOW (R361). -/
def State.krnEndRun (r : Run) (s : State) : State :=
  let i := r.k.inst
  let c := r.c
  let s := s.krnOutputs r
  let stateMem := c.stateW.foldl (init := r.k.stateMem) fun m x => setSparse 0 x.1 x.2 m
  let idx := (List.range r.h.lines).map fun l => (l, (c.pr (8 + l)).idx)
  let s := s.setKrn
    { r.k with ctx := none, stateMem := stateMem, lineIdx := idx, initDue := false, cyclesLast := c.cycles
               cyclesMax := max r.k.cyclesMax c.cycles }
  let src := s.krnSource i 1
  let n := c.overflowLanes
  if c.overflowed.isEmpty then s.blockLatch src 0 (krnId i) 0 []
  else
    let s := s.cross src 0 (krnId i) n false
      (evData [(0, leBytes 2 n), (2, leBytes 1 (sumN (c.overflowed.map fun a => 2 ^ a))), (8, leBytes 8 s.time.block)])
    if n = 0 then s.setLevel src 0 0 false false else s

/-- A trap (R376): zero outputs, the state of the last completed invocation, disable reason 2, KRN_TRAP. -/
def State.krnTrap (i cause user off : Nat) (s : State) : State :=
  let k := s.krn i
  let src := s.krnSource i 0
  let s := s.setKrn { k with ctx := none }
  let s := { s with wr := s.wr.filter fun x => x.1 != krnId i }
  (s.disableByDevice (krnId i) 2).raise src 0x0A00 (krnId i)
    (evData [(0, leBytes 1 cause), (2, leBytes 2 user), (4, leBytes 4 off), (8, leBytes 8 s.time.block)])

/-- Budget in cycles of an instance (R370). -/
def State.krnBudget (s : State) (i : Nat) : Nat := budgetOf (nodeCost s (krnId i) (fun _ => 0))

/-- What is left of an invocation runs to its end within the strobe period (R358). -/
def State.krnFinish (i : Nat) (s : State) : State :=
  let k := s.krn i
  match k.ctx with
  | none => s
  | some c =>
    let b := s.krnBudget i
    let (r, trap) := Run.finish b (b + 1) (s.krnRun k c)
    let s := (s.setKrn r.k).krnWraps i r.wraps
    match trap with
    | none => s.krnEndRun r
    | some (cause, user) => s.krnTrap i cause user r.c.pc

/-! ### Instructions (R368) -/

/-- The sequencer executes the instruction at the PC of the invocation in progress: it is the one the image holds there and
the cycle count is below the budget; else the row's condition does not hold (log 1). -/
def State.instr (inst cls op : Nat) (w : IWord) (f : Op) (s : State) : State :=
  let k := s.krn inst
  match k.ctx with
  | none => s
  | some c =>
    let r := s.krnRun k c
    if c.cycles < s.krnBudget inst ∧ r.im.fetch c.pc = some ⟨cls, op, w⟩ then
      match r.exec1 f cls op w with
      | .error e => s.krnTrap inst e.1 e.2 c.pc
      | .ok r =>
        let s := (s.setKrn { r.k with ctx := some r.c }).krnWraps inst r.wraps
        if r.ended then s.krnEndRun r else s
    else s

/-- NOP: class 0x0, operation 0x00 (R368). -/
def execNop (inst : Nat) (w : IWord) (s : State) : Host.Outcome State Fault Refusal :=
  .next (s.instr inst 0 0 w iNop)

/-- END: class 0x0, operation 0x01 (R368). -/
def execEndInvocation (inst : Nat) (w : IWord) (s : State) : Host.Outcome State Fault Refusal :=
  .next (s.instr inst 0 1 w iEnd)

/-- BR: class 0x0, operation 0x02 (R368). -/
def execBr (inst : Nat) (w : IWord) (s : State) : Host.Outcome State Fault Refusal :=
  .next (s.instr inst 0 2 w iBr)

/-- BRZ: class 0x0, operation 0x03 (R368). -/
def execBrz (inst : Nat) (w : IWord) (s : State) : Host.Outcome State Fault Refusal :=
  .next (s.instr inst 0 3 w iBrz)

/-- BRNZ: class 0x0, operation 0x04 (R368). -/
def execBrnz (inst : Nat) (w : IWord) (s : State) : Host.Outcome State Fault Refusal :=
  .next (s.instr inst 0 4 w iBrnz)

/-- LOOP: class 0x0, operation 0x05 (R368). -/
def execLoop (inst : Nat) (w : IWord) (s : State) : Host.Outcome State Fault Refusal :=
  .next (s.instr inst 0 5 w iLoop)

/-- TRAP: class 0x0, operation 0x06 (R368). -/
def execTrap (inst : Nat) (w : IWord) (s : State) : Host.Outcome State Fault Refusal :=
  .next (s.instr inst 0 6 w iTrap)

/-- ADD: class 0x1, operation 0x00 (R368). -/
def execAdd (inst : Nat) (w : IWord) (s : State) : Host.Outcome State Fault Refusal :=
  .next (s.instr inst 1 0 w iAdd)

/-- SUB: class 0x1, operation 0x01 (R368). -/
def execSub (inst : Nat) (w : IWord) (s : State) : Host.Outcome State Fault Refusal :=
  .next (s.instr inst 1 1 w iSub)

/-- ADDI: class 0x1, operation 0x02 (R368). -/
def execAddi (inst : Nat) (w : IWord) (s : State) : Host.Outcome State Fault Refusal :=
  .next (s.instr inst 1 2 w iAddi)

/-- AND: class 0x1, operation 0x03 (R368). -/
def execAndS (inst : Nat) (w : IWord) (s : State) : Host.Outcome State Fault Refusal :=
  .next (s.instr inst 1 3 w iAnd)

/-- OR: class 0x1, operation 0x04 (R368). -/
def execOrS (inst : Nat) (w : IWord) (s : State) : Host.Outcome State Fault Refusal :=
  .next (s.instr inst 1 4 w iOr)

/-- XOR: class 0x1, operation 0x05 (R368). -/
def execXorS (inst : Nat) (w : IWord) (s : State) : Host.Outcome State Fault Refusal :=
  .next (s.instr inst 1 5 w iXor)

/-- SHL: class 0x1, operation 0x06 (R368). -/
def execShl (inst : Nat) (w : IWord) (s : State) : Host.Outcome State Fault Refusal :=
  .next (s.instr inst 1 6 w iShl)

/-- SHR: class 0x1, operation 0x07 (R368). -/
def execShr (inst : Nat) (w : IWord) (s : State) : Host.Outcome State Fault Refusal :=
  .next (s.instr inst 1 7 w iShr)

/-- SAR: class 0x1, operation 0x08 (R368). -/
def execSar (inst : Nat) (w : IWord) (s : State) : Host.Outcome State Fault Refusal :=
  .next (s.instr inst 1 8 w iSar)

/-- MUL: class 0x1, operation 0x09 (R368). -/
def execMul (inst : Nat) (w : IWord) (s : State) : Host.Outcome State Fault Refusal :=
  .next (s.instr inst 1 9 w iMul)

/-- SLT: class 0x1, operation 0x0A (R368). -/
def execSlt (inst : Nat) (w : IWord) (s : State) : Host.Outcome State Fault Refusal :=
  .next (s.instr inst 1 10 w iSlt)

/-- SHLI: class 0x1, operation 0x0B (R368). -/
def execShli (inst : Nat) (w : IWord) (s : State) : Host.Outcome State Fault Refusal :=
  .next (s.instr inst 1 11 w iShli)

/-- LDS: class 0x2, operation 0x00 (R368). -/
def execLds (inst : Nat) (w : IWord) (s : State) : Host.Outcome State Fault Refusal :=
  .next (s.instr inst 2 0 w iLds)

/-- STS: class 0x2, operation 0x01 (R368). -/
def execSts (inst : Nat) (w : IWord) (s : State) : Host.Outcome State Fault Refusal :=
  .next (s.instr inst 2 1 w iSts)

/-- VLD: class 0x3, operation 0x00 (R368). -/
def execVld (inst : Nat) (w : IWord) (s : State) : Host.Outcome State Fault Refusal :=
  .next (s.instr inst 3 0 w iVld)

/-- VST: class 0x3, operation 0x01 (R368). -/
def execVst (inst : Nat) (w : IWord) (s : State) : Host.Outcome State Fault Refusal :=
  .next (s.instr inst 3 1 w iVst)

/-- VLDB: class 0x3, operation 0x02 (R368). -/
def execVldb (inst : Nat) (w : IWord) (s : State) : Host.Outcome State Fault Refusal :=
  .next (s.instr inst 3 2 w iVldb)

/-- VLDS: class 0x3, operation 0x03 (R368). -/
def execVlds (inst : Nat) (w : IWord) (s : State) : Host.Outcome State Fault Refusal :=
  .next (s.instr inst 3 3 w iVlds)

/-- VSTS: class 0x3, operation 0x04 (R368). -/
def execVsts (inst : Nat) (w : IWord) (s : State) : Host.Outcome State Fault Refusal :=
  .next (s.instr inst 3 4 w iVsts)

/-- VADD: class 0x4, operation 0x00 (R368). -/
def execVadd (inst : Nat) (w : IWord) (s : State) : Host.Outcome State Fault Refusal :=
  .next (s.instr inst 4 0 w iVadd)

/-- VSUB: class 0x4, operation 0x01 (R368). -/
def execVsub (inst : Nat) (w : IWord) (s : State) : Host.Outcome State Fault Refusal :=
  .next (s.instr inst 4 1 w iVsub)

/-- VMUL: class 0x4, operation 0x02 (R368). -/
def execVmul (inst : Nat) (w : IWord) (s : State) : Host.Outcome State Fault Refusal :=
  .next (s.instr inst 4 2 w iVmul)

/-- VAND: class 0x4, operation 0x03 (R368). -/
def execVand (inst : Nat) (w : IWord) (s : State) : Host.Outcome State Fault Refusal :=
  .next (s.instr inst 4 3 w iVand)

/-- VOR: class 0x4, operation 0x04 (R368). -/
def execVor (inst : Nat) (w : IWord) (s : State) : Host.Outcome State Fault Refusal :=
  .next (s.instr inst 4 4 w iVor)

/-- VXOR: class 0x4, operation 0x05 (R368). -/
def execVxor (inst : Nat) (w : IWord) (s : State) : Host.Outcome State Fault Refusal :=
  .next (s.instr inst 4 5 w iVxor)

/-- VSHL: class 0x4, operation 0x06 (R368). -/
def execVshl (inst : Nat) (w : IWord) (s : State) : Host.Outcome State Fault Refusal :=
  .next (s.instr inst 4 6 w iVshl)

/-- VSAR: class 0x4, operation 0x07 (R368). -/
def execVsar (inst : Nat) (w : IWord) (s : State) : Host.Outcome State Fault Refusal :=
  .next (s.instr inst 4 7 w iVsar)

/-- VMOV: class 0x4, operation 0x08 (R368). -/
def execVmov (inst : Nat) (w : IWord) (s : State) : Host.Outcome State Fault Refusal :=
  .next (s.instr inst 4 8 w iVmov)

/-- VBC: class 0x4, operation 0x09 (R368). -/
def execVbc (inst : Nat) (w : IWord) (s : State) : Host.Outcome State Fault Refusal :=
  .next (s.instr inst 4 9 w iVbc)

/-- VCMPLT: class 0x4, operation 0x0A (R368). -/
def execVcmplt (inst : Nat) (w : IWord) (s : State) : Host.Outcome State Fault Refusal :=
  .next (s.instr inst 4 10 w iVcmplt)

/-- VSEL: class 0x4, operation 0x0B (R368). -/
def execVsel (inst : Nat) (w : IWord) (s : State) : Host.Outcome State Fault Refusal :=
  .next (s.instr inst 4 11 w iVsel)

/-- VLANE: class 0x4, operation 0x0C (R368). -/
def execVlane (inst : Nat) (w : IWord) (s : State) : Host.Outcome State Fault Refusal :=
  .next (s.instr inst 4 12 w iVlane)

/-- MAC: class 0x5, operation 0x00 (R368). -/
def execMac (inst : Nat) (w : IWord) (s : State) : Host.Outcome State Fault Refusal :=
  .next (s.instr inst 5 0 w iMac)

/-- MSU: class 0x5, operation 0x01 (R368). -/
def execMsu (inst : Nat) (w : IWord) (s : State) : Host.Outcome State Fault Refusal :=
  .next (s.instr inst 5 1 w iMsu)

/-- MACS: class 0x5, operation 0x02 (R368). -/
def execMacs (inst : Nat) (w : IWord) (s : State) : Host.Outcome State Fault Refusal :=
  .next (s.instr inst 5 2 w iMacs)

/-- MACM: class 0x5, operation 0x03 (R368). -/
def execMacm (inst : Nat) (w : IWord) (s : State) : Host.Outcome State Fault Refusal :=
  .next (s.instr inst 5 3 w iMacm)

/-- MACMM: class 0x5, operation 0x04 (R368). -/
def execMacmm (inst : Nat) (w : IWord) (s : State) : Host.Outcome State Fault Refusal :=
  .next (s.instr inst 5 4 w iMacmm)

/-- ACLR: class 0x6, operation 0x00 (R368). -/
def execAclr (inst : Nat) (w : IWord) (s : State) : Host.Outcome State Fault Refusal :=
  .next (s.instr inst 6 0 w iAclr)

/-- EXT: class 0x6, operation 0x01 (R368). -/
def execExt (inst : Nat) (w : IWord) (s : State) : Host.Outcome State Fault Refusal :=
  .next (s.instr inst 6 1 w iExt)

/-- EXTW: class 0x6, operation 0x02 (R368). -/
def execExtw (inst : Nat) (w : IWord) (s : State) : Host.Outcome State Fault Refusal :=
  .next (s.instr inst 6 2 w iExtw)

/-- ALD: class 0x6, operation 0x03 (R368). -/
def execAld (inst : Nat) (w : IWord) (s : State) : Host.Outcome State Fault Refusal :=
  .next (s.instr inst 6 3 w iAld)

/-- OVFM: class 0x6, operation 0x04 (R368). -/
def execOvfm (inst : Nat) (w : IWord) (s : State) : Host.Outcome State Fault Refusal :=
  .next (s.instr inst 6 4 w iOvfm)

/-- SATM: class 0x6, operation 0x05 (R368). -/
def execSatm (inst : Nat) (w : IWord) (s : State) : Host.Outcome State Fault Refusal :=
  .next (s.instr inst 6 5 w iSatm)

/-- SMAX: class 0x7, operation 0x00 (R368). -/
def execSmax (inst : Nat) (w : IWord) (s : State) : Host.Outcome State Fault Refusal :=
  .next (s.instr inst 7 0 w iSmax)

/-- SMIN: class 0x7, operation 0x01 (R368). -/
def execSmin (inst : Nat) (w : IWord) (s : State) : Host.Outcome State Fault Refusal :=
  .next (s.instr inst 7 1 w iSmin)

/-- RMAX: class 0x7, operation 0x02 (R368). -/
def execRmax (inst : Nat) (w : IWord) (s : State) : Host.Outcome State Fault Refusal :=
  .next (s.instr inst 7 2 w iRmax)

/-- RMIN: class 0x7, operation 0x03 (R368). -/
def execRmin (inst : Nat) (w : IWord) (s : State) : Host.Outcome State Fault Refusal :=
  .next (s.instr inst 7 3 w iRmin)

/-- PSETB: class 0x8, operation 0x00 (R368). -/
def execPsetb (inst : Nat) (w : IWord) (s : State) : Host.Outcome State Fault Refusal :=
  .next (s.instr inst 8 0 w iPsetb)

/-- PSETL: class 0x8, operation 0x01 (R368). -/
def execPsetl (inst : Nat) (w : IWord) (s : State) : Host.Outcome State Fault Refusal :=
  .next (s.instr inst 8 1 w iPsetl)

/-- PSETI: class 0x8, operation 0x02 (R368). -/
def execPseti (inst : Nat) (w : IWord) (s : State) : Host.Outcome State Fault Refusal :=
  .next (s.instr inst 8 2 w iPseti)

/-- PGETI: class 0x8, operation 0x03 (R368). -/
def execPgeti (inst : Nat) (w : IWord) (s : State) : Host.Outcome State Fault Refusal :=
  .next (s.instr inst 8 3 w iPgeti)

/-- PADD: class 0x8, operation 0x04 (R368). -/
def execPadd (inst : Nat) (w : IWord) (s : State) : Host.Outcome State Fault Refusal :=
  .next (s.instr inst 8 4 w iPadd)

/-- BUDGET_TRAP: the count of the invocation has reached the budget before END (R370, R376). -/
def execBudgetTrap (inst : Nat) (s : State) : Host.Outcome State Fault Refusal :=
  .next (match (s.krn inst).ctx with
    | none => s
    | some c => if s.krnBudget inst ≤ c.cycles then s.krnTrap inst Trap.budget 0 c.last else s)

/-! ### Image slots (R371, R372) -/

/-- Lines lie in the state area, do not overlap, and default to no more than their maximum (R371). -/
def ImageSlot.linesOk (im : ImageSlot) : Bool :=
  let h := im.header
  (List.range h.lines).all fun i =>
    let l := im.line i
    l.1 % 4 = 0 && l.2.1 % 4 = 0 && l.2.2 % 4 = 0 && l.1 + l.2.1 ≤ h.state && l.2.2 ≤ l.2.1
      && (List.range i).all fun j => !overlaps l.1 l.2.1 (im.line j).1 (im.line j).2.1

/-- Largest region (R360). -/
def maxRegion : Nat := 1572864

def costOk (runs : Bool) (c : Nat) : Bool := if runs then 1 ≤ c && c ≤ 143360 else c = 0

def entryOk (code e : Nat) : Bool := e % 8 = 0 && e < code

/-- Every header field within R371. -/
def ImageSlot.headerOk (im : ImageSlot) : Bool :=
  let h := im.header
  h.magic = 0x4B425645 && h.format = 1 && h.flags < 8 && 2 ≤ h.flags && h.lines ≤ 8
    && h.length = 64 + 12 * h.lines + h.code + h.const + 4 * h.words
    && costOk (bit h.flags 1) h.cost48 && costOk (bit h.flags 2) h.cost96
    && h.inputs ≤ 128 && h.outputs ≤ 128 && h.delay ≤ 4800 && h.rsvd1 = 0
    && 8 ≤ h.code && h.code ≤ 65536 && h.code % 8 = 0 && h.const ≤ 1048576 && h.const % 4 = 0
    && h.state % 4 = 0 && h.scratch % 4 = 0 && h.words ≤ 1024 && h.rsvd2 = 0
    && entryOk h.code h.main && (h.init = 0xFFFFFFFF || entryOk h.code h.init) && im.linesOk
    && (!bit h.flags 1 || h.region 16 ≤ maxRegion) && (!bit h.flags 2 || h.region 32 ≤ maxRegion)

/-- The checks of FINAL (R372). -/
def ImageSlot.imageOk (im : ImageSlot) : Bool :=
  let h := im.header
  im.headerOk && im.top = h.length
    && (crc32c (im.bytes.readBytes 16 (h.length - 16))).toNat = h.crc
    && (List.range (h.code / 8)).all fun k => match im.fetch (8 * k) with | some c => c.legal | none => false

def State.setSlotImage (im : ImageSlot) (s : State) : State :=
  { s with bench := { s.bench with slots := putKey ImageSlot.slot im s.bench.slots } }

/-- Instances created from a slot. -/
def State.slotUsers (s : State) (slot : Nat) : Nat :=
  ((s.nodesOf Ty.kernel).filter fun x => leNat ((getA 1 x.2.params).getD []) = slot).length

/-- Largest image (R371). -/
def maxImage : Nat := 1118368

def krnImageLoad : Contract where
  opcode := 0x0A01
  len := lenIs 16
  fixed _ _ r :=
    let p := r.payload
    field p 0 1 < 64 && field p 1 1 < 4 && field p 2 2 = 0 && field p 4 4 < maxImage && 1 ≤ field p 8 4
      && field p 8 4 ≤ bulkBytes && field p 12 4 % 4 = 0
  node := onCp
  fields _ _ r :=
    let p := r.payload
    field p 4 4 + field p 8 4 ≤ maxImage && field p 12 4 + field p 8 4 ≤ bulkBytes
  body s mb r :=
    let p := r.payload
    let old := ImageSlot.of s.bench.slots (field p 0 1)
    let first := bit (field p 1 1) 0
    if s.slotUsers (field p 0 1) ≠ 0 then failWith Err.busy
    else if !first && old.state != .loading then failWith Err.state
    else if s.hitsAttachment mb (field p 12 4) (field p 8 4) then failWith Err.conflict
    else
      let base : ImageSlot := if first then { slot := field p 0 1, state := .loading } else old
      let im := { base with
        bytes := base.bytes.writeBytes (field p 4 4) (s.readBulk mb (field p 12 4) (field p 8 4))
        top := max base.top (field p 4 4 + field p 8 4) }
      if !bit (field p 1 1) 1 then okay (s.setSlotImage im)
      else if im.imageOk then okay (s.setSlotImage { im with state := .ready })
      else .done (s.setSlotImage im) { status := Err.image }

def execKrnImageLoad (mb : Fin 8) (r : Req) (s : State) : Host.Outcome State Fault Refusal := runCommand krnImageLoad mb r s

def slotField (_ : State) (_ : Fin 8) (r : Req) : Bool := field r.payload 0 1 < 64 && reservedZero r.payload [(1, 3)]

def krnImageClear : Contract where
  opcode := 0x0A02
  len := lenIs 4
  fixed := slotField
  node := onCp
  body s _ r :=
    let n := field r.payload 0 1
    if s.slotUsers n ≠ 0 then failWith Err.busy
    else okay { s with bench := { s.bench with slots := dropKey ImageSlot.slot n s.bench.slots } }

def execKrnImageClear (mb : Fin 8) (r : Req) (s : State) : Host.Outcome State Fault Refusal := runCommand krnImageClear mb r s

def BankState.code : BankState → Nat
  | .empty => 0
  | .loading => 1
  | .ready => 2

def krnImageInfo : Contract where
  opcode := 0x0A03
  len := lenIs 4
  fixed := slotField
  node := onCp
  body s _ r :=
    let n := field r.payload 0 1
    let im := ImageSlot.of s.bench.slots n
    answer s (leBytes 4 im.state.code ++ leBytes 4 (s.slotUsers n) ++ leBytes 4 im.top ++ zeros 4
      ++ if im.state == .ready then im.bytes.readBytes 0 64 else zeros 64)

def execKrnImageInfo (mb : Fin 8) (r : Req) (s : State) : Host.Outcome State Fault Refusal := runCommand krnImageInfo mb r s

end Sys2Proof.Machine
end

