-- ==== Sys2Proof/Machine/AshCode.lean ====
section
/-! DEFINITION. The Ashlar stream format: block coding and decoding of both modes (R407 to R413). -/

namespace Sys2Proof.Machine

/-- Parameters of a context as R405 gives them. -/
structure AshCfg where
  dir : Nat
  mode : Nat
  framing : Nat
  word : Nat
  channels : Nat
  deriving DecidableEq, Repr, Inhabited

/-- Bytes per sample and bits per sample w (R406, R410). -/
def AshCfg.sampleBytes (c : AshCfg) : Nat := if c.word = 0 then 2 else 4
def AshCfg.width (c : AshCfg) : Nat := if c.word = 0 then 16 else if c.word = 1 then 24 else 32

/-- A frame: 1 byte for Ashlar-B, which has no frames. -/
def AshCfg.frame (c : AshCfg) : Nat := if c.mode = 1 then c.channels * c.sampleBytes else 1

/-- Fixed history of a stream: last samples per channel and last raw bytes, newest first (R413). -/
structure AshHist where
  chans : List (List Int) := []
  raw : Bytes := []
  deriving DecidableEq, Repr, Inhabited

/-- Bytes cut into groups of n; fuel is the length. -/
def groupsOf (n : Nat) : Nat → Bytes → List Bytes
  | 0, _ => []
  | f + 1, p => if p.isEmpty then [] else p.take n :: groupsOf n f (p.drop n)

def chunks (n : Nat) (p : Bytes) : List Bytes := groupsOf n p.length p

/-! ### Ashlar-A (R410, R411) -/

/-- The bits of bytes, least significant first (R410). -/
def bitsOf (p : Bytes) : List Bool := p.flatMap fun b => (List.range 8).map b.getLsbD

def bitsNat : List Bool → Nat
  | [] => 0
  | b :: r => ofBool b + 2 * bitsNat r

/-- A field of n bits and the rest. -/
def takeField (n : Nat) (b : List Bool) : Option (Nat × List Bool) :=
  if b.length < n then none else some (bitsNat (b.take n), b.drop n)

/-- A w-bit two's complement number. -/
def signedBits (w v : Nat) : Int := if 2 * v < 2 ^ w then (v : Int) else (v : Int) - (2 ^ w : Nat)

/-- The fixed predictors on a history, newest first (R411). -/
def ashPredict (p : Nat) (h : List Int) : Int :=
  let x (i : Nat) : Int := h.getD i 0
  if p = 0 then 0 else if p = 1 then x 0 else if p = 2 then 2 * x 0 - x 1
  else if p = 3 then 3 * x 0 - 3 * x 1 + x 2 else 4 * x 0 - 6 * x 1 + 4 * x 2 - x 3

/-- Count the one-bits before a zero bit. -/
def unary : List Bool → Nat → Option (Nat × List Bool)
  | [], _ => none
  | true :: r, n => unary r (n + 1)
  | false :: r, n => some (n, r)

/-- u back to the residual e. -/
def unzigzag (u : Nat) : Int := if u % 2 = 0 then (u / 2 : Nat) else -((u / 2 : Nat) : Int) - 1

def inWidth (w : Nat) (x : Int) : Bool := -(2 ^ (w - 1) : Nat) ≤ x && x < (2 ^ (w - 1) : Nat)

/-- `n` coded samples in partitions of 64: position in the partition, Rice parameter, samples so far newest first. -/
def riceSamples (w p : Nat) : Nat → Nat → Nat → List Int → List Bool → Option (List Int × List Bool)
  | 0, _, _, h, b => some (h, b)
  | n + 1, pos, k, h, b =>
    let start := if pos = 0 then takeField 5 b else some (k, b)
    match start with
    | none => none
    | some (k, b) =>
      match unary b 0 with
      | none => none
      | some (q, b) =>
        match takeField k b with
        | none => none
        | some (low, b) =>
          let x := ashPredict p h + unzigzag (q * 2 ^ k + low)
          if inWidth w x then riceSamples w p n ((pos + 1) % 64) k (x :: h) b else none

/-- `n` verbatim samples. -/
def verbatim (w : Nat) : Nat → List Int → List Bool → Option (List Int × List Bool)
  | 0, h, b => some (h, b)
  | n + 1, h, b =>
    match takeField w b with
    | none => none
    | some (v, b) => verbatim w n (signedBits w v :: h) b

/-- One channel of n samples on a history newest first: the samples, oldest first, and the rest of the bits. -/
def ashChannel (w n : Nat) (hist : List Int) (b : List Bool) : Option (List Int × List Bool) :=
  let finish (r : Option (List Int × List Bool)) : Option (List Int × List Bool) :=
    r.map fun x => ((x.1.take n).reverse, x.2)
  match takeField 3 b with
  | none => none
  | some (c, b) =>
    if c = 5 then (takeField w b).map fun x => (List.replicate n (signedBits w x.1), x.2)
    else if c = 6 then finish (verbatim w n [] b)
    else if c = 7 then none
    else
      let warm := if hist.isEmpty then min c n else 0
      match verbatim w warm hist b with
      | none => none
      | some (h, b) => finish (riceSamples w c (n - warm) 0 0 h b)

/-- The channels one after another; the last is padded to a whole byte with zero bits. -/
def ashChannels (w n : Nat) : List (List Int) → List Bool → Option (List (List Int))
  | [], b => if b.length < 8 && b.all (· == false) then some [] else none
  | h :: r, b =>
    match ashChannel w n h b with
    | none => none
    | some (x, b) => (ashChannels w n r b).map fun l => x :: l

/-- A sample as its container's bytes. -/
def AshCfg.sampleOut (c : AshCfg) (x : Int) : Bytes :=
  if c.word = 0 then leSigned 2 x else if c.word = 1 then leSigned 4 (x * 256) else leSigned 4 x

def AshCfg.sampleIn (c : AshCfg) (b : Bytes) : Int :=
  let v := toSigned b.length (leNat b)
  if c.word = 1 then v / 256 else v

/-- Samples per channel of raw bytes, oldest first. -/
def AshCfg.split (c : AshCfg) (raw : Bytes) : List (List Int) :=
  let frames := chunks c.frame raw
  (List.range c.channels).map fun ch => frames.map fun f => c.sampleIn (slice f (ch * c.sampleBytes) c.sampleBytes)

/-- Frames of the channels' samples. -/
def AshCfg.frames (c : AshCfg) (n : Nat) (xs : List (List Int)) : List Bytes :=
  (List.range n).map fun i => xs.flatMap fun x => c.sampleOut (x.getD i 0)

/-! ### Ashlar-B (R412) -/

/-- Extension bytes: the sum up to the first byte below 255. -/
def lzExtend : Bytes → Nat → Option (Nat × Bytes)
  | [], _ => none
  | b :: r, n => if b = 255#8 then lzExtend r (n + 255) else some (n + b.toNat, r)

def lzCount (code : Nat) (p : Bytes) : Option (Nat × Bytes) := if code = 15 then lzExtend p 15 else some (code, p)

/-- Copy a match byte by byte from `off` bytes back; histories are newest first. -/
def lzCopy (off : Nat) : Nat → Bytes → Bytes
  | 0, h => h
  | n + 1, h => lzCopy off n (h.getD (off - 1) 0 :: h)

/-- The sequences of a payload: `h` is history and output newest first, `before` its length at the block's start, symbols
newest first; fuel is the payload's length. -/
def lzSequences (raw before reachMax : Nat) : Nat → Bytes → Bytes → List Bytes → Option (List Bytes)
  | 0, _, _, _ => none
  | f + 1, p, h, syms =>
    match p with
    | [] => none
    | t :: p =>
      match lzCount (t.toNat / 16) p with
      | none => none
      | some (n, p) =>
        if p.length < n || raw < h.length - before + n then none
        else
          let lits := p.take n
          let p := p.drop n
          let h := lits.reverse ++ h
          let syms := (lits.map fun b => [b]).reverse ++ syms
          if p.isEmpty then (if t.toNat % 16 = 0 && h.length - before == raw then some syms.reverse else none)
          else if p.length < 2 then none
          else
            let off := field p 0 2
            match lzCount (t.toNat % 16) (p.drop 2) with
            | none => none
            | some (k, p) =>
              let len := k + 4
              if off = 0 || min reachMax h.length < off || raw < h.length - before + len then none
              else
                let h := lzCopy off len h
                let syms := (h.take len).reverse :: syms
                if p.isEmpty then (if h.length - before == raw then some syms.reverse else none)
                else lzSequences raw before reachMax f p h syms

/-! ### Blocks (R408, R413) -/

def ashReach : Nat := 32768

/-- Decode a block's payload into its symbols (R415): `none` when it is malformed. -/
def AshCfg.decodeBlock (c : AshCfg) (coded : Bool) (raw : Nat) (h : AshHist) (payload : Bytes) : Option (List Bytes) :=
  if c.mode = 1 then
    if !coded then some (chunks c.frame payload)
    else
      let n := raw / c.frame
      let hist := if c.framing = 1 && !h.chans.isEmpty then h.chans else List.replicate c.channels []
      (ashChannels c.width n hist (bitsOf payload)).map (c.frames n)
  else if !coded then some (payload.map fun b => [b])
  else
    let hist := if c.framing = 1 then h.raw else []
    lzSequences raw hist.length ashReach payload.length payload hist []

/-- History after a block of raw bytes. -/
def AshCfg.extend (c : AshCfg) (raw : Bytes) (h : AshHist) : AshHist :=
  let chans := if c.mode = 1 then
      (List.range c.channels).map fun i => (((c.split raw).getD i []).reverse ++ h.chans.getD i []).take 4
    else []
  { chans := chans, raw := (raw.reverse ++ h.raw).take ashReach }

/-- The coded payload that the compressor finds for a block, if it may be emitted: shorter than the block, decoding to
it, and with no low container byte lost (R408; log 7). -/
def AshCfg.coded (c : AshCfg) (h : AshHist) (raw : Bytes) : Option Bytes :=
  let p := Config.ashlarCode c.mode c.word c.channels (if c.framing = 1 then h.raw else []) raw
  if p.isEmpty || raw.length ≤ p.length then none
  else
    match c.decodeBlock true raw.length h p with
    | some syms => if syms.flatten = raw then some p else none
    | none => none

/-- A block with its header (R408). -/
def blockBytes (coded : Bool) (seq : Nat) (raw payload : Bytes) : Bytes :=
  leBytes 2 raw.length ++ [BitVec.ofNat 8 (ofBool coded), 0] ++ leBytes 4 payload.length
    ++ leBytes 4 (crc32c raw).toNat ++ leBytes 4 seq ++ payload

def AshCfg.encodeBlock (c : AshCfg) (seq : Nat) (h : AshHist) (raw : Bytes) : Bytes :=
  match c.coded h raw with
  | some p => blockBytes true seq raw p
  | none => blockBytes false seq raw raw

/-- A block header (R408). -/
structure BlockHdr where
  raw : Nat
  type : Nat
  rsvd : Nat
  payload : Nat
  crc : Nat
  seq : Nat
  deriving DecidableEq, Repr, Inhabited

def blockHdr (p : Bytes) : BlockHdr :=
  { raw := field p 0 2, type := field p 2 1, rsvd := field p 3 1, payload := field p 4 4, crc := field p 8 4
    seq := field p 12 4 }

def BlockHdr.ok (b : BlockHdr) (c : AshCfg) : Bool :=
  1 ≤ b.raw && b.raw ≤ 4096 && b.raw % c.frame = 0 && b.type ≤ 1 && b.rsvd = 0
    && (if b.type = 0 then b.payload = b.raw else 1 ≤ b.payload && b.payload < b.raw)

/-- The 64-byte stream header (R407). -/
def streamHeader (c : AshCfg) (rawLength user : Nat) : Bytes :=
  let h := leBytes 4 0x4C485341 ++ leBytes 2 1 ++ leBytes 1 c.mode ++ leBytes 1 c.framing ++ leBytes 1 c.word
    ++ leBytes 1 c.channels ++ zeros 2 ++ leBytes 4 4096 ++ leBytes 8 rawLength ++ leBytes 8 user ++ zeros 28
  h ++ leBytes 4 (crc32c h).toNat

def unknownLength : Nat := 0xFFFFFFFFFFFFFFFF

/-- Details 1 and 2 of R417: 0 when the stream header is good for the context. -/
def headerDetail (c : AshCfg) (p : Bytes) : Nat :=
  if p.length < 64 || field p 0 4 ≠ 0x4C485341 || field p 4 2 ≠ 1 || field p 12 4 ≠ 4096
      || field p 60 4 ≠ (crc32c (p.take 60)).toNat then 1
  else if field p 6 1 ≠ c.mode || field p 7 1 ≠ c.framing || field p 8 1 ≠ c.word || field p 9 1 ≠ c.channels then 2
  else 0

/-- Decompress whole blocks to their end, for a coefficient stream (R258): `none` when one is malformed. -/
def AshCfg.expand (c : AshCfg) : Nat → Nat → AshHist → Bytes → Bytes → Option Bytes
  | 0, _, _, _, out => some out
  | f + 1, seq, h, p, out =>
    if p.isEmpty then some out
    else
      let b := blockHdr p
      let payload := slice p 16 b.payload
      if p.length < 16 || !b.ok c || payload.length ≠ b.payload || (c.framing = 1 && b.seq ≠ seq)
          || out.length % 4096 ≠ 0 then none
      else
        match c.decodeBlock (b.type = 1) b.raw h payload with
        | none => none
        | some syms =>
          let raw := syms.flatten
          if raw.length ≠ b.raw || (crc32c raw).toNat ≠ b.crc then none
          else c.expand f (seq + 1) (c.extend raw h) (p.drop (16 + b.payload)) (out ++ raw)

/-- The creation record that a stream header names is a legal context (R405). -/
def ashCfgOk (c : AshCfg) : Bool :=
  (c.mode = 1 && c.word ≤ 2 && [1, 2, 4, 8].contains c.channels || c.mode = 2 && c.word = 0 && c.channels = 0)
    && c.framing ≤ 1

/-- Decompress a whole stream, header included. -/
def expandStream (p : Bytes) : Option Bytes :=
  let c : AshCfg :=
    { dir := 2, mode := field p 6 1, framing := field p 7 1, word := field p 8 1, channels := field p 9 1 }
  if !ashCfgOk c || headerDetail c p ≠ 0 then none
  else
    match c.expand p.length 0 {} (p.drop 64) [] with
    | some out => if field p 16 8 = unknownLength || field p 16 8 = out.length then some out else none
    | none => none

end Sys2Proof.Machine
end

