-- ==== Sys2Proof/Machine/Float32.lean ====
section
/-! DEFINITION. IEEE 754 binary32 with round to nearest even (R11, R202, R220): numbers are patterns, arithmetic is exact
rational arithmetic rounded once. -/

namespace Sys2Proof.Machine

abbrev F32 := BitVec 32

/-- A finite number as numerator over 2^149. -/
def f32Num (x : F32) : Int :=
  let e := x.toNat / 0x800000 % 256
  let m := x.toNat % 0x800000
  let v : Nat := if e = 0 then m else (m + 0x800000) * 2 ^ (e - 1)
  if x.toNat < 0x80000000 then v else -(v : Int)

/-- The denominator of `f32Num`. -/
def f32Den : Nat := 2 ^ 149

/-- Quotient of naturals rounded to nearest, halves to even. -/
def natDivEven (a b : Nat) : Nat :=
  let q := a / b
  let r := a % b
  if 2 * r < b then q else if b < 2 * r then q + 1 else if q % 2 = 0 then q else q + 1

/-- The pattern of a positive rational n / d: nearest, ties to even, overflow to infinity. -/
def f32OfPos (n d : Nat) : Nat :=
  -- the weight 2^(e - 149) of the last place: 2^23 ≤ n / d / weight < 2^24 for normal numbers
  let scaled := n * 2 ^ 149 / d
  let e := scaled.log2 - 23
  let q := natDivEven (n * 2 ^ 149) (d * 2 ^ e)
  let bits := if e = 0 then q else e * 0x800000 + q
  min bits 0x7F800000

/-- The pattern nearest to n / d. -/
def f32OfRat (n : Int) (d : Nat) : F32 :=
  if n = 0 then 0
  else BitVec.ofNat 32 ((if n < 0 then 0x80000000 else 0) + f32OfPos n.natAbs d)

def f32Add (a b : F32) : F32 := f32OfRat (f32Num a + f32Num b) f32Den
def f32Sub (a b : F32) : F32 := f32OfRat (f32Num a - f32Num b) f32Den
def f32Mul (a b : F32) : F32 := f32OfRat (f32Num a * f32Num b) (f32Den * f32Den)

/-- Division; a zero divisor gives the infinity of the dividend's sign. -/
def f32Div (a b : F32) : F32 :=
  let d := f32Num b
  if d = 0 then (if f32Num a < 0 then 0xFF800000 else 0x7F800000)
  else f32OfRat (if d < 0 then -f32Num a else f32Num a) d.natAbs

def f32Neg (a : F32) : F32 := a ^^^ 0x80000000
def f32Lt (a b : F32) : Bool := f32Num a < f32Num b
def f32Min (a b : F32) : F32 := if f32Lt b a then b else a
def f32Max (a b : F32) : F32 := if f32Lt a b then b else a

/-- Square root of a number that is not negative: a root with 40 more bits, and a sticky bit, rounded once. -/
def f32Sqrt (a : F32) : F32 :=
  let n := (f32Num a).toNat
  -- √(n / 2^149) = √(n · 2^(149 + 2 · 60)) / 2^(149 + 60)
  let v := n * 2 ^ 269
  let r := isqrt 280 v
  f32OfRat (if r * r = v then 2 * r else 2 * r + 1 : Nat) (2 ^ 210)

def f32OfInt (v : Int) : F32 := f32OfRat v 1

/-! ### Powers of ten, exact to far below half a unit in the last place -/

/-- ln 10 in units of 2^-192, rounded. -/
def ln10 : Nat := 14453560883108425870374435737727394665043423914827363902522

/-- Terms y^k / k! of the exponential series in units of 2^-192, from term k on. -/
def expTerms (y : Nat) : Nat → Nat → Nat → Nat
  | 0, _, _ => 0
  | fuel + 1, k, term => term + expTerms y fuel (k + 1) (term * y / 2 ^ 192 / (k + 1))

/-- 10^(n / d) as a quotient of two naturals: exact for a whole exponent, else to far below 2^-160 (|n / d| at most 5). -/
def pow10Rat (n : Int) (d : Nat) : Nat × Nat :=
  if n.natAbs % d = 0 then (if n < 0 then (1, 10 ^ (n.natAbs / d)) else (10 ^ (n.natAbs / d), 1)) else
  let e := expTerms (n.natAbs * ln10 / d) 200 0 (2 ^ 192)
  if n < 0 then (2 ^ 192, e) else (e, 2 ^ 192)

/-! ### The geometry unit's functions, within 1 ulp of the exact result (R221) -/

/-- The pattern of the largest binary32 number that is at most a positive n / d, and whether it is n / d. -/
def f32Floor (n d : Nat) : Nat × Bool :=
  let e := (n * 2 ^ 149 / d).log2 - 23
  let q := n * 2 ^ 149 / (d * 2 ^ e)
  (if e = 0 then q else e * 0x800000 + q, n * 2 ^ 149 == q * d * 2 ^ e)

/-- A number within 1 ulp of a positive n / d: one of its two neighbours, or of three where n / d is a binary32 number itself. -/
def f32Within (pick : Int) (n d : Nat) : F32 :=
  let (f, exact) := f32Floor n d
  BitVec.ofNat 32 (if exact then ((f : Int) + clampI (-1) 1 pick).toNat else if pick ≤ 0 then f else f + 1)

/-- ln 2 in units of 2^-192, rounded down. -/
def ln2 : Nat := 4350955369971217654477563090224794165364344896676135745069

/-- exp2: 2^x of a binary32 number, by its whole part and the exponential series of its fraction. -/
def f32Exp2 (x : F32) : F32 :=
  let k := f32Num x / f32Den
  let frac := (f32Num x % f32Den).toNat
  let m := if frac = 0 then 2 ^ 192 else expTerms (frac * ln2 / f32Den) 160 0 (2 ^ 192)
  f32Within (Config.exp2Pick x) (m * 2 ^ k.toNat) (2 ^ 192 * 2 ^ (-k).toNat)

/-- The next n bits of the base 2 logarithm of z / 2^512, which lies from 1 to 2: each squaring gives one bit. -/
def log2Bits : Nat → Nat → Nat → Nat
  | 0, _, acc => acc
  | n + 1, z, acc =>
    let y := z * z / 2 ^ 512
    if 2 ^ 513 ≤ y then log2Bits n (y / 2) (2 * acc + 1) else log2Bits n y (2 * acc)

/-- log2 of a positive binary32 number. -/
def f32Log2 (x : F32) : F32 :=
  let n := (f32Num x).toNat
  let e : Int := (n.log2 : Int) - 149
  let v : Int := e * 2 ^ 192 + log2Bits 192 (n * 2 ^ 512 / 2 ^ n.log2) 0
  if v = 0 then f32Within (Config.log2Pick x) 0 1
  else
    let r := f32Within (Config.log2Pick x) v.natAbs (2 ^ 192)
    if v < 0 then f32Neg r else r

/-- 10^(n / d) of the geometry unit. -/
def f32Pow10 (n : Int) (d : Nat) : F32 :=
  let (num, den) := pow10Rat n d
  f32Within (Config.pow10Pick n d) num den

/-- 10^(n / d) as the binary32 number nearest to it, for |n / d| of at most 3 (R202). -/
def pow10F32 (n : Int) (d : Nat) : F32 :=
  let (num, den) := pow10Rat n d
  f32OfRat num den

end Sys2Proof.Machine
end

