-- ==== Sys2Proof/Machine/Sessions.lean ====
section
/-! DEFINITION. Sessions, identity and capacity (R58 to R66), Slab discard at a close (R105), and the doorbell of a request
that names no command (R55, R56). -/

namespace Sys2Proof.Machine

def sessionNode (mb : Nat) : Nat := mkNode Ty.session mb

/-! ### Closing -/

/-- Remove a Slab and the scheduled action it armed. -/
def State.dropSlab (i : Nat) (s : State) : State :=
  { s with
    slabs := dropKey Slab.index i s.slabs
    time := { s.time with actions := s.time.actions.filter fun a => a.body != .slab i } }

/-- SLAB_DISCARDED (R107): reason 1 SESSION_CLOSE, 2 idle timeout, 3 uncorrectable staging. -/
def State.discardSlab (reason : Nat) (s : State) (sl : Slab) : State :=
  (s.dropSlab sl.index).raise 16 0x0012 (mkNode Ty.slab sl.index)
    (evData [(0, leBytes 1 sl.session), (1, leBytes 1 reason)])

/-- R63, R105, R399: the session ends, its tag memory, open Slabs and attachments with it. The command count stands until
the next proof. -/
def State.closeSession (mb reason : Nat) (s : State) : State :=
  let b := s.box mb
  if b.sess == .opened then
    let mine := s.slabs.filter fun sl => sl.session == mb && (sl.state == .open_ || sl.state == .unusable)
    let s := mine.foldl (State.discardSlab reason) s
    let s := s.detachQueues mb
    s.setBox mb { s.box mb with sess := .closed, keySlot := 0, tags := [], nonce := [], openKey := [] }
  else s.setBox mb { b with sess := .closed, keySlot := 0, nonce := [], openKey := [] }

/-! ### Key-slot locks (R62) -/

def State.slot (s : State) (k : Nat) : KeySlot := s.boot.slots[k]?.getD {}

def State.setSlot (k : Nat) (x : KeySlot) (s : State) : State :=
  { s with boot := { s.boot with slots := s.boot.slots.setIfInBounds k x } }

/-- Seconds until the slot unlocks, 1 to 60. -/
def State.lockSeconds (s : State) (k : Nat) : Nat :=
  max 1 (min 60 (ceilDiv ((s.slot k).lockUntil.getD 0 - s.time.ticks) smpPerSecond))

/-- End every pending open on a slot: remembered after a lock (R62), forgotten after a change of the slot (R529). -/
def State.endOpens (k : Nat) (remember : Bool) (s : State) : State :=
  { s with mbx := s.mbx.map fun b =>
      if b.sess == .awaiting && b.keySlot == k then
        { b with sess := .closed, keySlot := 0, nonce := [], openKey := [],
                 lockedOpen := if remember then some k else b.lockedOpen }
      else b }

/-- A failed proof: the slot counts it and locks for 60 s at 5 (R61, R62). -/
def State.failProof (k : Nat) (s : State) : State :=
  let x := s.slot k
  if x.failures + 1 < 5 then s.setSlot k { x with failures := x.failures + 1 }
  else
    (s.setSlot k { x with failures := 5, lockUntil := some (s.time.ticks + 60 * smpPerSecond) }).endOpens k true

/-! ### The session commands (R58 to R63) -/

def ownSession (mb : Fin 8) (r : Req) : Bool := r.node.toNat == sessionNode mb

def sessionOpen : Contract where
  opcode := 0x0002
  closedOk := true
  len := lenIs 8
  fixed _ mb r :=
    let p := r.payload
    ownSession mb r && field p 0 1 ≤ 15 && reservedZero p [(1, 3)]
      && (field p 4 4 = 0 || (10 ≤ field p 4 4 && field p 4 4 ≤ 86400))
  node := onTypes [Ty.session]
  body s mb r :=
    let k := field r.payload 0 1
    let b := s.box mb
    match (s.slot k).key with
    | none => failWith Err.state
    | some key =>
      if b.sess != .closed then failWith Err.state
      else if (s.slot k).lockUntil.isSome then .fail Err.locked (leBytes 2 (s.lockSeconds k))
      else
        let (nonce, s) := s.drawBytes 16
        let t := field r.payload 4 4
        let b := { s.box mb with
          sess := .awaiting, keySlot := k, nonce := nonce, openKey := key
          lapseAt := s.time.ticks + 10 * smpPerSecond, idleTimeout := if t = 0 then 600 else t }
        answer (s.setBox mb b) (nonce ++ leBytes 4 mb)

def execSessionOpen (mb : Fin 8) (r : Req) (s : State) : Host.Outcome State Fault Refusal := runCommand sessionOpen mb r s

def sessionProve : Contract where
  opcode := 0x0003
  closedOk := true
  len := lenIs 48
  fixed _ mb r := ownSession mb r
  node := onTypes [Ty.session]
  body s mb r :=
    let b := s.box mb
    let host := slice r.payload 0 16
    let n := leBytes 4 mb
    match b.lockedOpen with
    | some k =>
      .done (s.setBox mb { b with lockedOpen := none })
        { status := Err.locked, payload := leBytes 2 (s.lockSeconds k) }
    | none =>
      if b.sess != .awaiting then failWith Err.state
      else if slice r.payload 16 32 = hmacSha256 b.openKey (b.nonce ++ host ++ n) then
        let s := s.setBox mb { b with sess := .opened, tags := [], count := 0 }
        let s := s.setSlot b.keySlot { s.slot b.keySlot with failures := 0 }
        answer s (hmacSha256 b.openKey (host ++ b.nonce ++ n) ++ leBytes 4 b.idleTimeout)
      else
        let s := s.setBox mb { b with sess := .closed, keySlot := 0, nonce := [], openKey := [] }
        .done (s.failProof b.keySlot) { status := Err.auth }

def execSessionProve (mb : Fin 8) (r : Req) (s : State) : Host.Outcome State Fault Refusal :=
  runCommand sessionProve mb r s

def sessionClose : Contract where
  opcode := 0x0004
  closedOk := true
  len := lenIs 0
  fixed _ mb r := ownSession mb r
  node := onTypes [Ty.session]
  body s mb _ := okay (s.closeSession mb 1)

def execSessionClose (mb : Fin 8) (r : Req) (s : State) : Host.Outcome State Fault Refusal :=
  runCommand sessionClose mb r s

/-! ### Identity and capacity -/

/-- The identity record's ordering code, zero-padded (R65). -/
def orderingCode : Bytes :=
  padTo 16 [0x45, 0x56, 0x48, 0x2D, 0x38, 0x38, 0x30, 0x30, 0x2D, 0x42, 0x31, 0x49]

/-- Pair role of SYS_GET_ID: a candidate, which is neither, reports standalone (log 20). -/
def State.roleByte (s : State) : Nat := if s.pair.role = 1 then 1 else if s.pair.role = 2 then 2 else 0

def State.openMask (s : State) : Nat :=
  sumN ((List.range 8).map fun n => if (s.box n).sess == .opened then 2 ^ n else 0)

def sysGetId : Contract where
  opcode := 0x0001
  closedOk := true
  len := lenIs 0
  node := onCp
  body s _ _ :=
    let v := s.boot.running
    answer s (leBytes 4 0x88004556 ++ [0x42, 0x01] ++ leBytes 1 v.major ++ leBytes 1 v.minor ++ leBytes 2 v.build
      ++ zeros 2 ++ orderingCode ++ leBytes 8 Config.dieUid ++ leBytes 1 s.roleByte ++ leBytes 1 s.openMask ++ zeros 2)

def execSysGetId (mb : Fin 8) (r : Req) (s : State) : Host.Outcome State Fault Refusal := runCommand sysGetId mb r s

def State.slicesIn (s : State) : Nat := 12 - s.gal.slicesOut.length

/-- Slices that the carried ports count: in a formed pair the lesser of both devices' (R462). -/
def State.sliceCount (s : State) : Nat := if s.pair.state = 3 then min s.slicesIn s.pair.partnerSlices else s.slicesIn

/-- Gallery output ports carried with n slices (R40). -/
def portsCarried (rate96 : Bool) (n : Nat) : Nat :=
  let p := min 4096 (256 * (442 * n / 256))
  if rate96 then p / 2 else p

def State.carried (s : State) : Nat := portsCarried s.time.rate96 s.sliceCount

/-- Largest cluster remainder: 143,360 less the cluster's committed bcu, at its largest over the clusters in service. -/
def State.largestRemainder (s : State) : Nat :=
  ((s.clustersIn.map fun c => clusterLimit - s.clusterLoad c).max?).getD 0

/-- Scheduled-action entries in use: actions and armed Slabs (R144). -/
def State.actionsFree (s : State) : Nat := 256 - s.time.actions.length

def sysCapacity : Contract where
  opcode := 0x0005
  len := lenIs 0
  node := onCp
  body s _ _ :=
    answer s (leBytes 1 s.clusterCount ++ leBytes 1 s.sliceCount ++ leBytes 2 (if s.time.rate96 then 96 else 48)
      ++ leBytes 4 (s.clusterCount * 204800) ++ leBytes 4 s.admissionLimit ++ leBytes 4 s.committed
      ++ leBytes 4 (s.admissionLimit - s.committed) ++ leBytes 4 s.largestRemainder ++ leBytes 4 s.liveCount
      ++ leBytes 4 liveLimit ++ leBytes 2 s.carried ++ leBytes 2 s.actionsFree ++ zeros 4)

def execSysCapacity (mb : Fin 8) (r : Req) (s : State) : Host.Outcome State Fault Refusal :=
  runCommand sysCapacity mb r s

/-! ### Time-driven session changes -/

/-- What an expiry does (R59, R62, R64): the idle session closes, the open lapses or is forgotten, the slot unlocks. -/
def State.expire (x : Expiry) (s : State) : State :=
  match x with
  | .idle mb => (s.closeSession mb 2).raise 1 0x0001 (sessionNode mb) (evData [(0, leBytes 1 mb)])
  | .pendingOpen mb =>
    let b := s.box mb
    if b.sess == .awaiting then
      s.setBox mb { b with sess := .closed, keySlot := 0, nonce := [], openKey := [], lockedOpen := none }
    else s.setBox mb { b with lockedOpen := none }
  | .lock k => s.setSlot k { s.slot k with failures := 0, lockUntil := none }

/-- The time of an expiry has come. -/
def State.expired (s : State) (x : Expiry) : Bool :=
  match x with
  | .idle mb =>
    (s.box mb).sess == .opened && (s.box mb).lastDoorbell + (s.box mb).idleTimeout * smpPerSecond ≤ s.time.ticks
  | .pendingOpen mb => (s.box mb).lapseAt ≤ s.time.ticks
  | .lock k => match (s.slot k).lockUntil with | some t => t ≤ s.time.ticks | none => false

/-- An expiry on this device; a standby takes it from the record (R458). -/
def State.runExpiry (x : Expiry) (s : State) : State :=
  if s.expired x && !s.following then (s.note (.expired x)).expire x else s

/-- SESSION_IDLE_CLOSED (R64): no doorbell for longer than the idle timeout. -/
def execSessionIdleClosed (mb : Fin 8) (s : State) : Host.Outcome State Fault Refusal := .next (s.runExpiry (.idle mb))

/-- OPEN_LAPSE (R59, R62): 10 s after the open, a pending one closes and a remembered one is forgotten. -/
def execOpenLapse (mb : Fin 8) (s : State) : Host.Outcome State Fault Refusal := .next (s.runExpiry (.pendingOpen mb))

/-- SLOT_UNLOCK (R62): 60 s after the lock the slot's failure count returns to 0. -/
def execSlotUnlock (slot : Fin 16) (s : State) : Host.Outcome State Fault Refusal := .next (s.runExpiry (.lock slot))

/-! ### A doorbell with an illegal length or no defined opcode (R55, R56) -/

/-- The opcodes of this manual, in groups of one high byte: first and last low bytes of each run. -/
def opcodeRuns : List (Nat × Nat) :=
  [(0x0001, 0x0005), (0x0010, 0x0012), (0x0101, 0x0108), (0x0110, 0x0113), (0x0201, 0x0207), (0x0301, 0x0301)] ++
  [(0x0401, 0x0405), (0x0501, 0x0504), (0x0601, 0x0603), (0x0701, 0x0704), (0x0801, 0x0804), (0x0901, 0x0903)] ++
  [(0x0A01, 0x0A03), (0x0B01, 0x0B02), (0x0B10, 0x0B10), (0x0B20, 0x0B20), (0x0C01, 0x0C03), (0x0D01, 0x0D03)] ++
  [(0x0E01, 0x0E03), (0x0F01, 0x0F02), (0x1001, 0x1003), (0x1101, 0x1104), (0x1110, 0x1111)]

def opcodeDefined (op : Nat) : Bool := opcodeRuns.any fun x => x.1 ≤ op && op ≤ x.2

/-- Checks 1 and 2 of R55 on a request as it lies in the request area: 0, or the code. -/
def doorbellCheck (length hdrLength opcode : Nat) : Nat :=
  if length < 16 ∨ 8192 < length ∨ hdrLength + 16 ≠ length then Err.length
  else if !opcodeDefined opcode then Err.opcode else 0

/-- MBX_DOORBELL: a request that passes checks 1 and 2 is a row of its own and changes nothing here (log 1). -/
def execMbxDoorbell (mb : Fin 8) (length : Nat) (opcode : BitVec 16) (hdrLength : Nat) (r : Req) (s : State) :
    Host.Outcome State Fault Refusal :=
  let k := doorbellCheck (length % 0x4000) hdrLength opcode.toNat
  if k = 0 then .next s
  else .next (s.doorbell opcode.toNat mb fun s =>
    s.finish opcode.toNat mb r ((s.box mb).sess == .opened) false k {})

end Sys2Proof.Machine
end

