-- ==== Sys2Proof/Machine/Boot.lean ====
section
/-! DEFINITION. Image verification, the boot and key registers, the key commands and the image update (R518 to R533). -/

namespace Sys2Proof.Machine

/-! ### BOOT_STATUS (R519, R525) -/

/-- Every change of CODE sets cause 12 (R519). -/
def State.setCode (c : Nat) (s : State) : State :=
  if s.boot.code = c then s else State.setCause 12 { s with boot := { s.boot with code := c } }

/-! ### Images (R523, R524) -/

def imageInfo (h : Bytes) : ImageInfo :=
  { major := field h 6 1, minor := field h 7 1, build := field h 8 2, pairLevel := field h 10 2,
    secVersion := field h 20 1 }

/-- Reason 1: header fields and lengths; `top` is how many bytes the image store holds. -/
def headerOk (h : Bytes) (top : Nat) : Bool :=
  field h 0 4 = 0x57465645 && field h 4 2 = 1 && field h 12 4 = 4608 + field h 16 4 && field h 12 4 ≤ 8388608
    && 4096 ≤ field h 16 4 && field h 16 4 ≤ 8380416 && field h 16 4 % 4096 = 0 && field h 20 1 ≤ 63
    && reservedZero h [(21, 235)] && field h 12 4 ≤ top

/-- Reason 7: the board block meets R523. -/
def boardOk (b : Bytes) : Bool :=
  field b 0 4 = 0x42425645 && field b 4 1 ≤ 3 && field b 5 1 ≤ 4 && 500 ≤ field b 6 2 && field b 6 2 ≤ 3300
    && (List.range 16).all (fun r => field b (8 + 2 * r) 1 < 128) && field b 8 1 ≠ 0 && reservedZero b [(40, 4056)]

/-- Every board-key row is blank: the board signature is open (R524). -/
def Boot.rowsBlank (b : Boot) : Bool := (b.rows.drop 1).all (· == 0)

/-- A row 1 to 3 is programmed, unrevoked and holds this hash. -/
def Boot.boardKeyKnown (b : Boot) (hash : Bytes) : Bool :=
  (List.range 3).any fun i => b.rows.getD (i + 1) 0 == 1 && b.rowHashes.getD i [] == hash

/-- The checks of R524 in order: 0, or the reason of the first failure. -/
def verifyImage (b : Boot) (img : Mem) (top : Nat) : Nat :=
  let h := img.readBytes 0 256
  let fw := field h 16 4
  let firmware := img.readBytes 256 fw
  let board := img.readBytes (256 + fw) 4096
  let sig := img.readBytes (256 + fw + 4096) 128
  let bsig := img.readBytes (256 + fw + 4096 + 128) 128
  if !headerOk h top then 1
  else if sha256 (sig.take 64) ≠ Config.lerundKeyHash then 2
  else if !Config.ecdsaVerify (sig.take 64) (sig.drop 64) (h ++ firmware) then 3
  else if !b.rowsBlank && !b.boardKeyKnown (sha256 (bsig.take 64)) then 4
  else if !b.rowsBlank && !Config.ecdsaVerify (bsig.take 64) (bsig.drop 64) (h ++ board) then 5
  else if field h 20 1 < b.secMin then 6
  else if !boardOk board then 7
  else 0

/-! ### Download (R522) -/

/-- The ROM takes a download: strapped for it on a PCIe attachment, and the image not yet accepted. -/
def State.downloading (s : State) : Bool :=
  s.id.straps.download && !s.id.straps.hostQspi && s.boot.code ≤ 3 && !s.boot.warm && s.awake

/-- GO: the chunk of BOOT_DL_LENGTH bytes at the window goes to BOOT_DL_OFFSET of the image. -/
def State.dlGo (s : State) : State :=
  let b := s.boot
  if 4 ≤ b.dlLength ∧ b.dlLength ≤ 917504 ∧ b.dlLength % 4 = 0 then
    { s with boot := { b with dlImage := b.dlImage.writeBytes b.dlOffset (s.mem.bar2.readBytes 0x20000 b.dlLength) } }
  else s

/-- FINAL: verify; boot goes on at step 4, or the download is rejected for 10 ms. -/
def State.dlFinal (s : State) : State :=
  let k := verifyImage s.boot s.boot.dlImage 8388608
  if k = 0 then
    let info := imageInfo (s.boot.dlImage.readBytes 0 256)
    let s := (s.setCode 4).setCode 5
    { s with boot := { s.boot with running := info, kept := info, source := 2, boardOpen := s.boot.rowsBlank } }
  else
    let s := (s.setCode 4).setCode 0x83
    { s with boot := { s.boot with detail := BitVec.ofNat 32 k, dlReturnAt := some (s.time.ticks + 480) } }

/-- A write of BOOT_DL_CTRL: GO, then FINAL. -/
def State.writeDlCtrl (v : Word) (s : State) : State :=
  if s.downloading then
    let s := s.setCode 3
    let s := if v.getLsbD 0 then s.dlGo else s
    if v.getLsbD 1 then s.dlFinal else s
  else s

/-- BOOT_DL_GO (R522): a write of BOOT_DL_CTRL with GO 1. -/
def execBootDlGo (v : Word) (s : State) : Host.Outcome State Fault Refusal := .next (s.writeDlCtrl (v ||| 1))

/-- BOOT_DL_FINAL (R522): a write of BOOT_DL_CTRL with FINAL 1. -/
def execBootDlFinal (v : Word) (s : State) : Host.Outcome State Fault Refusal := .next (s.writeDlCtrl (v ||| 2))

/-- DOWNLOAD_RETURN (R522): 10 ms after the rejection CODE returns to 0x03 and the download is discarded. -/
def execDownloadReturn (s : State) : Host.Outcome State Fault Refusal :=
  match s.boot.dlReturnAt with
  | some t =>
    if s.boot.code = 0x83 ∧ t ≤ s.time.ticks then
      .next (State.setCode 3 { s with boot := { s.boot with dlImage := [], dlReturnAt := none } })
    else .next s
  | none => .next s

/-- A boot that can come to this stop (R518, R519, R526): flash boots 0x81 and 0x82, full boots 0x84 and 0x85. -/
def State.canStop (s : State) (code : Nat) : Bool :=
  let st := s.id.straps
  if code = 0x86 then st.download && st.hostQspi
  else if code = 0x81 ∨ code = 0x82 then !st.download && !s.boot.warm
  else (code = 0x84 || code = 0x85) && !s.boot.warm

/-- The board block of an image (R523). -/
def boardBlock (img : Mem) : Bytes := img.readBytes (256 + field (img.readBytes 0 256) 16 4) 4096

/-- BOOT_STOP (R526): 0x84 carries its channel and 0x85 its unit in BOOT_DETAIL [23:16], 0x82 its two reasons. -/
def execBootStop (code : Byte) (unit : Nat) (s : State) : Host.Outcome State Fault Refusal :=
  if s.awake && s.boot.code < 7 && s.canStop code.toNat then
    let detail := if code = 0x82 then unit % 0x10000 else if code = 0x84 ∨ code = 0x85 then 0x10000 * (unit % 256) else 0
    .next (State.setCode code.toNat { s with boot := { s.boot with detail := BitVec.ofNat 32 detail } })
  else .next s

/-! ### The key register path (R528) -/

/-- KEY_CHANGED (R533). -/
def State.keyChanged (slot action minimum : Nat) (s : State) : State :=
  s.raise 6 0x1102 0 (evData [(0, leBytes 1 slot), (1, leBytes 1 action), (2, leBytes 1 minimum)])

def Boot.keyWord (b : Boot) : Bytes := b.keyData.flatMap fun w => leBytes 4 w.toNat

/-- WRITE: BOOT_KEY_DATA goes into an empty volatile slot while LOCKED is 0; the data words are cleared. -/
def State.registerKey (k : Nat) (s : State) : State :=
  let b := s.boot
  let key := b.keyWord
  let x := s.slot k
  let s' : State := { s with boot := { b with keyData := List.replicate 8 0 } }
  if 8 ≤ k && k < 16 && x.key.isNone && !x.locked && !b.keyLocked && key.any (· != 0) then
    let s' := s'.setSlot k { x with key := some key }
    State.keyChanged k 1 0 (State.endOpens k false { s' with boot := { s'.boot with keyRefused := false } })
  else { s' with boot := { s'.boot with keyRefused := true } }

/-- A write of BOOT_KEY_CTRL: WRITE, then LOCK. -/
def State.writeKeyCtrl (v : Word) (s : State) : State :=
  if s.awake then
    let s := if v.getLsbD 4 then s.registerKey (v.toNat % 16) else s
    if v.getLsbD 5 then { s with boot := { s.boot with keyLocked := true } } else s
  else s

/-- BOOT_KEY_WRITE (R528): a write of BOOT_KEY_CTRL with WRITE 1. -/
def execBootKeyWrite (v : Word) (s : State) : Host.Outcome State Fault Refusal := .next (s.writeKeyCtrl (v ||| 0x10))

/-- BOOT_KEY_LOCK (R528): a write of BOOT_KEY_CTRL with LOCK 1. -/
def execBootKeyLock (v : Word) (s : State) : Host.Outcome State Fault Refusal := .next (s.writeKeyCtrl (v ||| 0x20))

/-! ### Key commands (R527, R529)

R527 is asked only where the command would write OTP; a key hash of 32 zero bytes is refused as a zero key (DEDUCED, log 43). -/

def KeySlot.blank (x : KeySlot) : Bool := x.key.isNone && !x.revoked

/-- R527: the session was proven on an OTP slot, or every OTP slot is blank. -/
def State.otpAllowed (s : State) (mb : Nat) : Bool :=
  (s.box mb).keySlot ≤ 7 || (s.boot.slots.toList.take 8).all KeySlot.blank

def keyWrite : Contract where
  opcode := 0x1101
  len := lenIs 36
  fixed _ _ r := field r.payload 0 1 ≤ 15 && reservedZero r.payload [(1, 3)] && (r.payload.drop 4).any (· != 0)
  node := onCp
  body s mb r :=
    let k := field r.payload 0 1
    let x := s.slot k
    if k ≤ 7 && !s.otpAllowed mb then failWith Err.state
    else if (if k ≤ 7 then !x.blank else x.locked) then failWith Err.state
    else okay (((s.setSlot k { x with key := some (r.payload.drop 4) }).endOpens k false).keyChanged k 1 0)

def execKeyWrite (mb : Fin 8) (r : Req) (s : State) : Host.Outcome State Fault Refusal := runCommand keyWrite mb r s

def keyLock : Contract where
  opcode := 0x1102
  len := lenIs 4
  fixed _ _ r :=
    field r.payload 0 1 ≤ 15 && 1 ≤ field r.payload 1 1 && field r.payload 1 1 ≤ 3 && reservedZero r.payload [(2, 2)]
  node := onCp
  body s mb r :=
    let k := field r.payload 0 1
    let a := field r.payload 1 1
    let x := s.slot k
    if a = 3 && k ≤ 7 && !s.otpAllowed mb then failWith Err.state
    else if (k ≤ 7) != (a == 3) then failWith Err.range
    else if a = 3 then
      if x.revoked then failWith Err.state
      else okay (((s.setSlot k { x with key := none, revoked := true }).endOpens k false).keyChanged k 4 0)
    else if a = 1 then
      if x.locked then okay s else okay ((s.setSlot k { x with locked := true }).keyChanged k 2 0)
    else if x.locked then failWith Err.state
    else if x.key.isNone then okay s
    else okay (((s.setSlot k { x with key := none }).endOpens k false).keyChanged k 3 0)

def execKeyLock (mb : Fin 8) (r : Req) (s : State) : Host.Outcome State Fault Refusal := runCommand keyLock mb r s

def keyFuse : Contract where
  opcode := 0x1103
  len := lenIs 36
  fixed _ _ r := 1 ≤ field r.payload 0 1 && field r.payload 0 1 ≤ 3 && reservedZero r.payload [(2, 2)]
  node := onCp
  body s mb r :=
    let kind := field r.payload 0 1
    let x := field r.payload 1 1
    let hash := r.payload.drop 4
    let b := s.boot
    let legal := if kind = 3 then 1 ≤ x && x ≤ 63 && hash.all (· == 0)
      else 1 ≤ x && x ≤ 3 && (kind = 1) != hash.all (· == 0)
    if !legal then failWith Err.range
    else if !s.otpAllowed mb then failWith Err.state
    else if kind = 1 then
      if b.rows.getD x 0 ≠ 0 then failWith Err.state
      else okay (State.keyChanged x 5 0
        { s with boot := { b with rows := b.rows.set x 1, rowHashes := b.rowHashes.set (x - 1) hash } })
    else if kind = 2 then
      if b.rows.getD x 0 ≠ 1 then failWith Err.state
      else okay (State.keyChanged x 6 0 { s with boot := { b with rows := b.rows.set x 2 } })
    else if x ≤ b.secMin then failWith Err.state
    else if b.running.secVersion < x || (b.updState = 3 && b.staged.secVersion < x) then failWith Err.conflict
    else okay (State.keyChanged 0 7 x { s with boot := { b with secMin := x } })

def execKeyFuse (mb : Fin 8) (r : Req) (s : State) : Host.Outcome State Fault Refusal := runCommand keyFuse mb r s

/-- KEY_INFO's byte of a slot. -/
def KeySlot.infoByte (x : KeySlot) : Nat :=
  (if x.revoked then 3 else if x.key.isNone then 0 else if x.locked then 2 else 1)
    + 128 * ofBool x.lockUntil.isSome

def keyInfo : Contract where
  opcode := 0x1104
  len := lenIs 0
  node := onCp
  body s _ _ :=
    answer s (s.boot.slots.toList.flatMap (fun x => leBytes 1 x.infoByte) ++ s.boot.rows.flatMap (leBytes 1)
      ++ leBytes 1 s.boot.secMin ++ zeros 3)

def execKeyInfo (mb : Fin 8) (r : Req) (s : State) : Host.Outcome State Fault Refusal := runCommand keyInfo mb r s

/-! ### Updating the image (R530, R531) -/

def fwStage : Contract where
  opcode := 0x1110
  len := lenIs 16
  fixed _ _ r :=
    let p := r.payload
    field p 0 1 < 4 && reservedZero p [(1, 3)] && 1 ≤ field p 8 4 && field p 8 4 ≤ 114688
      && field p 4 4 ≤ 8388607 && field p 12 4 % 4 = 0
  node := onCp
  fields _ _ r :=
    let p := r.payload
    field p 4 4 + field p 8 4 ≤ 8388608 && field p 12 4 + field p 8 4 ≤ bulkBytes
  body s mb r :=
    let p := r.payload
    let first := bit (field p 0 1) 0
    let final := bit (field p 0 1) 1
    let off := field p 4 4
    let n := field p 8 4
    let b := s.boot
    if b.source = 2 || (!first && b.updState ≠ 1) then failWith Err.state
    else if b.updState = 2 then failWith Err.busy
    else if s.hitsAttachment mb (field p 12 4) n then failWith Err.conflict
    else
      let old := if first then [] else b.staging
      okay { s with
        boot := { b with
          staging := Mem.writeBytes old off (s.readBulk mb (field p 12 4) n)
          stagedLen := max (if first then 0 else b.stagedLen) (off + n)
          updState := if final then 2 else 1, updReason := if first then 0 else b.updReason }
        pair := if first then { s.pair with partnerStaged := false } else s.pair }

def execFwStage (mb : Fin 8) (r : Req) (s : State) : Host.Outcome State Fault Refusal := runCommand fwStage mb r s

/-- FW_STAGED (R530): verification, programming and read-back of the staged image end. -/
def execFwStaged (readBackOk : Bool) (s : State) : Host.Outcome State Fault Refusal :=
  let b := s.boot
  if b.updState = 2 && s.ready then
    let info := imageInfo (b.staging.readBytes 0 256)
    let k := verifyImage b b.staging b.stagedLen
    let reason := if k ≠ 0 then k else if readBackOk then 0 else 8
    let s := { s with boot := { b with
      updState := if reason = 0 then 3 else 4, updReason := reason, staged := info } }
    .next (s.raise 4 0x1100 0 (evData [(0, leBytes 1 (if reason = 0 then 1 else 2)), (1, leBytes 1 reason),
      (2, leBytes 1 (1 - b.active)), (4, leBytes 2 info.pairLevel), (6, leBytes 1 info.major),
      (7, leBytes 1 info.minor), (8, leBytes 2 info.build)]))
  else .next s

/-- FW_ACTIVATE names this device: by 0, or by its own side. -/
def State.ownSide (s : State) : Nat := if s.id.straps.pairSideB then 2 else 1

/-- The staged image becomes the active slot's, on trial, and the kept copy (R531). -/
def State.activateStaged (s : State) : State :=
  let b := s.boot
  { s with boot := { b with
      active := 1 - b.active, trial := true, descSeq := b.descSeq + 1, kept := b.staged, keptTrial := true
      activateAt := some (s.time.block + 1) } }

def fwActivate : Contract where
  opcode := 0x1111
  len := lenIs 4
  fixed _ _ r := field r.payload 0 1 ≤ 2 && reservedZero r.payload [(1, 3)]
  node := onCp
  body s _ r :=
    let t := field r.payload 0 1
    let own := t = 0 || t == s.ownSide
    if s.pair.state = 3 ∧ s.pair.role ≠ 2 then
      if own then failWith Err.conflict
      else if !s.pair.partnerStaged then failWith Err.state
      else okay s
    else if !own then failWith Err.peer
    else if s.boot.updState ≠ 3 then failWith Err.state
    else okay s.activateStaged

def execFwActivate (mb : Fin 8) (r : Req) (s : State) : Host.Outcome State Fault Refusal := runCommand fwActivate mb r s

end Sys2Proof.Machine
end

