-- ==== Sys2Proof/Machine/Time.lean ====
section
/-! DEFINITION. Network time, the servo, the pins and the time commands (R131 to R154). The scheduled-action commands are
in Actions.lean; PTP messages and port calibration in Ethernet.lean. -/

namespace Sys2Proof.Machine

/-! ### Units: network time in 1/196,608 ns (log 12) -/

/-- A time of R12, in units of 1/65,536 ns. -/
def timeOf (sec ns sub : Nat) : Nat := (sec * 1000000000 + ns) * 65536 + sub

/-- Sample boundaries per second as a ratio of units: T(m) = (m + E) / 48,000 s (R132). -/
def netOfSample (m : Int) : Int := m * netPerSmp

/-- R133: the smallest m with T(m) ≥ t, for t in units of 1/65,536 ns; no sample lies before 0. -/
def State.dueSample (s : State) (t : Nat) : Nat := ((ceilDiv (3 * t) netPerSmp : Nat) - s.time.epoch : Int).toNat

/-- Lateness in ns of a network time at sample m, 0 when not late. -/
def State.lateAt (s : State) (t m : Nat) : Nat :=
  ((netOfSample (m + s.time.epoch) - 3 * t) / netPerNs).toNat

/-- ns of a number of samples, rounded down. -/
def smpNs (k : Nat) : Nat := k * 1000000000 / smpPerSecond

def signedNs (v : Int) : Bytes := leSigned 4 (clampI (-2147483648) 2147483647 v)

/-! ### Servo state (R139) -/

def Servo.code : Servo → Nat
  | .free => 0
  | .acquiring => 1
  | .locked => 2
  | .holdover => 3

/-- 16 s of LOCKED, in smp of local time (R139). -/
def rateWindow : Nat := 16 * smpPerSecond

/-- Sum of rate times duration from local time `start` to `until_`, of rates listed newest first with the time from which. -/
def rateSum (start until_ : Nat) : List (Nat × Int) → Int
  | [] => 0
  | x :: r => x.2 * ((until_ - max x.1 start : Nat) : Int) + rateSum start (min until_ (max x.1 start)) r

/-- The rates that a window from `start` needs. -/
def keepRates (start : Nat) : List (Nat × Int) → List (Nat × Int)
  | [] => []
  | x :: r => if x.1 ≤ start then [x] else x :: keepRates start r

/-- The rate of HOLDOVER: the average over the last 16 s in LOCKED, the last rate if LOCKED lasted less (R139). -/
def Time.holdRate (t : Time) : Int :=
  if t.servo = .locked ∧ t.lockedAt + rateWindow ≤ t.ticks then
    divEven (rateSum (t.ticks - rateWindow) t.ticks t.rates) rateWindow
  else t.rateAdj

/-- What a change of servo state does to the servo: LOCKED begins its record of rates, HOLDOVER notes its start and rate. -/
def Time.enterServo (v : Servo) (t : Time) : Time :=
  let u := { t with servo := v, lockRun := 0 }
  match v with
  | .locked => { u with lockedAt := t.ticks, rates := [(t.ticks, t.rateAdj)] }
  | .holdover => { u with holdSince := t.ticks, rateAdj := t.holdRate }
  | .free | .acquiring => u

/-- A change of servo state raises TIME_STATE (R151). -/
def State.setServo (v : Servo) (s : State) : State :=
  let old := s.time.servo
  if old = v then s
  else
    State.raise 128 0x0200 0 (evData [(0, leBytes 1 old.code), (1, leBytes 1 v.code), (2, leBytes 1 s.time.parentPort),
        (4, signedNs s.time.offset)])
      { s with time := s.time.enterServo v }

/-! ### Steps of network time (R140, R144, R145) -/

/-- An action's due sample under the new time: frozen ones keep theirs, and are late when their time now lies before it; the
others are recomputed, and a passed-over one fires at the next sample boundary. -/
def Action.restep (s : State) (a : Action) : Action :=
  match a.netTime with
  | none => a
  | some t =>
    let passed := 3 * t < s.time.net
    if a.frozen then { a with late := decide (s.dueSample t < a.due) }
    else
      let due := if passed then s.m + 1 else s.dueSample t
      { a with due := due, late := passed, passed := passed, frozen := passed || due / 16 ≤ s.time.block + 2 }

/-- The frozen due samples of network-time actions, for the standby (R458). -/
def State.noteDues (l : List Action) (s : State) : State :=
  l.foldl (fun s a => s.note (.due a.index a.due a.late)) s

/-- A pending Slab follows its scheduled action's due sample. -/
def State.syncSlabs (s : State) : State :=
  { s with slabs := s.slabs.map fun sl =>
      match s.time.actions.find? fun a => a.body == .slab sl.index with
      | some a => { sl with due := a.due, late := a.late }
      | none => sl }

/-- The actions under the new time and E; the standby waits for the primary's due samples (R154, R458). -/
def State.restepActions (s : State) : State :=
  if s.following then s
  else
    let l := s.time.actions.map (Action.restep s)
    let s := State.syncSlabs { s with time := { s.time with actions := l } }
    (s.note (.epoch s.time.epoch)).noteDues (l.filter fun a => a.netTime.isSome && a.frozen)

/-- Step network time by Δ, in units of 1/196,608 ns (R140): E, the actions, TIME_STEP, and the residual, which media phase is
pulled by. A standby's E is its primary's (R457). DESIGN CHOICE (log 12): a step that would take network time below 0 s leaves it
at 0, and E takes the whole change; the spec does not say what happens there. -/
def State.stepTime (delta : Int) (s : State) : State :=
  let change := divEven delta netPerSmp
  let left := delta - change * netPerSmp
  let t := { s.time with
    net := (s.time.net + delta).toNat, epoch := if s.following then s.time.epoch else s.time.epoch + change, pendStep := none
    residual := if left = 0 then none else some (left / netPerNs), pull := s.time.pull + left }
  let s := State.restepActions { s with time := t }
  let s := s.raise 129 0x0201 0 (evData [(0, leSigned 8 (delta / netPerNs)), (8, leSigned 8 change)])
  if left = 0 then
    s.raise 134 0x0206 0 (evData [(0, leSigned 8 s.time.epoch), (12, leBytes 1 1)])
  else s

/-- TIME_STEP (R140): the step waits for the next sample boundary, which `toNextSample` in Apply.lean brings. -/
def State.applyStep (s : State) : State :=
  match s.time.pendStep with
  | some d => s.stepTime d
  | none => s

/-- At 10 ppm media phase can have been pulled by so many ns since sample m0: 5 ns in every 24 samples (R140). -/
def State.pulled (s : State) (m0 : Nat) (ns : Int) : Bool := 24 * ns.natAbs ≤ 5 * (s.m - m0)


/-- MEDIA_SOURCE_SLEW_END (R141). -/
def execMediaSourceSlewEnd (phase : Int) (s : State) : Host.Outcome State Fault Refusal :=
  if s.time.slewing && s.pulled s.time.slewFrom phase && (s.time.cfg.mediaSource ≠ 0 || s.time.pull = 0) then
    .next (State.raise 134 0x0206 0
      (evData [(0, leSigned 8 s.time.epoch), (8, signedNs phase), (12, leBytes 1 2)])
      { s with time := { s.time with slewing := false } })
  else .next s

/-! ### Measured offsets (R139) -/

/-- The first lock since network time restarted sets E (R132); the phase that is left, below half a sample, is pulled as after a
step (log 12). A standby's E is its primary's (R457). -/
def State.lockEpoch (s : State) : State :=
  if s.time.everLocked then s
  else if s.following then { s with time := { s.time with everLocked := true } }
  else
    let n := divEven s.time.net netPerSmp
    State.note (.epoch (n - s.m))
      { s with time := { s.time with everLocked := true, epoch := n - s.m, pull := s.time.net - n * netPerSmp } }

/-- An offset measured from the parent, in 1/256 ns: a step, or a slew with a lock after 16 intervals in a row. The rate that
the servo picks is not given: a free value within ±100 ppm (log 3). -/
def State.measure (offset : Int) (s : State) : State :=
  let c := s.time.cfg
  let s := { s with time := { s.time with offset := offset / 256 } }
  if c.stepThreshold ≠ u32max && 256 * c.stepThreshold < offset.natAbs then
    { s with time := { s.time with pendStep := some (-offset * (netPerNs / 256 : Nat)), lockRun := 0 } }
  else
    let (v, s) := s.drawFree
    let run := if offset.natAbs < 256 * c.lockThreshold then s.time.lockRun + 1 else 0
    let rate : Int := (v % 13107201 : Nat) - 6553600
    let t := s.time
    let s := { s with time := { t with
      rateAdj := rate, lockRun := run
      rates := if t.servo = .locked then keepRates (t.ticks - rateWindow) ((t.ticks, rate) :: t.rates) else t.rates } }
    if s.time.servo = .acquiring && 16 ≤ run then (s.lockEpoch).setServo .locked else s

/-- A parent is selected, or returns (R139). -/
def State.acquire (s : State) : State := if s.time.servo = .acquiring then s else s.setServo .acquiring

/-- PARENT_CHANGE (R151). -/
def State.parentChange (s : State) : State :=
  s.raise 130 0x0202 0 (evData [(0, leBytes 8 s.time.gm.toNat), (8, leBytes 1 s.time.parentPort),
    (10, leBytes 2 s.time.steps)])

/-- Interval 2^k s in smp, at least one sample. -/
def logInterval (k : Int) : Nat :=
  if 0 ≤ k then smpPerSecond * 2 ^ k.toNat else smpPerSecond / 2 ^ (-k).toNat

/-- HOLDOVER_ENTRY (R139). -/
def execHoldoverEntry (s : State) : Host.Outcome State Fault Refusal :=
  let t := s.time
  let ptp := t.parentPort < 4
    && t.lastSync + t.cfg.holdoverCount * logInterval (t.ports.getD t.parentPort {}).logSync ≤ t.ticks + 15
  let pps := t.cfg.servoSource = 1 && t.lastPps + 3 * smpPerSecond ≤ t.ticks
  let gone := t.cfg.servoSource ≠ 1 && t.parentPort = 0xFF
  if (t.servo = .acquiring || t.servo = .locked) && (if t.cfg.servoSource = 1 then pps else ptp || gone) then
    .next (s.setServo .holdover)
  else .next s

/-- ANNOUNCE_RECEIPT_TIMEOUT (R139): the BMCA takes another parent, or none is left; under another servo source no port is the
parent. -/
def execAnnounceReceiptTimeout (next : Option Announce) (s : State) : Host.Outcome State Fault Refusal :=
  let t := s.time
  let p := t.ports.getD t.parentPort {}
  if t.cfg.servoSource = 0 && t.parentPort < 4 && t.lastAnnounce + p.announceTimeout * logInterval p.logAnnounce ≤ t.ticks + 15 then
    match next with
    | some a =>
      let s := { s with time := { t with parentPort := a.port, gm := a.gm, steps := a.steps, lastAnnounce := t.ticks } }
      .next (s.parentChange).acquire
    | none =>
      .next (State.parentChange { s with time := { t with parentPort := 0xFF } })
  else .next s

/-! ### Pins (R142, R143, R151) -/

/-- Own time less the nearest whole second, for a stamp in ns. -/
def wholeSecond (stamp : Int) : Int × Int :=
  let sec := (stamp + 500000000) / 1000000000
  (sec, stamp - sec * 1000000000)

/-- PPS_IN_EDGE (R139, R142): the stamp less the cable delay; as the servo source each edge marks a whole second, or the one
TIME_SET named; else its network seconds are those of its stamp (R12). -/
def execPpsInEdge (stamp : Nat) (s : State) : Host.Outcome State Fault Refusal :=
  let t := s.time
  if t.pins.ppsIn = 0 then .next s
  else
    let at_ : Int := stamp - t.pins.cableDelay
    let (sec, off) := if t.cfg.servoSource = 1 then wholeSecond at_ else (at_ / 1000000000, 0)
    let run := if 0 < t.ppsRun && t.ticks ≤ t.lastPps + smpPerSecond * 3 / 2 then t.ppsRun + 1 else 1
    let s := { s with time := { t with lastPps := t.ticks, ppsRun := run, ppsSeconds := sec.toNat, ppsLost := false } }
    if t.cfg.servoSource ≠ 1 then .next s
    else
      let s := if 2 ≤ run && s.time.servo != .acquiring && s.time.servo != .locked then
          State.acquire { s with time := { s.time with parentPort := 0xFE } }
        else s
      match s.time.pendSet with
      | some v =>
        let s := { s with time := { s.time with pendSet := none, ppsSeconds := v / (65536 * 1000000000) } }
        .next (s.stepTime (3 * (v : Int) - at_ * netPerNs))
      | none => .next (if s.time.parentPort = 0xFE then s.measure (256 * off) else s)

/-- PPS_IN_LOST (R151): 3 s without an edge. -/
def execPpsInLost (s : State) : Host.Outcome State Fault Refusal :=
  let t := s.time
  if t.pins.ppsIn ≠ 0 && 0 < t.ppsRun && !t.ppsLost && t.lastPps + 3 * smpPerSecond ≤ t.ticks then
    .next (State.raise 133 0x0205 0 (evData [(0, leBytes 8 t.ppsSeconds)])
      { s with time := { t with ppsLost := true, ppsRun := 0 } })
  else .next s

/-! ### TIME_GET -/

/-- The instant at which a command samples both clocks within its sample is open: a free phase (log 3). -/
def timeGet : Contract where
  opcode := 0x0203
  len := lenIs 0
  node := onCp
  body s _ _ :=
    let (v, s) := s.drawFree
    let phase := v % 20834
    let t := s.time
    let net := t.net + phase * netPerNs
    let ns := net / netPerNs
    let hold := if t.servo = .holdover then (t.ticks - t.holdSince) / smpPerSecond else 0
    answer s (leBytes 8 (ns / 1000000000) ++ leBytes 4 (ns % 1000000000) ++ leBytes 2 (net % netPerNs / 3) ++ zeros 2
      ++ leBytes 8 s.m ++ leBytes 4 phase ++ zeros 4 ++ leSigned 8 t.epoch ++ leBytes 1 t.servo.code
      ++ leBytes 1 t.parentPort ++ leBytes 2 t.steps ++ signedNs t.offset ++ leSigned 4 t.rateAdj
      ++ leBytes 8 t.gm.toNat ++ leBytes 4 hold)

def execTimeGet (mb : Fin 8) (r : Req) (s : State) : Host.Outcome State Fault Refusal := runCommand timeGet mb r s

/-! ### TIME_CONFIG, TIME_PORT_SET, TIME_SET, TIME_PIN_SET (R134, R150) -/

/-- The settings last written: waiting for the boundary, else in effect. -/
def State.latestCfg (s : State) : TimeCfg := s.time.pendCfg.getD s.time.cfg
def State.latestPins (s : State) : TimePins := s.time.pendPins.getD s.time.pins
def State.latestPort (s : State) (p : Nat) : PtpPort := (getA p s.time.pendPorts).getD (s.time.ports[p]?.getD {})

def timeCfgOf (p : Bytes) : TimeCfg :=
  { profile := field p 0 1, domain := field p 1 1, role := field p 2 1, clockType := field p 3 1,
    priority1 := field p 4 1, priority2 := field p 5 1, clockClass := field p 6 1, servoSource := field p 7 1,
    stepThreshold := if field p 8 4 = 0 then 10000000 else field p 8 4,
    lockThreshold := if field p 12 4 = 0 then 1000 else field p 12 4, mediaSource := field p 16 1,
    holdoverCount := if field p 17 1 = 0 then 3 else field p 17 1 }

def timeConfig : Contract where
  opcode := 0x0204
  len := lenIs 32
  fixed _ _ r :=
    let p := r.payload
    let st := field p 8 4
    let lk := field p 12 4
    field p 0 1 ≤ 3 && field p 1 1 ≤ 127 && field p 2 1 ≤ 1 && field p 3 1 ≤ 1 && 6 ≤ field p 6 1 && field p 7 1 ≤ 2
      && (st = 0 || (1000 ≤ st && st ≤ 1000000000) || st = u32max)
      && (lk = 0 || (10 ≤ lk && lk ≤ 1000000)) && field p 16 1 ≤ 2 && field p 17 1 ≠ 1 && reservedZero p [(18, 14)]
  node := onCp
  fields _ _ r := field r.payload 7 1 ≠ 0 || field r.payload 0 1 ≠ 0
  body s _ r :=
    let c := timeCfgOf r.payload
    let old := s.latestCfg
    let ptp := (List.range 4).any fun p => (s.latestPort p).enable
    if ptp && (c.profile ≠ old.profile || c.domain ≠ old.domain || c.clockType ≠ old.clockType) then failWith Err.state
    else if c.mediaSource = 1 && s.latestPins.mclkIn = 0 then failWith Err.state
    else okay { s with time := { s.time with pendCfg := some c } }

def execTimeConfig (mb : Fin 8) (r : Req) (s : State) : Host.Outcome State Fault Refusal := runCommand timeConfig mb r s

/-- The settings of TIME_PORT_SET on a port, whose calibration, counts and measurements stay (R137). -/
def PtpPort.configure (x c : PtpPort) : PtpPort :=
  { x with
    enable := c.enable, mech := c.mech, transport := c.transport, step := c.step, logSync := c.logSync
    logAnnounce := c.logAnnounce, logDelay := c.logDelay, announceTimeout := c.announceTimeout, ingress := c.ingress
    egress := c.egress, asymmetry := c.asymmetry }

def ptpPortOf (old : PtpPort) (p : Bytes) : PtpPort :=
  { old with
    enable := field p 0 1 = 1, mech := field p 1 1, transport := field p 2 1, step := field p 3 1
    logSync := sfield p 4 1, logAnnounce := sfield p 5 1, logDelay := sfield p 6 1
    announceTimeout := field p 7 1, ingress := sfield p 8 4, egress := sfield p 12 4, asymmetry := sfield p 16 4 }

/-- The ranges of R134 for a profile: sync, announce, mechanisms, transports. -/
def profileOk (profile : Nat) (p : PtpPort) : Bool :=
  let within (lo hi v : Int) : Bool := lo ≤ v && v ≤ hi
  if profile = 1 then
    within (-4) 1 p.logSync && within 0 4 p.logAnnounce && p.mech = 1 && (p.transport = 1 || p.transport = 2)
  else if profile = 2 then
    within (-7) (-1) p.logSync && within (-3) 1 p.logAnnounce && (p.transport = 1 || p.transport = 2)
  else if profile = 3 then within (-5) 0 p.logSync && within 0 3 p.logAnnounce && p.mech = 2 && p.transport = 3
  else true

def timePortSet : Contract where
  opcode := 0x0205
  len := lenIs 24
  fixed _ _ r :=
    let p := r.payload
    field p 0 1 ≤ 1 && 1 ≤ field p 1 1 && field p 1 1 ≤ 2 && 1 ≤ field p 2 1 && field p 2 1 ≤ 3 && 1 ≤ field p 3 1
      && field p 3 1 ≤ 2 && -7 ≤ sfield p 6 1 && sfield p 6 1 ≤ 5 && 2 ≤ field p 7 1 && field p 7 1 ≤ 10
      && reservedZero p [(20, 4)]
  node := onTypes [Ty.eth]
  body s _ r :=
    let i := nodeIdx r.node.toNat
    let n := ptpPortOf (s.latestPort i) r.payload
    let c := s.latestCfg
    let second := n.enable && c.clockType = 0 && (List.range 4).any fun j => j != i && (s.latestPort j).enable
    if !profileOk c.profile n then failWith Err.range
    else if second || c.profile = 0 then failWith Err.conflict
    else okay { s with time := { s.time with pendPorts := setA i n s.time.pendPorts } }

def execTimePortSet (mb : Fin 8) (r : Req) (s : State) : Host.Outcome State Fault Refusal := runCommand timePortSet mb r s

def timeSet : Contract where
  opcode := 0x0206
  len := lenIs 16
  fixed _ _ r := field r.payload 8 4 ≤ 999999999 && reservedZero r.payload [(14, 2)]
  node := onCp
  body s _ r :=
    let p := r.payload
    let src := s.latestCfg.servoSource
    if src = 0 then failWith Err.state
    else if src = 1 && (field p 8 4 ≠ 0 || field p 12 2 ≠ 0) then failWith Err.range
    else okay { s with time := { s.time with pendSet := some (timeOf (field p 0 8) (field p 8 4) (field p 12 2)) } }

def execTimeSet (mb : Fin 8) (r : Req) (s : State) : Host.Outcome State Fault Refusal := runCommand timeSet mb r s

def timePinSet : Contract where
  opcode := 0x0207
  len := lenIs 16
  fixed _ _ r :=
    let p := r.payload
    field p 0 1 ≤ 1 && 1 ≤ field p 2 2 && field p 2 2 ≤ 500 && field p 4 1 ≤ 2 && field p 5 1 ≤ 4 && field p 6 1 ≤ 2
      && -1000000 ≤ sfield p 8 4 && sfield p 8 4 ≤ 1000000 && reservedZero p [(1, 1), (7, 1), (12, 4)]
  node := onCp
  body s _ r :=
    let p := r.payload
    if field p 6 1 = 0 && s.latestCfg.mediaSource = 1 then failWith Err.state
    else
      let pins : TimePins :=
        { ppsOut := field p 0 1, ppsWidth := field p 2 2, ppsIn := field p 4 1, mclkOut := field p 5 1,
          mclkIn := field p 6 1, cableDelay := sfield p 8 4 }
      okay { s with time := { s.time with pendPins := some pins } }

def execTimePinSet (mb : Fin 8) (r : Req) (s : State) : Host.Outcome State Fault Refusal := runCommand timePinSet mb r s

/-- The port settings that wait for a boundary. -/
def Time.portsNext (t : Time) : Vector PtpPort 4 :=
  t.pendPorts.foldl (fun l x => l.setIfInBounds x.1 ((l.getD x.1 {}).configure x.2)) t.ports

/-- New pin settings (R143): MCLK_OUT stops low at the end of a cycle and starts on a media clock edge, which this boundary is;
PPS_OUT is driven from its enable, low until a second begins. -/
def State.setPins (p : TimePins) (s : State) : State :=
  let old := s.time.pins
  let s := { s with time := { s.time with pins := p, pulse := if p.ppsOut = 0 then none else s.time.pulse } }
  let s := if old.ppsOut = p.ppsOut then s else s.emitDriven (.ppsOut (if p.ppsOut = 0 then none else some false))
  if old.mclkOut = p.mclkOut then s
  else
    let s := if old.mclkOut = 0 then s else s.emitDriven (.mclkOut 0)
    let s := if p.mclkOut = 0 then s else s.emitDriven (.mclkOut p.mclkOut)
    { s with time := { s.time with mclk := some p.mclkOut } }

/-- A new configuration (R141, R150): a change of media source begins a slew, for network time over the whole distance of sample
boundary m from T(m); with another servo source the servo has no parent yet (log 12). -/
def State.setCfg (c : TimeCfg) (s : State) : State :=
  let t := s.time
  let moved := c.mediaSource ≠ t.cfg.mediaSource
  { s with time := { t with
      cfg := c, slewing := t.slewing || moved, slewFrom := if moved then s.m else t.slewFrom
      pull := if moved && c.mediaSource = 0 then t.net - netOfSample (s.m + t.epoch) else t.pull
      parentPort := if c.servoSource = t.cfg.servoSource then t.parentPort else 0xFF } }

/-- The time settings that the block boundary applies (R86, R150), and TIME_SET with servo source 2. DESIGN CHOICE (log 12): a
TIME_SET that waits for a PPS_IN edge while the servo source changes is a step at this boundary; the spec does not say. -/
def State.timeBoundary (s : State) : State :=
  let t := s.time
  let s := s.setCfg (t.pendCfg.getD t.cfg)
  let s := State.setPins (t.pendPins.getD t.pins)
    { s with time := { s.time with ports := t.portsNext, pendCfg := none, pendPorts := [], pendPins := none } }
  match s.time.pendSet with
  | some v =>
    if s.time.cfg.servoSource = 1 then s
    else State.stepTime (3 * (v : Int) - s.time.net) { s with time := { s.time with pendSet := none } }
  | none => s

/-- Due samples freeze when strobe period floor(m / 16) - 2 begins (R144); those of network-time actions go to the standby, which
freezes its own by the record (R458). -/
def State.freezeActions (s : State) : State :=
  let now (a : Action) : Bool := !a.frozen && a.due / 16 ≤ s.time.block + 2 && !(s.following && a.netTime.isSome)
  let l := s.time.actions
  State.noteDues ((l.filter now).filter fun a => a.netTime.isSome)
    { s with time := { s.time with actions := l.map fun a => { a with frozen := a.frozen || now a } } }

/-! ### Media time against network time (R132, R140, R141) -/

/-- What one smp moves network time by: one smp, less what the pull removes at 9.905 to 10 ppm (R140: 10.4 µs in 1.05 s), plus the
drift of a media source other than network time, bounded by the ±100 ppm of both (R141, log 3). -/
def State.netStep (s : State) : Int × State :=
  let t := s.time
  let (p, s) :=
    if t.pull = 0 then (0, s)
    else
      let (v, s) := s.drawFree
      (clampI (-(40960 - v % 391 : Nat)) (40960 - v % 391 : Nat) t.pull, s)
  let (d, s) :=
    if t.cfg.mediaSource = 0 then (0, s)
    else
      let (v, s) := s.drawFree
      (((v % 1638401 : Nat) : Int) - 819200, s)
  (netPerSmp - p + d, { s with time := { s.time with pull := t.pull - p } })

/-- PPS_OUT (R142): high at the first sample boundary of a network second until its width in ms has passed. -/
def State.ppsEdge (before : Nat) (s : State) : State :=
  let t := s.time
  let second (net : Nat) : Nat := net / (1000000000 * netPerNs)
  if t.pins.ppsOut = 0 then s
  else if second before < second t.net then
    State.emitDriven { s with time := { t with pulse := some (s.m + 48 * t.pins.ppsWidth) } } (.ppsOut (some true))
  else
    match t.pulse with
    | some e => if e ≤ s.m then State.emitDriven { s with time := { t with pulse := none } } (.ppsOut (some false)) else s
    | none => s

/-- The clocks move to the next sample boundary; network time stands still while stored blocks are processed (R456). -/
def State.tickSample (s : State) : State :=
  let s := { s with time := { s.time with pos := s.time.pos + 1 } }
  if s.behind then s
  else
    let before := s.time.net
    let (d, s) := s.netStep
    State.ppsEdge before { s with time := { s.time with net := (before + d).toNat } }

end Sys2Proof.Machine
end

