-- ==== Sys2Proof/Machine/Front.lean ====
section
/-! DEFINITION. TDM ports, PDM microphones and decimation (R155 to R185). The rows that happen at one sample (PDM_VALID,
HAND_OVER_COMPLETE, RESPONSE_SWAP) are in Instants.lean. -/

namespace Sys2Proof.Machine

/-- Samples of the primary rate per smp. -/
def State.perSmp (s : State) : Nat := if s.time.rate96 then 2 else 1

/-! ### Word conversion (R160) -/

/-- Slot word to Q1.31. -/
def wordIn (word : Nat) (w : Word) : Int :=
  let keep := if word = 0 then 0x10000 else if word = 1 then 0x100 else 1
  toSigned 4 (w.toNat / keep * keep)

/-- Q1.31 to slot word: convergent rounding and saturation. -/
def wordOut (word : Nat) (v : Int) : Word :=
  let keep : Nat := if word = 0 then 0x10000 else if word = 1 then 0x100 else 1
  let top : Int := 0x80000000 / keep
  BitVec.ofInt 32 (clampI (-top) (top - 1) (divEven v keep) * keep)

/-! ### TDM ports (R157 to R166) -/

def State.tdm? (s : State) (p : Nat) : Option TdmPort := findKey TdmPort.port p s.front.tdm

def State.setTdm (t : TdmPort) (s : State) : State := { s with front := { s.front with tdm := putKey TdmPort.port t s.front.tdm } }

def State.tdmPar (s : State) (p pid : Nat) : Nat := s.parN (mkNode Ty.tdmPort p) pid

/-- A TDM channel's port and slot; outputs from channel 1024 on (R83). -/
def tdmPortOf (ch : Nat) : Nat := ch % 1024 / 32
def tdmSlotOf (ch : Nat) : Nat := ch % 32

/-- Preconditions of NODE_ENABLE (R161). -/
def State.tdmPortReady (s : State) (p : Nat) : Bool :=
  let id := mkNode Ty.tdmPort p
  !(s.latestN id 4 = 2 && s.latestN id 2 % 2 = 1)

def State.tdmChReady (s : State) (ch : Nat) : Bool :=
  tdmSlotOf ch < s.latestN (mkNode Ty.tdmPort (tdmPortOf ch)) 2

/-- R161: an enabled channel of the port has a slot at or above the new SLOTS. -/
def State.slotsTaken (s : State) (p slots : Nat) : Bool :=
  (s.nodesOf Ty.tdmCh).any fun x =>
    x.2.state == .enabled && tdmPortOf (nodeIdx x.1) == p && slots ≤ tdmSlotOf (nodeIdx x.1)

/-- The framing that a port's parameters give (R155, R158). -/
def State.framing (s : State) (p : Nat) : Framing :=
  let slots := s.tdmPar p 2
  let width := s.tdmPar p 4
  { master := s.tdmPar p 1 = 1, length := slots * 32, sync := if width = 0 then 1 else if width = 1 then 32 else slots * 16
    slot0 := s.tdmPar p 6, falling := s.tdmPar p 5 = 1, rising := s.tdmPar p 7 = 1 }

/-- The clocks of a port start with its first frame (R155, R162). -/
def State.tdmClocksOn (p : Nat) (s : State) : State :=
  State.emitDriven { s with front := { s.front with lowPorts := s.front.lowPorts.filter (· != p) } }
    (.tdmClocks p (some (s.framing p)))

/-- The port starts at sample m: a master at once, a slave with the frame associated with m (R162). -/
def State.tdmStartAt (p m : Nat) (s : State) : State :=
  let t := (s.tdm? p).getD { port := p }
  let slave := s.tdmPar p 1 = 0
  let runs := !slave || t.seen = some (m * s.perSmp)
  let s := s.setTdm { port := p, start := some m, run := if runs then .running else .waiting, phase := if slave then t.phase else 0
                      lastFrame := t.seen.getD 0, seen := t.seen }
  if runs then s.tdmClocksOn p else s

/-- The node enters the run list at block boundary m (R162). -/
def State.tdmPortBegin (p m : Nat) (s : State) : State :=
  if s.tdmPar p 9 = 0 then s.tdmStartAt p m
  else
    let t := (s.tdm? p).getD { port := p }
    s.setTdm { port := p, run := .waiting, seen := t.seen, phase := t.phase }

/-- NODE_DISABLE (R164): a master's bit clock stops low, the other balls return to R156. -/
def State.tdmPortEnd (p : Nat) (s : State) : State :=
  match s.tdm? p with
  | some t =>
    let f := s.front
    let ran := t.run == .running || t.run == .lost
    let s := State.setTdm { port := p, slips := t.slips } { s with front := { f with
      outNow := f.outNow.filter fun x => tdmPortOf x.1 != p
      lowPorts := if ran && s.tdmPar p 1 == 1 then p :: f.lowPorts.filter (· != p) else f.lowPorts } }
    if ran then s.emitDriven (.tdmClocks p none) else s
  | none => s

/-- How a ball stands: high-impedance, with its weak pull-down, stopped low, or carrying its signal. -/
inductive Ball where
  | highZ
  | pulledDown
  | low
  | driven
  deriving DecidableEq, Repr

/-- TDM_BCLK, TDM_FS and TDM_DOUT of a port (R155, R156, R164, R166, R453). -/
def State.tdmBalls (s : State) (p : Nat) : Ball × Ball × Ball :=
  match s.drivesOutputs, s.tdm? p with
  | true, some t =>
    let clocks := s.tdmPar p 1 == 1 && (t.run == .running || t.run == .lost)
    (if clocks then .driven else if s.front.lowPorts.contains p then .low else .highZ, if clocks then .driven else .highZ,
      if t.run == .running then .driven else .pulledDown)
  | _, _ => (.highZ, .highZ, .pulledDown)

/-- The clock ball of a group (R156, R168). -/
def State.pdmBall (s : State) (g : Nat) : Ball :=
  if !s.drivesOutputs then .highZ
  else if (getA g s.front.groups).isSome then .driven else if s.front.lowGroups.contains g then .low else .highZ

/-- The port has started, as an action of kind 0x03 asks (R147). -/
def State.tdmStarted (s : State) (p : Nat) : Bool :=
  match s.tdm? p with
  | some t => t.run != .stopped && t.start.isSome
  | none => false

def State.tdmClock (kind phase : Nat) (p : Nat) (s : State) : State :=
  s.raise 641 0x0301 (mkNode Ty.tdmPort p)
    (evData [(0, leBytes 1 kind), (4, leBytes 4 phase), (8, leBytes 8 s.m)])

/-- TDM_SLIP (R166, R183). -/
def State.tdmSlip (kind m slips : Nat) (p : Nat) (s : State) : State :=
  s.raise 640 0x0300 (mkNode Ty.tdmPort p) (evData [(0, leBytes 1 kind), (4, leBytes 8 m), (12, leBytes 4 slips)])

/-- The primary sample with which a frame is associated whose edge comes `phase` ns before the boundary of sample m (R165). -/
def State.frameSample (s : State) (m phase : Nat) : Nat :=
  if s.time.rate96 then 2 * m - phase * 96000 / 1000000000 else m * s.perSmp

/-- The port watches for its first frame (R162): with START 0 from its enable, with START 1 from the arming of its action. -/
def State.tdmArmed (s : State) (p : Nat) : Bool :=
  let id := mkNode Ty.tdmPort p
  s.enabled id && s.latestN id 1 == 0
    && (s.latestN id 9 == 0 || s.time.actions.any fun a => a.body == .portStart id)

/-- A frame of a port that has not begun (R162): noted while armed; from the start sample on the port runs with it. -/
def State.tdmFirst (t : TdmPort) (q phase : Nat) (s : State) : State :=
  match t.start with
  | some m =>
    if m * s.perSmp ≤ q then
      (s.setTdm { t with lastFrame := q, phase := phase, run := .running, start := some (q / s.perSmp) }).tdmClocksOn t.port
    else s.setTdm { t with seen := some q, phase := phase }
  | none => if s.tdmArmed t.port then s.setTdm { t with seen := some q, phase := phase } else s

/-- Samples without a frame between two frames: the input repeats, one slip each (R166). -/
def State.tdmSlow (p : Nat) : List Nat → State → State
  | [], s => s
  | q :: r, s =>
    let t := (s.tdm? p).getD { port := p }
    let n := satAdd32 t.slips 1
    State.tdmSlow p r ((s.setTdm { t with missed := q :: t.missed, slips := n }).tdmSlip 1 (q / s.perSmp) n p)

/-- A frame beyond the one that its sample already has: no sample, its output is the last one's again (R166). -/
def State.tdmFast (t : TdmPort) (phase : Nat) (s : State) : State :=
  let n := satAdd32 t.slips 1
  (s.setTdm { t with phase := phase, extra := t.lastFrame :: t.extra, slips := n }).tdmSlip 2 (t.lastFrame / s.perSmp) n t.port

/-- A frame of the wrong length: its input is zero, latch 0 of source 641 counts it (R166). -/
def State.tdmLength (p q bits : Nat) (fast : Bool) (s : State) : State :=
  let t := (s.tdm? p).getD { port := p }
  let dev := ((bits : Int) - (s.tdmPar p 2 * 32 : Nat)).natAbs
  if dev = 0 then s
  else
    (s.setTdm { t with zeroAt := if fast then t.zeroAt else q :: t.zeroAt, worstLen := max t.worstLen dev }).crossWithin 641 0
      (mkNode Ty.tdmPort p) dev (evData [(0, leBytes 1 3), (8, leBytes 8 s.m)])

/-- A frame-start edge at a port in slave role, with the primary sample that it is associated with. -/
def State.tdmFrameIn (t : TdmPort) (bits q phase : Nat) (s : State) : State :=
  match t.run with
  | .stopped | .waiting => s.tdmFirst t q phase
  | .lost =>
    (s.setTdm { t with run := .running, backAt := some (16 * (s.time.block + 1)), lastFrame := q, phase := phase }).tdmClock 2
      phase t.port
  | .running =>
    if q ≤ t.lastFrame then (s.tdmFast t phase).tdmLength t.port q bits true
    else
      let gap := (List.range (q - t.lastFrame - 1)).map (t.lastFrame + 1 + ·)
      (State.tdmSlow t.port gap (s.setTdm { t with phase := phase, lastFrame := q })).tdmLength t.port q bits false

/-- TDM_CLOCK_LOST (R166). -/
def execTdmClockLost (port : Fin 32) (s : State) : Host.Outcome State Fault Refusal :=
  match s.tdm? port with
  | some t =>
    if t.run == .running && s.tdmPar port 1 = 0 then
      .next ((s.setTdm { t with run := .lost, lostFrom := some (16 * (s.time.block + 1)), backAt := none }).tdmClock 1 0 port)
    else .next s
  | none => .next s

/-- A slot of a frame (R158): 32 bits, most significant first, DATA_DELAY bit clocks after the frame-start edge for slot 0. A bit
that nothing drives is free (R156, log 3). -/
def slotWord (delay slot free : Nat) (bits : List Bool) : Word :=
  BitVec.ofNat 32 ((List.range 32).foldl (fun w i =>
    2 * w + ofBool (bits.getD (delay + 32 * slot + i) (Config.freeValue (free + i) % 2 = 1))) 0)

/-- The slots of a port lie on live frames at a primary sample: from its start on, but for the time of a loss. -/
def TdmPort.liveAt (t : TdmPort) (f q : Nat) : Bool :=
  (match t.start with | some m => m * f ≤ q | none => false)
    && match t.lostFrom with
      | some m => q < m * f || (match t.backAt with | some b => b * f ≤ q | none => false)
      | none => true

/-- Input samples of a channel for the block in progress: zero before the start, after a loss and in zeroed frames; a
sample without a frame repeats the one before it. -/
def State.tdmInput (s : State) (t : TdmPort) (ch : Nat) (frames : List (List Bool)) : List Int :=
  let word := s.tdmPar t.port 3
  let f := s.perSmp
  let base := 16 * s.time.block * f
  let last := ((s.rd.find? fun x => x.1 == mkNode Ty.tdmCh ch && x.2.1 == 0).map fun x => x.2.2.getLastD 0).getD 0
  ((List.range s.spb).foldl (init := ([], last)) fun acc k =>
    let q := base + k
    let w := slotWord (s.tdmPar t.port 6) (tdmSlotOf ch) (s.free + 32 * k) (frames.getD k [])
    let v := if !t.liveAt f q || t.zeroAt.contains q then 0 else if t.missed.contains q then acc.2 else wordIn word w
    (v :: acc.1, v)).1

/-- Produce the input channels of a port (R160, R161): a channel draws 32 free bits a sample, used where nothing drives. -/
def State.tdmPortIn (io : BlockIn) (s : State) (t : TdmPort) : State :=
  ((List.range (s.tdmPar t.port 2)).map (32 * t.port + ·)).foldl (init := s) fun s ch =>
    if s.running (mkNode Ty.tdmCh ch) then
      let v := s.tdmInput t ch ((getA t.port io.tdm).getD [])
      { s with wr := (mkNode Ty.tdmCh ch, 0, v) :: s.wr, free := s.free + 32 * s.spb }
    else s

/-- Drop the samples without a frame, repeat those of extra frames (R166). -/
def State.shiftedOut (s : State) (t : TdmPort) (words : List Word) : List Word :=
  let base := 16 * s.time.block * s.perSmp
  (List.range words.length).flatMap fun k =>
    let w := words.getD k 0
    if t.missed.contains (base + k) then [] else if t.extra.contains (base + k) then [w, w] else [w]

/-- What an output slot carries in this block: an enabled channel's staged words, zero in its first period; a disabled one's
by UNUSED_DRIVE, high impedance as none (R157, R163). -/
def State.slotWords (s : State) (t : TdmPort) (ch : Nat) : Option (List Word) :=
  let zero : List Word := List.replicate s.spb 0
  if s.running (mkNode Ty.tdmCh ch) then some ((getA ch s.front.outNow).getD zero)
  else if s.tdmPar t.port 8 = 1 then some zero else none

/-- What the output slots of a port carried in the block that ends, from its first sample there on and up to a loss of the clock
(R162, R163, R166). -/
def State.tdmPortOut (s : State) (t : TdmPort) : State :=
  let base := 16 * s.time.block
  let first := max (t.start.getD 0) (if t.lostFrom.isSome then t.backAt.getD base else base)
  let late := (first - base) * s.perSmp
  let run := if t.run == .lost then t.lastFrame + 1 - base * s.perSmp else s.spb
  let upto := match t.stopAt with | some m => min run ((m - base) * s.perSmp) | none => run
  let here := t.run == .running || (t.run == .lost && t.lostFrom == some (base + 16))
  if s.drivesOutputs && t.start.isSome && here && late < s.spb then
    ((List.range (s.tdmPar t.port 2)).map (1024 + 32 * t.port + ·)).foldl (init := s) fun s ch =>
      match s.slotWords t ch with
      | some w => s.emit (.tdm ch (s.shiftedOut t ((w.take upto).drop late)))
      | none => s
  else s

/-- The output stage moves the block that each enabled output channel reads, to be shifted out in the next period; a port
that has not had its first period P carries zero (R163). -/
def State.stageOutputs (s : State) : List (Nat × List Word) :=
  (s.front.tdm.filter fun t => t.run == .running).flatMap fun t =>
    let word := s.tdmPar t.port 3
    let moved : Bool := match t.start with
      | some m => decide (ceilDiv m 16 ≤ s.time.block)
      | none => false
    ((List.range (s.tdmPar t.port 2)).map (1024 + 32 * t.port + ·)).filterMap fun ch =>
      let id := mkNode Ty.tdmCh ch
      if s.running id then
        some (ch, (List.range s.spb).map fun k => wordOut word (if moved then s.inputSample id 0 k else 0))
      else none

/-- The end of a block for the latch of source 641 (R166, R122). -/
def State.tdmLatchBlock (s : State) : State :=
  let w := (s.front.tdm.map TdmPort.worstLen).foldl max 0
  if (s.latch 641 0).holds || 0 < w then s.setLevel 641 0 w (0 < w) false else s

/-! ### Microphones (R167 to R180) -/

/-- A response of stage 4 (R170): frequencies in Hz, passband ripple in 0.01 dB, stopband attenuation in dB, group delay in smp,
settling count. What its coefficients do inside these figures is Config.pdmOutput's (log 5). -/
structure Response where
  linear : Bool
  passband : Nat
  ripple : Nat
  stopband : Nat
  attenuation : Nat
  delay : Nat
  s : Nat
  deriving DecidableEq, Repr, Inhabited

/-- Entries 0 to 5 at 48 kHz. -/
def responses : List Response :=
  [⟨true, 20000, 1, 24000, 100, 20, 41⟩, ⟨false, 20000, 2, 24000, 100, 4, 44⟩, ⟨true, 20000, 5, 28000, 90, 12, 25⟩,
   ⟨false, 20000, 5, 28000, 90, 2, 26⟩, ⟨true, 7200, 5, 8000, 90, 40, 81⟩, ⟨false, 18000, 20, 30000, 80, 2, 14⟩]

/-- A response at the primary rate: at 96 kHz the edges double, the delay halves, S stays (R171). -/
def response (rate96 : Bool) (resp : Nat) : Response :=
  let r := responses.getD resp (responses.getD 0 default)
  if rate96 then { r with passband := 2 * r.passband, stopband := 2 * r.stopband, delay := r.delay / 2 } else r

/-- Settling count S of a response (R170). -/
def settling (resp : Nat) : Nat := (response false resp).s

def State.mic? (s : State) (i : Nat) : Option Mic := findKey Mic.mic i s.front.mics

def State.setMic (x : Mic) (s : State) : State := { s with front := { s.front with mics := putKey Mic.mic x s.front.mics } }

def State.micPar (s : State) (i pid : Nat) : Nat := s.parN (mkNode Ty.mic i) pid

/-- The primary sample from which the active response is valid: its S after the reset, and not before a change of response
(R174, R178). -/
def MicRun.readyAt (r : MicRun) (f : Nat) : Nat := max (r.since * f + settling r.active) (r.handFrom * f)

/-- The main response is valid at primary sample q. -/
def MicRun.validAt (r : MicRun) (f q : Nat) : Bool := r.valid || r.readyAt f ≤ q

/-- The hand-over cross-fade of QUICK 2, 32 smp from S on, is over at primary sample q (R175). -/
def MicRun.overAt (r : MicRun) (f q : Nat) : Bool := r.handed || r.readyAt f + 32 * f ≤ q

/-- A new run from sample m; the block's samples before it keep the old one. -/
def Mic.cut (x : Mic) (m : Nat) (r : MicRun) : Mic := { x with now := r, cuts := x.cuts ++ [(m, x.now)] }

/-- A synchronising reset at sample m (R173, R179). -/
def Mic.reset (x : Mic) (m : Nat) : Mic :=
  let target := match x.pendSwap, x.now.fade with
    | some p, _ => p
    | none, some fd => fd.dst
    | none, none => x.now.active
  { x.cut m { since := m, active := target, handFrom := m } with
    pendSwap := none, said1 := false, said2 := false, said3 := false }

/-- A microphone whose group clock runs joins at sample m, or its group starts there. DESIGN CHOICE (log 47): the reset from which
CLIPS counts is one of the device (R185), not a synchronising reset or a NODE_DISABLE; R176 does not say which it means. -/
def State.micStart (i m : Nat) (s : State) : State :=
  let clips := match s.mic? i with
    | some x => x.clips
    | none => (getA i s.front.clips).getD 0
  s.setMic { mic := i, now := { since := m, active := s.micPar i 1, handFrom := m }, clips := clips }

def micGroup (i : Nat) : Nat := i / 16

/-- The clock group of a microphone runs. -/
def State.groupRuns (s : State) (g : Nat) : Bool := (getA g s.front.groups).isSome

/-- The group clock starts at m: every running microphone of it takes a synchronising reset (R168, R173). -/
def State.groupStart (g m : Nat) (s : State) : State :=
  let s := State.emitDriven { s with front := { s.front with
    groups := setA g m s.front.groups, lowGroups := s.front.lowGroups.filter (· != g) } } (.pdmClock g true)
  ((s.runningOf Ty.mic).filter fun id => micGroup (nodeIdx id) == g).foldl (init := s) fun s id => s.micStart (nodeIdx id) m

/-- A microphone enters the run list at block boundary m. -/
def State.micBegin (i m : Nat) (s : State) : State :=
  if s.groupRuns (micGroup i) then s.micStart i m
  else if s.micPar i 5 = 0 then s.groupStart (micGroup i) m
  else s

/-- A microphone leaves; the group clock stops low once none of its microphones is enabled (R168). -/
def State.micEnd (i : Nat) (s : State) : State :=
  let g := micGroup i
  let clips := match s.mic? i with
    | some x => setA i x.clips s.front.clips
    | none => s.front.clips
  let s := { s with front := { s.front with mics := dropKey Mic.mic i s.front.mics, clips := clips } }
  let left := (s.runningOf Ty.mic).any fun id => micGroup (nodeIdx id) == g && nodeIdx id != i
  if left || !s.groupRuns g then s
  else
    State.emitDriven { s with front := { s.front with
      groups := delA g s.front.groups, lowGroups := g :: s.front.lowGroups.filter (· != g) } } (.pdmClock g false)

/-- RESPONSE_SWAP (R183). -/
def State.swapEvent (i kind src dst replaced m : Nat) (s : State) : State :=
  s.raise 643 0x0303 (mkNode Ty.mic i) (evData [(0, leBytes 1 kind), (1, leBytes 1 src), (2, leBytes 1 dst),
    (3, leBytes 1 replaced), (4, leBytes 8 m)])

/-- A request for a response at sample m (R178). DESIGN CHOICE (log 34): the "from" response of a RESPONSE_SWAP that tells a
replaced or dropped request is the target of the fade that runs or has ended, which is active when the request would start; the
rule does not name it. -/
def State.micRespond (i resp m : Nat) (s : State) : State :=
  match s.mic? i with
  | none => s
  | some x =>
    let f := s.perSmp
    let r := x.now
    let quick := s.micPar i 3
    if (quick = 0 && !r.validAt f (m * f)) || (quick ≠ 0 && !(quick = 2 && r.overAt f (m * f))) then
      if resp = r.active then s
      else s.setMic { x.cut m { r with active := resp, handFrom := m } with said2 := false }
    else
      let r := { r with valid := true }
      match r.fade, x.pendSwap with
      | none, _ =>
        if resp = r.active then s.setMic { x with now := r }
        else s.setMic { x with now := { r with fade := some ⟨r.active, resp, s.micPar i 2, m⟩ } }
      | some _, none => s.setMic { x with now := r, pendSwap := some resp }
      | some fd, some old =>
        (s.setMic { x with now := r, pendSwap := some resp }).swapEvent i 2 fd.dst resp old m

/-- The end of a fade at sample m: the pending swap starts, or is dropped (R178). DESIGN CHOICE (log 34): the m of a completed
RESPONSE_SWAP is the first sample after the fade, its start + XFADE; R183 says "m" only. -/
def State.micFadeEnd (i m : Nat) (s : State) : State :=
  match s.mic? i with
  | none => s
  | some x =>
    match x.now.fade with
    | none => s
    | some fd =>
      let r := { x.now with active := fd.dst, fade := none, past := fd :: x.now.past }
      let s' := (s.setMic { x with now := r }).swapEvent i 1 fd.src fd.dst 0 m
      match x.pendSwap with
      | none => s'
      | some p =>
        if p = fd.dst then
          (s'.setMic { x with now := r, pendSwap := none }).swapEvent i 3 fd.dst p 0 m
        else s'.setMic { x with now := { r with fade := some ⟨fd.dst, p, s.micPar i 2, m⟩ }, pendSwap := none }

/-- FE_RESYNC's reset of every running microphone of a range, at sample m (R180). -/
def State.micResets (first count m : Nat) (s : State) : State :=
  (s.front.mics.filter fun x => first ≤ x.mic && x.mic < first + count && s.enabled (mkNode Ty.mic x.mic)).foldl
    (init := s) fun s x => s.setMic (x.reset m)

/-- The next PDM_VALID of kinds 1 and 2 with its sample. -/
def State.pdmValidDue (s : State) (i : Nat) : Option (Nat × Nat) :=
  match s.mic? i with
  | none => none
  | some x =>
    let quick := s.micPar i 3
    if quick ≠ 0 && !x.said1 then some (1, x.now.since + 6)
    else if quick ≠ 1 && !x.said2 then some (2, x.now.readyAt s.perSmp / s.perSmp)
    else none

def State.pdmValid (i kind m : Nat) (s : State) : State :=
  match s.mic? i with
  | none => s
  | some x =>
    let x := if kind = 1 then { x with said1 := true } else { x with said2 := true }
    (s.setMic x).raise 642 0x0302 (mkNode Ty.mic i)
      (evData [(0, leBytes 1 kind), (1, leBytes 1 x.now.active), (4, leBytes 8 m)])

/-- HAND_OVER_COMPLETE's sample (R175). -/
def State.handOverDue (s : State) (i : Nat) : Option Nat :=
  match s.mic? i with
  | some x => if s.micPar i 3 = 2 && x.said2 && !x.said3 then some (x.now.readyAt s.perSmp / s.perSmp + 32) else none
  | none => none

def State.handOver (i m : Nat) (s : State) : State :=
  match s.mic? i with
  | none => s
  | some x =>
    (s.setMic { x with now := { x.now with handed := true, valid := true }, said3 := true }).raise 642 0x0302 (mkNode Ty.mic i)
      (evData [(0, leBytes 1 3), (1, leBytes 1 x.now.active), (4, leBytes 8 m)])

/-! ### Decimated samples -/

/-- One bit into the integrators of stage 1, as 1 or -1. -/
def Cic.bit (c : Cic) (b : Bool) : Cic :=
  let i1 := c.i1 + if b then 1 else -1
  let i2 := c.i2 + i1
  let i3 := c.i3 + i2
  let i4 := c.i4 + i3
  { c with i1 := i1, i2 := i2, i3 := i3, i4 := i4, i5 := c.i5 + i4 }

/-- The combs at the end of a decimation period: the output of stage 1, of gain R^5. -/
def Cic.comb (c : Cic) : Int × Cic :=
  let y1 := c.i5 - c.c1
  let y2 := y1 - c.c2
  let y3 := y2 - c.c3
  let y4 := y3 - c.c4
  (y4 - c.c5, { c with c1 := c.i5, c2 := y1, c3 := y2, c4 := y3, c5 := y4 })

/-- The bits of one primary sample: 8 outputs of stage 1, brought to units of 2^-40, and the quick-settle sum (R169). -/
def Decim.sample (d : Decim) (f n : Nat) (bits : List Bool) : Decim :=
  let r := n / 8
  let step (d : Decim) (j : Nat) : Decim :=
    let c := ((List.range r).map fun i => bits.getD (r * j + i) false).foldl Cic.bit d.cic
    let (y, c) := c.comb
    { d with cic := c, hist := (y * (2 ^ 40 / r ^ 5 : Nat) :: d.hist).take 648 }
  let d := (List.range 8).foldl step d
  let ones := d.ones + (bits.filter id).length
  if d.count + 1 = 6 * f then { d with ones := 0, count := 0, quick := some ones }
  else { d with ones := ones, count := d.count + 1 }

/-- What stages 2 to 4 make of the outputs of stage 1, in units of 2^-60: a constant input comes out as it is (R172). -/
def pdmStages (resp : Nat) (hist : List Int) : Int :=
  let h := hist.take (8 * settling resp)
  if h.all (· == h.headD 0) && h.length = 8 * settling resp then h.headD 0 * 2 ^ 20 else Config.pdmOutput resp h

/-- Stage 4 of a response: rounded convergently to Q1.31 and saturated, with whether it saturated (R169, R172). -/
def stage4 (hist : List Int) (resp : Nat) : Int × Bool :=
  let v := divEven (pdmStages resp hist) 536870912
  (sat31 v, v < q31min || q31max < v)

/-- The quick-settle output: the sum over the last whole period, as a part of its n bits, rounded as stage 4 is (log 47). -/
def quickValue (n : Nat) (ones : Option Nat) : Int × Bool :=
  match ones with
  | none => (0, false)
  | some k =>
    let v := divEven ((2 * (k : Int) - n) * 2147483648) n
    (sat31 v, q31max < v)

/-- Main output at smp m: the active response, or the fade between two (R177). -/
def MicRun.mainAt (r : MicRun) (m : Nat) (raw : List Int) : Int × Bool :=
  let fades := r.fade.toList ++ r.past
  match fades.find? fun fd => fd.start ≤ m with
  | some fd =>
    let k := min (m - fd.start + 1) fd.len
    let (a, ca) := stage4 raw fd.src
    let (b, cb) := stage4 raw fd.dst
    (sat31 (divEven (a * (fd.len - k : Nat) + b * k) fd.len), ca && k < fd.len || cb)
  | none =>
    match fades.getLast? with
    | some fd => stage4 raw fd.src
    | none => stage4 raw r.active

/-- One output sample at primary sample q (R174, R175), with whether it saturated; `n` are the bits of a quick-settle period. -/
def MicRun.outAt (r : MicRun) (quick f n q : Nat) (d : Decim) : Int × Bool :=
  let main := r.mainAt (q / f) d.hist
  let fast := quickValue n d.quick
  if q < r.since * f then (0, false)
  else if quick = 0 then (if r.validAt f q then main else (0, false))
  else if quick = 1 then fast
  else if r.overAt f q then main
  else if q < r.readyAt f then fast
  else
    let len := 32 * f
    let k := q - r.readyAt f + 1
    (sat31 (divEven (fast.1 * (len - k : Nat) + main.1 * k) len), (fast.2 && k < len) || main.2)

/-- The run that holds at primary sample q. -/
def Mic.runAt (x : Mic) (f q : Nat) : MicRun :=
  match x.cuts.find? fun c => q < c.1 * f with
  | some c => c.2
  | none => x.now

/-- Bits of one primary sample on a microphone's line. At 96 kHz only 6.144 MHz is allowed (R167), so the clock runs at it whatever
CLOCK_RATE holds (log 47). -/
def State.pdmBits (s : State) (i : Nat) : Nat := if s.time.rate96 || s.micPar i 4 = 0 then 64 else 128

/-- The block of a microphone: each sample from what was decimated before it, then its bits. The engine's block becomes readable
one period after its input block was assembled (R181). Bits that nothing drives are free (R156, log 3). -/
def State.micBlock (io : BlockIn) (s : State) (x : Mic) : State :=
  let f := s.perSmp
  let n := s.pdmBits x.mic
  let quick := s.micPar x.mic 3
  let bits := (getA x.mic io.pdm).getD []
  let one (acc : Decim × List (Int × Bool)) (k : Nat) : Decim × List (Int × Bool) :=
    let q := 16 * s.time.block * f + k
    let r := x.runAt f q
    let d := if q = r.since * f then {} else acc.1
    let out := r.outAt quick f (6 * f * n) q d
    let line := (List.range n).map fun i => bits.getD (n * k + i) (Config.freeValue (s.free + n * k + i) % 2 = 1)
    (if q < r.since * f then d else d.sample f n line, out :: acc.2)
  let (d, outs) := (List.range s.spb).foldl one (x.dec, [])
  let q := (16 * s.time.block + 16) * f
  let now := { x.now with valid := x.now.validAt f (q - 1), handed := x.now.overAt f q && quick = 2, past := [] }
  let clips := satAdd32 x.clips (outs.filter (·.2)).length
  let ready := if x.ready.isEmpty then List.replicate s.spb 0 else x.ready
  let s := s.setMic { x with now := now, cuts := [], dec := d, ready := outs.map (·.1), clips := clips }
  { s with wr := (mkNode Ty.mic x.mic, 0, ready) :: s.wr, free := s.free + n * s.spb }

/-! ### The end of a block at the balls -/

/-- Inputs of the block that ends go into the block buffers; outputs leave; framing figures start afresh. -/
def State.frontBlock (io : BlockIn) (s : State) : State :=
  let s := s.front.tdm.foldl State.tdmPortOut s
  let out := s.stageOutputs
  let s := s.front.tdm.foldl (State.tdmPortIn io) s
  let s := s.front.mics.foldl (State.micBlock io) s
  let s := s.tdmLatchBlock
  let next := (16 * s.time.block + 16) * s.perSmp
  let fresh (t : TdmPort) : TdmPort :=
    { t with
      zeroAt := t.zeroAt.filter (next ≤ ·), missed := t.missed.filter (next ≤ ·), extra := t.extra.filter (next ≤ ·), worstLen := 0
      lostFrom := match t.backAt with | some b => if b ≤ 16 * s.time.block + 16 then none else t.lostFrom | none => t.lostFrom
      backAt := match t.backAt with | some b => if b ≤ 16 * s.time.block + 16 then none else t.backAt | none => none }
  { s with front := { s.front with tdm := s.front.tdm.map fresh, outNow := out } }

/-! ### FE_RESYNC (R180) -/

def feResync : Contract where
  opcode := 0x0301
  len := lenIs 4
  fixed _ _ r :=
    field r.payload 0 2 ≤ 255 && 1 ≤ field r.payload 2 2 && field r.payload 2 2 ≤ 256
  node := onCp
  fields _ _ r := field r.payload 0 2 + field r.payload 2 2 ≤ 256
  body s _ r := okay (s.atBoundary (.micReset (field r.payload 0 2) (field r.payload 2 2)))

def execFeResync (mb : Fin 8) (r : Req) (s : State) : Host.Outcome State Fault Refusal := runCommand feResync mb r s

/-! ### Read-only parameters (R157, R176) -/

/-- The D term of a microphone (R175, R177, R181): 3 smp while the quick-settle output is carried, else the group delay of the
active response, which is a fade's old one until it ends. -/
def State.micDelay (s : State) (i : Nat) : Nat :=
  let d (resp : Nat) : Nat := (response s.time.rate96 resp).delay
  match s.mic? i with
  | some x =>
    let quick := s.micPar i 3
    if quick = 1 || (quick = 2 && !x.now.overAt s.perSmp (s.m * s.perSmp)) then 3 else d x.now.active
  | none => d (s.micPar i 1)

def PortRun.code : PortRun → Nat
  | .stopped => 0
  | .waiting => 1
  | .running => 2
  | .lost => 3

def State.tdmLive (s : State) (p pid : Nat) : Nat :=
  let t := (s.tdm? p).getD { port := p }
  if pid = 10 then t.phase else if pid = 11 then t.slips else t.run.code

def State.micLive (s : State) (i pid : Nat) : Nat :=
  match s.mic? i with
  | none => if pid = 6 then 0x100 * s.micPar i 1 else (getA i s.front.clips).getD 0
  | some x =>
    if pid = 7 then x.clips
    else
      let f := s.perSmp
      let quick := s.micPar i 3
      let q := s.m * f
      let done := x.now.overAt f q
      let valid := if quick = 0 then x.now.validAt f q else x.now.since + 6 ≤ s.m
      let fades := x.now.fade.isSome || (quick = 2 && !done && x.now.readyAt f ≤ q)
      ofBool valid + 2 * ofBool (quick = 1 || (quick = 2 && !done)) + 4 * ofBool fades
        + 8 * ofBool x.pendSwap.isSome + 0x100 * x.now.active + 0x10000 * x.pendSwap.getD 0

end Sys2Proof.Machine
end

