-- ==== Sys2Proof/Machine/Gallery.lean ====
section
/-! DEFINITION. The Gallery crosspoint mixer and the peak limiter (R186 to R211). RAMP_END is in Instants.lean. -/

namespace Sys2Proof.Machine

/-! ### The peak limiter (R202) -/

/-- q(j) of R202 for a sum in units of 2^-unit. -/
def limQ (t : F32) (unit : Nat) (x : Int) : F32 :=
  if x = 0 then 0x3F800000 else f32Min 0x3F800000 (f32Div t (f32OfRat x.natAbs (2 ^ unit)))

/-- w of R202 over the window, oldest sum first: entry j looks j samples ahead of the output. -/
def limWindow (t : F32) (unit a : Nat) : Nat → List Int → F32 → F32
  | _, [], w => w
  | j, x :: r, w =>
    let q := limQ t unit x
    let v := f32Add q (f32Div (f32Mul (f32Sub 0x3F800000 q) (f32OfInt j)) (f32OfInt (a + 1)))
    limWindow t unit a (j + 1) r (f32Min w v)

/-- One step: the new sum enters the line of A + 1 sums, the oldest leaves with its gain. -/
def Limiter.step (l : Limiter) (on : Bool) (t rho : F32) (unit a : Nat) (x : Int) : Limiter × Int :=
  let line := (x :: l.line).take (a + 1)
  let out := if a + 1 ≤ line.length then line.getLastD 0 else 0
  if on then
    let window := (line ++ List.replicate (a + 1 - line.length) 0).reverse
    let g := f32Min (f32Min 0x3F800000 (f32Mul l.gPrev rho)) (limWindow t unit a 0 window 0x3F800000)
    ({ l with gPrev := g, g := g, line := line }, out)
  else ({ l with gPrev := 0x3F800000, g := 0x3F800000, line := line }, out)

/-- The delayed sum times g, rounded once to Q1.31 with saturation (R192); whether it saturated. -/
def limOut (g : F32) (unit : Nat) (x : Int) : Int × Bool :=
  let v := if g = 0x3F800000 then divEven x (2 ^ (unit - 31)) else divEven (x * f32Num g) (2 ^ (unit - 31) * f32Den)
  (sat31 v, v < q31min || q31max < v)

/-- T and ρ of R202 from threshold and release. -/
def limT (threshold : Int) : F32 := pow10F32 threshold 2000
def limRho (rate96 : Bool) (release : Nat) : F32 := pow10F32 1 ((if rate96 then 96 else 48) * release)

/-- -20 log₁₀ g in 0.01 dB, saturating at 65,535 (R204). -/
def reductionOf (g : F32) : Nat :=
  if g = 0x3F800000 then 0 else satN 65535 (-levelOf ((f32Num g).toNat ^ 2) (f32Den ^ 2)).toNat

/-! ### Crosspoints (R190, R194, R195) -/

/-- GAIN as a signed number in units of 2^-20, 0 while muted: the effective target. -/
def xpTarget (e : BitVec 32) : Int :=
  if e.getLsbD 28 then 0
  else
    let v := e.toNat % 0x1000000
    if v < 0x800000 then v else (v : Int) - 0x1000000

/-- The effective target in units of 2^-44. -/
def xpTarget44 (e : BitVec 32) : Int := xpTarget e * 16777216

def xpProfile (e : BitVec 32) : Nat := e.toNat / 0x1000000 % 16

/-- Profile lengths in smp (R194). -/
def Gallery.profileLength (g : Gallery) (p : Nat) : Nat :=
  if p = 14 then g.prof14 else if p = 15 then g.prof15
  else [0, 16, 32, 64, 128, 256, 512, 1024, 2048, 4096, 8192, 16384, 24000, 48000].getD p 0

def xpKey (o i : Nat) : Nat := 4096 * o + i

def Gallery.setEntry (o i : Nat) (e : BitVec 32) (g : Gallery) : Gallery :=
  let rest := g.xp.filter fun x => !(x.1 == o && x.2.1 == i)
  { g with xp := if e = 0x05000000 then rest else putKey (fun x => xpKey x.1 x.2.1) (o, i, e) g.xp }

/-- Resting gain of a crosspoint. -/
def Gallery.restGain (g : Gallery) (o i : Nat) : Int :=
  match g.gain.find? fun x => x.1 == o && x.2.1 == i with
  | some x => x.2.2
  | none => 0

def Gallery.setGain (o i : Nat) (v : Int) (g : Gallery) : Gallery :=
  let rest := g.gain.filter fun x => !(x.1 == o && x.2.1 == i)
  { g with gain := if v = 0 then rest else putKey (fun x => xpKey x.1 x.2.1) (o, i, v) g.gain }

def Gallery.ramp? (g : Gallery) (o i : Nat) : Option Ramp := g.ramps.find? fun r => r.out == o && r.inp == i

/-- Step of a ramp, truncated toward zero (R195). -/
def Ramp.step (r : Ramp) : Int := Int.tdiv (r.target - r.g0) r.len

/-- Gain of a ramp at primary sample q, which is at or after its start. -/
def Ramp.at (r : Ramp) (q : Nat) : Int :=
  if r.start + r.len ≤ q + 1 then r.target else if q < r.start then r.g0 else r.g0 + (q - r.start + 1 : Nat) * r.step

/-- Instantaneous gain of a crosspoint at primary sample q, and just before sample q. -/
def Gallery.gainAt (g : Gallery) (o i q : Nat) : Int :=
  match g.ramp? o i with
  | some r => r.at q
  | none => g.restGain o i

def Gallery.gainBefore (g : Gallery) (o i q : Nat) : Int :=
  match g.ramp? o i with
  | some r => if q ≤ r.start then r.g0 else r.at (q - 1)
  | none => g.restGain o i

/-- Remove the ramp of a crosspoint, which then rests at gain v; its entry is free from the next block boundary (R198). -/
def Gallery.endRamp (o i : Nat) (v : Int) (g : Gallery) : Gallery :=
  let had := (g.ramp? o i).isSome
  let g := g.setGain o i v
  { g with ramps := g.ramps.filter fun r => !(r.out == o && r.inp == i), freeing := g.freeing + ofBool had }

/-- A ramp whose last sample lies before primary sample q has ended. -/
def Gallery.settle (o i q : Nat) (g : Gallery) : Gallery :=
  match g.ramp? o i with
  | some r => if r.start + r.len ≤ q then g.endRamp o i r.target else g
  | none => g

def poolSize : Nat := 65536

/-- Pool entries in use (R198). -/
def Gallery.poolUsed (g : Gallery) : Nat := g.ramps.length + g.freeing

/-- A new ramp from gain g0; one already running gives up its entry to it (R197). -/
def Gallery.startRamp (o i q perSmp : Nat) (e : BitVec 32) (g0 : Int) (g : Gallery) : Gallery :=
  let r : Ramp :=
    { out := o, inp := i, g0 := g0, target := xpTarget44 e, len := g.profileLength (xpProfile e) * perSmp, start := q,
      profile := xpProfile e }
  let g := g.setGain o i 0
  { g with ramps := g.ramps.filter (fun r => !(r.out == o && r.inp == i)) ++ [r] }

/-- A change of an entry with start at primary sample q, by the rows of R197; `live`: the port is enabled and carried. -/
def Gallery.change (live : Bool) (o i q perSmp : Nat) (e : BitVec 32) (g : Gallery) : Gallery :=
  let g := (g.settle o i q).setEntry o i e
  let target := xpTarget44 e
  let now := g.gainBefore o i q
  let here (x : Nat × Nat) : Bool := x.1 == o && x.2 == i
  if !live then { g.endRamp o i target with queue := g.queue.filter fun x => !here x }
  else if g.queue.any here then
    if target = now then { g with queue := g.queue.filter fun x => !here x } else g
  else if g.queue ≠ [] then { g with queue := g.queue ++ [(o, i)] }
  else
    match g.ramp? o i with
    | some r =>
      if r.target = target ∧ r.profile = xpProfile e then g
      else if g.profileLength (xpProfile e) = 0 then g.endRamp o i target
      else g.startRamp o i q perSmp e now
    | none =>
      if g.profileLength (xpProfile e) = 0 then g.setGain o i target
      else if target = now then g
      else if g.poolUsed < poolSize then g.startRamp o i q perSmp e now
      else { g with queue := g.queue ++ [(o, i)] }

/-- Requests start from the head of the queue (R199). The fuel is the queue's length. -/
def Gallery.startQueue (q perSmp : Nat) : Nat → Gallery → Gallery
  | 0, g => g
  | n + 1, g =>
    match g.queue with
    | [] => g
    | (o, i) :: rest =>
      let g := g.settle o i q
      let e := g.entry o i
      let now := g.gainBefore o i q
      let taken := { g with queue := rest }
      if xpTarget44 e = now then Gallery.startQueue q perSmp n taken
      else if g.profileLength (xpProfile e) = 0 then Gallery.startQueue q perSmp n (taken.endRamp o i (xpTarget44 e))
      else if (g.ramp? o i).isSome || g.poolUsed < poolSize then
        Gallery.startQueue q perSmp n (taken.startRamp o i q perSmp e now)
      else g

/-- Every ramp and waiting request of the ports picked ends at its effective target (R208, R210). -/
def Gallery.endAll (pick : Nat → Bool) (g : Gallery) : Gallery :=
  let ends (g : Gallery) (x : Nat × Nat) : Gallery := g.endRamp x.1 x.2 (xpTarget44 (g.entry x.1 x.2))
  let keys := (g.ramps.map fun r => (r.out, r.inp)) ++ g.queue
  let g := (keys.filter fun x => pick x.1).foldl ends g
  { g with queue := g.queue.filter fun x => !pick x.1 }

/-! ### The Gallery in the device -/

def State.setGal (g : Gallery) (s : State) : State := { s with gal := g }

/-- An output port is enabled and carried, and the Gallery runs. -/
def State.galLive (s : State) (o : Nat) : Bool :=
  s.running (mkNode Ty.galOut o) && o < s.carried && s.power.state == .active

/-- RAMP_QUEUE (R209): the waiting count rises above 0; while disarmed the latch tracks the most. -/
def State.queueLatch (before : Nat) (s : State) : State :=
  let n := s.gal.queue.length
  if before = 0 ∧ 0 < n then
    s.cross 513 0 0 n false (evData [(0, leBytes 4 n), (8, leBytes 8 s.m)])
  else s.trackLatch 513 0 n false

/-- A change of one entry that starts at media sample m; the caller checks the queue latch. -/
def State.galChange (o i m : Nat) (e : BitVec 32) (s : State) : State :=
  s.setGal (s.gal.change (s.galLive o) o i (m * s.perSmp) s.perSmp e)

def State.galOut (s : State) (o : Nat) : GalOut := (findKey GalOut.out o s.gal.outs).getD { out := o }

def State.setGalOut (x : GalOut) (s : State) : State := s.setGal { s.gal with outs := putKey GalOut.out x s.gal.outs }

/-- An output port enters or leaves the run list: limiter and delay line start empty; a disabled port's ramps end (R197). -/
def State.galOutBegin (o : Nat) (s : State) : State := s.setGalOut { out := o, clips := (s.galOut o).clips, baseClips := (s.galOut o).clips }

def State.galOutEnd (o : Nat) (s : State) : State :=
  let x := s.galOut o
  let s := s.setGal (s.gal.endAll (· == o))
  s.setGalOut { out := o, clips := x.clips, baseClips := x.clips, clipN := x.clipN, clipAt := x.clipAt, peak := x.peak }

/-- Standby entry (R210). -/
def State.galStandby (s : State) : State :=
  let g := s.gal.endAll fun _ => true
  let clear (x : GalOut) : GalOut := { out := x.out, clips := x.clips, baseClips := x.clips }
  s.setGal { g with outs := g.outs.map clear }

/-- Sample of an input port: its source's while enabled (R187). -/
def State.galInput (s : State) (i k : Nat) : Int :=
  if s.running (mkNode Ty.galIn i) then s.inputSample (mkNode Ty.galIn i) 0 k else 0

/-- Applied gain in units of 2^-20 (R195). -/
def appliedGain (g44 : Int) : Int := divEven g44 16777216

/-- The exact sum of an output port at sample k of the block, in units of 2^-51 (R191). -/
def State.galSum (s : State) (o k : Nat) : Int :=
  let q := (16 * s.time.block) * s.perSmp + k
  let rest := (s.gal.gain.filter fun x => x.1 == o && (s.gal.ramp? o x.2.1).isNone).map fun x =>
    s.galInput x.2.1 k * appliedGain x.2.2
  let ramps := (s.gal.ramps.filter fun r => r.out == o).map fun r => s.galInput r.inp k * appliedGain (r.at q)
  sumI rest + sumI ramps

/-- One sample of one output port, of a given exact sum (R192, R202). -/
def State.portStep (o k : Nat) (sum : Int) (s : State) : State :=
  let id := mkNode Ty.galOut o
  let x := s.galOut o
  let on := s.parN id 1 = 1
  let a := s.parN id 3 * s.perSmp
  let t := if on then limT (s.parI id 2) else 0x3F800000
  let rho := if on then limRho s.time.rate96 (s.parN id 4) else 0x3F800000
  let (lim, d) := x.lim.step on t rho 51 a sum
  let (y, clip) := limOut lim.g 51 d
  let x := { x with lim := lim, sums := sum :: x.sums }
  let x := if clip then
      { x with clips := satAdd32 x.clips 1, clipN := x.clipN + 1, clipAt := if x.clipN = 0 then k else x.clipAt
               peak := max x.peak (d.natAbs / 2 ^ 35) }
    else x
  (s.setGalOut x).produce id 0 y

/-- One sample of one output port; a held port repeats its sample (R208). -/
def State.galPort (k : Nat) (s : State) (o : Nat) : State :=
  let x := s.galOut o
  match x.hold.filter fun h => s.time.block < h.2 with
  | some h => s.produce (mkNode Ty.galOut o) 0 h.1
  | none => (s.setGalOut { x with hold := none }).portStep o k (s.galSum o k)

/-- What an output has produced of the block in progress, newest first, taken back. -/
def State.unproduce (id : Nat) (s : State) : State := { s with wr := s.wr.filter fun x => !(x.1 == id && x.2.1 == 0) }

/-- Work the block in progress out again for one port, without what the crosspoint from input i gave (R207: an uncorrectable
entry is off from the block in which it was read). -/
def State.redoPort (o i : Nat) (s : State) : State :=
  let x := s.galOut o
  let n := x.sums.length
  let first := s.time.pos * s.perSmp - n
  let q := 16 * s.time.block * s.perSmp
  let part (k : Nat) : Int := s.galInput i k * appliedGain (s.gal.gainAt o i (q + k))
  let sums := (List.range n).map fun j => (first + j, x.sums.reverse.getD j 0 - part (first + j))
  if n = 0 then s
  else
    let s := (s.setGalOut { x with lim := x.base, clips := x.baseClips, sums := [], clipN := 0, clipAt := 0, peak := 0 }).unproduce
      (mkNode Ty.galOut o)
    sums.foldl (fun s y => s.portStep o y.1 y.2) s

/-- One primary sample of the Gallery. -/
def State.galSample (k : Nat) (s : State) : State :=
  if s.power.state == .active then
    (((s.runningOf Ty.galOut).map nodeIdx).filter (· < s.carried)).foldl (State.galPort k) s
  else s

/-- LEVEL of the input ports over the block that ends (R205). -/
def State.galLevels (s : State) : List (Nat × Int) :=
  (s.runningOf Ty.galIn).filterMap fun id =>
    let peak := ((List.range s.spb).map fun k => (s.inputSample id 0 k).natAbs).foldl max 0
    if peak = 0 then none else some (nodeIdx id, levelOf (peak * peak) (2 ^ 62))

/-- The end of a block: levels, gain reduction, figures for GAL_STATUS, latches; pool entries of ended ramps are free. -/
def State.galBlock (s : State) : State :=
  let g := s.gal
  let q := (16 * s.time.block) * s.perSmp + s.spb - 1
  let gains := g.gain ++ g.ramps.map fun r => (r.out, r.inp, r.at q)
  let last (o : Nat) : Int := ((s.wr.find? fun w => w.1 == mkNode Ty.galOut o && w.2.1 == 0).bind (·.2.2.head?)).getD 0
  let out (x : GalOut) : GalOut := { x with
    reduction := reductionOf x.lim.g, base := x.lim, baseClips := x.clips, delivered := last x.out
    sums := [], clipN := 0, clipAt := 0, peak := 0 }
  let s' := s.setGal { g with
    levels := s.galLevels, outs := g.outs.map out, poolLast := g.poolUsed, waitLast := g.queue.length, gainLast := gains
    freeing := 0, corrBlock := 0 }
  let clipped := g.outs.filter fun x => x.clipN != 0
  let n := sumN (clipped.map GalOut.clipN)
  let first := (clipped.map fun x => x.clipAt * 4096 + x.out).min?.getD 0 % 4096
  let peak := (clipped.map GalOut.peak).foldl max 0
  let s' := s'.blockLatch 516 0 (mkNode Ty.galOut first) (if n = 0 then 0 else satN 0x7FFFFFFF peak)
    (evData [(0, leBytes 4 n), (8, leBytes 8 s.m)])
  if g.corrBlock ≠ 0 || (s.latch 514 0).holds then s'.setLevel 514 0 g.corrBlock (g.corrBlock != 0) false else s'

/-- RAMP_QUEUE_START (R199): at a block boundary, once the queue's head can start. DESIGN CHOICE (log 57): the changes that take
effect at this boundary were resolved before it, in BLOCK_STROBE; the spec orders the two nowhere. -/
def execRampQueueStart (s : State) : Host.Outcome State Fault Refusal :=
  if s.time.pos = 0 then
    .next (s.setGal (s.gal.startQueue (s.m * s.perSmp) s.perSmp s.gal.queue.length))
  else .next s

/-- RAMP_END's sample: the one in which the ramp reaches its target (R195). -/
def State.rampEndDue (s : State) (o i : Nat) : Option Nat :=
  (s.gal.ramp? o i).map fun r => (r.start + r.len - 1) / s.perSmp

def State.rampEnd (o i : Nat) (s : State) : State :=
  match s.gal.ramp? o i with
  | some r => s.setGal (s.gal.endRamp o i r.target)
  | none => s

/-! ### Store errors (R207) -/

/-- A corrected entry error: each one is a crossing of latch 0 of source 514, whose level counts the block's (R209). -/
def State.xpCorrected (o i : Nat) (s : State) : State :=
  let g := s.gal
  let n := g.corrBlock + 1
  (s.setGal { g with corrected := satAdd32 g.corrected 1, corrBlock := n }).crossWithin 514 0 (mkNode Ty.galOut o) n
    (evData [(0, leBytes 2 i), (8, leBytes 8 s.m)])

/-- Zero an entry, its gain and its ramp (R207). -/
def State.zeroEntry (o i : Nat) (s : State) : State :=
  let g := (s.gal.endRamp o i 0).setEntry o i 0
  s.setGal { g with queue := g.queue.filter fun x => !(x.1 == o && x.2 == i) }

/-- An uncorrectable entry: off, without ramp, written 0, from the block in which it was read. -/
def State.xpUncorrectable (o i : Nat) (s : State) : State :=
  let s := ((s.redoPort o i).zeroEntry o i).note (.xpZeroed o i)
  let s := s.setGal { s.gal with uncorrectable := satAdd32 s.gal.uncorrectable 1 }
  s.raise 515 0x0403 (mkNode Ty.galOut o) (evData [(0, leBytes 2 i), (8, leBytes 8 s.m)])

/-! ### Parameters that live in the engine -/

/-- RAMPS of a port. -/
def State.rampsOf (s : State) (o : Nat) : Nat :=
  (s.gal.ramps.filter fun r => r.out == o).length + 0x10000 * (s.gal.queue.filter fun x => x.1 == o).length

/-- Output ports that one slice may carry (R188). -/
def State.slicePorts (s : State) : Nat := if s.time.rate96 then 221 else 442

/-- The slice assigned to a port: where Daluo moved it, else the one it had from the start (log 3). -/
def State.slicePlace (s : State) (o : Nat) : Nat :=
  (getA o s.gal.moves).getD ((o / s.slicePorts + Config.sliceRotation []) % 12)

/-- SLICE: carried ports lie on the slices in service (R188). -/
def State.sliceOf (s : State) (o : Nat) : Nat := if o < s.carried then s.slicePlace o else 0xFF

/-- Give each port of the list a slice in service with room, in an order that is Daluo's (R188, R208; log 3). -/
def State.placePorts (kept moving : List Nat) (s : State) : State :=
  let start := Config.sliceRotation s.gal.slicesOut
  let order := ((List.range 12).map fun k => (k + start) % 12).filter fun k => !s.gal.slicesOut.contains k
  let loads := order.map fun k => (k, (kept.filter fun o => s.slicePlace o == k).length)
  let one (x : List (Nat × Nat) × List (Nat × Nat)) (o : Nat) : List (Nat × Nat) × List (Nat × Nat) :=
    match x.1.find? fun l => l.2 < s.slicePorts with
    | some l => (x.1.map fun y => if y.1 == l.1 then (y.1, y.2 + 1) else y, setA o l.1 x.2)
    | none => x
  s.setGal { s.gal with moves := (moving.foldl one (loads, s.gal.moves)).2 }

/-- Ports that this device's own slices carry (R40). -/
def State.ownCarried (s : State) : Nat := portsCarried s.time.rate96 s.slicesIn

/-- After a change of the slices in service: ports carried before, on a slice in service, stay; every other one gets a slice
(R188, R208). -/
def State.replacePorts (before : Nat) (s : State) : State :=
  let ports := List.range s.ownCarried
  let stays (o : Nat) : Bool := o < before && !s.gal.slicesOut.contains (s.slicePlace o)
  s.placePorts (ports.filter stays) (ports.filter fun o => !stays o)

def State.galLiveParam (s : State) (o pid : Nat) : Nat :=
  let x := s.galOut o
  if pid = 5 then x.clips else if pid = 6 then x.reduction else if pid = 7 then s.rampsOf o else s.sliceOf o

/-! ### Commands (R206) -/

/-- Leave a run of entries for the block boundary. -/
def State.xpRun (o first : Nat) (entries : List Nat) (s : State) : State :=
  (List.range entries.length).foldl (init := s) fun s j =>
    s.atBoundary (.change ⟨mkNode Ty.galOut o, 0x1000 + first + j, leBytes 4 (entries.getD j 0)⟩)

/-- n little-endian words of a byte list. -/
def words32 : Nat → Bytes → List Nat
  | 0, _ => []
  | n + 1, p => leNat (p.take 4) :: words32 n (p.drop 4)

def galXpWrite : Contract where
  opcode := 0x0401
  len := lenIn 8 8176
  fixed _ _ r :=
    let p := r.payload
    field p 0 2 ≤ 4095 && 1 ≤ field p 2 2 && field p 2 2 ≤ 2042 && reservedZero p [(4, 4)]
  node := onTypes [Ty.galOut]
  body s _ r :=
    let p := r.payload
    let n := field p 2 2
    let es := words32 n (p.drop 8)
    if p.length ≠ 8 + 4 * n then failWith Err.length
    else if 4096 < field p 0 2 + n || es.any (0x20000000 ≤ ·) then failWith Err.range
    else okay (s.xpRun (nodeIdx r.node.toNat) (field p 0 2) es)

def execGalXpWrite (mb : Fin 8) (r : Req) (s : State) : Host.Outcome State Fault Refusal := runCommand galXpWrite mb r s

/-- Output ports of the primary rate (R83). -/
def State.outPorts (s : State) : Nat := fixedCount s.time.rate96 Ty.galOut

/-- The rectangle fields of GAL_XP_BULK and Slab item kind 0x03 are legal; `p` starts at first output. -/
def State.rectOk (s : State) (p : Bytes) : Bool :=
  let o := field p 0 2
  let on := field p 2 2
  let i := field p 4 2
  let n := field p 6 2
  1 ≤ on && o + on ≤ s.outPorts && 1 ≤ n && i + n ≤ 4096 && field p 8 4 % 4 = 0 && field p 8 4 + 4 * on * n ≤ bulkBytes

def galXpBulk : Contract where
  opcode := 0x0402
  len := lenIs 12
  fixed _ _ r :=
    let p := r.payload
    field p 0 2 ≤ 4095 && 1 ≤ field p 2 2 && field p 4 2 ≤ 4095 && 1 ≤ field p 6 2 && field p 8 4 % 4 = 0
  node := onCp
  fields s _ r := s.rectOk r.payload
  body s mb r :=
    let p := r.payload
    let on := field p 2 2
    let n := field p 6 2
    let es := words32 (on * n) (s.readBulk mb (field p 8 4) (4 * on * n))
    if es.any (0x20000000 ≤ ·) then failWith Err.range
    else if s.hitsAttachment mb (field p 8 4) (4 * on * n) then failWith Err.conflict
    else okay ((List.range on).foldl (init := s) fun s k =>
      s.xpRun (field p 0 2 + k) (field p 4 2) ((es.drop (k * n)).take n))

def execGalXpBulk (mb : Fin 8) (r : Req) (s : State) : Host.Outcome State Fault Refusal := runCommand galXpBulk mb r s

/-- Gain at the end of the last completed block, Q4.20 (GAL_XP_READ). -/
def Gallery.lastGain (g : Gallery) (o i : Nat) : Int :=
  match g.gainLast.find? fun x => x.1 == o && x.2.1 == i with
  | some x => appliedGain x.2.2
  | none => 0

def galXpRead : Contract where
  opcode := 0x0403
  len := lenIs 8
  fixed _ _ r :=
    let p := r.payload
    field p 0 2 ≤ 4095 && field p 4 1 ≤ 1 && 1 ≤ field p 2 2 && field p 2 2 ≤ 2044 && reservedZero p [(5, 3)]
  node := onTypes [Ty.galOut]
  fields _ _ r :=
    let n := field r.payload 2 2
    (field r.payload 4 1 = 0 || n ≤ 1022) && field r.payload 0 2 + n ≤ 4096
  body s _ r :=
    let p := r.payload
    let o := nodeIdx r.node.toNat
    answer s (((List.range (field p 2 2)).map (field p 0 2 + ·)).flatMap fun i =>
      leBytes 4 (s.gal.entry o i).toNat ++ if field p 4 1 = 1 then leSigned 4 (s.gal.lastGain o i) else [])

def execGalXpRead (mb : Fin 8) (r : Req) (s : State) : Host.Outcome State Fault Refusal := runCommand galXpRead mb r s

def galProfileSet : Contract where
  opcode := 0x0404
  len := lenIs 8
  fixed _ _ r :=
    (field r.payload 0 1 = 14 || field r.payload 0 1 = 15) && field r.payload 4 4 ≤ 480000
      && reservedZero r.payload [(1, 3)]
  node := onCp
  body s _ r := okay (s.atBoundary (.profile (field r.payload 0 1) (field r.payload 4 4)))

def execGalProfileSet (mb : Fin 8) (r : Req) (s : State) : Host.Outcome State Fault Refusal :=
  runCommand galProfileSet mb r s

def galStatus : Contract where
  opcode := 0x0405
  len := lenIs 0
  node := onCp
  body s _ _ :=
    let g := s.gal
    answer s (leBytes 1 s.slicesIn ++ zeros 1 ++ leBytes 2 s.carried
      ++ [g.poolLast, g.waitLast, g.prof14, g.prof15, g.corrected, g.uncorrectable, 0].flatMap (leBytes 4))

def execGalStatus (mb : Fin 8) (r : Req) (s : State) : Host.Outcome State Fault Refusal := runCommand galStatus mb r s

end Sys2Proof.Machine
end

