-- ==== Sys2Proof/Machine/Renderer.lean ====
section
/-! DEFINITION. The object renderer (R212 to R242). GEOMETRY_RECORD_START and FADING_SLOT_FREE are in Instants.lean; zone
references are formed in Speaker.lean. -/

namespace Sys2Proof.Machine

def State.obj? (s : State) (o : Nat) : Option ObjDyn := findKey ObjDyn.obj o s.ren.objs
def State.objDyn (s : State) (o : Nat) : ObjDyn := (s.obj? o).getD { obj := o }
def State.setRen (r : Renderer) (s : State) : State := { s with ren := r }
def State.setObj (x : ObjDyn) (s : State) : State := s.setRen { s.ren with objs := putKey ObjDyn.obj x s.ren.objs }

def objId (o : Nat) : Nat := mkNode Ty.obj o
def spkId (k : Nat) : Nat := mkNode Ty.spk k
def zoneId (z : Nat) : Nat := mkNode Ty.zone z

/-! ### Zone membership (R213, R217) -/

/-- The enabled zone of an enabled loudspeaker, from the states and parameters in effect. -/
def State.zoneOf (s : State) (k : Nat) : Option Nat :=
  let z := s.parN (spkId k) 2
  if s.running (spkId k) && s.running (zoneId z) then some z else none

def zoneOfIn (m : List (Nat × Nat)) (k : Nat) : Option Nat := getA k m

def membersOf (m : List (Nat × Nat)) (z : Nat) : Nat := (m.filter fun x => x.2 == z).length

/-- Bring the membership in force up to date for the loudspeakers picked, at sample m: one ZONE_CHANGED per zone whose
members change, with the cause that `cause` gives for the zone and the loudspeakers that join or leave it. -/
def State.updateMembers (pick : Nat → Bool) (cause : Nat → List Nat → Nat) (m : Nat) (s : State) : State :=
  let old := s.ren.members
  let all := (s.runningOf Ty.spk).map nodeIdx
  let kept := old.filter fun x => !pick x.1
  let fresh := (all.filter pick).filterMap fun k => (s.zoneOf k).map fun z => (k, z)
  let new := fresh.foldl (fun l x => setA x.1 x.2 l) kept
  let changed := (List.range 64).filter fun z =>
    (old.filter fun x => x.2 == z) != new.filter fun x => x.2 == z
  let s := s.setRen { s.ren with members := new }
  let moved (z : Nat) : List Nat :=
    let was := (old.filter fun x => x.2 == z).map (·.1)
    let is := (new.filter fun x => x.2 == z).map (·.1)
    (was.filter fun k => !is.contains k) ++ is.filter fun k => !was.contains k
  changed.foldl (init := s) fun s z =>
    s.raise 579 0x0503 (zoneId z) (evData [(0, leBytes 2 (membersOf old z)), (2, leBytes 2 (membersOf new z)),
      (4, leBytes 1 (cause z (moved z))), (8, leBytes 8 m)])

/-- The changes whose start sample is m take effect, before the block's other changes; a destroyed zone's members lose
their ZONE (R214). -/
def State.zoneBoundary (s : State) : State :=
  let due := (s.ren.zoneWait.filter fun x => x.1 ≤ s.m).map (·.2)
  if due.isEmpty then s
  else
    let zones := (due.filter fun x => x.1 = 3 ∨ x.1 = 4).map (·.2)
    let orphans := (due.filter fun x => x.1 = 5).map (·.2)
    let spks := (due.filter fun x => x.1 = 1 ∨ x.1 = 2).map (·.2)
    let s := s.setRen { s.ren with zoneWait := s.ren.zoneWait.filter fun x => s.m < x.1 }
    let s := orphans.foldl (init := s) fun s k => s.storePar (spkId k) 2 [0xFF]
    let pick (k : Nat) : Bool :=
      spks.contains k || orphans.contains k || (match zoneOfIn s.ren.members k with | some z => zones.contains z | none => false)
        || zones.contains (s.parN (spkId k) 2)
    let cause (z : Nat) (moved : List Nat) : Nat :=
      match due.find? fun x => if x.1 = 3 ∨ x.1 = 4 then x.2 = z else (x.1 = 1 ∨ x.1 = 2) ∧ moved.contains x.2 with
      | some x => x.1
      | none => 4
    s.updateMembers pick cause s.m

/-! ### Geometry records (R224, R225) -/

/-- The earliest start of a record that Daluo applies now. -/
def State.earliestRecord (s : State) : Nat := 16 * (s.effectBlock + 1)

/-- Count a superseded or late record of the block (R238). -/
def State.countLate (o n : Nat) (s : State) : State :=
  if n = 0 then s
  else
    let r := s.ren
    s.setRen { r with lateBlock := r.lateBlock + n, lateFirst := if r.lateBlock = 0 then o else r.lateFirst }

/-- Make a record of an object with a start sample; a disabled object only keeps its stored parameters (R229). -/
def State.makeRecord (o start : Nat) (s : State) : State :=
  if s.enabled (objId o) then
    let x := s.objDyn o
    let sup := ofBool x.pend.isSome
    let rec_ : GeoRec := { pos := s.par (objId o) 1, start := start, order := s.commits }
    (s.setObj { x with pend := some rec_, superseded := (x.superseded + sup) % 0x100000000 }).countLate o sup
  else s

/-- A disable discards the record that is pending then (R229), when the object leaves the engines. -/
def State.dropRecord (o : Nat) (s : State) : State :=
  match s.obj? o with
  | some x => s.setObj { x with pend := x.pend.map fun r => { r with dying := true } }
  | none => s

/-- Enabled objects. -/
def State.enabledObjs (s : State) : List Nat :=
  ((s.nodesOf Ty.obj).filter fun x => x.2.state == .enabled).map fun x => nodeIdx x.1

/-- A record for every enabled object (R217, REN_CONFIG). -/
def State.recordAll (s : State) : State :=
  s.enabledObjs.foldl (init := s) fun s o => s.makeRecord o s.earliestRecord

/-- A membership change applied now: it starts with the records of R224. -/
def State.zoneChange (cause idx : Nat) (s : State) : State :=
  State.recordAll (s.setRen { s.ren with zoneWait := s.ren.zoneWait ++ [(s.earliestRecord, cause, idx)] })

/-- An enabled loudspeaker has this zone. -/
def State.zoneUsed (s : State) (z : Nat) : Bool :=
  (s.nodesOf Ty.spk).any fun x => x.2.state == .enabled && s.latestN x.1 2 == z

/-- What enabling or disabling a node means at once to the renderer: records of zones, an object's stored parameters (R217, R229). -/
def State.renHook (id : Nat) (on : Bool) (s : State) : State :=
  let t := nodeType id
  let i := nodeIdx id
  if t = Ty.spk then (if s.latestN id 2 ≠ 0xFF && s.enabled (zoneId (s.latestN id 2)) then s.zoneChange 2 i else s)
  else if t = Ty.zone then (if s.zoneUsed i then s.zoneChange 3 i else s)
  else if t = Ty.obj ∧ !on then s.dropRecord i
  else if t = Ty.obj then
    s.setObj { s.objDyn i with snap := (List.range 8).map fun k => (k + 1, s.latest id (k + 1)) }
  else s

/-! ### Footprint, gains and delays (R220 to R223) -/

/-- A loudspeaker as one record sees it. -/
structure Cand where
  spk : Nat
  e2 : F32
  d2 : F32

def vecAt (b : Bytes) (i : Nat) : F32 := BitVec.ofNat 32 (field b (4 * i) 4)

/-- Squared true and blurred distances from a position, in the order written. -/
def State.candOf (s : State) (pos : Bytes) (blur : F32) (k : Nat) : Cand :=
  let sp := s.par (spkId k) 1
  let d (i : Nat) : F32 := f32Sub (vecAt pos i) (vecAt sp i)
  let e2 := f32Add (f32Add (f32Mul (d 0) (d 0)) (f32Mul (d 1) (d 1))) (f32Mul (d 2) (d 2))
  ⟨k, e2, f32Add e2 (f32Mul blur blur)⟩

def Cand.before (a b : Cand) : Bool := f32Lt a.d2 b.d2 || (a.d2 == b.d2 && a.spk < b.spk)

def insertCand (c : Cand) : List Cand → List Cand
  | [] => [c]
  | x :: r => if c.before x then c :: x :: r else x :: insertCand c r

def sortCands (l : List Cand) : List Cand := l.foldl (fun acc c => insertCand c acc) []

/-- R213. -/
def State.isCandidate (s : State) (mask k : Nat) : Bool :=
  match s.zoneOf k with
  | some z => bit mask z
  | none => false

def slotLimit : Nat := 64

/-- slot_limit (R222): the speakers of the record in sorted order, and how many are deferred. -/
def limitSlots (members fading : List Nat) (desired : List Cand) (at_ : Nat → Cand) : List Cand × Nat :=
  let wanted := desired.map Cand.spk
  let leaving := sortCands ((members.filter fun k => !wanted.contains k).map at_)
  let entering := desired.filter fun c => !members.contains c.spk
  let inUse := (fading.filter fun k => !(entering.any fun c => c.spk == k)).length
  let r := leaving.length - (slotLimit - inUse)
  let drop := min r entering.length
  let out := (entering.drop (entering.length - drop)).map Cand.spk
  (sortCands ((desired.filter fun c => !out.contains c.spk) ++ leaving.take r), drop)

/-- w² of a speaker (R220). -/
def State.candWeight (s : State) (a : F32) (c : Cand) : F32 :=
  f32Mul (f32Pow10 (s.parI (spkId c.spk) 3) 1000) (f32Exp2 (f32Mul (f32Neg a) (f32Log2 c.d2)))

/-- Q1.47 of a gain, rounded to nearest. -/
def gain47 (g : F32) : Int := clampI 0 281474976710655 (divEven (f32Num g * 2 ^ 47) f32Den)

/-- Target delay in units of 1/65,536 smp before the clamp (R223). -/
def targetDelay (mode delay : Nat) (speed eMin e2 : F32) : Int :=
  let k := f32Div (f32OfInt 48000) speed
  let term : F32 :=
    if mode = 1 then f32Mul (f32Sub (f32Sqrt e2) eMin) k else if mode = 2 then f32Mul (f32Sqrt e2) k else 0
  divEven ((f32Num (f32OfRat delay 65536) + f32Num term) * 65536) f32Den

def maxDelay : Int := 314572800

/-- The computed footprint: speaker, gain and delay in sorted order, the requested delays beyond the clamp, and how many
speakers are deferred. -/
def State.footprint (s : State) (get : Nat → Bytes) (pos : Bytes) (members fading : List Nat) :
    List (Nat × Int × Int) × List (Nat × Int) × Nat :=
  let blur := BitVec.ofNat 32 (leNat (get 4))
  let cands := sortCands ((((s.runningOf Ty.spk).map nodeIdx).filter (s.isCandidate (leNat (get 8)))).map
    (s.candOf pos blur))
  let (final, deferred) := limitSlots members fading (cands.take (leNat (get 5))) (s.candOf pos blur)
  let a := f32OfRat (leNat (get 3)) 256
  let ws := final.map (s.candWeight a)
  let sum := ws.foldl f32Add 0
  let gainPar := toSigned 2 (leNat (get 2))
  let objGain : F32 := if gainPar = -32768 then 0 else f32Pow10 gainPar 2000
  let es := final.map fun c => f32Sqrt c.e2
  let eMin := es.foldl f32Min (es.headD 0)
  let one (x : Cand × F32) : Nat × Int × Int :=
    (x.1.spk, gain47 (f32Mul (f32Sqrt (f32Div x.2 sum)) objGain),
      targetDelay (leNat (get 6)) (leNat (get 7)) s.ren.speed eMin x.1.e2)
  let l := (final.zip ws).map one
  (l.map fun x => (x.1, x.2.1, min x.2.2 maxDelay), (l.filter fun x => maxDelay < x.2.2).map fun x => (x.1, x.2.2),
    deferred)

/-! ### Slots (R226 to R229) -/

/-- A slot standing at its targets with e = 1. -/
def RenSlot.atTarget (spk : Nat) (g d : Int) : RenSlot :=
  { spk := spk, g := g, gTarget := g, d := d, dTarget := d, applied := d, env := 512 }

/-- A member moves to new targets over L samples (R226). -/
def RenSlot.move (x : RenSlot) (len : Nat) (g d : Int) : RenSlot :=
  { x with gTarget := g, gStep := Int.tdiv (g - x.g) len, dTarget := d, dStep := Int.tdiv (d - x.d) len, left := len }

/-- A member leaves: it keeps gain and applied delay and fades (R227). -/
def RenSlot.leave (x : RenSlot) : RenSlot :=
  { x with gTarget := x.g, gStep := 0, d := x.applied, dTarget := x.applied, dStep := 0, left := 0, rising := false }

/-- One sample of a slot: gain and target delay step, envelope, applied delay (R226 to R228). -/
def RenSlot.advance (rate96 isMember : Bool) (x : RenSlot) : RenSlot :=
  let x :=
    if x.left = 0 then x
    else if x.left = 1 then { x with g := x.gTarget, d := x.dTarget, left := 0 }
    else { x with g := x.g + x.gStep, d := x.d + x.dStep, left := x.left - 1 }
  let step := if rate96 then 1 else 2
  let env := if isMember then min 512 (x.env + step) else x.env - step
  let limit : Int := if rate96 then 4096 else 8192
  { x with env := env, applied := x.applied + clampI (-limit) limit (x.d - x.applied) }

/-- Members and fading slots after a record (R226, R227). -/
def ObjDyn.applyRecord (x : ObjDyn) (len : Nat) (fp : List (Nat × Int × Int)) : ObjDyn :=
  let has (l : List RenSlot) (k : Nat) : Option RenSlot := l.find? fun y => y.spk == k
  let member (f : Nat × Int × Int) : RenSlot :=
    match has x.members f.1 with
    | some y => y.move len f.2.1 f.2.2
    | none =>
      let env := match has x.fading f.1 with
        | some y => y.env
        | none => 0
      { RenSlot.atTarget f.1 f.2.1 f.2.2 with env := env, rising := true }
  let stays (k : Nat) : Bool := fp.any fun f => f.1 == k
  { x with
    members := fp.map member
    fading := (x.fading.filter fun y => !stays y.spk) ++ (x.members.filter fun y => !stays y.spk).map RenSlot.leave }

/-- The latches of a record: clamps and deferrals (R222, R223, R238). -/
def State.recordLatches (o m : Nat) (clamps : List (Nat × Int)) (deferred : Nat) (s : State) : State :=
  let unit (d : Int) : Int := d / 4096
  let first := clamps.headD (0, 0)
  let worst := (clamps.map fun c => unit c.2).foldl max 0
  let s := s.blockCross 576 0 (objId o) clamps.length worst
    (evData [(0, leBytes 2 first.1), (4, leSigned 4 (unit first.2)), (8, leBytes 8 m)])
  s.blockLatch 577 0 (objId o) deferred (evData [(0, leBytes 1 deferred), (8, leBytes 8 m)])

/-- A record starts at sample m (R226, R241); `keep` says which pending records Daluo applied after it. -/
def State.startRecord (o m : Nat) (pos : Bytes) (keep : GeoRec → Bool) (s : State) : State :=
  let x := s.objDyn o
  let (fp, clamps, deferred) :=
    s.footprint (s.par (objId o)) pos (x.members.map RenSlot.spk) (x.fading.map RenSlot.spk)
  let pend := x.pend.filter keep
  let x := { x with pos := pos, pend := pend, lastStart := some m, deferred := deferred
                    records := (x.records + 1) % 0x100000000 }
  let x := if s.power.state == .standby then
      { x with members := fp.map fun f => RenSlot.atTarget f.1 f.2.1 f.2.2, fading := [] }
    else x.applyRecord (48 * s.perSmp) fp
  (s.setObj x).recordLatches o m clamps deferred

/-- The start sample of the pending record: not before 48 smp after the last start (R225). -/
def State.recordDue (s : State) (o : Nat) : Option Nat :=
  match (s.objDyn o).pend with
  | some r => some (match (s.objDyn o).lastStart with
    | some p => max r.start (p + 48)
    | none => r.start)
  | none => none

/-- A pending record starts. -/
def State.startPending (o m : Nat) (s : State) : State :=
  match (s.objDyn o).pend with
  | some r => s.startRecord o m r.pos (fun _ => false)
  | none => s

/-- An enabled object enters the run list (R229). -/
def State.objBegin (o m : Nat) (s : State) : State :=
  let x := s.objDyn o
  let get (pid : Nat) : Bytes := (getA pid x.snap).getD (s.par (objId o) pid)
  let (fp, clamps, deferred) := s.footprint get (get 1) [] []
  let x := { x with
    members := fp.map fun f => RenSlot.atTarget f.1 f.2.1 f.2.2, fading := [], hist := [], deferred := deferred
    pos := get 1, lastStart := some m, records := (x.records + 1) % 0x100000000, snap := [] }
  (s.setObj x).recordLatches o m clamps deferred

/-- A disabled object: feeds zero, fades end, the pending record is discarded. -/
def State.objEnd (o : Nat) (s : State) : State :=
  match s.obj? o with
  | some x => s.setObj { x with members := [], fading := [], hist := [], deferred := 0, pend := x.pend.filter fun r => !r.dying }
  | none => s

/-- Standby entry (R241): slots at their targets, no fades, delay lines cleared. -/
def State.renStandby (s : State) : State :=
  let settle (y : RenSlot) : RenSlot := RenSlot.atTarget y.spk y.gTarget y.dTarget
  let rest (x : ObjDyn) : ObjDyn := { x with members := x.members.map settle, fading := [], hist := [] }
  s.setRen { s.ren with objs := s.ren.objs.map rest }

/-! ### Rendering (R231, R232) -/

/-- The numerators of 6 · 2^48 · h_k for f in units of 2^-16. -/
def lagrange (f : Int) : List Int :=
  let u : Int := 65536
  [-(f * (f - u) * (f - 2 * u)), 3 * ((f + u) * (f - u) * (f - 2 * u)), -3 * ((f + u) * f * (f - 2 * u)),
    (f + u) * f * (f - u)]

/-- Contribution of a slot to its loudspeaker, in units of 2^-62. -/
def RenSlot.contribution (rate96 : Bool) (hist : List Int) (x : RenSlot) : Int :=
  let d := (if rate96 then 2 * x.applied else x.applied) + 65536
  let n := (d / 65536).toNat
  let taps := (lagrange (d % 65536)).map fun h => sat31 (divEven (x.g * x.env * h) (6 * 2 ^ 73))
  sumI ((List.range 4).map fun k => taps.getD k 0 * hist.getD (n - 1 + k) 0)

/-- Samples of history an object keeps: 4800 smp, the interpolator and a margin, at either rate. -/
def histLength : Nat := 9610

/-- One sample of an object: slots advance, then each adds to its loudspeaker's sum. -/
def State.objSample (k : Nat) (acc : List (Nat × Int) × State) (o : Nat) : List (Nat × Int) × State :=
  let (sums, s) := acc
  let x := s.objDyn o
  let hist := (s.inputSample (objId o) 0 k :: x.hist).take histLength
  let members := x.members.map (RenSlot.advance s.time.rate96 true)
  let fading := x.fading.map (RenSlot.advance s.time.rate96 false)
  let add (l : List (Nat × Int)) (y : RenSlot) : List (Nat × Int) :=
    setA y.spk ((getA y.spk l).getD 0 + y.contribution s.time.rate96 hist) l
  ((members ++ fading).foldl add sums, s.setObj { x with hist := hist, members := members, fading := fading })

/-- The renderer's feed of a loudspeaker in the block buffers: output 1 of the loudspeaker node (log 21). -/
def feedOutput : Nat := 1

/-- Round a sum once to Q10.54, saturating at ±512 (R232). -/
def State.feedOut (s : State) (x : Nat × Int) : State :=
  let v := divEven x.2 256
  let y := clampI (-9223372036854775808) 9223372036854775807 v
  let s := s.produce (spkId x.1) feedOutput y
  if y = v then s
  else
    let r := s.ren
    s.setRen { r with
      satBlock := r.satBlock + 1, satFirst := if r.satBlock = 0 then x.1 else r.satFirst
      satPeak := max r.satPeak (x.2.natAbs / 2 ^ 46) }

/-- One primary sample of the renderer: every running loudspeaker gets a feed. -/
def State.renSample (k : Nat) (s : State) : State :=
  if s.power.state == .active then
    let zero := ((s.runningOf Ty.spk).map fun id => (nodeIdx id, (0 : Int)))
    let (sums, s) := ((s.runningOf Ty.obj).map nodeIdx).foldl (State.objSample k) (zero, s)
    (sums.filter fun x => s.running (spkId x.1)).foldl State.feedOut s
  else s

/-- The end of a block: views for REN_FOOTPRINT_READ, latches (R238). -/
def State.renBlock (s : State) : State :=
  let r := s.ren
  let view (x : ObjDyn) : ObjDyn :=
    { x with viewMembers := x.members, viewFading := x.fading, viewDeferred := x.deferred
             viewStart := x.lastStart.getD 0 }
  let s := s.setRen { r with
    objs := r.objs.map view, lateBlock := 0, lateFirst := 0, satBlock := 0, satFirst := 0, satPeak := 0 }
  let s := s.blockLatch 578 0 (objId r.lateFirst) r.lateBlock (evData [(0, leBytes 4 r.lateBlock), (8, leBytes 8 s.m)])
  s.blockLatch 581 0 (spkId r.satFirst) (if r.satBlock = 0 then 0 else satN 0x7FFFFFFF r.satPeak)
    (evData [(0, leBytes 4 r.satBlock), (8, leBytes 8 s.m)])

/-- A fading slot whose envelope is 0 frees at a block boundary (R227). -/
def State.freeFading (o k : Nat) (s : State) : State :=
  let x := s.objDyn o
  s.setObj { x with fading := x.fading.filter fun y => !(y.spk == k && y.env == 0) }

/-! ### Commands (R235) -/

def renConfig : Contract where
  opcode := 0x0501
  len := lenIs 8
  fixed _ _ r :=
    let v := field r.payload 0 4
    (v = 0 || (0x43960000 ≤ v && v ≤ 0x43C80000)) && reservedZero r.payload [(4, 4)]
  node := onCp
  body s _ r :=
    let v := field r.payload 0 4
    okay ((s.atBoundary (.soundSpeed (if v = 0 then 0x43AB8000 else BitVec.ofNat 32 v))).recordAll)

def execRenConfig (mb : Fin 8) (r : Req) (s : State) : Host.Outcome State Fault Refusal := runCommand renConfig mb r s

/-- Entry j of a batch: object, position, due sample. -/
def batchEntry (p : Bytes) (j : Nat) : Nat × Bytes × Nat :=
  (field p (8 + 24 * j) 2, slice p (12 + 24 * j) 12, field p (24 + 24 * j) 8)

/-- The conditions of R235 on a batch or packet: 0, or the code. -/
def State.batchCheck (s : State) (p : Bytes) : Nat :=
  let n := field p 0 2
  let es := (List.range n).map (batchEntry p)
  let objs := es.map (·.1)
  let bad (j : Nat) : Bool :=
    let e := batchEntry p j
    indexCount s.time.rate96 Ty.obj ≤ e.1 || !isVec e.2.1 || field p (10 + 24 * j) 2 ≠ 0
      || (objs.take j).contains e.1
  if p.length ≠ 8 + 24 * n then Err.length
  else if (List.range n).any bad then Err.range
  else if es.any fun e => !s.live (objId e.1) then Err.noNode
  else 0

/-- Store an object's position at once, and make its record (R219, R224). -/
def State.placeObject (s : State) (e : Nat × Bytes × Nat) : State :=
  let early := s.earliestRecord
  let late := e.2.2 ≠ 0 && e.2.2 < early && s.enabled (objId e.1)
  ((s.storePar (objId e.1) 1 e.2.1).makeRecord e.1 (max e.2.2 early)).countLate e.1 (ofBool late)

def State.applyBatch (p : Bytes) (s : State) : State :=
  ((List.range (field p 0 2)).map (batchEntry p)).foldl State.placeObject s

def renPosBatch : Contract where
  opcode := 0x0502
  len := lenIn 8 8168
  fixed _ _ r := 1 ≤ field r.payload 0 2 && field r.payload 0 2 ≤ 340 && reservedZero r.payload [(2, 6)]
  node := onCp
  body s _ r :=
    let k := s.batchCheck r.payload
    if k ≠ 0 then failWith k else okay (s.applyBatch r.payload)

def execRenPosBatch (mb : Fin 8) (r : Req) (s : State) : Host.Outcome State Fault Refusal := runCommand renPosBatch mb r s

def renPosQueue : Contract where
  opcode := 0x0503
  len := lenIs 4
  node := onCp
  body s _ r :=
    let id := field r.payload 0 4
    let q := nodeIdx id
    if id = 0 then
      okay (if s.ren.posQueue.isSome then s.setRen { s.ren with unbinding := some s.packetsDue } else s)
    else if nodeType id ≠ Ty.queue then failWith Err.nodeType
    else if q < 8 ∨ 15 < q then failWith Err.state
    else
      match s.ren.posQueue with
      | some k => if k = q then okay (s.setRen { s.ren with unbinding := none }) else failWith Err.conflict
      | none => okay (s.setRen { s.ren with posQueue := some q, unbinding := none, discarded := 0 })

def execRenPosQueue (mb : Fin 8) (r : Req) (s : State) : Host.Outcome State Fault Refusal := runCommand renPosQueue mb r s

/-- One entry of REN_FOOTPRINT_READ. -/
def RenSlot.entry (fading : Bool) (x : RenSlot) : Bytes :=
  let st := if fading then 3 else if x.env = 512 then 1 else 2
  leBytes 2 x.spk ++ leBytes 1 st ++ zeros 1 ++ leSigned 4 (sat31 (divEven x.gTarget 65536)) ++ leBytes 2 x.env ++ zeros 2
    ++ leSigned 4 x.applied

def insertSlot (x : RenSlot) : List RenSlot → List RenSlot
  | [] => [x]
  | y :: r => if x.spk < y.spk then x :: y :: r else y :: insertSlot x r

def renFootprintRead : Contract where
  opcode := 0x0504
  len := lenIs 0
  node := onTypes [Ty.obj]
  body s _ r :=
    let x := s.objDyn (nodeIdx r.node.toNat)
    let fading := x.viewFading.foldl (fun l y => insertSlot y l) []
    answer s (leBytes 1 x.viewMembers.length ++ leBytes 1 fading.length ++ leBytes 1 x.viewDeferred ++ zeros 5
      ++ leBytes 8 x.viewStart ++ x.viewMembers.flatMap (RenSlot.entry false) ++ fading.flatMap (RenSlot.entry true))

def execRenFootprintRead (mb : Fin 8) (r : Req) (s : State) : Host.Outcome State Fault Refusal :=
  runCommand renFootprintRead mb r s

/-! ### The position queue (R237) -/

/-- POS_PACKET_DISCARDED (R238). -/
def State.discardPacket (q : Nat) (p : Bytes) (k : Nat) (s : State) : State :=
  let n := s.ren.discarded + 1
  let reason := if k = Err.length then 1 else if k = Err.range then 2 else 3
  State.raise 580 0x0504 (queueNode q)
    (evData [(0, leBytes 1 reason), (2, leBytes 2 (field p 0 2)), (4, leBytes 4 n)])
    (s.setRen { s.ren with discarded := n })

/-- A packet's payload: its fixed fields are tested as check 6 tests the command's. -/
def State.applyPacket (q : Nat) (p : Bytes) (s : State) : State :=
  let n := field p 0 2
  let k := if p.length < 8 ∨ 8168 < p.length then Err.length
    else if n < 1 ∨ 340 < n ∨ !reservedZero p [(2, 6)] then Err.range else s.batchCheck p
  if k = 0 then s.applyBatch p else s.discardPacket q p k

/-- A packet waits behind commands whose doorbells came before its commit and that touch its objects (R71, R237). -/
def State.packetWaits (s : State) (p : QPacket) : Bool :=
  let before := (s.deferred.filter fun w => w.ahead == 0).flatMap fun w => s.touches w.opcode w.req
  (batchNodes (packetBytes p)).any (s.waitingNodes ++ before).contains

/-- One packet fewer lies before the commands that wait and before an unbind. -/
def State.packetDone (s : State) : State :=
  { s with
    deferred := s.deferred.map fun w => { w with ahead := w.ahead - 1 }
    ren := { s.ren with unbinding := s.ren.unbinding.map (· - 1) } }

/-- Apply up to n packets in queue order; one that waits keeps those behind it (log 22). A standby takes them from the records
(R234). -/
def State.drainPositions (q : Nat) : Nat → State → State
  | 0, s => s
  | n + 1, s =>
    match s.popPacket q with
    | some (p, s') =>
      if p.poisoned then State.drainPositions q n (s'.dropPoison q 1 p).packetDone
      else if s.packetWaits p then s
      else State.drainPositions q n (State.applyPacket q (packetBytes p) (s'.packetDone.note (.position p)))
    | none => s

/-- POS_PACKET_APPLY: the packets committed to the bound queue are applied; then an unbind takes effect (R237). -/
def execPosPacketApply (s : State) : Host.Outcome State Fault Refusal :=
  match s.ren.posQueue with
  | some q =>
    let s := if s.following then s else s.drainPositions q s.packetsDue
    .next (if s.ren.unbinding = some 0 then s.setRen { s.ren with posQueue := none, unbinding := none } else s)
  | none => .next s

/-! ### Read-only parameters (R215, R218) -/

def State.objLive (s : State) (o pid : Nat) : Nat :=
  let x := s.objDyn o
  if pid = 16 then x.members.length + 0x100 * x.fading.length + 0x10000 * x.deferred
  else if pid = 17 then x.records else x.superseded

def State.zoneDyn (s : State) (z : Nat) : ZoneDyn := (findKey ZoneDyn.zone z s.ren.zones).getD { zone := z }

def State.zoneLive (s : State) (z pid : Nat) : Int :=
  let x := s.zoneDyn z
  if pid = 2 then
    (((s.nodesOf Ty.spk).filter fun y => y.2.state == .enabled && s.parN y.1 2 == z).length : Nat)
  else if pid = 3 then x.level else (x.clips : Nat)

end Sys2Proof.Machine
end

