-- ==== Sys2Proof/Machine/Speaker.lean ====
section
/-! DEFINITION. Loudspeaker stage: room correction, delay, gain, limiter, mute, banks, zone references (R243 to R267). -/

namespace Sys2Proof.Machine

def State.spkDyn (s : State) (k : Nat) : SpkDyn := (findKey SpkDyn.spk k s.spk.spks).getD { spk := k }
def State.setSpk (x : SpkDyn) (s : State) : State := { s with spk := { s.spk with spks := putKey SpkDyn.spk x s.spk.spks } }

def State.spkPar (s : State) (k pid : Nat) : Nat := s.parN (spkId k) pid

def SpkDyn.bank (x : SpkDyn) (b : Nat) : Bank := if b = 1 then x.bankA else if b = 2 then x.bankB else {}

def SpkDyn.setBank (b : Nat) (v : Bank) (x : SpkDyn) : SpkDyn := if b = 1 then { x with bankA := v } else { x with bankB := v }

/-! ### Arithmetic -/

/-- A value in units of 2^-54 held as Q10.54; beyond the range the spec states no result (log 24). -/
def q54 (v : Int) : Int :=
  if -9223372036854775808 ≤ v ∧ v ≤ 9223372036854775807 then v else Config.overflow54 v

/-- The target of the stage gain in units of 2^-44 (R248). -/
def State.spkGain (s : State) (k : Nat) : Int :=
  let (num, den) := pow10Rat (s.parI (spkId k) 0x101) 2000
  let g := divEven (num * 2 ^ 44 : Nat) den
  if s.spkPar k 0x102 = 1 then -g else g

/-- DELAY - LIM_LOOKAHEAD, smp (R247). -/
def State.spkDelay (s : State) (k : Nat) : Nat := s.spkPar k 0x100 - s.spkPar k 0x106

/-- Largest error of the tail's transforms in units of 2^-54: below √((2^-31)² / 48), so that its power stays within the quarter of
an ideal 32-bit rounding that R252 gives (log 6). -/
def tailErrorMax : Int := 1048576

/-- Rounding error of the tail (R246): a function of its taps, 256 on, and of the input before the partition period in which the
sample lies at place `phase`. -/
def tailNoise (phase : Nat) (taps : List (Nat × Int)) (hist : List Int) : Int :=
  let tail := taps.filter fun c => 256 ≤ c.1
  if tail.isEmpty then 0 else clampI (-tailErrorMax) tailErrorMax (Config.tailError phase tail (hist.drop (phase + 1)))

/-- Filter output of a bank on the input history, newest first, in units of 2^-85; bank 0 is the unfiltered input (R245, R246). -/
def bankOut (phase : Nat) (b : Nat) (bank : Bank) (hist : List Int) : Int :=
  if b = 0 then hist.headD 0 * 2 ^ 31
  else
    let taps := bank.coefs.filter fun c => c.1 < bank.taps
    sumI (taps.map fun c => c.2 * hist.getD c.1 0) + tailNoise phase taps hist * 2 ^ 31

/-- Cross-fade of two values at step k of n, rounded once (R247, R260). -/
def crossFade (old new : Int) (k n : Nat) : Int := divEven (old * ((n : Int) - k) + new * k) n

/-! ### One sample (R243) -/

def maxTaps : Nat := 8192

/-- The filter with its cross-fade (R260): the output, rounded once to Q10.54, and the fade's progress. -/
def SpkDyn.filter (x : SpkDyn) (phase : Nat) : Int × SpkDyn :=
  match x.fade with
  | none => (q54 (divEven (bankOut phase x.active (x.bank x.active) x.hist) (2 ^ 31)), x)
  | some (a, b, n, done) =>
    let k := min n (done + 1)
    let old := bankOut phase a (x.bank a) x.hist
    let new := bankOut phase b (x.bank b) x.hist
    (q54 (divEven (old * ((n : Int) - k) + new * k) (n * 2 ^ 31)), { x with fade := some (a, b, n, k) })

/-- The delay line with its cross-fade over 64 smp (R247). -/
def SpkDyn.delayed' (x : SpkDyn) (perSmp : Nat) : Int × SpkDyn :=
  let tap (d : Nat) : Int := x.delayed.getD (d * perSmp) 0
  match x.delayFade with
  | none => (tap x.delay, x)
  | some (a, b, done) =>
    let n := 64 * perSmp
    let k := min n (done + 1)
    (q54 (crossFade (tap a) (tap b) k n), { x with delayFade := some (a, b, k) })

/-- The stage gain moves one sample (R248). -/
def SpkDyn.moveGain (x : SpkDyn) : SpkDyn :=
  if x.kLeft = 0 then x
  else if x.kLeft = 1 then { x with k := x.kTarget, kLeft := 0 }
  else { x with k := x.k + x.kStep, kLeft := x.kLeft - 1 }

/-- The mute envelope moves one sample, in units of 1/128 (R250). -/
def moveMute (muted : Bool) (step u : Nat) : Nat := if muted then u - step else min 128 (u + step)

/-- Count a saturated sample (R244, R250, R265). -/
def State.spkClip (k peak : Nat) (s : State) : State :=
  let x := s.spkDyn k
  let s := s.setSpk { x with clips := satAdd32 x.clips 1 }
  let g := s.spk
  { s with spk := { g with
      clipsBlock := g.clipsBlock + 1, clipFirst := if g.clipsBlock = 0 then k else g.clipFirst
      peakBlock := max g.peakBlock peak } }

/-- One sample of one loudspeaker, sample j of the block (R243). -/
def State.spkSample (j : Nat) (s : State) (k : Nat) : State :=
  let id := spkId k
  let f := s.perSmp
  let feed := match s.rd.find? fun x => x.1 == id && x.2.1 == feedOutput with
    | some x => x.2.2.getD j 0
    | none => 0
  let sum := feed + s.inputSample id 0 j * 8388608
  let inp := clampI (-9223372036854775808) 9223372036854775807 sum
  let x := s.spkDyn k
  let x := { x with hist := (inp :: x.hist).take maxTaps }
  let (z, x) := x.filter ((16 * s.time.block * f + j) % 256)
  let x := { x with delayed := (z :: x.delayed).take (4800 * f + 1) }
  let (d, x) := x.delayed' f
  let x := x.moveGain
  let v := q54 (divEven (x.k * d) 17592186044416)
  let on := s.spkPar k 0x104 = 1
  let t := if on then limT (s.parI id 0x105) else 0x3F800000
  let rho := if on then limRho s.time.rate96 (s.spkPar k 0x107) else 0x3F800000
  let (lim, w) := x.lim.step on t rho 54 (s.spkPar k 0x106 * f) v
  let u := moveMute (s.spkPar k 0x103 = 1) (2 / f) x.mute
  let (y, clip) := limOut lim.g 61 (w * u)
  let s := (s.setSpk { x with lim := lim, mute := u }).produce id 0 y
  let s := if inp = sum then s else s.spkClip k (sum.natAbs / 2 ^ 38)
  if clip then s.spkClip k ((w * u).natAbs * (f32Num lim.g).toNat / (f32Den * 2 ^ 45)) else s

/-- The reference sample of a zone: its members' output words, scaled and rounded once (R216, R251). -/
def State.zoneSample (s : State) (z : Nat) : State :=
  let word (k : Nat) : Int :=
    match s.wr.find? fun x => x.1 == spkId k && x.2.1 == 0 with
    | some x => if s.running (spkId k) then x.2.2.headD 0 else 0
    | none => 0
  let sum := sumI ((s.ren.members.filter fun x => x.2 == z).map fun x => word x.1)
  let (num, den) := pow10Rat (s.parI (zoneId z) 1) 2000
  let v := divEven (sum * num) den
  let y := sat31 v
  let x := (findKey ZoneDyn.zone z s.ren.zones).getD { zone := z }
  let x := { x with clips := if y = v then x.clips else satAdd32 x.clips 1, peak := max x.peak y.natAbs }
  (s.setRen { s.ren with zones := putKey ZoneDyn.zone x s.ren.zones }).produce (zoneId z) 0 y

/-- One primary sample of the stage: every running loudspeaker, then the zone references. -/
def State.stageSample (j : Nat) (s : State) : State :=
  if s.power.state == .active then
    let s := ((s.runningOf Ty.spk).map nodeIdx).foldl (State.spkSample j) s
    ((s.runningOf Ty.zone).map nodeIdx).foldl State.zoneSample s
  else s

/-- The block that a producer made, oldest first. -/
def State.madeBlock (s : State) (n o : Nat) : List Int :=
  match s.wr.find? fun x => x.1 == n && x.2.1 == o with
  | some x => x.2.2.reverse
  | none => []

/-- A level in 0.01 dBFS of a peak in Q1.31, -32,768 for silence. -/
def peakLevel (peak : Nat) : Int := if peak = 0 then -32768 else levelOf (peak * peak) (2 ^ 62)

/-- The end of a block: levels, gain reductions, the latch of source 584. -/
def State.stageBlock (s : State) : State :=
  let g := s.spk
  let out (x : SpkDyn) : SpkDyn :=
    { x with reduction := reductionOf x.lim.g
             level := peakLevel (((s.madeBlock (spkId x.spk) 0).map Int.natAbs).foldl max 0) }
  let ref (x : ZoneDyn) : ZoneDyn := { x with level := peakLevel x.peak, peak := 0 }
  let s := { s with
    spk := { spks := g.spks.map out, clipsBlock := 0, clipFirst := 0, peakBlock := 0 }
    ren := { s.ren with zones := s.ren.zones.map ref } }
  s.blockLatch 584 0 (spkId g.clipFirst) (if g.clipsBlock = 0 then 0 else satN 0x7FFFFFFF g.peakBlock)
    (evData [(0, leBytes 4 g.clipsBlock), (8, leBytes 8 s.m)])

/-! ### Bank swap (R260, R261) -/

/-- SPK_BANK_SWAP (R265). -/
def State.bankEvent (k kind src dst replaced m : Nat) (s : State) : State :=
  s.raise 583 0x0601 (spkId k) (evData [(0, leBytes 1 kind), (1, leBytes 1 src), (2, leBytes 1 dst),
    (3, leBytes 1 replaced), (8, leBytes 8 m)])

/-- Length of a fade in samples. -/
def State.xfade (s : State) (k : Nat) : Nat := s.spkPar k 0x10A * s.perSmp

/-- The end of a fade whose last sample lies before sample m: the pending swap starts at m, or is dropped. -/
def State.bankFadeEnd (k m : Nat) (s : State) : State :=
  let x := s.spkDyn k
  match x.fade with
  | none => s
  | some (a, b, _, _) =>
    let y := { x with active := b, fade := none, pendSwap := none }
    let s := (s.setSpk y).bankEvent k 1 a b 0 (m - 1)
    match x.pendSwap with
    | none => s
    | some p =>
      if p = b then s.bankEvent k 3 b p 0 m else s.setSpk { y with fade := some (b, p, s.xfade k, 0) }

/-- Smp left of a bank fade. -/
def SpkDyn.fadeLeft (x : SpkDyn) (f : Nat) : Option Nat := x.fade.map fun y => (y.2.2.1 - y.2.2.2) / f

def State.bankFadeDue (s : State) (k : Nat) : Option Nat := ((s.spkDyn k).fadeLeft s.perSmp).map (s.m + ·)

/-- A change of ACTIVE_BANK at sample m (R261). -/
def State.swapBank (k v m : Nat) (s : State) : State :=
  if !s.running (spkId k) then s.setSpk { s.spkDyn k with active := v }
  else
    let s := if (s.spkDyn k).fadeLeft s.perSmp = some 0 then s.bankFadeEnd k m else s
    let x := s.spkDyn k
    match x.fade, x.pendSwap with
    | none, _ => if v = x.active then s else s.setSpk { x with fade := some (x.active, v, s.xfade k, 0) }
    | some _, none => s.setSpk { x with pendSwap := some v }
    | some f, some old => (s.setSpk { x with pendSwap := some v }).bankEvent k 2 f.2.1 v old m

/-! ### Delay and gain changes (R247, R248) -/

def State.delayFadeEnd (k : Nat) (s : State) : State :=
  let x := s.spkDyn k
  match x.delayFade with
  | none => s
  | some (_, b, _) =>
    let y := { x with delay := b, delayFade := none, delayWait := none }
    match x.delayWait with
    | none => s.setSpk y
    | some w => if w = b then s.setSpk y else s.setSpk { y with delayFade := some (b, w, 0) }

def SpkDyn.delayLeft (x : SpkDyn) (f : Nat) : Option Nat := x.delayFade.map fun y => (64 * f - y.2.2) / f

def State.delayFadeDue (s : State) (k : Nat) : Option Nat := ((s.spkDyn k).delayLeft s.perSmp).map (s.m + ·)

/-- DELAY or LIM_LOOKAHEAD has changed. -/
def State.moveDelay (k : Nat) (s : State) : State :=
  let s := if (s.spkDyn k).delayLeft s.perSmp = some 0 then s.delayFadeEnd k else s
  let x := s.spkDyn k
  let d := s.spkDelay k
  match x.delayFade with
  | none => if d = x.delay then s else s.setSpk { x with delayFade := some (x.delay, d, 0) }
  | some (_, b, _) => if x.delayWait.isNone && d = b then s else s.setSpk { x with delayWait := some d }

/-- TRIM or POLARITY has changed: the gain moves over 64 smp. -/
def State.moveGain (k : Nat) (s : State) : State :=
  let x := s.spkDyn k
  let t := s.spkGain k
  let n := 64 * s.perSmp
  if t = x.kTarget then s else s.setSpk { x with kTarget := t, kStep := Int.tdiv (t - x.k) n, kLeft := n }

/-- State at rest: every envelope at its target, histories clear (R261, R266). -/
def State.spkRest (k : Nat) (s : State) : State :=
  let x := s.spkDyn k
  let g := s.spkGain k
  s.setSpk { spk := k, bankA := x.bankA, bankB := x.bankB, active := s.spkPar k 0x109, delay := s.spkDelay k, k := g
             kTarget := g, mute := if s.spkPar k 0x103 = 1 then 0 else 128, clips := x.clips }

/-- The effect of a stored change of a stage parameter at sample m; in Standby the stage goes to its targets (R266). -/
def State.spkChanged (k pid v m : Nat) (s : State) : State :=
  if s.running (spkId k) && s.power.state == .standby then
    if [0x100, 0x101, 0x102, 0x103, 0x106, 0x109].contains pid then s.spkRest k else s
  else if pid = 0x109 then s.swapBank k v m
  else if !s.running (spkId k) then s
  else if pid = 0x100 || pid = 0x106 then s.moveDelay k
  else if pid = 0x101 || pid = 0x102 then s.moveGain k
  else s

/-- The loudspeaker enters the run list. -/
def State.spkBegin (k : Nat) (s : State) : State := s.spkRest k

/-- A fade ends at its target, the pending swap is cleared, and ACTIVE_BANK is what then is active (R261). -/
def State.spkSettle (k : Nat) (s : State) : State :=
  let x := s.spkDyn k
  let active := match x.fade with
    | some f => f.2.1
    | none => x.active
  ((s.setSpk { x with active := active, fade := none, pendSwap := none }).storePar (spkId k) 0x109 (leBytes 1 active)).spkRest k

def State.spkEnd (k : Nat) (s : State) : State := s.spkSettle k

/-- Standby entry (R266). -/
def State.spkStandby (s : State) : State := (s.spk.spks.map SpkDyn.spk).foldl (fun s k => s.spkSettle k) s

/-! ### Coefficient banks (R257 to R259) -/

/-- R257. -/
def State.bankLocked (s : State) (k b : Nat) : Bool :=
  let x := s.spkDyn k
  x.active == b || (match x.fade with | some f => f.1 == b || f.2.1 == b | none => false) || x.pendSwap == some b
    || s.slabs.any fun sl => sl.items.any fun c => c.node == spkId k && c.pid == 0x109 && leNat c.val == b

/-- ACTIVE_BANK names no bank, or a READY one (R254). -/
def State.bankLegal (s : State) (k v : Nat) : Bool := v = 0 || ((s.spkDyn k).bank v).state == .ready

/-- R259: taps that MAX_TAPS must keep. -/
def Bank.held (b : Bank) : Nat :=
  match b.state with
  | .ready => b.taps
  | .loading => b.top
  | .empty => 0

def State.maxTapsOk (s : State) (k v : Nat) : Bool :=
  (s.spkDyn k).bankA.held ≤ v && (s.spkDyn k).bankB.held ≤ v

/-- Write coefficients from an index on. -/
def Bank.write (first : Nat) (cs : List Int) (b : Bank) : Bank :=
  { b with
    coefs := (List.range cs.length).foldl (init := b.coefs) fun l j => setSparse 0 (first + j) (cs.getD j 0) l
    top := max b.top (first + cs.length) }

/-- n signed coefficients of a byte list. -/
def coefsOf (n : Nat) (p : Bytes) : List Int := (List.range n).map fun j => sfield p (4 * j) 4

/-- Fields that hold for every source (R257). -/
def bankFieldsOk (p : Bytes) : Bool :=
  1 ≤ field p 0 1 && field p 0 1 ≤ 2 && field p 1 1 ≤ 2 && field p 2 1 < 4 && reservedZero p [(3, 1), (10, 2), (20, 4)]
    && field p 4 2 ≤ 8191

/-- Fields whose legal values depend on the source and FINAL. -/
def bankRangeOk (p : Bytes) : Bool :=
  let source := field p 1 1
  let first := field p 4 2
  let count := field p 6 2
  let taps := field p 8 2
  let off := field p 12 4
  let len := field p 16 4
  1 ≤ count && count ≤ (if source = 0 then 2038 else 8192) && first + count ≤ 8192
    && (if bit (field p 2 1) 1 then 1 ≤ taps && taps ≤ 8192 && first + count ≤ taps else taps = 0)
    && (if source = 0 then off = 0 && len = 0
        else off % 4 = 0 && (if source = 1 then len = 0 && off + 4 * count ≤ bulkBytes
                             else 1 ≤ len && len ≤ bulkBytes && off + len ≤ bulkBytes))

/-- The coefficient bytes of a load; none where the stream is malformed or of another length. -/
def State.bankData (s : State) (mb : Nat) (p : Bytes) : Option Bytes :=
  let n := 4 * field p 6 2
  let off := field p 12 4
  if field p 1 1 = 0 then some (slice p 24 n)
  else if field p 1 1 = 1 then some (s.readBulk mb off n)
  else
    match expandStream (s.readBulk mb off (field p 16 4)) with
    | some b => if b.length = n then some b else none
    | none => none

/-- The bank after a load. -/
def bankLoaded (p : Bytes) (data : Bytes) (b : Bank) : Bank :=
  let start : Bank := if bit (field p 2 1) 0 then { state := .loading } else b
  let w := start.write (field p 4 2) (coefsOf (field p 6 2) data)
  if bit (field p 2 1) 1 then { w with state := .ready, taps := field p 8 2 } else w

def spkBankLoad : Contract where
  opcode := 0x0601
  len := lenIn 24 8176
  fixed _ _ r := bankFieldsOk r.payload
  node := onTypes [Ty.spk]
  body s mb r :=
    let p := r.payload
    let k := nodeIdx r.node.toNat
    let b := field p 0 1
    let x := s.spkDyn k
    let inlineLen := if field p 1 1 = 0 then 4 * field p 6 2 else 0
    if p.length ≠ 24 + inlineLen then failWith Err.length
    else if !bankRangeOk p then failWith Err.range
    else
      match s.bankData mb p with
      | none => failWith Err.range
      | some data =>
        let used := if field p 1 1 = 1 then 4 * field p 6 2 else field p 16 4
        if s.bankLocked k b then failWith Err.busy
        else if !bit (field p 2 1) 0 && (x.bank b).state != .loading then failWith Err.state
        else if bit (field p 2 1) 1 && s.latestN (spkId k) 0x108 < field p 8 2 then failWith Err.conflict
        else if field p 1 1 ≠ 0 && s.hitsAttachment mb (field p 12 4) used then failWith Err.conflict
        else
          let s := s.setSpk (x.setBank b (bankLoaded p data (x.bank b)))
          okay (if bit (field p 2 1) 1 then
            s.raise 582 0x0600 (spkId k) (evData [(0, leBytes 1 b), (2, leBytes 2 (field p 8 2)),
              (4, leBytes 1 (field p 1 1)), (8, leBytes 8 (16 * s.time.block))])
          else s)

def execSpkBankLoad (mb : Fin 8) (r : Req) (s : State) : Host.Outcome State Fault Refusal := runCommand spkBankLoad mb r s

def spkBankRead : Contract where
  opcode := 0x0602
  len := lenIs 8
  fixed _ _ r :=
    let p := r.payload
    1 ≤ field p 0 1 && field p 0 1 ≤ 2 && reservedZero p [(1, 1), (6, 2)] && 1 ≤ field p 4 2 && field p 4 2 ≤ 2044
  node := onTypes [Ty.spk]
  body s _ r :=
    let p := r.payload
    let x := (s.spkDyn (nodeIdx r.node.toNat)).bank (field p 0 1)
    if 8192 < field p 2 2 + field p 4 2 then failWith Err.range
    else answer s ((List.range (field p 4 2)).flatMap fun j => leSigned 4 ((getA (field p 2 2 + j) x.coefs).getD 0))

def execSpkBankRead (mb : Fin 8) (r : Req) (s : State) : Host.Outcome State Fault Refusal := runCommand spkBankRead mb r s

def spkBankClear : Contract where
  opcode := 0x0603
  len := lenIs 4
  fixed _ _ r := 1 ≤ field r.payload 0 1 && field r.payload 0 1 ≤ 2 && reservedZero r.payload [(1, 3)]
  node := onTypes [Ty.spk]
  body s _ r :=
    let k := nodeIdx r.node.toNat
    let b := field r.payload 0 1
    if s.bankLocked k b then failWith Err.busy else okay (s.setSpk ((s.spkDyn k).setBank b {}))

def execSpkBankClear (mb : Fin 8) (r : Req) (s : State) : Host.Outcome State Fault Refusal := runCommand spkBankClear mb r s

/-- An uncorrectable word of a bank: its coefficient becomes 0 (R480). -/
def State.bankWordLost (k b i : Nat) (s : State) : State :=
  let x := s.spkDyn k
  s.setSpk (x.setBank b { x.bank b with coefs := delA i (x.bank b).coefs })

/-- An uncorrectable word of a transform history or of a delay line: the sample becomes 0 (R480). -/
def State.historyLost (k i : Nat) (s : State) : State :=
  let x := s.spkDyn k
  s.setSpk { x with hist := x.hist.set i 0 }

def State.lineLost (k i : Nat) (s : State) : State :=
  let x := s.spkDyn k
  s.setSpk { x with delayed := x.delayed.set i 0 }

/-! ### Live parameters (R254) -/

def bankStateCode : BankState → Nat
  | .empty => 0
  | .loading => 1
  | .ready => 2

def State.spkLive (s : State) (k pid : Nat) : Bytes :=
  let x := s.spkDyn k
  if pid = 0x109 then leBytes 1 (match x.fade with | some f => f.2.1 | none => x.active)
  else if pid = 0x10B then
    leBytes 2 x.bankA.taps ++ leBytes 2 x.bankB.taps ++ leBytes 1 (bankStateCode x.bankA.state)
      ++ leBytes 1 (bankStateCode x.bankB.state) ++ leBytes 1 (ofBool x.fade.isSome + 2 * ofBool x.pendSwap.isSome)
      ++ leBytes 1 (x.pendSwap.getD 0xFF)
  else if pid = 0x10C then leBytes 4 x.clips
  else if pid = 0x10D then leBytes 2 x.reduction
  else leSigned 2 x.level

end Sys2Proof.Machine
end

