-- ==== Sys2Proof/Machine/Capture.lean ====
section
/-! DEFINITION. Beams, echo cancellers and the beam-energy locator (R268 to R295). -/

namespace Sys2Proof.Machine

def beamId (b : Nat) : Nat := mkNode Ty.beam b

def State.beamDyn (s : State) (b : Nat) : BeamDyn := (findKey BeamDyn.beam b s.cap.beams).getD { beam := b }
def State.setBeam (x : BeamDyn) (s : State) : State :=
  { s with cap := { s.cap with beams := putKey BeamDyn.beam x s.cap.beams } }

def State.beamPar (s : State) (b pid : Nat) : Nat := s.parN (beamId b) pid

/-- The beam runs with its canceller. -/
def State.aecOn (s : State) (b : Nat) : Bool := s.running (beamId b) && s.beamPar b 1 == 1

def BeamDyn.ref (x : BeamDyn) (r : Nat) : RefDyn := x.refs.getD r {}
def BeamDyn.setRef (r : Nat) (v : RefDyn) (x : BeamDyn) : BeamDyn := { x with refs := x.refs.set r v }

/-- The zone that feeds reference input 64 + r. -/
def State.refZone (s : State) (b r : Nat) : Option Nat := (s.sourceOf (beamId b) (64 + r)).map (·.1)

/-- A reference re-converges at sample m (R282). -/
def RefDyn.reconverging (x : RefDyn) (m : Nat) : Bool := match x.reconv with | some u => m < u | none => false

def BeamDyn.reconverging (x : BeamDyn) (m : Nat) : Bool := x.refs.any fun r => r.reconverging m

/-- Double talk holds in the block of sample m (R280). -/
def BeamDyn.doubleTalk (x : BeamDyn) (m : Nat) : Bool := match x.dtUntil with | some u => m < u | none => false

/-! ### The beam (R271, R273) -/

/-- The stored filter set: microphone input, delay and taps of every MIC_FILTER that is not at its default. -/
def State.storedSet (s : State) (b : Nat) : List (Nat × Nat × List Int) :=
  ((s.node (beamId b)).params.filter fun p => 0x1000 ≤ p.1).map fun p =>
    (p.1 - 0x1000, field p.2 0 2, (List.range 32).map fun k => sfield p.2 (4 + 4 * k) 4)

/-- Output of a filter set over the connected inputs: an exact sum in a Q10.62 accumulator that saturates at ±512, rounded once to
Q1.31 and saturated; whether it saturated. -/
def setOut (f : Nat) (fed : List Nat) (hist : List (Nat × List Int)) (set : List (Nat × Nat × List Int)) : Int × Bool :=
  let one (e : Nat × Nat × List Int) : Int :=
    let h := ((getA e.1 hist).getD []).drop (e.2.1 * f)
    sumI ((List.range 32).map fun k => e.2.2.getD k 0 * h.getD k 0)
  let acc := clampI (-2 ^ 71) (2 ^ 71 - 1) (sumI ((set.filter fun e => fed.contains e.1).map one))
  let v := divEven acc (2 ^ 31)
  (sat31 v, v < q31min || q31max < v)

/-- y at this sample, with the set fade; its progress. -/
def BeamDyn.sound (x : BeamDyn) (f : Nat) (fed : List Nat) : Int × Bool × BeamDyn :=
  let (new, c) := setOut f fed x.hist x.inUse
  match x.fade with
  | none => (new, c, x)
  | some (old, n, done) =>
    let k := min n (done + 1)
    let (o, c') := setOut f fed x.hist old
    (sat31 (crossFade o new k n), c || c', { x with fade := some (old, n, k) })

/-- A change of MIC_FILTER is in effect (R273): changes at one sample form one new set. A beam that Standby has stopped takes it
without a fade (log 21). -/
def State.micFilterChanged (b : Nat) (s : State) : State :=
  if !s.running (beamId b) then s
  else
    let x := s.beamDyn b
    let set := s.storedSet b
    if s.power.state == .standby then s.setBeam { x with inUse := set, fade := none } else
    match x.fade with
    | none =>
      if set = x.inUse then s else s.setBeam { x with inUse := set, fade := some (x.inUse, s.beamPar b 13 * s.perSmp, 0) }
    | some (old, n, done) => if done = 0 then s.setBeam { x with inUse := set, fade := some (old, n, 0) } else s

def BeamDyn.fadeLeft (x : BeamDyn) (f : Nat) : Option Nat := x.fade.map fun y => (y.2.1 - y.2.2) / f

def State.filterFadeDue (s : State) (b : Nat) : Option Nat := ((s.beamDyn b).fadeLeft s.perSmp).map (s.m + ·)

/-- A fade ends; a new one starts toward a stored set that differs. -/
def State.filterFadeEnd (b : Nat) (s : State) : State :=
  (s.setBeam { s.beamDyn b with fade := none }).micFilterChanged b

/-! ### The canceller (R276, R283) -/

/-- The taps of a filter: a cleared one, coded 0, has none that is not 0. -/
def aecTaps (w n : Nat) : List Int := if w = 0 then [] else (List.range n).map (Config.aecTap w)

/-- The echo estimate of one reference, in units of 2^-95, from its samples from the window's start on, newest first (R276). -/
def echoOf (w : Nat) (hist : List Int) : Int := sumI (List.zipWith (· * ·) (aecTaps w hist.length) hist)

/-- A filter times 10^((G1 - G2)/2000), rounded to the coefficient format (R283). -/
def scaleFilter (w : Nat) (v : Int) : Nat := if w = 0 then 0 else Config.aecScale w v

/-- A scale due by sample m is applied to a filter. -/
def RefDyn.rescale (m : Nat) (x : RefDyn) : RefDyn :=
  let due := x.scale.filter fun y => y.1 ≤ m
  { x with filter := due.foldl (fun w y => scaleFilter w y.2) x.filter, scale := x.scale.filter fun y => m < y.1 }

/-- Length of a reference history in samples: BULK_DELAY and the window. -/
def echoSpan (bulk f : Nat) : Nat := (bulk + 12000) * f

/-- One canceller sample: e, or the suppressor's output (R276, R286). -/
def State.cancel (s : State) (b j : Nat) (x : BeamDyn) : Int × Bool × BeamDyn :=
  let f := s.perSmp
  let m := s.m
  let y := match s.rd.find? fun z => z.1 == beamId b && z.2.1 == 1 with
    | some z => z.2.2.getD j 0
    | none => 0
  let bulk := s.beamPar b 2
  let hear (r : Nat) : RefDyn :=
    let c := (x.ref r).rescale m
    { c with hist := (s.inputSample (beamId b) (64 + r) j :: c.hist).take (echoSpan bulk f) }
  let refs := (List.range 8).map hear
  let echo := sumI (refs.map fun c => echoOf c.filter (c.hist.drop (bulk * f)))
  let v := divEven (y * 2 ^ 64 - echo) (2 ^ 64)
  let e := sat31 v
  let yh := divEven echo (2 ^ 64)
  let x := { x with
    refs := refs, accY := x.accY + y.natAbs * y.natAbs, accH := x.accH + yh.natAbs * yh.natAbs
    peakY := max x.peakY y.natAbs, curY := x.curY + y.natAbs * y.natAbs, curE := x.curE + e.natAbs * e.natAbs
    errs := e :: x.errs }
  if s.beamPar b 9 = 1 then
    let ceiling := if x.reconverging m then min 40 (s.beamPar b 10 + 10) else s.beamPar b 10
    let (supp, out) := Config.suppress x.supp ceiling (s.beamPar b 11 == 1) e yh (x.doubleTalk m)
    (sat31 out, e != v, { x with supp := supp })
  else (e, e != v, x)

/-- One sample of one beam, sample j of the block. -/
def State.beamSample (j : Nat) (s : State) (b : Nat) : State :=
  let f := s.perSmp
  let aec := s.beamPar b 1 = 1
  let x := s.beamDyn b
  let inputs := (x.inUse ++ match x.fade with | some y => y.1 | none => []).map (·.1)
  let fed := (s.wires.filter fun c => c.dst == beamId b && c.dstIn < 64).map (·.dstIn)
  let push (l : List (Nat × List Int)) (i : Nat) : List (Nat × List Int) :=
    setA i ((s.inputSample (beamId b) i j :: ((getA i x.hist).getD [])).take (480 * f + 32)) l
  let x := { x with hist := (fed ++ inputs.filter fun i => !fed.contains i).foldl push x.hist }
  let (y, c, x) := x.sound f fed
  let (out, c', x) := if aec then s.cancel b j x else (y, false, x)
  let x := { x with clips := satAdd32 x.clips (ofBool (c || c')), accE := x.accE + out.natAbs * out.natAbs }
  let s := s.setBeam x
  let s := if aec then s.produce (beamId b) 1 y else s
  s.produce (beamId b) 0 out

def State.captureSample (j : Nat) (s : State) : State :=
  if s.power.state == .active then ((s.runningOf Ty.beam).map nodeIdx).foldl (State.beamSample j) s else s

/-! ### The end of a block (R274, R275, R279, R280) -/

def quietBound : Nat := 679094

/-- AEC_REF_IDLE (R293): kind 1 entered, 2 left. -/
def refIdleEvent (b r kind m : Nat) (s : State) : State :=
  s.raise 645 0x0701 (beamId b) (evData [(0, leBytes 1 (64 + r)), (1, leBytes 1 kind), (8, leBytes 8 m)])

/-- Quiet count and idle state of one reference over the block that ends. -/
def State.refBlock (b : Nat) (s : State) (r : Nat) : State :=
  let x := s.beamDyn b
  let c := x.ref r
  let block := (List.range s.spb).map fun j => (s.inputSample (beamId b) (64 + r) j).natAbs
  let peak := block.foldl max 0
  let level := peakLevel peak
  if (s.refZone b r).isNone then s.setBeam (x.setRef r { c with quiet := 0, idle := false, level := level })
  else if peak < quietBound then s.setBeam (x.setRef r { c with quiet := c.quiet + 1, level := level })
  else
    let s' := s.setBeam (x.setRef r { c with quiet := 0, idle := false, level := level })
    if c.idle then refIdleEvent b r 2 (16 * s.time.block) s' else s'

/-- References that are idle in the block: unconnected, or idle after 600 quiet blocks (R279). -/
def State.idleRefs (s : State) (b : Nat) : List Nat :=
  (List.range 8).filter fun r => (s.refZone b r).isNone || ((s.beamDyn b).ref r).idle

def idleMask (l : List Nat) : Nat := sumN (l.map fun r => 2 ^ r)

/-- Power comparison and double talk of the block that ends (R280). -/
def State.doubleTalkBlock (s : State) (b : Nat) (x : BeamDyn) : BeamDyn :=
  let m := 16 * s.time.block
  let py := (x.accY :: x.py).take 8
  let ph := (x.accH :: x.pyh).take 8
  let th := s.parI (beamId b) 5 + (if x.reconverging m then 600 else 0)
  let (num, den) := pow10Rat th 1000
  let hit := sumN ph * num < sumN py * den && 2147483 < x.peakY
  let x := { x with
    py := py, pyh := ph, accY := 0, accH := 0, peakY := 0, yQuiet := x.peakY < quietBound
    dtUntil := if hit then some (m + 16 + 48 * s.beamPar b 6) else x.dtUntil }
  { x with dtInPeriod := x.dtInPeriod || hit || x.doubleTalk m
           idleInPeriod := x.idleInPeriod ++ (s.idleRefs b).filter fun r => !x.idleInPeriod.contains r }

def State.beamBlock (s : State) (b : Nat) : State :=
  let aec := s.beamPar b 1 = 1
  let s := if aec then (List.range 8).foldl (State.refBlock b) s else s
  let x := s.beamDyn b
  let x := if aec then s.doubleTalkBlock b x else x
  s.setBeam { x with level := peakLevel (((s.madeBlock (beamId b) 0).map Int.natAbs).foldl max 0) }

/-! #### The locator -/

def State.locGroup (s : State) (g : Nat) : LocGroup := s.cap.groups[g]?.getD {}
def State.setLocGroup (g : Nat) (v : LocGroup) (s : State) : State := { s with cap := { s.cap with groups := s.cap.groups.setIfInBounds g v } }

/-- Enabled beams of a group, by rising index. -/
def State.locMembers (s : State) (g : Nat) : List Nat :=
  ((s.runningOf Ty.beam).map nodeIdx).filter fun b => s.beamPar b 12 == g

/-- LOCATOR_CHANGE (R293). -/
def State.setLeader (g : Nat) (leader : Option Nat) (m : Nat) (s : State) : State :=
  let l := s.locGroup g
  (s.setLocGroup g { l with leader := leader, cand := none, lastChange := m }).raise 644 0x0700
    (match leader with | some b => beamId b | none => 0)
    (evData [(0, leBytes 1 g), (2, leBytes 2 (l.leader.getD 0xFFFF)), (8, leBytes 8 m)])

/-- The member with the largest S, ties to the lower index. -/
def State.candidate (s : State) (ms : List Nat) : Option Nat :=
  ms.foldl (init := none) fun best b =>
    match best with
    | none => some b
    | some c => if (s.beamDyn c).energy < (s.beamDyn b).energy then some b else some c

/-- N of R275. -/
def LocGroup.blocks (l : LocGroup) : Nat := max 1 (3 * l.hold)

/-- Smoothed energies, then the leader's contest, of one group. -/
def State.locBlock (s : State) (g : Nat) : State :=
  let ms := s.locMembers g
  let k := (s.locGroup g).k
  let s := ms.foldl (init := s) fun s b =>
    let x := s.beamDyn b
    s.setBeam { x with energy := x.energy + ((x.accE : Int) - x.energy) / (2 ^ k : Nat) }
  let l := s.locGroup g
  match s.candidate ms, l.leader with
  | none, _ => s
  | some c, none => if 0 < (s.beamDyn c).energy then s.setLeader g (some c) (16 * s.time.block) else s
  | some c, some lead =>
    let (num, den) := pow10Rat l.hyst 1000
    let r := divEven (num * 16777216 : Nat) den
    let leads := c != lead && (s.beamDyn lead).energy * r ≤ (s.beamDyn c).energy * 16777216
    let n := match l.cand with
      | some (c', n) => if c' = c then n else 0
      | none => 0
    s.setLocGroup g { l with cand := if leads then some (c, n + 1) else none }

/-- A leader that is no longer a member leaves its group without one, at sample m. -/
def State.dropLeaders (m : Nat) (s : State) : State :=
  (List.range 16).foldl (init := s) fun s g =>
    match (s.locGroup g).leader with
    | some b => if (s.locMembers g).contains b then s else s.setLeader g none m
    | none => s

/-- The end of a block for the capture stage. -/
def State.captureBlock (s : State) : State :=
  if s.power.state == .active then
    let s := ((s.runningOf Ty.beam).map nodeIdx).foldl State.beamBlock s
    let s := (List.range 16).foldl State.locBlock s
    let s := { s with cap := { s.cap with beams := s.cap.beams.map fun x => { x with accE := 0 } } }
    let known : Bool := (findKey Latch.key 2592 s.evq.latches).isSome
    if s.time.block % 16 == 15 && known then s.setLevel 648 0 0 false false else s
  else s

/-! ### Periods (R278, R281, R284) -/

/-- A period of the beam has ended and is not yet settled. -/
def State.periodDue (s : State) (b : Nat) : Bool :=
  s.time.pos = 0 && s.time.block % 16 = 0 && s.aecOn b && (s.beamDyn b).errs ≠ []

/-- ERLE over the last 16 periods (R284). -/
def BeamDyn.erleNow (x : BeamDyn) : Nat :=
  let py := sumN x.perY
  let pe := sumN x.perE
  if x.yQuiet || py = 0 then 0
  else if pe = 0 then 6000
  else (clampI 0 6000 (levelNearest py pe)).toNat

/-- The end of a 256-smp period: filter updates, error power, ERLE, convergence, figures for CAP_AEC_STATUS. -/
def State.adapt (b : Nat) (s : State) : State :=
  let x := s.beamDyn b
  let mu := s.beamPar b 4
  let step := if x.reconverging s.m then min 4096 (2 * mu) else mu
  let go (r : Nat) : Bool := s.beamPar b 3 == 1 && !x.dtInPeriod && !x.idleInPeriod.contains r
  let updated := (List.range 8).filter go
  let refs := (List.range 8).map fun r =>
    let c := x.ref r
    if go r then { c with filter := Config.aecUpdate c.filter step x.errs c.hist } else c
  let (num, den) := pow10Rat 300 1000
  let bad := !x.dtInPeriod && x.curY * num < x.curE * den
  let x := { x with
    refs := refs, perY := (x.curY :: x.perY).take 16, perE := (x.curE :: x.perE).take 16
    worse := if bad then x.worse + 1 else 0, updates := (x.updates + updated.length) % 2 ^ 32
    dtPeriods := (x.dtPeriods + ofBool x.dtInPeriod) % 2 ^ 32 }
  let erle := x.erleNow
  let conv := x.refs.any (·.awaitConv) && 1000 ≤ erle
  let connected := (List.range 8).filter fun r => (s.refZone b r).isSome
  let snap :=
    [BitVec.ofNat 8 (ofBool (x.doubleTalk (s.m - 1)) + 2 * ofBool (x.reconverging s.m))]
      ++ (leBytes 1 (idleMask (s.idleRefs b)) ++ leBytes 1 (idleMask connected) ++ leBytes 1 0 ++ leBytes 2 erle
      ++ leBytes 2 (Config.suppression x.supp) ++ leBytes 4 x.updates ++ leBytes 4 x.dtPeriods ++ leBytes 4 x.clears
      ++ zeros 4 ++ x.refs.flatMap fun c => leSigned 2 c.level)
  let x := { x with
    erle := erle, errs := [], curY := 0, curE := 0, dtInPeriod := false, idleInPeriod := [], snap := snap
    refs := if conv then x.refs.map fun c => { c with awaitConv := false } else x.refs }
  let s := s.setBeam x
  if conv then s.raise 647 0x0703 (beamId b) (evData [(0, leBytes 2 erle), (8, leBytes 8 s.m)]) else s

/-! ### Re-convergence (R282, R283) -/

/-- Start re-convergence of a reference at sample m. -/
def State.reconverge (b r cause m : Nat) (clear : Bool) (s : State) : State :=
  let x := s.beamDyn b
  let c := x.ref r
  let c := { c with due := none, filter := if clear then 0 else c.filter, awaitConv := false
                    reconv := some (m + 48 * s.beamPar b 8) }
  (s.setBeam (x.setRef r c)).raise 646 0x0702 (beamId b)
    (evData [(0, leBytes 1 (64 + r)), (1, leBytes 1 cause), (4, leBytes 4 ((s.refZone b r).getD 0)), (8, leBytes 8 m)])

/-- A change reaches the canceller at sample m; changes at one sample merge in the order of R283's table. -/
def State.refDue (b r cause m : Nat) (clear : Bool) (s : State) : State :=
  let x := s.beamDyn b
  let c := x.ref r
  let due := match c.due with
    | some (m', k, cl) => if m' = m then some (m, min k cause, cl || clear) else some (m, cause, clear || cl)
    | none => some (m, cause, clear)
  s.setBeam (x.setRef r { c with due := due })

/-- The references that a zone feeds, of beams with a running canceller. -/
def State.refsOfZone (s : State) (z : Nat) : List (Nat × Nat) :=
  (((s.runningOf Ty.beam).map nodeIdx).filter fun b => s.aecOn b).flatMap fun b =>
    ((List.range 8).filter fun r => s.refZone b r == some (zoneId z)).map fun r => (b, r)

/-- A zone's membership changed at sample m (R283). -/
def State.aecMembership (m : Nat) (s : State) (z : Nat) : State :=
  (s.refsOfZone z).foldl (init := s) fun s x => s.refDue x.1 x.2 1 (m + 16) (s.beamPar x.1 7 == 1)

/-- REF_GAIN of a zone changed from g1 to g2 at sample m (R283). -/
def State.aecZoneGain (z : Nat) (g1 g2 : Int) (m : Nat) (s : State) : State :=
  if g1 = g2 then s
  else (s.refsOfZone z).foldl (init := s) fun s x =>
    let y := s.beamDyn x.1
    let c := y.ref x.2
    s.setBeam (y.setRef x.2 { c with scale := c.scale ++ [(m + 16, g1 - g2)] })

/-- Source changes of reference inputs at block boundary m, given the connections before (R283). -/
def State.aecSources (before : List Conn) (m : Nat) (s : State) : State :=
  let old (b r : Nat) : Option Nat := (before.find? fun c => c.dst == beamId b && c.dstIn == 64 + r).map (·.src)
  (((s.runningOf Ty.beam).map nodeIdx).filter fun b => s.aecOn b).foldl (init := s) fun s b =>
    (List.range 8).foldl (init := s) fun s r =>
      let now := s.refZone b r
      if now = old b r then s
      else if now.isSome then s.refDue b r 2 m true
      else
        let x := s.beamDyn b
        let c := x.ref r
        s.setBeam (x.setRef r { c with filter := 0, reconv := none, due := none, scale := [] })

/-- CAP_AEC_RESET at its block boundary. -/
def State.aecReset (b mask m : Nat) (s : State) : State :=
  if s.aecOn b then
    ((List.range 8).filter fun r => bit mask r).foldl (init := s) fun s r => s.refDue b r 3 m true
  else s

/-- AEC_DIVERGED (R281). -/
def State.diverge (b : Nat) (s : State) : State :=
  let x := s.beamDyn b
  let n := (x.clears + 1) % 2 ^ 32
  let s := s.setBeam { x with refs := x.refs.map fun c => { c with filter := 0 }, worse := 0, clears := n }
  let s := s.cross 648 0 (beamId b) ((s.latch 648 0).level + 1) false (evData [(0, leBytes 4 n), (8, leBytes 8 s.m)])
  ((List.range 8).filter fun r => (s.refZone b r).isSome).foldl (init := s) fun s r => s.reconverge b r 4 s.m true

/-! ### Life cycle (R290, R294) -/

/-- Fresh canceller state; what survives an enable is the locator's S and CLIPS. -/
def State.beamBegin (b m : Nat) (s : State) : State :=
  let x := s.beamDyn b
  s.setBeam { beam := b, inUse := s.storedSet b, supp := Config.suppressSeed b m, clips := x.clips, energy := x.energy
              begunAt := m }

def State.beamEnd (b m : Nat) (s : State) : State :=
  let x := s.beamDyn b
  State.dropLeaders m (s.setBeam { beam := b, clips := x.clips, energy := x.energy })

/-- Standby entry: filters are kept, decisions start afresh. -/
def State.captureStandby (s : State) : State :=
  let calm (x : BeamDyn) : BeamDyn :=
    { beam := x.beam, inUse := x.inUse, refs := x.refs.map fun c => { filter := c.filter }, updates := x.updates
      dtPeriods := x.dtPeriods, clears := x.clears, supp := Config.suppressSeed x.beam x.begunAt, clips := x.clips, energy := x.energy, snap := x.snap
      begunAt := x.begunAt }
  let s := { s with cap := { s.cap with beams := s.cap.beams.map calm } }
  (s.runningOf Ty.beam).foldl (init := s) fun s id =>
    s.setBeam { s.beamDyn (nodeIdx id) with inUse := s.storedSet (nodeIdx id) }

/-- Enabled beams with AEC_MODE 1 (R290). -/
def State.aecCount (s : State) : Nat :=
  ((s.nodesOf Ty.beam).filter fun x => x.2.state == .enabled && s.latestN x.1 1 == 1).length

/-- Distinct sources on beam microphone inputs (R269). -/
def captureSources (l : List Conn) : List (Nat × Nat) :=
  ((l.filter fun c => nodeType c.dst == Ty.beam && c.dstIn < 64).map fun c => (c.src, c.srcOut)).eraseDups

/-! ### Commands -/

def capLocatorConfig : Contract where
  opcode := 0x0701
  len := lenIs 8
  fixed _ _ r :=
    let p := r.payload
    field p 0 1 ≤ 15 && field p 1 1 ≤ 12 && field p 2 2 ≤ 2000 && field p 4 2 ≤ 10000 && reservedZero p [(6, 2)]
  node := onCp
  body s _ r :=
    let p := r.payload
    okay (s.atBoundary (.locator (field p 0 1) (field p 1 1) (field p 2 2) (field p 4 2)))

def execCapLocatorConfig (mb : Fin 8) (r : Req) (s : State) : Host.Outcome State Fault Refusal :=
  runCommand capLocatorConfig mb r s

/-- The leader's S as 10 log₁₀(S / 16) in 0.01 dB; of no leader or an S of 0 the spec states no level (log 6). -/
def State.leaderLevel (s : State) (g : Nat) : Int :=
  match (s.locGroup g).leader with
  | some b => if 0 < (s.beamDyn b).energy then levelOf (s.beamDyn b).energy.toNat (16 * 2 ^ 62) else Config.silentLevel
  | none => Config.silentLevel

def capLocatorRead : Contract where
  opcode := 0x0702
  len := lenIs 4
  fixed _ _ r := field r.payload 0 1 ≤ 15 && reservedZero r.payload [(1, 3)]
  node := onCp
  body s _ r :=
    let g := field r.payload 0 1
    let l := s.locGroup g
    answer s (leBytes 2 (l.leader.getD 0xFFFF) ++ leBytes 2 (s.locMembers g).length ++ leSigned 2 (s.leaderLevel g)
      ++ zeros 2 ++ leBytes 8 l.lastChange)

def execCapLocatorRead (mb : Fin 8) (r : Req) (s : State) : Host.Outcome State Fault Refusal :=
  runCommand capLocatorRead mb r s

def capAecReset : Contract where
  opcode := 0x0703
  len := lenIs 4
  fixed _ _ r := field r.payload 0 1 ≠ 0 && reservedZero r.payload [(1, 3)]
  node := onTypes [Ty.beam]
  standby := false
  body s _ r :=
    let id := r.node.toNat
    if !s.enabled id || s.latestN id 1 = 0 then failWith Err.state
    else okay (s.atBoundary (.aecReset (nodeIdx id) (field r.payload 0 1)))

def execCapAecReset (mb : Fin 8) (r : Req) (s : State) : Host.Outcome State Fault Refusal := runCommand capAecReset mb r s

/-- CAP_AEC_STATUS of a beam. -/
def BeamDyn.status (x : BeamDyn) : Bytes :=
  if x.snap.isEmpty then zeros 24 ++ (List.replicate 8 (leSigned 2 (-32768))).flatten else x.snap

def capAecStatus : Contract where
  opcode := 0x0704
  len := lenIs 0
  node := onTypes [Ty.beam]
  body s _ r :=
    let id := r.node.toNat
    let x := s.beamDyn (nodeIdx id)
    if s.latestN id 1 = 0 then failWith Err.state
    else answer s x.status

def execCapAecStatus (mb : Fin 8) (r : Req) (s : State) : Host.Outcome State Fault Refusal := runCommand capAecStatus mb r s

/-! ### Live parameters (R270) -/

def State.beamLive (s : State) (b pid : Nat) : Bytes :=
  let x := s.beamDyn b
  if pid = 16 then
    let connected := (List.range 8).filter fun r => (s.refZone b r).isSome
    leBytes 1 (ofBool (s.aecOn b) + 2 * ofBool (x.doubleTalk (16 * s.time.block)) + 4 * ofBool (x.reconverging s.m)
      + 8 * ofBool x.fade.isSome) ++ leBytes 1 (idleMask (s.idleRefs b)) ++ leBytes 1 (idleMask connected) ++ [0]
  else if pid = 17 then leBytes 2 x.erle
  else if pid = 18 then leSigned 2 x.level
  else leBytes 4 x.clips

end Sys2Proof.Machine
end

