-- ==== Sys2Proof/Machine/EthFrame.lean ====
section
/-! DEFINITION. Frames as the ports carry them: Ethernet and 802.1Q headers, IPv4 and IPv6, UDP, ARP, ICMP, neighbour
discovery, membership reports, RTP and RTCP headers. Header fields that neither the spec nor the standard it names fixes are in
log 25. -/

namespace Sys2Proof.Machine

def be (b : Bytes) (off n : Nat) : Nat := beNat (slice b off n)

/-! ### Checksums -/

/-- Sum of 16-bit big-endian words, an odd last byte padded. -/
def sum16 : Bytes → Nat
  | [] => 0
  | [a] => a.toNat * 256
  | a :: b :: r => a.toNat * 256 + b.toNat + sum16 r

/-- One's complement fold; three rounds cover every frame. -/
def fold16 (n : Nat) : Nat :=
  let a := n / 65536 + n % 65536
  let b := a / 65536 + a % 65536
  b / 65536 + b % 65536

def checksum (b : Bytes) : Nat := 65535 - fold16 (sum16 b)

/-- A region with its checksum in place sums to all ones. -/
def checksumOk (b : Bytes) : Bool := fold16 (sum16 b) == 65535

/-! ### Addresses -/

/-- Sixteen bytes with an IPv4 address in bytes 0 to 3 and the rest 0 (R304). -/
def isV4 (a : Bytes) : Bool := (a.drop 4).all (· == 0)

/-- An address as it stands on the wire: 4 or 16 bytes. -/
def wireIp (a : Bytes) : Bytes := if isV4 a then a.take 4 else a

def isMulticastIp (ip : Bytes) : Bool := if ip.length = 4 then be ip 0 1 / 16 = 14 else be ip 0 1 = 255

/-- Ethernet address of a multicast group. -/
def multicastMac (ip : Bytes) : Bytes :=
  if ip.length = 4 then [0x01, 0x00, 0x5E] ++ beBytes 3 (be ip 1 3 % 0x800000) else [0x33, 0x33] ++ ip.drop 12

def broadcastMac : Bytes := List.replicate 6 0xFF

/-- Modified EUI-64 link-local address (R299). -/
def linkLocal (mac : Bytes) : Bytes :=
  [0xFE, 0x80] ++ zeros 6 ++ [(mac.getD 0 0) ^^^ 2#8] ++ slice mac 1 2 ++ [0xFF, 0xFE] ++ mac.drop 3

/-- Solicited-node group of an IPv6 address. -/
def solicitedNode (ip : Bytes) : Bytes := [0xFF, 0x02] ++ zeros 9 ++ [0x01, 0xFF] ++ ip.drop 13

/-- Two addresses agree in their first n bits. -/
def samePrefix (n : Nat) (a b : Bytes) : Bool :=
  let w := 8 * a.length - n
  a.length == b.length && beNat a / 2 ^ w == beNat b / 2 ^ w

/-! ### Building -/

/-- An Ethernet frame without FCS. -/
def ethFrame (dst src : Bytes) (vlan pcp type : Nat) (body : Bytes) : Bytes :=
  dst ++ src ++ (if vlan = 0 then [] else beBytes 2 0x8100 ++ beBytes 2 (pcp * 8192 + vlan)) ++ beBytes 2 type ++ body

def ipv4 (dscp proto ttl : Nat) (options src dst body : Bytes) : Bytes :=
  let len := 20 + options.length
  let h := beBytes 1 (0x40 + len / 4) ++ beBytes 1 (dscp * 4) ++ beBytes 2 (len + body.length) ++ beBytes 4 0x4000
    ++ beBytes 1 ttl ++ beBytes 1 proto
  let sum := checksum (h ++ src ++ dst ++ options)
  h ++ beBytes 2 sum ++ src ++ dst ++ options ++ body

def ipv6 (dscp next hops : Nat) (src dst body : Bytes) : Bytes :=
  beBytes 4 (0x60000000 + dscp * 0x400000) ++ beBytes 2 body.length ++ beBytes 1 next ++ beBytes 1 hops ++ src ++ dst ++ body

/-- Pseudo header of an upper-layer checksum. -/
def pseudo (proto len : Nat) (src dst : Bytes) : Bytes :=
  if src.length = 4 then src ++ dst ++ [0] ++ beBytes 1 proto ++ beBytes 2 len
  else src ++ dst ++ beBytes 4 len ++ zeros 3 ++ beBytes 1 proto

/-- UDP over IPv4 or IPv6, by the addresses' length. -/
def udpPacket (dscp sport dport : Nat) (src dst body : Bytes) : Bytes :=
  let len := 8 + body.length
  let h := beBytes 2 sport ++ beBytes 2 dport ++ beBytes 2 len
  let c := checksum (pseudo 17 len src dst ++ h ++ [0, 0] ++ body)
  let u := h ++ beBytes 2 (if c = 0 then 65535 else c) ++ body
  if src.length = 4 then ipv4 dscp 17 64 [] src dst u else ipv6 dscp 17 64 src dst u

def etherOf (ip : Bytes) : Nat := if ip.length = 4 then 0x0800 else 0x86DD

/-- ICMPv6 message: type, code and body, checksum filled in. -/
def icmp6 (type code : Nat) (src dst body : Bytes) : Bytes :=
  let h := beBytes 1 type ++ beBytes 1 code
  h ++ beBytes 2 (checksum (pseudo 58 (4 + body.length) src dst ++ h ++ [0, 0] ++ body)) ++ body

def icmp4 (type code : Nat) (body : Bytes) : Bytes :=
  let h := beBytes 1 type ++ beBytes 1 code
  h ++ beBytes 2 (checksum (h ++ [0, 0] ++ body)) ++ body

/-- An ARP packet for Ethernet and IPv4. -/
def arp (op : Nat) (sha spa tha tpa : Bytes) : Bytes :=
  beBytes 2 1 ++ beBytes 2 0x0800 ++ [6, 4] ++ beBytes 2 op ++ sha ++ spa ++ tha ++ tpa

/-- A membership report for one group: filter-mode change to exclude none (join), or include none (leave). -/
def igmpReport (join : Bool) (source : Option Bytes) (group : Bytes) : Bytes :=
  let kind := match source with
    | some _ => if join then 5 else 6
    | none => if join then 4 else 3
  let srcs := source.getD []
  let body := beBytes 2 0 ++ beBytes 2 1 ++ beBytes 1 kind ++ [0] ++ beBytes 2 (srcs.length / 4) ++ group ++ srcs
  beBytes 1 0x22 ++ [0] ++ beBytes 2 (checksum ([0x22, 0, 0, 0] ++ body)) ++ body

/-- The body of an MLDv2 report for one group. -/
def mldBody (join : Bool) (source : Option Bytes) (group : Bytes) : Bytes :=
  let kind := match source with
    | some _ => if join then 5 else 6
    | none => if join then 4 else 3
  let srcs := source.getD []
  beBytes 2 0 ++ beBytes 2 1 ++ beBytes 1 kind ++ [0] ++ beBytes 2 (srcs.length / 16) ++ group ++ srcs

/-- RTP header and payload. -/
def rtpPacket (marker : Bool) (pt seq ts ssrc : Nat) (payload : Bytes) : Bytes :=
  beBytes 1 0x80 ++ beBytes 1 (ofBool marker * 128 + pt) ++ beBytes 2 seq ++ beBytes 4 ts ++ beBytes 4 ssrc ++ payload

/-! ### Parsing -/

/-- A received frame: addresses, VLAN, whether tags are stacked, Ethertype and what follows it. -/
structure Parsed where
  dst : Bytes
  src : Bytes
  vlan : Nat
  stacked : Bool
  type : Nat
  body : Bytes
  deriving DecidableEq, Repr, Inhabited

def parseEth (b : Bytes) : Parsed :=
  let t := be b 12 2
  let tagged := t = 0x8100
  let inner := if tagged then be b 16 2 else t
  { dst := b.take 6, src := slice b 6 6, vlan := if tagged then be b 14 2 % 4096 else 0
    stacked := t = 0x88A8 || (tagged && inner = 0x8100), type := inner, body := b.drop (if tagged then 18 else 14) }

/-- An IP packet: addresses, upper protocol, its bytes, and whether the header is one that the device handles (R300). -/
structure Ip where
  src : Bytes
  dst : Bytes
  proto : Nat
  body : Bytes
  plain : Bool
  sumOk : Bool
  deriving DecidableEq, Repr, Inhabited

def parseIp (type : Nat) (b : Bytes) : Ip :=
  if type = 0x0800 then
    let ihl := be b 0 1 % 16
    let fragment := be b 6 2 % 16384
    let total := be b 2 2
    { src := slice b 12 4, dst := slice b 16 4, proto := be b 9 1, body := (b.take total).drop (4 * ihl)
      plain := be b 0 1 / 16 = 4 && ihl = 5 && fragment = 0, sumOk := checksumOk (b.take (4 * ihl)) }
  else
    let next := be b 6 1
    let mld := next = 0 && be b 40 1 = 58 && [130, 131, 132, 143].contains (be b (40 + 8 * (be b 41 1 + 1)) 1)
    let skip := if mld then 8 * (be b 41 1 + 1) else 0
    { src := slice b 8 16, dst := slice b 24 16, proto := if mld then 58 else next
      body := (b.take (40 + be b 4 2)).drop (40 + skip)
      plain := be b 0 1 / 16 = 6 && (mld || !([0, 43, 44, 50, 51, 60, 135, 139, 140].contains next)), sumOk := true }

/-- The UDP checksum of a received datagram (R300): IPv4 may leave it out. -/
def udpSumOk (p : Ip) : Bool :=
  if be p.body 6 2 = 0 then p.src.length = 4 else checksumOk (pseudo 17 p.body.length p.src p.dst ++ p.body)

/-- A received RTP packet. -/
structure Rtp where
  pt : Nat
  marker : Bool
  seq : Nat
  ts : Nat
  ssrc : Nat
  payload : Bytes
  deriving DecidableEq, Repr, Inhabited

/-- Parse an RTP packet of version 2; `none` when it is malformed. -/
def parseRtp (b : Bytes) : Option Rtp :=
  let cc := be b 0 1 % 16
  let ext := be b 0 1 / 16 % 2 = 1
  let pad := be b 0 1 / 32 % 2 = 1
  let at_ := 12 + 4 * cc
  let at_ := if ext then at_ + 4 + 4 * be b (at_ + 2) 2 else at_
  let tail := if pad then (b.getLastD 0).toNat else 0
  if be b 0 1 / 64 ≠ 2 || b.length < at_ + tail then none
  else some { pt := be b 1 1 % 128, marker := be b 1 1 / 128 = 1, seq := be b 2 2, ts := be b 4 4, ssrc := be b 8 4
              payload := (b.take (b.length - tail)).drop at_ }

/-- The RTCP packets of a compound packet: type, count field and content. -/
def parseRtcp : Nat → Bytes → List (Nat × Nat × Bytes)
  | 0, _ => []
  | f + 1, b =>
    if b.length < 4 || be b 0 1 / 64 ≠ 2 then []
    else
      let n := 4 * (be b 2 2 + 1)
      (be b 1 1, be b 0 1 % 32, slice b 4 (n - 4)) :: parseRtcp f (b.drop n)

/-- An RTCP packet of a type with its count field. -/
def rtcpPacket (type count : Nat) (body : Bytes) : Bytes :=
  beBytes 1 (0x80 + count) ++ beBytes 1 type ++ beBytes 2 (body.length / 4) ++ body

end Sys2Proof.Machine
end

