-- ==== Sys2Proof/Machine/Streams.lean ====
section
/-! DEFINITION. Interfaces, next hops, SRTP, jitter buffers and the two kinds of stream (R299 to R323). -/

namespace Sys2Proof.Machine

def ethId (p : Nat) : Nat := mkNode Ty.eth p

def State.port (s : State) (p : Nat) : EthPort := s.eth.ports[p]?.getD {}
def State.setPort (p : Nat) (x : EthPort) (s : State) : State := { s with eth := { s.eth with ports := s.eth.ports.setIfInBounds p x } }
def State.iface (s : State) (p i : Nat) : Iface := (s.port p).ifs.getD i {}

def State.countPort (p : Nat) (f : EthCount → EthCount) (s : State) : State :=
  s.setPort p { s.port p with cnt := f (s.port p).cnt }

def State.ethPar (s : State) (p pid : Nat) : Bytes := s.par (ethId p) pid

/-- The port runs and its link is up (R298). -/
def State.linkUp (s : State) (p : Nat) : Bool := s.running (ethId p) && 1 ≤ (s.port p).link

/-- Station address of an interface: VMAC_ADDR when it is pair-shared (R299). -/
def State.ifMac (s : State) (p i : Nat) : Bytes := s.ethPar p (if (s.iface p i).shared then 4 else 3)

/-- Source address of a family on an interface. -/
def Iface.ip (x : Iface) (v4 : Bool) : Bytes := if v4 then x.ip4 else x.ip6

/-- Send a frame: nothing leaves while the link is down, nor on a pair-shared interface without the token; `own` frames
carry the device's own address (R298, R323, R453). -/
def State.sendFrame (p i : Nat) (own : Bool) (b : Bytes) (s : State) : State :=
  if s.linkUp p && (own || !(s.iface p i).shared || s.drivesOutputs) then
    (s.countPort p fun c => { c with tx := satAdd32 c.tx 1 }).emit (.frame p b)
  else s

/-! ### Call channels that streams feed (R330) -/

def callId (c : Nat) : Nat := mkNode Ty.call c

def State.callDyn (s : State) (c : Nat) : CallDyn := (findKey CallDyn.ch c s.voice.calls).getD { ch := c }
def State.setCall (x : CallDyn) (s : State) : State :=
  { s with voice := { s.voice with calls := putKey CallDyn.ch x s.voice.calls } }

/-- The codec parameters of a call node. -/
def State.codecSet (s : State) (id : Nat) : CodecNow :=
  { codec := s.parN id 1, linear := s.parN id 3, vad := s.parN id 5, bitrate := s.parN id 6, rxPt := s.parN id 4 }

/-- The codec in force in the receive and the send direction of a call node (R338). -/
def State.rxCodec (s : State) (id : Nat) : CodecNow := if s.running id then (s.callDyn (nodeIdx id)).rxNow else s.codecSet id
def State.txCodec (s : State) (id : Nat) : CodecNow := if s.running id then (s.callDyn (nodeIdx id)).txNow else s.codecSet id

/-! ### Next hops (R301) -/

def hopCacheSize : Nat := 4096

/-- Next-hop address of a destination on an interface; `none` when it is off-link without a gateway. -/
def Iface.nextHop (x : Iface) (dst : Bytes) : Option Bytes :=
  let v4 := dst.length = 4
  let onLink := if v4 then samePrefix x.prefix4 x.ip4 dst else samePrefix x.prefix6 x.ip6 dst || be dst 0 2 / 64 = 0x3FA
  let gw := if v4 then x.gw4 else x.gw6
  if onLink then some dst else if gw.all (· == 0) then none else some gw

def State.hop? (s : State) (p i : Nat) (ip : Bytes) : Option Hop :=
  s.eth.cache.find? fun h => h.port == p && h.iface == i && h.ip == ip

/-- Ask for the link address of a next hop: an ARP request or a Neighbor Solicitation. -/
def State.askHop (p i : Nat) (ip : Bytes) (s : State) : State :=
  let x := s.iface p i
  let mac := s.ifMac p i
  let pkt :=
    if ip.length = 4 then ethFrame broadcastMac mac x.vlan x.pcp 0x0806 (arp 1 mac x.ip4 (zeros 6) ip)
    else
      let g := solicitedNode ip
      ethFrame (multicastMac g) mac x.vlan x.pcp 0x86DD
        (ipv6 0 58 255 x.ip6 g (icmp6 135 0 x.ip6 g (zeros 4 ++ ip ++ [1, 1] ++ mac)))
  s.sendFrame p i false pkt

def State.streamDyn (s : State) (n : Nat) : StreamDyn := (findKey StreamDyn.node n s.eth.streams).getD { node := n }
def State.setStream (x : StreamDyn) (s : State) : State :=
  { s with eth := { s.eth with streams := putKey StreamDyn.node x s.eth.streams } }

/-- The stream engine has decided something on a stream: the record carries it, with the sequence number of the packet that led to
it (R322). -/
def State.noteStream (n seq : Nat) (s : State) : State :=
  s.note (.stream { node := n, seq := seq, arrival := s.time.net, ticks := s.time.ticks, after := s.streamDyn n })

def isRtp (n : Nat) : Bool := nodeType n == Ty.rtp

def State.streamPort (s : State) (n : Nat) : Nat := s.parN n 1
def State.streamIf (s : State) (n : Nat) : Nat := s.parN n 2

/-- The stream receives, or sends. -/
def State.receives (s : State) (n : Nat) : Bool := bit (s.parN n 3) 0
def State.sends (s : State) (n : Nat) : Bool := bit (s.parN n 3) 1

/-- Destination of a sending stream: address on the wire and UDP port. -/
def State.streamDst (s : State) (n : Nat) : Bytes × Nat :=
  if isRtp n then (wireIp (s.par n 7), s.parN n 6) else (wireIp (s.par n 9), s.parN n 11)

/-- STREAM_NO_ROUTE (R327). -/
def State.routeEvent (n kind : Nat) (s : State) : State :=
  s.raise 708 0x0808 n (evData [(0, leBytes 1 kind), s.mBytes])

/-- Give a stream its next hop; a report that it was unresolved is followed by kind 2. -/
def State.setHop (n : Nat) (mac : Bytes) (s : State) : State :=
  let x := s.streamDyn n
  let s := s.setStream { x with hop := some mac, noRoute := false }
  if x.noRoute then s.routeEvent n 2 else s

/-- Resolve the next hop of a sending stream, from its enable or a new address on. -/
def State.resolve (n : Nat) (s : State) : State :=
  let p := s.streamPort n
  let i := s.streamIf n
  let dst := (s.streamDst n).1
  if isMulticastIp dst then s.setHop n (multicastMac dst)
  else
    match (s.iface p i).nextHop dst with
    | none => s.setStream { s.streamDyn n with hop := none, noHopSince := s.time.ticks }
    | some ip =>
      match s.hop? p i ip with
      | some h => s.setHop n h.mac
      | none =>
        (s.setStream { s.streamDyn n with hop := none, noHopSince := s.time.ticks, askedAt := s.time.ticks }).askHop p i ip

/-- The next hop of a stream, as its cache key. -/
def State.hopOf (s : State) (n : Nat) : Option (Nat × Nat × Bytes) :=
  let dst := (s.streamDst n).1
  if isMulticastIp dst then none
  else ((s.iface (s.streamPort n) (s.streamIf n)).nextHop dst).map fun ip => (s.streamPort n, s.streamIf n, ip)

/-- Streams the engines run. -/
def State.runningStreams (s : State) : List Nat := s.runningOf Ty.rtp ++ s.runningOf Ty.aes

/-- An entry becomes the most recently used one; the least recently used of more than 4096 goes (R326). -/
def State.useHop (h : Hop) (s : State) : State :=
  let rest := s.eth.cache.filter fun y => !(y.port == h.port && y.iface == h.iface && y.ip == h.ip)
  { s with eth := { s.eth with cache := (h :: rest).take hopCacheSize } }

/-- A link address is known: the streams that go there have their next hop. -/
def State.resolved (h : Hop) (s : State) : State :=
  let s := s.useHop h
  (s.runningStreams.filter fun n => s.sends n && s.hopOf n == some (h.port, h.iface, h.ip)).foldl (init := s) fun s n =>
    s.setHop n h.mac

/-- Learn a link address; a standby in lockstep learns what the primary's records tell it (R322). -/
def State.learn (p i : Nat) (ip mac : Bytes) (s : State) : State :=
  let h : Hop := { port := p, iface := i, ip := ip, mac := mac, time := s.time.ticks }
  if s.following then s else (s.resolved h).note (.hop h s.time.ticks)

def reachableTime : Nat := 30 * smpPerSecond

/-- Before a packet of a stream: an unresolved hop is asked for once a second, a reachable time that is over starts a probe
of the entry, which stays in use (RFC 4861). A hop that the cache no longer holds is resolved again. -/
def State.refreshHop (n : Nat) (s : State) : State :=
  let x := s.streamDyn n
  match s.hopOf n with
  | none => s
  | some (p, i, ip) =>
    match s.hop? p i ip with
    | some h =>
      let now := s.time.ticks
      if h.time + reachableTime ≤ now then (s.useHop { h with time := now }).askHop p i ip else s.useHop h
    | none =>
      if x.hop.isSome then
        (s.setStream { x with hop := none, noHopSince := s.time.ticks, askedAt := s.time.ticks }).askHop p i ip
      else if x.askedAt + smpPerSecond ≤ s.time.ticks then
        (s.setStream { x with askedAt := s.time.ticks }).askHop p i ip
      else s

/-! ### Multicast membership (R301, R323) -/

/-- Send a membership report on an interface. On a pair-shared interface without the token it carries the device's own
address. -/
def State.report (p i : Nat) (join : Bool) (source : Option Bytes) (group : Bytes) (s : State) : State :=
  let x := s.iface p i
  let plain := x.shared && !s.drivesOutputs
  let mac := if plain then s.ethPar p 3 else s.ifMac p i
  if group.length = 4 then
    let src := if plain then zeros 4 else x.ip4
    let dst : Bytes := [224, 0, 0, 22]
    s.sendFrame p i true (ethFrame (multicastMac dst) mac x.vlan x.pcp 0x0800
      (ipv4 48 2 1 [0x94, 4, 0, 0] src dst (igmpReport join source group)))
  else
    let src := linkLocal mac
    let dst : Bytes := [0xFF, 0x02] ++ zeros 13 ++ [0x16]
    let body := icmp6 143 0 src dst (mldBody join source group)
    s.sendFrame p i true (ethFrame (multicastMac dst) mac x.vlan x.pcp 0x86DD
      (ipv6 48 0 1 src dst ([58, 0, 5, 2, 0, 0, 1, 0] ++ body)))

/-- Group and source filter of a receiving AES67 stream that joins one. -/
def State.groupOf (s : State) (n : Nat) : Option (Nat × Nat × Bytes) :=
  let g := s.par n 9
  if nodeType n = Ty.aes && s.receives n && g.any (· != 0) && isMulticastIp (wireIp g) then
    some (s.streamPort n, s.streamIf n, wireIp g)
  else none

def State.sourceFilter (s : State) (n : Nat) : Option Bytes :=
  let f := s.par n 10
  if f.all (· == 0) then none else some (wireIp f)

def State.join (n : Nat) (s : State) : State :=
  match s.groupOf n with
  | some g => State.report g.1 g.2.1 true (s.sourceFilter n) g.2.2 { s with eth := { s.eth with groups := g :: s.eth.groups } }
  | none => s

/-- Leave a group; one of its memberships goes. -/
def State.leave (n : Nat) (s : State) : State :=
  match s.groupOf n with
  | some g =>
    let s := { s with eth := { s.eth with groups := s.eth.groups.erase g } }
    if s.eth.groups.contains g then s else s.report g.1 g.2.1 false (s.sourceFilter n) g.2.2
  | none => s

/-! ### SRTP (R307 to R309) -/

/-- STREAM_KEY_CHANGED (R327). -/
def State.keyEvent (n dir kind index : Nat) (s : State) : State :=
  s.raise 709 0x0809 n (evData [(0, leBytes 1 dir), (1, leBytes 1 kind), (2, leBytes 6 index)])

/-- The send key for a packet index, switching to a pending key that has come into effect; whether it switched. -/
def SrtpDir.sendKey (d : SrtpDir) (index : Nat) : Option SrtpKey × SrtpDir × Bool :=
  match d.pend with
  | some (k, eff) => if eff ≤ index then (some k, { d with cur := some k, pend := none, since := eff }, true) else (d.cur, d, false)
  | none => (d.cur, d, false)

/-- The receive key for a packet index and whether it is the pending one. -/
def SrtpDir.recvKey (d : SrtpDir) (index : Nat) : Option SrtpKey × Bool :=
  match d.pend with
  | some (k, eff) => if eff ≤ index then (some k, true) else (if index < d.since && d.old.isSome then d.old else d.cur, false)
  | none => (if index < d.since && d.old.isSome then d.old else d.cur, false)

/-- Index of a received sequence number, by RFC 3711's estimate. -/
def SrtpDir.guess (d : SrtpDir) (seq : Nat) : Nat :=
  if d.seen.isEmpty then d.index / 65536 * 65536 + seq
  else (d.index + toSigned 2 ((seq + 65536 - d.index % 65536) % 65536) : Int).toNat

/-- After an authenticated packet: index, window, key switch; `none` stays for the caller to count. -/
def SrtpDir.accept (d : SrtpDir) (index : Nat) (pending : Bool) : SrtpDir :=
  let d := match pending, d.pend with
    | true, some (k, eff) => { d with old := d.cur, cur := some k, since := eff, pend := none }
    | _, _ => d
  let top := if d.seen.isEmpty then index else max d.index index
  let d := { d with index := top, seen := (index :: d.seen).filter fun i => top < i + 128 }
  if d.since + 128 ≤ index then { d with old := none } else d

def SrtpDir.replayed (d : SrtpDir) (index : Nat) : Bool :=
  !d.seen.isEmpty && (index + 128 ≤ d.index || d.seen.contains index)

/-- A direction holds a key, in effect or waiting for its effective index. -/
def SrtpDir.keyed (d : SrtpDir) : Bool := d.cur.isSome || d.pend.isSome

/-- The suite that a direction holds. -/
def SrtpDir.suite? (d : SrtpDir) : Option Nat :=
  match d.cur with
  | some k => some k.suite
  | none => d.pend.map (·.1.suite)

def State.srtpOn (s : State) (n : Nat) : Bool := if isRtp n then bit (s.parN n 4) 1 else bit (s.parN n 12) 0

/-! ### Sending (R314, R319, R320) -/

/-- Wrap a datagram of a stream for its interface. -/
def State.streamFrame (s : State) (n sport dport : Nat) (mac body : Bytes) : Bytes :=
  let p := s.streamPort n
  let x := s.iface p (s.streamIf n)
  let dst := (s.streamDst n).1
  ethFrame mac (s.ifMac p (s.streamIf n)) x.vlan x.pcp (etherOf dst)
    (udpPacket (if isRtp n then s.parN n 11 else s.parN n 8) sport dport (x.ip (dst.length = 4)) dst body)

/-- A stream's frame leaves unless the device is the standby of a pair, whatever the interface (R320, R323). -/
def State.emitStream (n : Nat) (b : Bytes) (s : State) : State :=
  if s.drivesOutputs then s.sendFrame (s.streamPort n) (s.streamIf n) false b else s

/-- Produce one packet: it takes the next sequence number, and leaves if the link, the next hop and the key allow it. -/
def State.sendRtp (n : Nat) (marker : Bool) (pt ts : Nat) (payload : Bytes) (s : State) : State :=
  let s := s.refreshHop n
  let s := if isRtp n && s.pair.compareMode != 0 then
      { s with pair := { s.pair with rtpOut := s.pair.rtpOut ++ payload } } else s
  let x := s.streamDyn n
  let init := s.parN n (if isRtp n then 12 else 15)
  let seq := if x.begun then x.nextSeq else init
  let index := if x.begun then x.tx.index else x.tx.index / 65536 * 65536 + init
  let plain := rtpPacket marker pt seq ts (s.parN n (if isRtp n then 8 else 13)) payload
  let (key, tx, switched) := x.tx.sendKey index
  let body : Option Bytes :=
    if !s.srtpOn n then some plain
    else if tx.exhausted then none
    else key.map fun k => Config.srtpProtect k.suite k.key index plain
  let out := if s.linkUp (s.streamPort n) then (match body, x.hop with | some b, some mac => some (b, mac) | _, _ => none) else none
  let last := index + 1 = 2 ^ 48
  let cnt := if out.isSome then { x.cnt with sent := satAdd32 x.cnt.sent 1, octets := satAdd32 x.cnt.octets payload.length }
    else x.cnt
  let s := s.setStream { x with
    begun := true, nextSeq := (seq + 1) % 65536, cnt := cnt
    tx := { tx with index := if last then index else index + 1, exhausted := tx.exhausted || (s.srtpOn n && last) } }
  let s := if s.srtpOn n && switched then s.keyEvent n 2 1 index else s
  let s := if s.srtpOn n && last && !tx.exhausted then s.keyEvent n 2 2 (index + 1) else s
  match out with
  | some (b, mac) =>
    let ports := if isRtp n then (s.parN n 5, s.parN n 6) else (s.parN n 11, s.parN n 11)
    s.emitStream n (s.streamFrame n ports.1 ports.2 mac b)
  | none => s

/-! ### RTCP (R310) -/

/-- Seconds from the epoch of RFC 3550's NTP time to that of network time. -/
def ntpEpoch : Nat := 2208988800

def State.ntp (s : State) : Nat := (s.secs + ntpEpoch) * 2 ^ 32 + s.nanos * 2 ^ 32 / 1000000000

/-- Expected and lost packets (RFC 3550). -/
def StreamDyn.expected (x : StreamDyn) : Nat := if x.anyRx then x.highest + 1 - x.baseSeq else 0
def StreamDyn.lost (x : StreamDyn) : Int := (x.expected : Int) - x.received

/-- The report block on the latched source. -/
def State.reportBlock (s : State) (x : StreamDyn) : Bytes :=
  match x.ssrc with
  | none => []
  | some ssrc =>
    let exp := x.expected - x.prior.1
    let got := x.received - x.prior.2
    let fraction := if exp = 0 || exp ≤ got then 0 else (exp - got) * 256 / exp
    let (lsr, dlsr) := match x.lastSr with
      | some (m, t) => (m, (s.time.ticks - t) * 65536 / smpPerSecond)
      | none => (0, 0)
    beBytes 4 ssrc ++ beBytes 1 fraction ++ beBytes 3 ((clampI (-8388608) 8388607 x.lost) % 16777216).toNat
      ++ beBytes 4 (x.highest % 2 ^ 32) ++ beBytes 4 (x.cnt.jitter / 16) ++ beBytes 4 lsr ++ beBytes 4 dlsr

/-- Call channel on an RTP stream's receive output, or send input. -/
def State.callRx (s : State) (n : Nat) : Option Nat :=
  (s.wires.find? fun c => c.src == n && c.srcOut == 0 && nodeType c.dst == Ty.call).map (·.dst)

def State.callTx (s : State) (n : Nat) : Option Nat :=
  (s.wires.find? fun c => c.dst == n && nodeType c.src == Ty.call).map (·.src)

/-- RTP clock of a codec. -/
def CodecNow.clock (x : CodecNow) : Nat := codecClock x.codec x.linear

/-- RTP clock of the codec that receives a stream, 8000 without a channel. -/
def State.rxClock (s : State) (call : Option Nat) : Nat := match call with | some c => (s.rxCodec c).clock | none => 8000

/-- Frame period of the connected channel, ms. -/
def State.framePeriod (s : State) (call : Option Nat) : Nat := match call with | some c => s.parN c 2 | none => 20

/-- RTP timestamp of media sample m on a stream (R314). -/
def State.rtpTime (s : State) (n c m : Nat) : Nat := (m * c / 48000 + s.parN n 14) % 2 ^ 32

/-- SDES chunk with CNAME. -/
def State.sdes (s : State) (n : Nat) : Bytes :=
  let name := (s.par n 21).takeWhile (· != 0)
  let chunk := beBytes 4 (s.parN n 8) ++ [1] ++ beBytes 1 name.length ++ name
  rtcpPacket 202 1 (chunk ++ zeros (4 - chunk.length % 4))

/-- The compound packet: SR or RR, SDES, and a BYE at the end of a stream. -/
def State.compound (s : State) (n : Nat) (bye : Bool) : Bytes :=
  let x := s.streamDyn n
  let own := beBytes 4 (s.parN n 8)
  let block := if s.receives n then s.reportBlock x else []
  let count := if block.isEmpty then 0 else 1
  let c := match s.callTx n with | some k => (s.txCodec k).clock | none => 8000
  (if s.sends n && x.begun then
      rtcpPacket 200 count (own ++ beBytes 8 s.ntp ++ beBytes 4 (s.rtpTime n c s.m) ++ beBytes 4 x.cnt.sent
        ++ beBytes 4 x.cnt.octets ++ block)
    else rtcpPacket 201 count (own ++ block))
    ++ s.sdes n ++ (if bye then rtcpPacket 203 1 own else [])

/-- Send a compound packet. -/
def State.sendRtcp (n : Nat) (bye : Bool) (s : State) : State :=
  let x := s.streamDyn n
  let plain := s.compound n bye
  let body : Option Bytes :=
    if s.srtpOn n then x.tx.cur.map fun k => Config.srtcpProtect k.suite k.key x.rtcpIndex plain else some plain
  let mux := bit (s.parN n 4) 0
  let off := if mux then 0 else 1
  let s := s.setStream { x with rtcpIndex := (x.rtcpIndex + 1) % 2 ^ 31, prior := (x.expected, x.received) }
  match body, x.hop with
  | some b, some mac =>
    s.emitStream n (s.streamFrame n (s.parN n 5 + off) (s.parN n 6 + off) mac b)
  | _, _ => s

/-- Draw the next interval: RTCP_INTERVAL times a factor from 0.5 to 1.5. -/
def State.drawRtcp (n : Nat) (s : State) : State :=
  let (v, s) := s.drawFree
  let iv := s.parN n 19 * smpPerSecond
  s.setStream { s.streamDyn n with rtcpAt := s.time.ticks + iv / 2 + iv * (v % 65537) / 65536 }

/-- RTCP_SEND; a standby takes what its primary drew from the record (R322). -/
def execRtcpSend (stream : Nat) (s : State) : Host.Outcome State Fault Refusal :=
  if isRtp stream && s.running stream && bit (s.parN stream 4) 3 && s.power.state == .active && !s.following
      && (s.streamDyn stream).rtcpAt ≤ s.time.ticks then
    .next (((s.sendRtcp stream false).drawRtcp stream).noteStream stream 0)
  else .next s

/-! ### Counters (R326, R327) -/

def State.countStream (n : Nat) (f : StreamCount → StreamCount) (s : State) : State :=
  let x := s.streamDyn n
  s.setStream { x with cnt := f x.cnt }

/-- A lost or late packet or sample of the block (source 706). -/
def State.countLoss (n k : Nat) (s : State) : State :=
  if k = 0 then s
  else
    let c := s.eth.lossBlock + k
    { s with eth := { s.eth with lossBlock := c, lossFirst := if s.eth.lossBlock = 0 then n else s.eth.lossFirst } }

/-- A packet that fails authentication or is replayed (source 707). -/
def State.countAuth (n : Nat) (s : State) : State :=
  let c := s.eth.authBlock + 1
  let s := s.countStream n fun x => { x with discarded := satAdd32 x.discarded 1 }
  { s with eth := { s.eth with authBlock := c, authFirst := if c = 1 then n else s.eth.authFirst } }

def State.discardPkt (n : Nat) (s : State) : State := s.countStream n fun x => { x with discarded := satAdd32 x.discarded 1 }

/-- Something of the stream arrived: a timeout that was reported ends (R310). -/
def State.heard (n : Nat) (s : State) : State :=
  let x := s.streamDyn n
  let s := s.setStream { x with lastRx := s.time.ticks, timedOut := false }
  if x.timedOut then s.raise 705 0x0805 n (evData [(0, leBytes 1 2), s.mBytes]) else s

/-! ### Packets that fit the channel (R332) -/

/-- Duration of an Opus packet in units of 0.5 ms, from its TOC byte and frame count (RFC 6716). -/
def opusHalfMs (p : Bytes) : Nat :=
  let c := be p 0 1 / 8
  let one := if c < 12 then [20, 40, 80, 120].getD (c % 4) 20 else if c < 16 then [20, 40].getD (c % 2) 20
    else [5, 10, 20, 40].getD (c % 4) 5
  let k := be p 0 1 % 4
  one * (if k = 0 then 1 else if k = 3 then be p 1 1 % 64 else 2)

/-- The payload is exactly one frame of f ms. -/
def frameFits (codec linear f : Nat) (p : Bytes) : Bool :=
  let n := p.length
  if codec ≤ 3 then n = 8 * f
  else if codec = 4 then n = 4 * f
  else if codec = 5 then n = f || n = 2 || n + 10 = f + 2
  else if codec ≤ 8 then 0 < n && opusHalfMs p = 2 * f
  else n = codecRate codec linear * f / 1000 * (if codec = 9 then 2 else 3)

/-- A silence descriptor of G.729 Annex B, alone or at the end of a packet, or an Opus frame of at most 2 bytes, as its
discontinuous transmission sends (R312; log 5). -/
def silenceFrame (codec : Nat) (p : Bytes) : Bool :=
  if codec = 5 then p.length % 10 = 2 else 6 ≤ codec && codec ≤ 8 && p.length ≤ 2

/-- The payload type that the channel decodes. -/
def State.rxPt (s : State) (n call : Nat) : Nat :=
  let pt := (s.rxCodec call).rxPt
  if pt = 0xFF then s.parN n 9 else pt

def State.fits (s : State) (n pt : Nat) (payload : Bytes) : Bool :=
  match s.callRx n with
  | none => true
  | some c => pt == s.rxPt n c && frameFits (s.rxCodec c).codec (s.rxCodec c).linear (s.parN c 2) payload

/-! ### The jitter buffer (R311 to R313) -/

/-- Restart a buffer, with JB_RESYNC. -/
def State.jbRestart (n cause : Nat) (s : State) : State :=
  let x := s.streamDyn n
  (s.setStream { x with jb := { largest := x.jb.largest, before := some (x.jb.depth, cause) } }).raise 711 0x080B n (evData [(0, leBytes 1 cause), s.mBytes])

/-- Signed distance of two timestamps. -/
def tsDelta (a b : Nat) : Int := toSigned 4 ((a + 2 ^ 32 - b % 2 ^ 32) % 2 ^ 32)

/-- The target depth, ms (R312). -/
def jbTarget (f jbMin jbMax : Nat) (transits : List Nat) : Nat :=
  let j := transits.foldl max 0
  max jbMin (min jbMax (f * ceilDiv (2 * j + 1000 * f) (1000 * f)))

def jbBytes : Nat := 96000

/-- Arrival in µs of network time. -/
def State.netUs (s : State) : Nat := s.netNs / 1000

/-- Take a packet into the buffer: counts, transit and jitter, first start. -/
def State.jbTake (n c : Nat) (p : JbPacket) (s : State) : State :=
  let x := s.streamDyn n
  let j := x.jb
  let us := s.netUs
  let d : Nat := match j.lastTransit with
    | some (t, ts) => (((us : Int) - t) - tsDelta p.ts ts * 1000000 / (c : Int)).natAbs
    | none => 0
  let units := d * c / 1000000
  let jitter := ((x.cnt.jitter : Int) + units - (x.cnt.jitter + 8) / 16).toNat
  let transits := (if j.lastTransit.isSome then d :: j.transits else j.transits).take 64
  let depth := if j.started then j.depth else s.parN n 17
  let j := { j with
    packets := j.packets ++ [p], transits := transits, lastTransit := some (us, p.ts), far := 0, emptySince := none
    startAt := if j.started then j.startAt else s.m + 48 * s.parN n 17
    nextTs := if !j.started || (!j.playing && tsDelta p.ts j.nextTs < 0) then p.ts else j.nextTs
    depth := depth, largest := max j.largest depth, started := true }
  s.setStream { x with
    jb := j, lastAccept := 16 * s.time.block
    cnt := { x.cnt with accepted := satAdd32 x.cnt.accepted 1, jitter := if j.lastTransit.isSome then jitter else 0 } }

/-- A packet of the stream's media (R311, R313). -/
def State.jbOffer (n : Nat) (p : JbPacket) (s : State) : State :=
  let call := s.callRx n
  let c := s.rxClock call
  let x := s.streamDyn n
  let j := x.jb
  let d := tsDelta p.ts j.nextTs
  let far := j.started && (d < -((c / 2 : Nat) : Int) || (c : Int) < d)
  if j.packets.any fun q => q.ext == p.ext then s.countStream n fun k => { k with dup := satAdd32 k.dup 1 }
  else if far && 2 ≤ j.far then (s.jbRestart n 2).jbTake n c p
  else
    let s := s.setStream { x with jb := { j with far := if far then j.far + 1 else 0 } }
    if j.playing && d < 0 then (s.countStream n fun k => { k with late := satAdd32 k.late 1 }).countLoss n 1
    else if j.started && ((s.parN n 16 * c : Nat) : Int) < d * 1000 then s.discardPkt n
    else if jbBytes < sumN (j.packets.map fun q => q.payload.length) + p.payload.length then s.discardPkt n
    else s.jbTake n c p

/-- Take the frame at the next expected timestamp, or a concealment request. -/
def Jb.next (j : Jb) (step : Nat) : Release × Jb :=
  let ts := (j.nextTs + step) % 2 ^ 32
  match j.packets.find? fun p => p.ts == j.nextTs with
  | some p => (.frame p, { j with packets := j.packets.filter fun q => q.ts != j.nextTs, nextTs := ts })
  | none => (.conceal false, { j with nextTs := ts })

/-- The first release after a restart follows the change in depth, or clears for an SSRC replacement. -/
def Jb.settled (j : Jb) : DepthChange :=
  match j.before with
  | some (d, cause) =>
    let k := (j.depth : Int) - d
    if cause = 3 || 128 ≤ k.natAbs then .clear else .shift k
  | none => .shift 0

/-- Release at a frame boundary (R311, R312). -/
def State.jbRelease (n : Nat) (s : State) : Release × DepthChange × State :=
  let call := s.callRx n
  let c := s.rxClock call
  let f := s.framePeriod call
  let codec := match call with | some k => (s.rxCodec k).codec | none => 1
  let step := f * c / 1000
  let x := s.streamDyn n
  let j := x.jb
  let now := s.time.ticks
  if !j.started || s.m < j.startAt then (.none, .shift 0, s)
  else
    let settled := j.settled
    let j := { j with playing := true, before := none, target := if s.parN n 13 = 1 then jbTarget f (s.parN n 15) (s.parN n 16) j.transits
                                                 else s.parN n 17 }
    let free := j.lastChange = 0 || j.lastChange + 9600 ≤ now
    let deep := j.target + f < j.depth
    let j := { j with
      overSince := if deep then some (j.overSince.getD now) else none, dropSince := if deep then j.dropSince else none }
    let arm := match j.overSince with | some t => t + smpPerSecond ≤ now && free | none => false
    let j := { j with dropSince := if j.dropSince.isNone && arm then some now else j.dropSince }
    let put (j : Jb) : State :=
      let empty := j.packets.isEmpty
      s.setStream { x with jb := { j with
        largest := max j.largest j.depth, emptySince := if empty then some (j.emptySince.getD now) else none } }
    if j.depth < j.target && free then
      (.conceal true, .shift f, put { j with depth := j.depth + f, lastChange := now })
    else
      let (r, j') := j.next step
      let drop := match j.dropSince, r with
        | some t, .frame p => silenceFrame codec p.payload || t + 2 * smpPerSecond ≤ now
        | some t, _ => t + 2 * smpPerSecond ≤ now
        | none, _ => false
      if drop then
        let (r, j') := j'.next step
        (r, .shift (-(f : Int)), put { j' with depth := j'.depth - f, lastChange := now, dropSince := none, overSince := none })
      else (r, settled, put j')

/-- JB_RESYNC (R313): empty for 200 ms. -/
def execJbResync (stream : Nat) (s : State) : Host.Outcome State Fault Refusal :=
  match (s.streamDyn stream).jb.emptySince with
  | some t =>
    if s.running stream && t + 9600 ≤ s.time.ticks && !s.following then .next ((s.jbRestart stream 1).noteStream stream 0)
    else .next s
  | none => .next s

/-! ### Receiving RTP (R306, R308) -/

/-- Extended sequence number; numbers start one cycle up so that early ones stay natural. -/
def StreamDyn.extend (x : StreamDyn) (seq : Nat) : Nat :=
  if x.anyRx then (x.highest + toSigned 2 ((seq + 65536 - x.highest % 65536) % 65536) : Int).toNat else seq + 65536

/-- The SSRC rule of R306: accept the packet, or discard it; a rival needs 8 packets in a row. -/
def State.ssrcRule (n ssrc : Nat) (s : State) : Bool × State :=
  let x := s.streamDyn n
  let want := s.parN n 18
  if want ≠ 0 then (ssrc == want, s.setStream { x with ssrc := if ssrc = want then some ssrc else x.ssrc })
  else
    match x.ssrc with
    | none => (true, s.setStream { x with ssrc := some ssrc, rival := none })
    | some old =>
      if old = ssrc then (true, s.setStream { x with rival := none })
      else
        let k := match x.rival with
          | some (r, k) => if r = ssrc then k + 1 else 1
          | none => 1
        if k < 8 then (false, s.setStream { x with rival := some (ssrc, k) })
        else
          let s := s.setStream { x with ssrc := some ssrc, rival := none, anyRx := false }
          let s := s.raise 704 0x0804 n (evData [(0, leBytes 4 ssrc), (4, leBytes 4 old), s.mBytes])
          (true, s.jbRestart n 3)

/-- Undo SRTP: the plain packet, or `none` once a failure or replay is counted. -/
def State.unprotect (n seq : Nat) (b : Bytes) (s : State) : Option Bytes × State :=
  if !s.srtpOn n then (some b, s)
  else
    let x := s.streamDyn n
    let index := x.rx.guess seq
    let (key, pending) := x.rx.recvKey index
    let plain := if x.rx.replayed index then none else key.bind fun k => Config.srtpUnprotect k.suite k.key index b
    match plain with
    | none => (none, s.countAuth n)
    | some p =>
      let s := s.setStream { x with rx := x.rx.accept index pending }
      (some p, if pending then s.keyEvent n 1 1 index else s)

/-- An RFC 4733 event of those that the device takes: code 0 to 15 (R347). -/
def isEvent (p : Bytes) : Bool := 4 ≤ p.length && be p 0 1 ≤ 15

/-- A media packet of an RTP stream, source already matched. -/
def State.rtpMedia (n : Nat) (b : Bytes) (s : State) : State :=
  let (plain, s) := s.unprotect n (be b 2 2) b
  match plain.bind parseRtp with
  | none => if plain.isNone then s else s.discardPkt n
  | some r =>
    let s := s.heard n
    let (ok, s) := s.ssrcRule n r.ssrc
    if !ok then s.discardPkt n
    else
      let x := s.streamDyn n
      let ext := x.extend r.seq
      let gap := if x.anyRx && x.highest + 1 < ext then ext - x.highest - 1 else 0
      let s := s.setStream { x with
        anyRx := true, received := x.received + 1, baseSeq := if x.anyRx then x.baseSeq else ext
        highest := if x.anyRx then max x.highest ext else ext }
      let s := s.countLoss n gap
      let p : JbPacket := { ext := ext, ts := r.ts, pt := r.pt, payload := r.payload }
      let events := s.parN n 10
      if events ≠ 0xFF && r.pt = events then
        if !isEvent r.payload then s.discardPkt n
        else
        let x := s.streamDyn n
        s.setStream { x with eventsIn := x.eventsIn ++ [p], lastAccept := 16 * s.time.block
                             cnt := { x.cnt with accepted := satAdd32 x.cnt.accepted 1 } }
      else if s.fits n r.pt r.payload then s.jbOffer n p
      else s.discardPkt n

/-- The index that an SRTCP packet carries, before the authentication tag of suites 1 to 4, and at the end for the others
(RFC 3711, RFC 7714). -/
def srtcpIndex (suite : Nat) (b : Bytes) : Nat := be b (b.length - if suite ≤ 4 then 14 else 4) 4 % 2 ^ 31

/-- Undo SRTCP: the plain packet, or `none` for a failure or a replay (R308). -/
def State.unprotectRtcp (n : Nat) (b : Bytes) (s : State) : Option Bytes × State :=
  if !s.srtpOn n then (some b, s)
  else
    let x := s.streamDyn n
    match x.rx.cur with
    | none => (none, s)
    | some k =>
      let i := srtcpIndex k.suite b
      let top := x.rtcpSeen.foldl max 0
      if x.rtcpSeen.contains i || i + 128 ≤ top then (none, s)
      else
        match Config.srtcpUnprotect k.suite k.key b with
        | none => (none, s)
        | some p =>
          (some p, s.setStream { x with rtcpSeen := (i :: x.rtcpSeen).filter fun j => max top i < j + 128 })

/-- A compound RTCP packet (R310): BYE is told, a sender report is remembered, other types are counted as discarded. -/
def State.rtcpIn (n : Nat) (b : Bytes) (s : State) : State :=
  let (plain, s) := s.unprotectRtcp n b
  match plain with
  | none => s.countAuth n
  | some p =>
    (parseRtcp p.length p).foldl (init := s.heard n) fun s k =>
      if k.1 = 203 then s.raise 710 0x080A n (evData [(0, leBytes 4 (be k.2.2 0 4))])
      else if k.1 = 200 then s.setStream { s.streamDyn n with lastSr := some (be k.2.2 6 4, s.time.ticks) }
      else if k.1 = 201 || k.1 = 202 then s
      else s.discardPkt n

/-! ### AES67 (R315 to R321) -/

/-- Packet time in smp (R315). -/
def ptimeSmp (code : Nat) : Nat := [6, 12, 16, 48, 192].getD code 48

def sampleBytes (enc : Nat) : Nat := if enc = 0 then 3 else 2

/-- Bytes of the frame that a stream's packets need, FCS included (R315). -/
def aesFrameBytes (rate96 tagged v4 : Bool) (ptime channels enc : Nat) : Nat :=
  14 + (if tagged then 4 else 0) + (if v4 then 20 else 40) + 8 + 12
    + ptimeSmp ptime * (if rate96 then 2 else 1) * channels * sampleBytes enc + 4

/-- Q1.31 to the wire, rounded once convergently and saturated; and back. -/
def aesOut (enc : Nat) (v : Int) : Bytes :=
  let w := if enc = 0 then 24 else 16
  let x := clampI (-(2 ^ (w - 1) : Nat)) ((2 ^ (w - 1) : Nat) - 1) (divEven v (2 ^ (32 - w)))
  (leSigned (w / 8) x).reverse

def aesIn (enc : Nat) (b : Bytes) : Int := toSigned b.length (beNat b) * (2 ^ (32 - 8 * sampleBytes enc) : Nat)

/-- The sample count k that lies nearest to r × (m + E) (R317). -/
def nearestCount (ts off : Nat) (at_ : Int) : Int :=
  at_ + toSigned 4 (((ts : Int) - off - at_) % (2 ^ 32 : Nat)).toNat

/-- A received AES67 packet: on time, late, early or duplicate; its samples wait for their place (R317, R318). -/
def State.aesMedia (n : Nat) (b : Bytes) (inMargin : Bool) (s : State) : State :=
  let (plain, s) := s.unprotect n (be b 2 2) b
  match plain.bind parseRtp with
  | none => if plain.isNone then s else s.discardPkt n
  | some r =>
    let f := s.perSmp
    let chans := s.parN n 4
    let enc := s.parN n 5
    let w := sampleBytes enc
    let count := ptimeSmp (s.parN n 6) * f
    let x := s.streamDyn n
    if r.pt ≠ s.parN n 7 || r.payload.length ≠ count * chans * w then s.discardPkt n
    else
      let k := nearestCount r.ts (s.parN n 16) (f * ((s.m : Int) + s.time.epoch))
      let q := k - f * s.time.epoch + f * s.parN n 14
      let strobe := (q + count - 1) / (16 * f)
      let late := strobe < s.time.block || (strobe = s.time.block && !inMargin)
      let early := (f * (s.m + 384) : Nat) < k - f * s.time.epoch
      let ext := x.extend r.seq
      let s := s.setStream { x with
        anyRx := true, highest := if x.anyRx then max x.highest ext else ext, ssrc := some r.ssrc, lastRx := s.time.ticks }
      if late then (s.countStream n fun c => { c with late := satAdd32 c.late 1 }).countLoss n 1
      else if early then s.countStream n fun c => { c with early := satAdd32 c.early 1 }
      else if x.rxSamples.any fun y => (y.1 : Int) = q && y.2.1 = 0 then
        s.countStream n fun c => { c with dup := satAdd32 c.dup 1 }
      else
        let one (j ch : Nat) : Nat × Nat × Int := ((q + j).toNat, ch, aesIn enc (slice r.payload ((j * chans + ch) * w) w))
        let new := (List.range count).flatMap fun j => (List.range chans).map (one j)
        let x := s.streamDyn n
        s.setStream { x with
          rxSamples := x.rxSamples ++ new, lastAccept := 16 * s.time.block
          cnt := { x.cnt with accepted := satAdd32 x.cnt.accepted 1 } }

/-- The input block of a receiving stream at the end of its block: absent samples are zero and lost (R318). -/
def State.aesInBlock (s : State) (n : Nat) : State :=
  let f := s.perSmp
  let q := 16 * s.time.block * f
  let chans := s.parN n 4
  let x := s.streamDyn n
  let find (j ch : Nat) : Option Int := (x.rxSamples.find? fun y => y.1 == q + j && y.2.1 == ch).map (·.2.2)
  let missing := ((List.range s.spb).filter fun j => (find j 0).isNone).length
  let s := (List.range s.spb).foldl (init := s) fun s j =>
    (List.range chans).foldl (init := s) fun s ch => s.produce n ch ((find j ch).getD 0)
  let s := s.setStream { x with
    rxSamples := x.rxSamples.filter fun y => q + s.spb ≤ y.1, cnt := { x.cnt with lost := satAdd32 x.cnt.lost missing } }
  s.countLoss n missing

/-- A sending stream gathers the sample of its place: the output stage takes it now, and a TDM output there would send it a block
later (R18, R319). -/
def State.aesGather (j : Nat) (s : State) (n : Nat) : State :=
  let x := s.streamDyn n
  if 16 * (s.time.block + 1) * s.perSmp + j < x.nextPacketAt * s.perSmp then s
  else
    let tx := (List.range (s.parN n 4)).map fun ch => (ch, ((getA ch x.txSamples).getD []) ++ [s.inputSample n ch j])
    s.setStream { x with txSamples := tx }

/-- The samples of a packet are gathered. -/
def State.packetReady (s : State) (n : Nat) : Bool :=
  let x := s.streamDyn n
  x.txSamples.length = s.parN n 4 && x.txSamples.all fun c => ptimeSmp (s.parN n 6) * s.perSmp ≤ c.2.length

/-- AES67_PACKET_SEND (R319): once the samples of a packet are gathered. -/
def execAes67PacketSend (stream : Nat) (s : State) : Host.Outcome State Fault Refusal :=
  let f := s.perSmp
  let p := ptimeSmp (s.parN stream 6)
  let count := p * f
  let x := s.streamDyn stream
  if nodeType stream = Ty.aes && s.running stream && s.sends stream && s.power.state == .active && s.packetReady stream then
    let payload := (List.range count).flatMap fun j => x.txSamples.flatMap fun c => aesOut (s.parN stream 5) (c.2.getD j 0)
    let ts := ((f * ((x.nextPacketAt + p : Nat) + s.time.epoch) + s.parN stream 16 : Int) % (2 ^ 32 : Nat)).toNat
    let s := s.setStream { x with
      txSamples := x.txSamples.map fun c => (c.1, c.2.drop count), nextPacketAt := x.nextPacketAt + p }
    .next (s.sendRtp stream false (s.parN stream 7) ts payload)
  else .next s

/-! ### Life cycle of a stream -/

/-- A sending stream starts at block boundary m: its first packet, and the zeros that a TDM output starting there would send up to
the first block that the output stage has taken (R163, R319). -/
def State.firstPacket (s : State) (m : Nat) (x : StreamDyn) : StreamDyn :=
  let p := if nodeType x.node = Ty.aes then ptimeSmp (s.parN x.node 6) else 1
  let at_ := ceilDiv m p * p
  let early : List Int := List.replicate ((m + 16 - at_) * s.perSmp) 0
  let tx := if nodeType x.node = Ty.aes && s.sends x.node && !early.isEmpty then
      (List.range (s.parN x.node 4)).map fun ch => (ch, early) else []
  { x with nextPacketAt := at_, txSamples := tx }

/-- A stream enters the run list at block boundary m. -/
def State.streamBegin (n m : Nat) (s : State) : State :=
  let s := s.setStream { s.firstPacket m (s.streamDyn n) with
    jb := {}, rxSamples := [], eventsIn := [], lastRx := s.time.ticks, timedOut := false, ssrc := none, rival := none
    anyRx := false }
  let s := s.join n
  let s := if s.sends n then s.resolve n else s
  if isRtp n && bit (s.parN n 4) 3 then s.drawRtcp n else s

/-- A stream leaves the run list: a BYE where RTCP is sent, and its group is left. -/
def State.streamEnd (n : Nat) (s : State) : State :=
  let s := if isRtp n && bit (s.parN n 4) 3 && s.power.state == .active then s.sendRtcp n true else s
  let s := s.leave n
  let x := s.streamDyn n
  s.setStream { x with jb := {}, rxSamples := [], txSamples := [], eventsIn := [], noRoute := false }

/-- Jitter buffers and media in flight are dropped (R328). -/
def State.streamsStandby (s : State) : State :=
  { s with eth := { s.eth with
      streams := s.eth.streams.map fun x => { x with jb := {}, rxSamples := [], txSamples := [], eventsIn := [] } } }

/-- Standby exit at m: buffers and packets start again (R311, R328). -/
def State.streamsResume (m : Nat) (s : State) : State :=
  let again (x : StreamDyn) : StreamDyn := { s.firstPacket m x with jb := {}, rxSamples := [], lastRx := s.time.ticks }
  { s with eth := { s.eth with streams := s.eth.streams.map again } }

/-- A new REMOTE_IP or REMOTE_PORT is in effect (R305). -/
def State.remoteChanged (n : Nat) (s : State) : State := if s.running n && s.sends n then s.resolve n else s

/-- STREAM_NO_ROUTE (R327): unresolved for 3 s. -/
def execStreamNoRoute (stream : Nat) (s : State) : Host.Outcome State Fault Refusal :=
  let x := s.streamDyn stream
  if s.running stream && s.sends stream && x.hop.isNone && !x.noRoute && x.noHopSince + 3 * smpPerSecond ≤ s.time.ticks then
    .next ((s.setStream { x with noRoute := true }).routeEvent stream 1)
  else .next s

/-- STREAM_TIMEOUT (R310). -/
def execStreamTimeout (stream : Nat) (s : State) : Host.Outcome State Fault Refusal :=
  let x := s.streamDyn stream
  let t := s.parN stream 20
  if isRtp stream && s.running stream && t ≠ 0 && !x.timedOut && !s.following && x.lastRx + 48 * t ≤ s.time.ticks then
    .next (((s.setStream { x with timedOut := true }).noteStream stream 0).raise 705 0x0805 stream
      (evData [(0, leBytes 1 1), s.mBytes]))
  else .next s

/-! ### Creation and enabling (R305, R315) -/

/-- NODE_CREATE's checks of a stream record: 0 or the code. -/
def State.streamCreate (s : State) (t : Nat) (rec_ : Bytes) : Nat :=
  let port := field rec_ 0 1
  let i := field rec_ 1 1
  if t = Ty.rtp then
    let clash := (s.nodesOf Ty.rtp).any fun x =>
      s.latestN x.1 1 == port && s.latestN x.1 2 == i && s.latestN x.1 5 == field rec_ 4 2
    if clash then Err.conflict else 0
  else
    let group := slice rec_ 8 16
    let bytes := aesFrameBytes s.time.rate96 ((s.iface port i).vlan ≠ 0) (isV4 group) (field rec_ 5 1) (field rec_ 3 1)
      (field rec_ 4 1)
    let clash := field rec_ 2 1 = 1 && (s.nodesOf Ty.aes).any fun x =>
      s.latestN x.1 3 == 1 && s.latestN x.1 1 == port && s.latestN x.1 2 == i && s.latest x.1 9 == group
        && s.latest x.1 10 == slice rec_ 24 16 && s.latestN x.1 11 == field rec_ 40 2
    if s.latestN (ethId port) 5 < bytes then Err.range else if clash then Err.conflict else 0

/-- The interface can carry the address family. -/
def Iface.carries (x : Iface) (a : Bytes) : Bool := if isV4 a then x.v4 else x.v6

/-- R305: NODE_ENABLE of an RTP stream. -/
def State.rtpReady (s : State) (n : Nat) : Bool :=
  let x := s.iface (s.latestN n 1) (s.latestN n 2)
  let ip := s.latest n 7
  let d := s.streamDyn n
  let dir := s.latestN n 3
  let any := ip.all (· == 0)
  x.enable && (any || x.carries ip) && !(bit dir 1 && (any || s.latestN n 6 = 0))
    && !(bit (s.latestN n 4) 1 && ((bit dir 0 && !d.rx.keyed) || (bit dir 1 && !d.tx.keyed)))

/-! ### STREAM_KEY_SET, STREAM_STATS -/

def srtpKeyLen (suite : Nat) : Nat := if suite = 3 ∨ suite = 4 ∨ suite = 6 then 32 else 16
def srtpSaltLen (suite : Nat) : Nat := if suite ≤ 4 then 14 else 12

def keySetOk (p : Bytes) : Bool :=
  let suite := field p 1 1
  1 ≤ field p 0 1 && field p 0 1 ≤ 2 && 1 ≤ suite && suite ≤ 6 && reservedZero p [(2, 2), (62, 2)]
    && field p 8 8 < 2 ^ 48

/-- The padding that the suite asks for is zero (R575). -/
def keyPadOk (p : Bytes) : Bool :=
  let suite := field p 1 1
  reservedZero p [(16 + srtpKeyLen suite, 32 - srtpKeyLen suite), (48 + srtpSaltLen suite, 14 - srtpSaltLen suite)]

/-- Install a key (R307, R309): a key whose effective index is not yet reached waits, a first one too. -/
def SrtpDir.install (d : SrtpDir) (k : SrtpKey) (roc eff : Nat) : SrtpDir :=
  if d.keyed then { d with pend := some (k, max eff (if d.seen.isEmpty then d.index else d.index + 1)) }
  else
    let index := roc * 65536 + d.index % 65536
    if eff ≤ index then { d with cur := some k, index := index, since := eff }
    else { d with pend := some (k, eff), index := index }

def streamKeySet : Contract where
  opcode := 0x0802
  len := lenIs 64
  fixed _ _ r := keySetOk r.payload
  node := onTypes [Ty.rtp, Ty.aes]
  fields _ _ r := keyPadOk r.payload
  body s _ r :=
    let p := r.payload
    let n := r.node.toNat
    let x := s.streamDyn n
    let rx := field p 0 1 = 1
    let d := if rx then x.rx else x.tx
    let suite := field p 1 1
    let k : SrtpKey := { suite := suite, key := slice p 16 46 }
    let flagged := if isRtp n then bit (s.latestN n 4) 1 else bit (s.latestN n 12) 0
    let other := match d.suite? with | some c => c != suite | none => false
    if other then failWith Err.range
    else if !flagged || !bit (s.latestN n 3) (if rx then 0 else 1) then failWith Err.state
    else
      let d := d.install k (field p 4 4) (field p 8 8)
      okay (s.setStream (if rx then { x with rx := d } else { x with tx := d }))

def execStreamKeySet (mb : Fin 8) (r : Req) (s : State) : Host.Outcome State Fault Refusal := runCommand streamKeySet mb r s

/-- The 64 bytes of STREAM_STATS (R326). -/
def State.statsBytes (s : State) (n : Nat) : Bytes :=
  let x := s.streamDyn n
  let c := x.cnt
  let rtp := isRtp n
  let lost := if rtp then clampI 0 4294967295 x.lost else c.lost
  let highest := if x.anyRx then x.highest - 65536 else 0
  leBytes 4 c.accepted ++ leBytes 4 lost.toNat ++ leBytes 4 c.late ++ leBytes 4 c.early ++ leBytes 4 c.dup
    ++ leBytes 4 c.discarded ++ leBytes 4 c.concealed ++ leBytes 4 (c.jitter / 16)
    ++ leBytes 2 (if rtp then x.jb.depth else s.parN n 14) ++ leBytes 2 x.jb.target ++ leBytes 2 x.jb.largest ++ zeros 2
    ++ leBytes 4 c.sent ++ leBytes 4 c.octets ++ leBytes 4 (x.ssrc.getD 0) ++ leBytes 4 highest ++ leBytes 8 x.lastAccept

/-- Options of both counter commands: bit 0 clears after the read. -/
def optionsOk (r : Req) : Bool := field r.payload 0 1 < 2 && reservedZero r.payload [(1, 3)]

def streamStats : Contract where
  opcode := 0x0803
  len := lenIs 4
  fixed _ _ r := optionsOk r
  node := onTypes [Ty.rtp, Ty.aes]
  body s _ r :=
    let n := r.node.toNat
    let x := s.streamDyn n
    let out := s.statsBytes n
    if bit (field r.payload 0 1) 0 then
      answer (s.setStream { x with
        cnt := {}, received := 0, baseSeq := x.highest + 1, prior := (0, 0), jb := { x.jb with largest := x.jb.depth } }) out
    else answer s out

def execStreamStats (mb : Fin 8) (r : Req) (s : State) : Host.Outcome State Fault Refusal := runCommand streamStats mb r s

end Sys2Proof.Machine
end

