-- ==== Sys2Proof/Machine/Voice.lean ====
section
/-! DEFINITION. Call channels, digits, telephone events and tone detectors (R330 to R355). -/

namespace Sys2Proof.Machine

def toneId (d : Nat) : Nat := mkNode Ty.tone d

def State.callPar (s : State) (c pid : Nat) : Nat := s.parN (callId c) pid

/-- F in smp (R333). -/
def State.frameSmp (s : State) (c : Nat) : Nat := 48 * s.callPar c 2

/-- Rate of the codec in force (R331). -/
def CodecNow.rate (x : CodecNow) : Nat := codecRate x.codec x.linear

/-- The primary rate in Hz. -/
def State.primaryRate (s : State) : Nat := 48000 * s.perSmp

/-- Encoder look-ahead, decoder delay and resampler delay, smp (R331). -/
def lookAhead (codec : Nat) : Nat := [0, 0, 0, 33, 0, 240, 312, 312, 312, 0, 0].getD codec 0
def decoderDelay (codec : Nat) : Nat := if codec = 3 then 33 else 0
def resampleDelay (rate : Nat) : Nat := if rate = 8000 then 24 else if rate = 16000 then 16 else 0

/-- D_send of a frame (R334). -/
def State.sendDelay (s : State) (c : Nat) (x : CodecNow) : Nat := s.frameSmp c + lookAhead x.codec + resampleDelay x.rate

/-- The codec's parameters, for the encoder. -/
def State.codecPars (s : State) (c : Nat) (x : CodecNow) : Nat :=
  x.linear + 4 * x.vad + 8 * x.bitrate + 2048 * s.callPar c 2

/-! ### Gains (R338) -/

/-- 10^(v / 2000) in units of 2^-44. -/
def gain44 (v : Int) : Int := let (num, den) := pow10Rat v 2000; divEven (num * 2 ^ 44 : Nat) den

/-- RX_GAIN or TX_GAIN has changed: 64 smp with the arithmetic of R195. -/
def State.callGain (c pid : Nat) (s : State) : State :=
  if !s.running (callId c) then s
  else
    let x := s.callDyn c
    let t := gain44 (s.parI (callId c) pid)
    let n := 64 * s.perSmp
    if pid = 10 then
      if t = x.rxTarget then s else s.setCall { x with rxTarget := t, rxStep := Int.tdiv (t - x.rxGain) n, rxLeft := n }
    else if t = x.txTarget then s
    else s.setCall { x with txTarget := t, txStep := Int.tdiv (t - x.txGain) n, txLeft := n }

def CallDyn.moveGains (x : CallDyn) : CallDyn :=
  let x := if x.rxLeft = 0 then x else if x.rxLeft = 1 then { x with rxGain := x.rxTarget, rxLeft := 0 }
    else { x with rxGain := x.rxGain + x.rxStep, rxLeft := x.rxLeft - 1 }
  if x.txLeft = 0 then x else if x.txLeft = 1 then { x with txGain := x.txTarget, txLeft := 0 }
  else { x with txGain := x.txGain + x.txStep, txLeft := x.txLeft - 1 }

/-! ### Linear codecs exactly, the others by Config (R331; log 5) -/

/-- n big-endian samples of w bytes as Q1.31. -/
def linearIn (w : Nat) (p : Bytes) : List Int :=
  (List.range (p.length / w)).map fun i => toSigned w (be p (w * i) w) * (2 ^ (32 - 8 * w) : Nat)

def linearOut (w : Nat) (xs : List Int) : Bytes :=
  xs.flatMap fun x =>
    (leSigned w (clampI (-(2 ^ (8 * w - 1) : Nat)) ((2 ^ (8 * w - 1) : Nat) - 1) (divEven x (2 ^ (55 - 8 * w))))).reverse

/-- Decode a frame to Q1.31 samples at the codec rate. -/
def decodeFrame (codec pars st : Nat) (p : Bytes) : Nat × List Int :=
  if codec = 9 then (st, linearIn 2 p) else if codec = 10 then (st, linearIn 3 p) else Config.decode codec pars st p

/-- Encode a frame of samples in units of 2^-54 at the codec rate. -/
def encodeFrame (codec pars st : Nat) (xs : List Int) : Nat × Bytes :=
  if codec = 9 then (st, linearOut 2 xs) else if codec = 10 then (st, linearOut 3 xs) else Config.encode codec pars st xs

/-- Between the codec rate and the primary rate; equal rates pass unchanged. -/
def resampleTo (src dst st : Nat) (xs : List Int) : Nat × List Int :=
  if src = dst then (st, xs) else Config.resample src dst st xs

/-! ### The receive chain (R330, R335, R339, R347) -/

/-- Concealed samples of a frame that starts `ms` into its run: a linear fade from 40 ms to zero at 60 ms (R335). -/
def concealFade (ms rate : Nat) (xs : List Int) : List Int :=
  (List.range xs.length).map fun i =>
    let t := ms * rate / 1000 + i
    let lo := 40 * rate / 1000
    let hi := 60 * rate / 1000
    let x := xs.getD i 0
    if t < lo then x else if hi ≤ t then 0 else divEven (x * ((hi : Int) - t)) (hi - lo)

/-- The first decoded frame after a concealment is cross-faded in over 5 ms (R335). -/
def fadeIn (rate : Nat) (old new : List Int) : List Int :=
  let n := 5 * rate / 1000
  (List.range new.length).map fun i =>
    let x := new.getD i 0
    if n ≤ i then x else divEven (old.getD i 0 * ((n : Int) - (i + 1)) + x * ((i : Int) + 1)) n

/-- VOICE_LEC (R353): kinds 1 bypassed, 2 processor off, 3 released, 4 filter cleared. -/
def State.lecEvent (c kind : Nat) (s : State) : State :=
  s.raise 716 0x0904 (callId c)
    (evData [(0, leBytes 1 kind), (2, leBytes 2 (Config.lecLevels (s.callDyn c).lec).2), s.mBytes])

/-- Shift or clear the canceller's filter (R341). -/
def State.lecDepth (c : Nat) (d : DepthChange) (s : State) : State :=
  let x := s.callDyn c
  if s.callPar c 7 = 0 then s
  else
    match d with
    | .clear => State.lecEvent c 4 (s.setCall { x with lec := 0 })
    | .shift ms => if ms = 0 then s else s.setCall { x with lec := Config.lecShift x.lec (48 * ms) }

/-- Count a concealed frame (source 717). -/
def State.countConceal (c : Nat) (s : State) : State :=
  let v := s.voice
  let x := s.callDyn c
  State.setCall { x with concealed := satAdd32 x.concealed 1, run := x.run + 1 }
    { s with voice := { v with
        concealBlock := v.concealBlock + 1, concealFirst := if v.concealBlock = 0 then c else v.concealFirst } }

/-- The codec's state at a receive frame boundary after a change of the codec (R338). -/
def State.rxFresh (c : Nat) (s : State) : State :=
  let x := s.callDyn c
  let now := s.codecSet (callId c)
  if x.rxStale then
    let clear := x.rate ≠ now.rate
    let s := s.setCall { x with
      rxStale := false, rxNow := now, dec := 0, rsRx := 0, rate := now.rate, lec := if clear then 0 else x.lec }
    if clear && s.callPar c 7 ≠ 0 then s.lecEvent c 4 else s
  else s

/-- Decoded or concealed audio of a release, Q1.31 at the codec rate. -/
def State.receiveAudio (c n : Nat) (r : Release) (s : State) : List Int × State :=
  let x := s.callDyn c
  let codec := x.rxNow.codec
  let rate := x.rxNow.rate
  let f := s.callPar c 2
  let conceal : List Int × State :=
    let (st, xs) := Config.conceal codec x.dec x.run
    let s := (s.setCall { x with dec := st }).countConceal c
    (concealFade (x.run * f) rate xs, s.countStream n fun k => { k with concealed := satAdd32 k.concealed 1 })
  match r with
  | .none => (List.replicate (f * rate / 1000) 0, s)
  | .conceal _ => conceal
  | .frame p =>
    if p.pt ≠ s.rxPt n (callId c) then conceal
    else
      let (st, xs) := decodeFrame codec (s.codecPars c x.rxNow) x.dec p.payload
      let old := (Config.conceal codec x.dec x.run).2
      let xs := if x.run = 0 then xs else fadeIn rate (concealFade (x.run * f) rate old) xs
      (xs, s.setCall { x with dec := st, run := 0, received := true })

/-- The canceller's reference at a receive frame boundary: that of the last frame handed over by then. -/
def CallDyn.reference (x : CallDyn) (m : Nat) : List Int := ((x.references.find? fun r => r.1 ≤ m).map (·.2)).getD []

/-- The canceller, unless the tone disabler bypasses it (R343). -/
def State.cancelEcho (c at_ : Nat) (xs : List Int) (s : State) : List Int × State :=
  let mode := s.callPar c 7
  let x := s.callDyn c
  if mode = 0 || x.bypassed then (xs, s)
  else
    let m := (if x.nlpOff then 1 else mode) + 4 * s.callPar c 9
    let (st, ys) := Config.lecRun x.lec m (x.reference at_) xs
    (ys, s.setCall { x with lec := st })

/-- The event that replaces the audio of this frame, with the start of its playout (R347). -/
def State.playoutNow (c m : Nat) (s : State) : Option (Nat × Nat × Nat) × State :=
  let x := s.callDyn c
  match x.event with
  | some e =>
    if s.callPar c 12 = 1 && !e.ended then
      let start := x.playout.getD m
      (some (e.code, e.volume, start), s.setCall { x with playout := some start })
    else (none, s.setCall { x with playout := none })
  | none => (none, s.setCall { x with playout := none })

/-- The receive frame boundary at m of channel c (R330): the frame is the input block of the receive hop, which begins it a block
later (R18, R351). -/
def State.receiveWith (c m : Nat) (r : Release) (depth : DepthChange) (s : State) : State :=
  match s.sourceOf (callId c) 0 with
  | none => s.setCall { s.callDyn c with rxAt := some m }
  | some (n, _) =>
    let s := (s.rxFresh c).lecDepth c depth
    if r = .none then s.setCall { s.callDyn c with rxAt := some m }
    else
      let rate := (s.callDyn c).rxNow.rate
      let (xs, s) := s.receiveAudio c n r
      let (xs, s) := s.cancelEcho c m xs
      let (tone, s) := s.playoutNow c m
      let xs := match tone with
        | some (code, vol, start) => Config.tonePair code vol ((m - start) * rate / 48000) xs.length rate
        | none => xs
      let x := s.callDyn c
      let (st, ys) := resampleTo rate s.primaryRate x.rsRx (xs.map (· * 8388608))
      s.setCall { x with rsRx := st, rxAt := some m, rxQueue := x.rxQueue ++ [(m + 16, ys)] }

/-- A receive frame boundary: what the buffer releases, and its frame; the record tells the standby (R322). -/
def State.receiveFrame (c : Nat) (s : State) : State :=
  match s.sourceOf (callId c) 0 with
  | none => s.setCall { s.callDyn c with rxAt := some s.m }
  | some (n, _) =>
    let (r, depth, s) := (s.rxFresh c).jbRelease n
    ((s.noteStream n 0).note (.callFrame c s.m r depth)).receiveWith c s.m r depth

/-- CALL_RECEIVE_FRAME: once at each receive frame boundary. -/
def execCallReceiveFrame (ch : Nat) (s : State) : Host.Outcome State Fault Refusal :=
  if s.running (callId ch) && s.power.state == .active && s.time.pos = 0 && s.m % s.frameSmp ch = 0
      && (s.callDyn ch).rxAt ≠ some s.m && !s.following then
    .next (s.receiveFrame ch)
  else .next s

/-! ### The send chain (R330, R333, R348) -/

/-- VOICE_DIGIT_DONE (R353). -/
def State.digitDone (c code status m : Nat) (s : State) : State :=
  s.raise 718 0x0906 (callId c) (evData [(0, leBytes 1 code), (1, leBytes 1 status), (8, leBytes 8 m)])

/-- End of the off time of the digit in progress. -/
def State.digitDoneDue (s : State) (c : Nat) : Option Nat :=
  (s.callDyn c).sending.map fun d => d.start + (d.digit.on + d.digit.off) * s.frameSmp c

/-- The digit in progress is over at sample m. -/
def State.digitEnd (c m : Nat) (s : State) : State :=
  let x := s.callDyn c
  match x.sending with
  | some d => (s.setCall { x with sending := none }).digitDone c d.digit.code 1 m
  | none => s

/-- A digit whose off time ends here is over before the next one starts. -/
def State.digitOver (c : Nat) (s : State) : State :=
  match s.digitDoneDue c with
  | some d => if d ≤ s.m then s.digitEnd c d else s
  | none => s

/-- The stream that a channel's encoded media feeds. -/
def State.sendStream (s : State) (c : Nat) : Option Nat :=
  (s.wires.find? fun w => w.src == callId c && w.srcOut == 1).map (·.dst)

/-- A send frame begins: a codec change is in effect from here on (R338). The stream's payload types are those of the frame's start,
so that both change with one frame (DEDUCED from R338, log 36). -/
def State.beginFrame (c : Nat) (s : State) : SendFrame × State :=
  let x := s.callDyn c
  let now := if x.txStale then s.codecSet (callId c) else x.txNow
  let pts := match s.sendStream c with | some n => (s.parN n 9, s.parN n 10) | none => (0, 0xFF)
  ({ start := s.m, now := now, pt := pts.1, eventPt := pts.2, fresh := x.txStale },
    s.setCall { x with txStale := false, txNow := now })

/-- What the digit sender puts into the frame that starts now (R348). -/
def State.planFrame (c : Nat) (s : State) : SendFrame × State :=
  let (plain, s) := (s.digitOver c).beginFrame c
  let m := s.m
  let f := s.frameSmp c
  let x := s.callDyn c
  let x := match x.sending, x.digits with
    | none, d :: r => if d.from_ ≤ m then { x with sending := some { digit := d, start := m }, digits := r } else x
    | _, _ => x
  let mode := s.callPar c 13
  let audio : SendFrame × CallDyn :=
    match x.endRepeat with
    | some (e, k) => ({ plain with again := some e }, { x with endRepeat := if k ≤ 1 then none else some (e, k - 1) })
    | none => (plain, x)
  match x.sending with
  | none => (audio.1, s.setCall audio.2)
  | some d =>
    if d.digit.on ≤ d.begun then (audio.1, s.setCall audio.2)
    else
      let k := d.begun + 1
      let ends := d.cut || k = d.digit.on
      let e : EventOut := { code := d.digit.code, volume := d.digit.volume, frames := k, ends := ends, marker := k = 1
                            start := d.start }
      let x := { x with sending := if d.cut then none else some { d with begun := k } }
      let x := if ends && mode ≠ 2 then { x with endRepeat := some ({ e with marker := false }, 2) } else x
      ({ plain with
         event := if mode ≠ 2 then some e else none
         tone := if mode ≠ 1 then some (d.digit.code, d.digit.volume, (m - d.start) / f) else none }, s.setCall x)

/-- The next received frame begins at its sample. -/
def CallDyn.startAudio (x : CallDyn) (m : Nat) : CallDyn :=
  match x.rxQueue with
  | (t, ys) :: r => if t ≤ m then { x with rxQueue := r, rxBuf := ys } else x
  | [] => x

/-- One sample of a channel: decoded audio out, send input gathered. -/
def State.callSample (j : Nat) (s : State) (c : Nat) : State :=
  let first := j % s.perSmp = 0
  let boundary := first && s.m % s.frameSmp c = 0
  let s := if boundary then
      let (fr, s) := s.planFrame c
      let x := s.callDyn c
      s.setCall { x with frames := x.frames ++ [fr] }
    else s
  let x := ((s.callDyn c).startAudio s.m).moveGains
  let fed := (s.sourceOf (callId c) 0).isSome
  let out := if fed then sat31 (divEven (x.rxGain * x.rxBuf.headD 0) (2 ^ 67)) else 0
  let inp := divEven (x.txGain * (s.inputSample (callId c) 1 j * 8388608)) (2 ^ 44)
  let frames := match x.frames.getLast? with
    | some fr => x.frames.dropLast ++ [{ fr with samples := inp :: fr.samples }]
    | none => []
  (s.setCall { x with rxBuf := x.rxBuf.tail, frames := frames }).produce (callId c) 0 out

/-- A frame keeps only its own F samples. -/
def State.callsSample (j : Nat) (s : State) : State :=
  if s.power.state == .active then ((s.runningOf Ty.call).map nodeIdx).foldl (State.callSample j) s else s

/-- Hand-over instant of the oldest send frame (R334). -/
def State.callSendDue (s : State) (c : Nat) : Option Nat :=
  (s.callDyn c).frames.head?.map fun f => f.start + 32 + s.sendDelay c f.now

/-- The 4 bytes of an RFC 4733 event. -/
def eventBytes (e : EventOut) (unit : Nat) : Bytes :=
  beBytes 1 e.code ++ beBytes 1 (ofBool e.ends * 128 + e.volume) ++ beBytes 2 (e.frames * unit % 65536)

/-- Encode a frame and hand its packets to the stream. -/
def State.callSend (c : Nat) (s : State) : State :=
  let x := s.callDyn c
  match x.frames with
  | [] => s
  | fr :: rest =>
    let codec := fr.now.codec
    let rate := fr.now.rate
    let f := s.callPar c 2
    let x := if fr.fresh then { x with enc := 0, rsTx := 0 } else x
    let raw := fr.samples.reverse.take (s.frameSmp c * s.perSmp)
    let (rs, ys) := resampleTo s.primaryRate rate x.rsTx raw
    let ys := match fr.tone with
      | some (code, vol, k) => (Config.tonePair code vol (k * f * rate / 1000) ys.length rate).map (· * 8388608)
      | none => ys
    let ref := if fr.event.isSome then ys.map fun _ => 0 else ys.map fun y => divEven y 8388608
    let (enc, bytes) := if fr.event.isSome then (x.enc, []) else encodeFrame codec (s.codecPars c fr.now) x.enc ys
    let handed := fr.start + 32 + s.sendDelay c fr.now
    let s := s.setCall { x with frames := rest, rsTx := rs, enc := enc, references := ((handed, ref) :: x.references).take 2 }
    match s.sendStream c with
    | none => s
    | some n =>
      if !s.running n || !s.sends n then s
      else
        let clock := fr.now.clock
        let unit := f * clock / 1000
        let send (e : EventOut) (s : State) : State :=
          s.sendRtp n e.marker fr.eventPt (s.rtpTime n clock e.start) (eventBytes e unit)
        let s := match fr.event with
          | some e => send e s
          | none => if bytes.isEmpty then s else s.sendRtp n false fr.pt (s.rtpTime n clock fr.start) bytes
        match fr.again with
        | some e => send e s
        | none => s

/-! ### Digits (R348, R349) -/

/-- Empty the queue, each digit with status 2. -/
def State.dropDigits (c : Nat) (s : State) : State :=
  let x := s.callDyn c
  x.digits.foldl (init := s.setCall { x with digits := [] }) fun s d => s.digitDone c d.code 2 s.m

/-- VOICE_DIGIT_CANCEL: a digit in its on time ends at the next frame. -/
def State.cancelDigits (c : Nat) (s : State) : State :=
  let s := s.dropDigits c
  let x := s.callDyn c
  match x.sending with
  | some d =>
    if d.begun < d.digit.on then
      (s.setCall { x with sending := some { d with cut := true } }).digitDone c d.digit.code 2 s.m
    else s
  | none => s

/-- The first sample of the block of R86. -/
def State.nextBlock (s : State) : Nat := 16 * (s.time.block + (if s.closedView.isSome then 2 else 1))

def voiceDigitSend : Contract where
  opcode := 0x0901
  len := lenIn 9 40
  fixed _ _ r :=
    let p := r.payload
    let n := field p 0 1
    1 ≤ n && n ≤ 32 && field p 1 1 ≤ 36 && 40 ≤ field p 2 2 && field p 2 2 ≤ 2000 && 40 ≤ field p 4 2
      && field p 4 2 ≤ 2000 && reservedZero p [(6, 2)]
  node := onTypes [Ty.call]
  standby := false
  body s _ r :=
    let p := r.payload
    let id := r.node.toNat
    let c := nodeIdx id
    let n := field p 0 1
    let f := s.callPar c 2
    let x := s.callDyn c
    let stream := (s.conns.find? fun w => w.src == id && w.srcOut == 1).map (·.dst)
    let noEvents := s.latestN id 13 ≠ 2 && (match stream with | some k => s.latestN k 10 = 0xFF | none => true)
    if p.length ≠ 8 + n then failWith Err.length
    else if (p.drop 8).any fun b => 15 < b.toNat then failWith Err.range
    else if !s.enabled id || noEvents then failWith Err.state
    else if 32 < x.digits.length + n then failWith Err.capacity
    else
      let new (b : Byte) : Digit :=
        { code := b.toNat, volume := field p 1 1, on := ceilDiv (field p 2 2) f, off := ceilDiv (field p 4 2) f
          from_ := s.nextBlock }
      okay (s.setCall { x with digits := x.digits ++ (p.drop 8).map new })

def execVoiceDigitSend (mb : Fin 8) (r : Req) (s : State) : Host.Outcome State Fault Refusal := runCommand voiceDigitSend mb r s

def voiceDigitCancel : Contract where
  opcode := 0x0902
  len := lenIs 0
  node := onTypes [Ty.call]
  standby := false
  body s _ r := if s.enabled r.node.toNat then okay (s.cancelDigits (nodeIdx r.node.toNat)) else failWith Err.state

def execVoiceDigitCancel (mb : Fin 8) (r : Req) (s : State) : Host.Outcome State Fault Refusal :=
  runCommand voiceDigitCancel mb r s

def voiceLecReset : Contract where
  opcode := 0x0903
  len := lenIs 0
  node := onTypes [Ty.call]
  standby := false
  body s _ r :=
    let id := r.node.toNat
    if !s.enabled id || s.latestN id 7 = 0 then failWith Err.state else okay (s.atBoundary (.lecReset (nodeIdx id)))

def execVoiceLecReset (mb : Fin 8) (r : Req) (s : State) : Host.Outcome State Fault Refusal := runCommand voiceLecReset mb r s

/-- VOICE_LEC_RESET at its block boundary. -/
def State.lecCleared (c : Nat) (s : State) : State := State.lecEvent c 4 (s.setCall { s.callDyn c with lec := 0 })

/-! ### Received telephone events (R347) -/

/-- VOICE_EVENT_RX. -/
def State.eventRx (c kind : Nat) (e : RxEvent) (s : State) : State :=
  s.raise 715 0x0903 (callId c)
    (evData [(0, leBytes 1 e.code), (1, leBytes 1 kind), (2, leBytes 2 e.duration), (4, leBytes 1 e.volume), s.mBytes])

/-- One event packet of a stream for its channel. -/
def State.eventIn (c : Nat) (p : JbPacket) (s : State) : State :=
  let code := be p.payload 0 1
  let e : RxEvent := { code := code, volume := be p.payload 1 1 % 64, ts := p.ts, duration := be p.payload 2 2
                       at_ := s.time.ticks }
  let ends := be p.payload 1 1 / 128 = 1
  let x := s.callDyn c
  if !isEvent p.payload then s
  else
    let old := match x.event with
      | some o => if o.ts = p.ts then some o else none
      | none => none
    match old with
    | some o =>
      if o.ended then s
      else
        let s := s.setCall { x with event := some { e with ended := ends } }
        if ends then s.eventRx c 2 e else s
    | none =>
      let s := (s.setCall { x with event := some { e with ended := ends } }).eventRx c 1 e
      if ends then s.eventRx c 2 e else s

/-- Event packets that a stream has accepted pass to its channel (R311). -/
def State.drainEvents (n : Nat) (s : State) : State :=
  let x := s.streamDyn n
  let s := s.setStream { x with eventsIn := [] }
  match s.callRx n with
  | some c => x.eventsIn.foldl (fun s p => s.eventIn (nodeIdx c) p) s
  | none => s

/-- EVENT_TIMEOUT (R347). -/
def execEventTimeout (ch : Nat) (s : State) : Host.Outcome State Fault Refusal :=
  let x := s.callDyn ch
  match x.event with
  | some e =>
    if !e.ended && e.at_ + 12000 ≤ s.time.ticks then
      .next ((s.setCall { x with event := some { e with ended := true } }).eventRx ch 3 e)
    else .next s
  | none => .next s

/-! ### Tone disabler and detectors (R343 to R346) -/

/-- VOICE_LEC of the tone disabler: 1 bypassed, 2 processor off, 3 released. -/
def execVoiceLec (ch : Nat) (change : Nat) (s : State) : Host.Outcome State Fault Refusal :=
  let x := s.callDyn ch
  if !s.running (callId ch) || s.callPar ch 7 = 0 then .next s
  else if change = 1 && !x.bypassed then .next (State.lecEvent ch 1 (s.setCall { x with bypassed := true }))
  else if change = 2 && !x.nlpOff then .next (State.lecEvent ch 2 (s.setCall { x with nlpOff := true }))
  else if change = 3 && (x.bypassed || x.nlpOff) then
    .next (State.lecEvent ch 3 (s.setCall { x with bypassed := false, nlpOff := false }))
  else .next s

def State.toneDyn (s : State) (d : Nat) : ToneDyn := (findKey ToneDyn.det d s.voice.tones).getD { det := d }
def State.setTone (x : ToneDyn) (s : State) : State :=
  { s with voice := { s.voice with tones := putKey ToneDyn.det x s.voice.tones } }

/-- One more tone is reported (R344). -/
def ToneDyn.counts (x : ToneDyn) (begins : Bool) : ToneDyn := { x with count := (x.count + ofBool begins) % 2 ^ 32 }

/-- A running detector of a kind. -/
def State.detects (s : State) (d kind : Nat) : Bool :=
  s.running (toneId d) && s.parN (toneId d) 1 == kind && s.power.state == .active

/-- A digit decision that R345 does not reject: levels, twist, duration and pause, and told in time. A digit begins where none is in
progress, and ends as it began. -/
def ToneDyn.mayTell (x : ToneDyn) (minLevel : Int) (m : Nat) (d : ToneDecision) : Bool :=
  d.digit ≤ 15 && minLevel - 600 ≤ d.low && minLevel - 600 ≤ d.high && -1000 ≤ d.high - d.low && d.high - d.low ≤ 600
    && d.onset ≤ m
    && if d.begins then
        x.digit.isNone && m ≤ d.onset + 2400
          && match x.lastEnd with | some (k, e) => k != d.digit || e + 480 < d.onset | none => true
      else
        x.digit == some (d.digit, d.onset) && 20 < d.durationMs && d.onset + 48 * d.durationMs ≤ m
          && m ≤ d.onset + 48 * d.durationMs + 2400

def ToneDyn.told (x : ToneDyn) (d : ToneDecision) : ToneDyn :=
  if d.begins then { x.counts true with digit := some (d.digit, d.onset) }
  else { x with digit := none, lastEnd := some (d.digit, d.onset + 48 * d.durationMs) }

/-- VOICE_DIGIT (R345). -/
def execVoiceDigit (det : Nat) (d : ToneDecision) (s : State) : Host.Outcome State Fault Refusal :=
  if s.detects det 1 && (s.toneDyn det).mayTell (s.parI (toneId det) 2) s.m d then
    .next ((s.setTone ((s.toneDyn det).told d)).raise 712 0x0900 (toneId det)
      (evData [(0, leBytes 1 d.digit), (1, leBytes 1 (if d.begins then 1 else 2)), (2, leBytes 2 d.durationMs),
        (4, leSigned 2 d.low), (6, leSigned 2 d.high), (8, leBytes 8 d.onset)]))
  else .next s

/-- A component that call-progress detection takes, as reported to within 5 Hz. -/
def cpFrequency (f : Nat) : Bool := 295 ≤ f && f ≤ 2005

/-- VOICE_CP_TONE (R345): a tone is told on while none is, and off while one is. -/
def execVoiceCpTone (det : Nat) (d : CpDecision) (s : State) : Host.Outcome State Fault Refusal :=
  let x := s.toneDyn det
  if s.detects det 1 && s.parN (toneId det) 3 == 1 && x.cp != d.on && cpFrequency d.f1 && (d.f2 = 0 || cpFrequency d.f2)
      && s.parI (toneId det) 2 ≤ d.level then
    .next ((s.setTone { x.counts d.on with cp := d.on }).raise 713 0x0901 (toneId det)
      (evData [(0, leBytes 2 d.f1), (2, leBytes 2 d.f2), (4, leBytes 1 (if d.on then 1 else 2)), (6, leSigned 2 d.level),
        s.mBytes]))
  else .next s

/-- A fax signal begins where none is, or as ANS or ANSam that has reversed; it ends as it began. -/
def ToneDyn.mayFax (x : ToneDyn) (kind : Nat) (begins : Bool) : Bool :=
  1 ≤ kind && kind ≤ 6
    && if begins then x.fax.isNone || (x.fax == some 2 && kind = 4) || (x.fax == some 3 && kind = 5) else x.fax == some kind

/-- VOICE_FAX_TONE (R346). -/
def execVoiceFaxTone (det : Nat) (kind : Nat) (begins : Bool) (s : State) : Host.Outcome State Fault Refusal :=
  let x := s.toneDyn det
  if s.detects det 2 && x.mayFax kind begins then
    .next ((s.setTone { x.counts begins with fax := if begins then some kind else none }).raise 714 0x0902 (toneId det)
      (evData [(0, leBytes 1 kind), (1, leBytes 1 (if begins then 1 else 2)), s.mBytes]))
  else .next s

/-! ### Life cycle (R338, R354) -/

/-- The channel enters the run list. -/
def State.callBegin (c : Nat) (s : State) : State :=
  let rx := gain44 (s.parI (callId c) 10)
  let tx := gain44 (s.parI (callId c) 11)
  let now := s.codecSet (callId c)
  s.setCall { ch := c, rxGain := rx, rxTarget := rx, txGain := tx, txTarget := tx, rxNow := now, txNow := now, rate := now.rate }

def State.callEnd (c : Nat) (s : State) : State := s.setCall { ch := c, concealed := (s.callDyn c).concealed }

def State.toneBegin (d : Nat) (s : State) : State := s.setTone { det := d }

/-- A codec parameter has changed (R338): the next frame of each direction starts from reset. -/
def State.codecChanged (c : Nat) (s : State) : State :=
  if s.running (callId c) then s.setCall { s.callDyn c with rxStale := true, txStale := true } else s

/-- LEC_OFFSET has changed: coefficients keep their lag (R341). -/
def State.lecMoved (c old : Nat) (s : State) : State :=
  let x := s.callDyn c
  s.setCall { x with lec := Config.lecShift x.lec (48 * ((old : Int) - s.callPar c 8)) }

/-- Standby entry: filters are kept, digits dropped, codecs restart (R354). -/
def State.voiceStandby (s : State) : State :=
  let s := { s with voice := { s.voice with tones := s.voice.tones.map fun x : ToneDyn => { det := x.det, count := x.count } } }
  (s.voice.calls.map CallDyn.ch).foldl (init := s) fun s c =>
    let s := s.dropDigits c
    let x := s.callDyn c
    let s := match x.sending with
      | some d => if d.cut then s else s.digitDone c d.digit.code 2 s.m
      | none => s
    let now := s.codecSet (callId c)
    s.setCall { ch := c, rxGain := x.rxTarget, rxTarget := x.rxTarget, txGain := x.txTarget, txTarget := x.txTarget
                lec := if now.rate = x.rate then x.lec else 0, rate := now.rate, rxNow := now, txNow := now
                concealed := x.concealed }

/-- The end of a block: concealment latch (R353). -/
def State.voiceBlock (s : State) : State :=
  let v := s.voice
  State.blockLatch 717 0 (callId v.concealFirst) v.concealBlock
    (evData [(0, leBytes 4 v.concealBlock), (8, leBytes 8 s.m)])
    { s with voice := { v with concealBlock := 0, concealFirst := 0 } }

/-! ### Combinations and live parameters (R336, R337) -/

/-- R337 on the parameters given. -/
def callCombo (get : Nat → Nat) : Bool :=
  let codec := get 1
  let rate := codecRate codec (get 3)
  let bits := get 6
  let range := opusRange codec
  !(get 7 ≠ 0 && rate = 48000) && !(9 ≤ codec && get 3 = 2 && get 2 = 20)
    && !(6 ≤ codec && codec ≤ 8 && bits ≠ 0 && (bits < range.1 || range.2 < bits))

def State.callLive (s : State) (c pid : Nat) : Bytes :=
  let x := s.callDyn c
  if pid = 16 then
    [BitVec.ofNat 8 (ofBool x.received + 2 * ofBool (x.run ≠ 0) + 4 * ofBool x.bypassed + 8 * ofBool x.nlpOff
      + 16 * ofBool x.sending.isSome + 32 * ofBool x.playout.isSome)] ++ leBytes 1 x.digits.length ++ zeros 2
  else if pid = 17 then leBytes 2 (Config.lecLevels x.lec).1
  else if pid = 18 then leBytes 2 (Config.lecLevels x.lec).2
  else leBytes 4 x.concealed

end Sys2Proof.Machine
end

