-- ==== Sys2Proof/Machine/Ethernet.lean ====
section
/-! DEFINITION. Ports, the classifier, the address protocols, host frames, and PTP messages (R135 to R139, R296 to R303). -/

namespace Sys2Proof.Machine

/-! ### Frames to the host (R302) -/

/-- A frame that the host will not get (source 194). -/
def State.hostDrop (p : Nat) (s : State) : State :=
  let c := s.eth.dropBlock + 1
  let s := s.countPort p fun k => { k with hostDropped := satAdd32 k.hostDropped 1 }
  { s with eth := { s.eth with dropBlock := c, dropFirst := if c = 1 then ethId p else s.eth.dropFirst } }

/-- Forward a frame to HOST_RX with the row of R300 that did so. -/
def State.toHost (p row : Nat) (b : Bytes) (s : State) : State :=
  let h := leBytes 2 b.length ++ leBytes 1 p ++ leBytes 1 row ++ zeros 4 ++ leBytes 4 s.secs ++ leBytes 4 s.nanos
  let ws := wordsOfBytes (16 + b.length) (h ++ b)
  let q := s.parN (ethId p) 6
  let h := s.queue (nodeIdx q)
  if q = 0 || h.cap < h.level + ws.length then s.hostDrop p
  else (s.pushPacket (nodeIdx q) ws).countPort p fun k => { k with toHost := satAdd32 k.toHost 1 }

def State.discardFrame (p : Nat) (s : State) : State := s.countPort p fun k => { k with discarded := satAdd32 k.discarded 1 }

/-- A received error (source 193). -/
def State.rxError (p : Nat) (s : State) : State :=
  let c := s.eth.errBlock + 1
  let s := s.countPort p fun k => { k with errors := satAdd32 k.errors 1 }
  { s with eth := { s.eth with errBlock := c, errFirst := if c = 1 then ethId p else s.eth.errFirst } }

/-! ### Addresses (R299 to R301) -/

/-- The device answers on an interface: alone, or as the active device where it is pair-shared. -/
def State.answers (s : State) (x : Iface) : Bool := !x.shared || s.drivesOutputs

/-- Multicast destinations that the port accepts: joined groups, the all-nodes groups and solicited-node groups. -/
def State.acceptsGroup (s : State) (p : Nat) (mac : Bytes) : Bool :=
  let joined := (s.eth.groups.filter fun g => g.1 == p).map fun g => multicastMac g.2.2
  let own := (List.range 8).flatMap fun i =>
    let x := s.iface p i
    if !x.enable then []
    else (if x.v4 then [multicastMac [224, 0, 0, 1]] else [])
      ++ if x.v6 then [multicastMac ([0xFF, 0x02] ++ zeros 13 ++ [1]), multicastMac (solicitedNode x.ip6),
                       multicastMac (solicitedNode (linkLocal (s.ifMac p i)))] else []
  (joined ++ own).contains mac

/-- PTP multicast addresses of IEEE 1588 over Ethernet, IPv4 and IPv6. -/
def ptpMacs : List Bytes :=
  [[0x01, 0x1B, 0x19, 0, 0, 0], [0x01, 0x80, 0xC2, 0, 0, 0x0E], [0x01, 0, 0x5E, 0, 0x01, 0x81], [0x01, 0, 0x5E, 0, 0, 0x6B],
    [0x33, 0x33, 0, 0, 0x01, 0x81], [0x33, 0x33, 0, 0, 0, 0x6B]]

def State.accepts (s : State) (p : Nat) (dst : Bytes) : Bool :=
  let vmac := s.ethPar p 4
  dst == s.ethPar p 3 || (vmac.any (· != 0) && dst == vmac) || dst == broadcastMac || s.acceptsGroup p dst
    || ptpMacs.contains dst

/-- ETH_ADDR_CONFLICT (R327). -/
def State.addrConflict (p i family : Nat) (mac : Bytes) (s : State) : State :=
  s.raise 195 0x0803 (ethId p) (evData [(0, leBytes 1 i), (1, leBytes 1 family), (2, mac)])

/-- ARP (R301): learn the sender, tell a conflict, answer a request for the interface's address. -/
def State.arpIn (p i : Nat) (b : Bytes) (s : State) : State :=
  let x := s.iface p i
  let mac := s.ifMac p i
  let sha := slice b 8 6
  let spa := slice b 14 4
  if !x.v4 then s
  else if spa = x.ip4 && sha ≠ mac then s.addrConflict p i 4 sha
  else
    let s := if spa.any (· != 0) then s.learn p i spa sha else s
    if be b 6 2 = 1 && slice b 24 4 = x.ip4 && s.answers x then
      s.sendFrame p i false (ethFrame sha mac x.vlan x.pcp 0x0806 (arp 2 mac x.ip4 sha spa))
    else s

/-- A Neighbor Advertisement: solicited to its asker, or unsolicited to all nodes. -/
def State.advertise (p i : Nat) (mac src dst : Bytes) (solicited : Bool) (dmac : Bytes) (s : State) : State :=
  let x := s.iface p i
  let body := beBytes 4 (0x20000000 + (if solicited then 0x40000000 else 0)) ++ src ++ [2, 1] ++ mac
  s.sendFrame p i false (ethFrame dmac mac x.vlan x.pcp 0x86DD (ipv6 0 58 255 src dst (icmp6 136 0 src dst body)))

/-- Neighbour discovery and multicast listener messages (R301); the rest are left without an answer. -/
def State.ndIn (p i : Nat) (pkt : Ip) (src : Bytes) (s : State) : State :=
  let x := s.iface p i
  let mac := s.ifMac p i
  let type := be pkt.body 0 1
  let target := slice pkt.body 8 16
  let mine := x.v6 && (target = x.ip6 || target = linkLocal mac)
  if type = 135 then
    if mine && s.answers x then s.advertise p i mac target pkt.src true src else s
  else if type = 136 then
    let other := if slice pkt.body 24 1 = [2] then slice pkt.body 26 6 else src
    if mine && other ≠ mac then s.addrConflict p i 6 other else s.learn p i target other
  else if type = 130 then
    (s.eth.groups.filter fun g => g.1 == p && g.2.1 == i && g.2.2.length == 16).foldl (init := s) fun s g =>
      s.report p i true none g.2.2
  else s

/-- Echo requests (R301): answered up to 1000 a second per port when the interface says so, else forwarded. -/
def State.echoIn (p i row : Nat) (pkt : Ip) (frame : Parsed) (raw : Bytes) (s : State) : State :=
  let x := s.iface p i
  let v4 := pkt.src.length = 4
  let ours := x.echo && pkt.dst = x.ip v4 && pkt.body.length ≤ 1480 && 0 < (s.port p).echoLeft && s.answers x
  if !ours then s.toHost p row raw
  else
    let s := s.setPort p { s.port p with echoLeft := (s.port p).echoLeft - 1 }
    let rest := pkt.body.drop 4
    let body := if v4 then ipv4 0 1 64 [] pkt.dst pkt.src (icmp4 0 0 rest)
      else ipv6 0 58 64 pkt.dst pkt.src (icmp6 129 0 pkt.dst pkt.src rest)
    s.sendFrame p i false (ethFrame frame.src (s.ifMac p i) x.vlan x.pcp frame.type body)

/-! ### The classifier (R300) -/

/-- The live enabled stream that a datagram matches, and whether it is RTCP. -/
def State.matchStream (s : State) (p i : Nat) (dst : Bytes) (dport : Nat) (body : Bytes) : Option (Nat × Bool) :=
  let on (n : Nat) : Bool := s.streamPort n == p && s.streamIf n == i
  let rtp (n : Nat) : Option (Nat × Bool) :=
    let mux := bit (s.parN n 4) 0
    let type := be body 1 1
    if !on n then none
    else if s.parN n 5 = dport then some (n, mux && 192 ≤ type && type ≤ 223)
    else if !mux && s.parN n 5 + 1 = dport then some (n, true) else none
  match (s.runningOf Ty.rtp).findSome? rtp with
  | some x => some x
  | none =>
    let aes (n : Nat) : Bool :=
      let g := s.par n 9
      on n && s.receives n && s.parN n 11 == dport
        && (if g.all (· == 0) then dst == (s.iface p i).ip (dst.length = 4) else wireIp g == dst)
    ((s.runningOf Ty.aes).find? aes).map fun n => (n, false)

/-- Hand a datagram to its stream: sources that do not match are discarded and counted (R306, R317). The primary of a pair records
what it decided, and a standby in lockstep takes no decision of its own (R322). -/
def State.streamIn (n : Nat) (rtcp inMargin : Bool) (pkt : Ip) (s : State) : State :=
  let body := pkt.body.drop 8
  if s.power.state != .active || s.following then s
  else if isRtp n then
    let ip := s.par n 7
    let port := s.parN n 6
    let okIp := ip.all (· == 0) || wireIp ip == pkt.src
    let okPort := rtcp || port = 0 || port = be pkt.body 0 2
    if !okIp || !okPort then s.discardPkt n
    else if rtcp then (s.rtcpIn n body).noteStream n 0
    else if s.receives n then ((s.rtpMedia n body).noteStream n (be body 2 2)).drainEvents n else s.discardPkt n
  else
    let take := match s.sourceFilter n with | some a => a == pkt.src | none => true
    (if take then s.aesMedia n body inMargin else s.discardPkt n).noteStream n (be body 2 2)

/-- The rows of R300 for a frame that passed the port's checks. PTP frames reach the time unit by their own row. -/
def State.classify (p : Nat) (b : Bytes) (inMargin : Bool) (s : State) : State :=
  let f := parseEth b
  if !s.accepts p f.dst then
    if f.type = 0x8808 then (s.discardFrame p).countPort p fun k => { k with pause := satAdd32 k.pause 1 }
    else s.discardFrame p
  else if f.type = 0x8808 then (s.discardFrame p).countPort p fun k => { k with pause := satAdd32 k.pause 1 }
  else if f.type = 0x88F7 then s
  else if f.stacked then s.toHost p 6 b
  else
    match (List.range 8).find? fun i => (s.iface p i).enable && (s.iface p i).vlan == f.vlan with
    | none => s.discardFrame p
    | some i =>
      let pkt := parseIp f.type f.body
      let type := be pkt.body 0 1
      let udp := pkt.proto = 17
      let dport := be pkt.body 2 2
      if f.type = 0x0806 then s.arpIn p i f.body
      else if f.type ≠ 0x0800 && f.type ≠ 0x86DD then s.toHost p 6 b
      else if !pkt.plain then s.toHost p 7 b
      else if !pkt.sumOk || (udp && !udpSumOk pkt) then s.discardFrame p
      else if f.type = 0x0800 && pkt.proto = 1 && type = 8 then s.echoIn p i 9 pkt f b
      else if f.type = 0x86DD && pkt.proto = 58 && type = 128 then s.echoIn p i 9 pkt f b
      else if f.type = 0x86DD && pkt.proto = 58 && ((130 ≤ type && type ≤ 137) || type = 143) then s.ndIn p i pkt f.src
      else if udp && (dport = 319 || dport = 320) then s
      else
        match (if udp then s.matchStream p i pkt.dst dport (pkt.body.drop 8) else none) with
        | some (n, rtcp) => s.streamIn n rtcp inMargin pkt
        | none => s.toHost p 12 b

/-- ETH_FRAME_RX (R300): errors, runts and oversized frames are counted and discarded (R296). -/
def execEthFrameRx (f : EthFrame) (s : State) : Host.Outcome State Fault Refusal :=
  let p := f.port.val
  if !s.linkUp p then .next s
  else
    let s := s.countPort p fun k => { k with rx := satAdd32 k.rx 1 }
    let n := f.bytes.length + 4
    if !f.fcsOk || n < 64 || s.parN (ethId p) 5 < n then .next (s.rxError p)
    else .next (s.classify p f.bytes f.onTime)

/-! ### Links (R298) -/

/-- ETH_LINK (R298). -/
def State.linkEvent (p : Nat) (up : Bool) (s : State) : State :=
  s.raise 192 0x0800 (ethId p)
    (evData [(0, leBytes 1 (if up then 2 else 0)), (1, leBytes 1 (s.parN (ethId p) 2)), s.mBytes])

/-- The port loses its link and the calibration of its PHY constant. -/
def State.portDown (p : Nat) (s : State) : State :=
  let q := s.time.ports[p]?.getD {}
  let s := { s with time := { s.time with ports := s.time.ports.setIfInBounds p { q with calibrated := false } } }
  s.setPort p { s.port p with link := 0 }

/-- ETH_LINK: a running port's link comes up with block lock, or goes down. -/
def execEthLink (port : Fin 4) (up : Bool) (s : State) : Host.Outcome State Fault Refusal :=
  let p := port.val
  let was := (s.port p).link
  if !s.running (ethId p) then .next s
  else if up then
    if was ≠ 0 then .next s else .next ((s.setPort p { s.port p with link := 1 }).linkEvent p true)
  else if was = 0 then .next s else .next ((s.portDown p).linkEvent p false)

/-- NODE_DISABLE of a port (R298). -/
def State.portEnd (p : Nat) (s : State) : State :=
  if (s.port p).link = 0 then s else (s.portDown p).linkEvent p false

/-- GRATUITOUS_ARP (R299): one of the 3 announcements. -/
def execGratuitousArp (port : Fin 4) (iface : Fin 8) (s : State) : Host.Outcome State Fault Refusal :=
  let p := port.val
  let i := iface.val
  let x := s.iface p i
  let mac := s.ifMac p i
  if x.announce = 0 || !s.linkUp p then .next s
  else
    let s := s.setPort p { s.port p with ifs := (s.port p).ifs.set i { x with announce := x.announce - 1 } }
    let s := if x.v4 then s.sendFrame p i false (ethFrame broadcastMac mac x.vlan x.pcp 0x0806 (arp 1 mac x.ip4 (zeros 6) x.ip4))
      else s
    let all := [0xFF, 0x02] ++ zeros 13 ++ [1]
    .next (if x.v6 then s.advertise p i mac x.ip6 all false (multicastMac all) else s)

/-- An AES67 packet of the port is ready to be sent (R303). -/
def State.streamReady (s : State) (p : Nat) : Bool :=
  (s.runningOf Ty.aes).any fun n => s.sends n && s.streamPort n == p && s.packetReady n

/-- HOST_FRAME_TX (R302, R303): while no stream frame is ready, the head packet of HOST_TX leaves as written; one too long is discarded and counted. -/
def execHostFrameTx (port : Fin 4) (s : State) : Host.Outcome State Fault Refusal :=
  let p := port.val
  let q := s.parN (ethId p) 7
  if q = 0 || !s.linkUp p || s.streamReady p then .next s
  else
    match s.popPacket (nodeIdx q) with
    | none => .next s
    | some (pkt, s) =>
      let b := packetBytes pkt
      if pkt.poisoned then .next (s.dropPoison (nodeIdx q) 2 pkt)
      else if s.parN (ethId p) 5 < b.length + 4 then .next (s.hostDrop p)
      else
        .next ((s.countPort p fun k => { k with
          tx := satAdd32 k.tx 1, hostSent := satAdd32 k.hostSent 1 }).emit (.frame p b))

/-! ### PTP messages (R135 to R139) -/

def State.setPtp (p : Nat) (x : PtpPort) (s : State) : State := { s with time := { s.time with ports := s.time.ports.setIfInBounds p x } }

/-- A Sync of the parent: HOLDOVER ends, and the measured offset goes to the servo. -/
def State.syncIn (p : Nat) (offset : Int) (s : State) : State :=
  let t := s.time
  if t.parentPort = p && t.cfg.servoSource = 0 then
    let s := { s with time := { t with lastSync := t.ticks } }
    (if t.servo = .holdover then s.acquire else s).measure offset
  else s

/-- An Announce (R139, R151): a better sender becomes the parent of a servo that follows PTP, the parent's own is noted. Under
802.1AS its path trace is kept, and one whose path holds this clock is not taken (R135; IEEE 802.1AS, log 25). -/
def State.announceIn (p : Nat) (gm : BitVec 64) (steps : Nat) (better : Bool) (path : List (BitVec 64)) (s : State) : State :=
  let t := s.time
  let gptp := t.cfg.profile = 3
  if gptp && path.contains Config.clockIdentity then s
  else if better then
    let t := { t with gm := gm, steps := steps, path := if gptp then path else t.path }
    if t.cfg.servoSource ≠ 0 then { s with time := t }
    else
      let same := s.time.parentPort = p && s.time.gm = gm
      let s := { s with time := { t with parentPort := p, lastAnnounce := t.ticks, lastSync := t.ticks } }
      if same then s else (s.parentChange).acquire
  else if t.parentPort = p then { s with time := { t with lastAnnounce := t.ticks } }
  else s

/-- A received stamp, of 1/256 ns, at the reference plane and with the port's correction (R6, R136): the plane lies before the MII
boundary by the PHY constant (log 25). -/
def PtpPort.rxStamp (x : PtpPort) (stamp : Nat) : Int := stamp - x.phy + x.ingress

/-- A departure stamp: the plane lies behind the MII boundary. -/
def PtpPort.txStamp (x : PtpPort) (mii : Int) : Int := mii + x.phy + x.egress

/-- A Sync with its corrections, received at t2: the offset from the parent is t2 - t1 less path delay and asymmetry
(IEEE 1588, log 25). -/
def State.syncStamp (p : Nat) (x : PtpPort) (t1 t2 : Int) (s : State) : State :=
  (s.setPtp p { x with lastSync := some (t1, t2) }).syncIn p (t2 - t1 - x.delay - x.asymmetry)

/-- Delay_Resp: half of the way there and back is the mean path delay (E2E). -/
def State.delayStamp (p : Nat) (x : PtpPort) (t4 : Int) (s : State) : State :=
  match x.mech, x.lastSync, x.asked with
  | 1, some (t1, t2), some t3 => s.setPtp p { x with delay := ((t2 - t1) + (t4 - t3)) / 2, asked := none }
  | _, _, _ => s

/-- Pdelay_Resp: the mean link delay (P2P). -/
def State.pdelayStamp (p : Nat) (x : PtpPort) (t2 t3 correction t4 : Int) (s : State) : State :=
  match x.mech, x.asked with
  | 2, some t1 => s.setPtp p { x with delay := (t4 - t1 - (t3 - t2) - correction) / 2, asked := none }
  | _, _ => s

/-- What a message of the device's domain does, `at_` its corrected stamp; a port that is not calibrated ignores event messages
(R137). -/
def State.ptpIn (i : Nat) (x : PtpPort) (at_ : Int) (b : PtpBody) (s : State) : State :=
  match b with
  | .authenticated | .management _ => s
  | .announce gm steps better path => s.announceIn i gm steps better path
  | .sync origin correction => if x.calibrated then s.syncStamp i x (origin + correction) at_ else s
  | .delayReq => if x.calibrated then s.setPtp i { x with delayReqAt := some at_ } else s
  | .pdelayReq => if x.calibrated then s.setPtp i { x with pdelayReqAt := some at_ } else s
  | .delayResp receipt correction => s.delayStamp i x (receipt - correction)
  | .pdelayResp receipt origin correction => if x.calibrated then s.pdelayStamp i x receipt origin correction at_ else s

/-- PTP_MESSAGE_RX (R135, R136, R137). DESIGN CHOICE (log 25): a management, signalling or authenticated message is forwarded or
counted whatever its domain; the spec gives no order between these and the check of the domain. -/
def execPtpMessageRx (p : PtpMessage) (s : State) : Host.Outcome State Fault Refusal :=
  let i := p.port.val
  let x := s.time.ports[i]?.getD {}
  if !x.enable || s.time.cfg.profile = 0 || !s.linkUp i || !s.ready then .next s
  else
    match p.body with
    | .authenticated => .next (s.setPtp i { x with authDropped := satAdd32 x.authDropped 1 })
    | .management f => .next (s.toHost i (if (parseEth f).type = 0x88F7 then 3 else 10) f)
    | b =>
      if p.domain ≠ s.time.cfg.domain then .next (s.setPtp i { x with otherDomain := satAdd32 x.otherDomain 1 })
      else .next (s.ptpIn i x (x.rxStamp p.stamp) b)

/-- An event message carries a departure stamp (R136). -/
def ptpEvent : PtpKind → Bool
  | .announce => false
  | .delayResp => false
  | .sync => true
  | .delayReq => true
  | .pdelayReq => true
  | .pdelayResp => true

/-- What a message that leaves at `at_` carries (R138): in one-step mode a Sync its departure stamp, a Pdelay_Resp the turnaround;
in two-step mode the stamp travels in the Follow_Up. An answer names the receipt of its request. -/
def ptpSent (x : PtpPort) (kind : PtpKind) (at_ : Int) (path : List (BitVec 64)) : PtpSent :=
  let one := x.step = 1
  { kind := kind, transport := x.transport
    origin := match kind with
      | .sync => if one then some at_ else none
      | .delayResp => x.delayReqAt
      | .pdelayResp => if one then none else x.pdelayReqAt
      | .announce | .delayReq | .pdelayReq => none
    correction := match kind, x.pdelayReqAt with
      | .pdelayResp, some t => if one then at_ - t else 0
      | _, _ => 0
    followUp := if !one && (kind = .sync || kind = .pdelayResp) then some at_ else none
    appended := if x.transport = 2 then 2 else 0
    path := if kind = .announce then path else [] }

/-- The port may send a message of this kind: event messages once it is calibrated, answers to a request in hand (R137). -/
def PtpPort.sends (x : PtpPort) (kind : PtpKind) : Bool :=
  (!ptpEvent kind || x.calibrated)
    && match kind with
      | .delayResp => x.delayReqAt.isSome
      | .pdelayResp => x.pdelayReqAt.isSome
      | .announce | .sync | .delayReq | .pdelayReq => true

/-- What the port keeps of a message it sent: the departure of a request, that an answer has gone. -/
def PtpPort.after (x : PtpPort) (kind : PtpKind) (at_ : Int) : PtpPort :=
  match kind with
  | .delayReq | .pdelayReq => { x with asked := some at_ }
  | .delayResp => { x with delayReqAt := none }
  | .pdelayResp => { x with pdelayReqAt := none }
  | .announce | .sync => x

/-- PTP_MESSAGE_TX (R136, R138): the start-of-frame delimiter passes the MII boundary within the sample in progress, at a free
phase (log 3). -/
def execPtpMessageTx (port : Fin 4) (kind : PtpKind) (s : State) : Host.Outcome State Fault Refusal :=
  let i := port.val
  let x := s.time.ports[i]?.getD {}
  if !x.enable || s.time.cfg.profile = 0 || !s.linkUp i || !s.ready || !x.sends kind then .next s
  else
    let (v, s) := s.drawFree
    let at_ := x.txStamp ((s.time.net / 768 + v % 5333333 : Nat) : Int)
    let msg := ptpSent x kind at_ (if s.time.cfg.profile = 3 then s.time.path ++ [Config.clockIdentity] else [])
    let n := if msg.followUp.isSome then 2 else 1
    .next (((s.setPtp i (x.after kind at_)).countPort i fun k => { k with tx := satAdd32 k.tx n }).emit (.ptp i msg))

/-- PORT_CALIBRATED (R137). -/
def execPortCalibrated (port : Fin 4) (phy : Nat) (s : State) : Host.Outcome State Fault Refusal :=
  let i := port.val
  if (s.port i).link = 1 then
    let s := s.setPtp i { s.time.ports[i]?.getD {} with calibrated := true, phy := phy }
    let s := s.setPort i { s.port i with link := 2 }
    .next (s.raise 132 0x0204 (ethId i) (evData [(0, leBytes 4 phy), (4, leBytes 1 (s.parN (ethId i) 2))]))
  else .next s

/-! ### ETH_IF_SET, ETH_COUNTERS -/

def unicast4 (ip : Bytes) : Bool := let a := be ip 0 1; a ≠ 0 && a ≠ 127 && a < 224
def unicast6 (ip : Bytes) : Bool :=
  be ip 0 1 ≠ 255 && be ip 0 2 / 64 ≠ 0x3FA && beNat ip ≠ 0 && beNat ip ≠ 1

def ifaceOf (p : Bytes) : Iface :=
  let f := field p 1 1
  { enable := bit f 0, v4 := bit f 1, v6 := bit f 2, shared := bit f 3, echo := bit f 4, vlan := field p 2 2
    pcp := field p 4 1, prefix4 := field p 5 1, prefix6 := field p 6 1, ip4 := slice p 8 4, gw4 := slice p 12 4
    ip6 := slice p 16 16, gw6 := slice p 32 16 }

def Iface.ok (x : Iface) : Bool :=
  let zero (b : Bytes) : Bool := b.all (· == 0)
  (if x.v4 then 8 ≤ x.prefix4 && x.prefix4 ≤ 30 && unicast4 x.ip4 && (zero x.gw4 || samePrefix x.prefix4 x.ip4 x.gw4)
        else x.prefix4 = 0 && zero x.ip4 && zero x.gw4)
    && (if x.v6 then 64 ≤ x.prefix6 && x.prefix6 ≤ 127 && unicast6 x.ip6 && (zero x.gw6 || be x.gw6 0 2 / 64 = 0x3FA)
        else x.prefix6 = 0 && zero x.ip6 && zero x.gw6)

def ethIfSet : Contract where
  opcode := 0x0801
  len := lenIs 64
  fixed _ _ r :=
    let p := r.payload
    field p 0 1 ≤ 7 && field p 1 1 < 32 && (ifaceOf p).vlan ≤ 4094 && (ifaceOf p).pcp ≤ 7
      && reservedZero p [(7, 1), (48, 16)]
  node := onTypes [Ty.eth]
  fields _ _ r := (ifaceOf r.payload).ok
  body s _ r :=
    let p := nodeIdx r.node.toNat
    let i := field r.payload 0 1
    let x := ifaceOf r.payload
    let clash := ((List.range 8).filter (· != i)).any fun j =>
      let y := s.iface p j
      y.enable && (y.vlan == x.vlan || (x.v4 && y.v4 && x.ip4 == y.ip4) || (x.v6 && y.v6 && x.ip6 == y.ip6))
    let used := (s.nodesOf Ty.rtp ++ s.nodesOf Ty.aes).any fun n =>
      n.2.state == .enabled && s.latestN n.1 1 == p && s.latestN n.1 2 == i
    if clash then failWith Err.conflict
    else if x.shared && (s.latest (ethId p) 4).all (· == 0) then failWith Err.state
    else if used then failWith Err.busy
    else
      let x := { x with announce := if x.enable then 3 else 0 }
      okay (s.setPort p { s.port p with ifs := (s.port p).ifs.set i x })

def execEthIfSet (mb : Fin 8) (r : Req) (s : State) : Host.Outcome State Fault Refusal := runCommand ethIfSet mb r s

def EthCount.bytes (c : EthCount) : Bytes :=
  leBytes 4 c.rx ++ leBytes 4 c.tx ++ leBytes 4 c.errors ++ leBytes 4 c.pause ++ leBytes 4 c.discarded
    ++ leBytes 4 c.toHost ++ leBytes 4 c.hostDropped ++ leBytes 4 c.hostSent

def ethCounters : Contract where
  opcode := 0x0804
  len := lenIs 4
  fixed _ _ r := optionsOk r
  node := onTypes [Ty.eth]
  body s _ r :=
    let p := nodeIdx r.node.toNat
    let out := (s.port p).cnt.bytes
    if bit (field r.payload 0 1) 0 then answer (s.setPort p { s.port p with cnt := {} }) out else answer s out

def execEthCounters (mb : Fin 8) (r : Req) (s : State) : Host.Outcome State Fault Refusal := runCommand ethCounters mb r s

/-! ### Preconditions and the end of a block -/

/-- NODE_ENABLE of a port (R297). -/
def State.portReady (s : State) (p : Nat) : Bool :=
  let mac := s.latest (ethId p) 3
  mac.any (· != 0) && isUnicast mac && !(s.latestN (ethId p) 2 = 1 && s.latestN (ethId p) 1 = 1)

/-- Per-block counts of the latches and the echo allowance of a new second. -/
def State.ethBlock (s : State) : State :=
  let e := s.eth
  let latch (src node n : Nat) (s : State) : State := s.blockLatch src 0 node n (evData [(0, leBytes 4 n), s.mBytes])
  let s := latch 193 e.errFirst e.errBlock s
  let s := latch 194 e.dropFirst e.dropBlock s
  let s := latch 706 e.lossFirst e.lossBlock s
  let s := latch 707 e.authFirst e.authBlock s
  let refill := s.time.ticks / smpPerSecond != (s.time.ticks + 16) / smpPerSecond
  { s with eth := { s.eth with
      errBlock := 0, dropBlock := 0, lossBlock := 0, authBlock := 0
      ports := if refill then s.eth.ports.map fun x => { x with echoLeft := 1000 } else s.eth.ports } }

end Sys2Proof.Machine
end

