-- ==== Sys2Proof/Machine/Blocks.lean ====
section
/-! DEFINITION. Blocks of the Farxis link: control and data blocks with their CRCs, rows over the lanes, and the scrambler of each
lane (R423 to R426, R429). -/

namespace Sys2Proof.Config

/-- Byte k of a packet's payload on the Farxis link: the spec gives no coding of it (log 30). -/
opaque packetByte : PairPayload → Nat → Byte

end Sys2Proof.Config

namespace Sys2Proof.Machine

def linkNode : Nat := mkNode Ty.link 0

def State.setLink (l : Link) (s : State) : State := { s with link := l }

/-- Link parameters (R434). -/
def State.maxRung (s : State) : Nat := s.parN linkNode 1
def State.laneMask (s : State) : Nat := s.parN linkNode 2

/-- Lanes of a mask, rising. -/
def lanesOf (mask : Nat) : List Nat := (List.range 8).filter fun l => bit mask l

def maskOf (lanes : List Nat) : Nat := sumN ((List.range 8).map fun l => if lanes.contains l then 2 ^ l else 0)

/-- LINK_STATE (R447). -/
def LinkState.code : LinkState → Nat
  | .disabled => 0
  | .detect => 1
  | .wake => 2
  | .caps => 3
  | .rungTest => 4
  | .active => 5
  | .quiet => 6
  | .deep => 7
  | .absent => 8
  | .test => 9

def State.farxisEvent (cause : Nat) (s : State) : State :=
  let l := s.link
  s.raise 864 0x0D00 linkNode (evData [(0, leBytes 1 l.state.code), (1, leBytes 1 l.rung), (2, leBytes 1 l.width),
    (3, leBytes 1 cause), (4, leBytes 1 l.laneSet.length), s.mBytes])

/-! ### The scrambler (R424) -/

/-- The last 58 bits a lane has sent or received, the newest in bit 0. -/
abbrev Scrambler := BitVec 58

/-- The two tapped bits, 39 and 58 bits ago. -/
def Scrambler.taps (t : Scrambler) : Bool := (t.getLsbD 38).xor (t.getLsbD 57)

/-- The lane's next bit. -/
def Scrambler.push (t : Scrambler) (b : Bool) : Scrambler := (t <<< 1) ||| BitVec.ofNat 58 (ofBool b)

/-- The bits sent for these, first bit first, and the scrambler after them. -/
def scramble (t : Scrambler) : List Bool → List Bool × Scrambler
  | [] => ([], t)
  | d :: rest =>
    let b := d.xor t.taps
    let r := scramble (t.push b) rest
    (b :: r.1, r.2)

/-- The bits a receiver gets back. -/
def descramble (t : Scrambler) : List Bool → List Bool × Scrambler
  | [] => ([], t)
  | b :: rest =>
    let r := descramble (t.push b) rest
    (b.xor t.taps :: r.1, r.2)

def bitsOfBytes (p : Bytes) : List Bool := p.flatMap fun b => (List.range 8).map b.getLsbD

/-! ### Blocks (R423, R425, R429) -/

/-- The two sync headers. -/
def dataHeader : BitVec 2 := 0b01
def controlHeader : BitVec 2 := 0b10

/-- A block as the link layer sees it: whether it is a control block, and its 16 bytes. -/
structure Block where
  control : Bool
  bytes : Bytes
  deriving DecidableEq, Repr, Inhabited

def idleBlock : Block := ⟨true, 0x1E :: zeros 15⟩

/-- A control block of a type ends in the CRC-32C of its bytes 0 to 11. -/
def controlBlock (type : Byte) (content : Bytes) : Block :=
  let b := type :: padTo 11 content
  ⟨true, b ++ leBytes 4 (crc32c b).toNat⟩

def creditBytes (c : CreditBlock) : Bytes :=
  leBytes 1 (ofBool c.nak0 + 2 * ofBool c.nak1) ++ leBytes 2 c.credits0 ++ leBytes 2 c.credits1
    ++ leBytes 2 (c.last0 % 4096) ++ leBytes 2 (c.last1 % 4096)

/-- Content of a HEARTBEAT block (R465). -/
def heartbeatBytes (h : Heartbeat) : Bytes :=
  leBytes 1 h.role ++ leBytes 1 h.state ++ leBytes 1 (ofBool h.token + 2 * ofBool h.outOfLockstep) ++ leBytes 8 h.lastBlock

/-- A packet's header block and its data blocks, the last one padded with zeros (R429). The bytes of its payload, whose coding
the spec leaves to the devices, are free (log 30). -/
def packetBlocks (vc seq length : Nat) (x : PairPayload) : List Block :=
  let p := (List.range length).map (Config.packetByte x)
  let h := leBytes 2 vc ++ leBytes 2 length ++ leBytes 2 (seq % 4096) ++ zeros 2 ++ leBytes 4 (crc32c p).toNat
  ⟨false, h ++ leBytes 4 (crc32c h).toNat⟩ ::
    (List.range (ceilDiv length 16)).map fun k => ⟨false, padTo 16 (slice p (16 * k) 16)⟩

/-! ### Rows (R426) -/

/-- One row: the block of each lane that does not idle. -/
abbrev Row := List (Nat × Block)

/-- The stream's blocks over the lanes of the width, logical lane 0 first; what remains of the last row idles. -/
def stripe (lanes : List Nat) (blocks : List Block) : List Row :=
  (List.range (ceilDiv blocks.length lanes.length)).map fun r =>
    (List.range lanes.length).map fun k => (lanes.getD k 0, blocks.getD (lanes.length * r + k) idleBlock)

/-- The rows of what the link sends: TRAIN on every offered lane, REWIDTH on every lane still received, markers and HEARTBEAT on
every lane in use, CREDIT and packets in the stream, a packet with an IDLE block after it (R425 to R429, R435, R439, R465). -/
def Link.rowsOf (l : Link) (offered : List Nat) (x : Sent) : List Row :=
  match x with
  | .train m f => [offered.map fun n => (n, controlBlock 0x33 (leBytes 1 m ++ leBytes 10 f))]
  | .rewidth mask w => [(lanesOf mask).map fun n => (n, controlBlock 0x5A (leBytes 1 mask ++ leBytes 1 w))]
  | .marker n =>
    [(List.range l.laneMap.length).map fun k =>
      let p := l.laneMap.getD k 0
      (p, controlBlock 0x4B (leBytes 1 p ++ leBytes 1 k ++ leBytes 1 l.width ++ leBytes 8 n))]
  | .heartbeat h => [l.laneMap.map fun n => (n, controlBlock 0x66 (heartbeatBytes h))]
  | .credit c => stripe l.laneMap [controlBlock 0x2D (creditBytes c)]
  | .packet vc seq len p => stripe l.laneMap (packetBlocks vc seq len p ++ [idleBlock])
  | _ => []

/-- A lane sends a block: the header as it is, the payload scrambled. -/
def sendBlock (scr : List Scrambler) (n : Nat) (b : Block) : LaneBlock × List Scrambler :=
  let r := scramble (scr.getD n 0) (bitsOfBytes b.bytes)
  (⟨n, if b.control then controlHeader else dataHeader, r.1⟩, scr.set n r.2)

/-- A row goes out on every offered lane; those that the row leaves out carry IDLE blocks (R426). -/
def sendRow (offered : List Nat) (scr : List Scrambler) (row : Row) : List LaneBlock × List Scrambler :=
  offered.foldl (init := ([], scr)) fun a n =>
    let r := sendBlock a.2 n ((getA n row).getD idleBlock)
    (a.1 ++ [r.1], r.2)

def sendAll (offered : List Nat) (scr : List Scrambler) (rows : List Row) : List (List LaneBlock) × List Scrambler :=
  rows.foldl (init := ([], scr)) fun a row =>
    let r := sendRow offered a.2 row
    (a.1 ++ [r.1], r.2)

/-- IDLE rows that went by since the last row a command sent: how many is free (log 56). -/
def idleSince (offered : List Nat) (scr : List Scrambler) (sent : Nat) : List Scrambler :=
  times (Config.idleRows sent) (fun x => (sendRow offered x []).2) scr

/-- Rows leave on the lanes. -/
def State.sendRows (rows : List Row) (s : State) : State :=
  let l := s.link
  let offered := lanesOf s.laneMask
  let r := sendAll offered (idleSince offered l.scramblers l.rows) rows
  (s.setLink { l with scramblers := r.2, rows := l.rows + rows.length }).emit (.lanes r.1)

/-- Something goes out on the link, in its rows. -/
def State.emitLink (x : Sent) (s : State) : State := (s.emit x).sendRows (s.link.rowsOf (lanesOf s.laneMask) x)

/-- Anything but idle brings the lanes back to Active; the first row is an IDLE row (R443). -/
def State.linkWake (s : State) : State :=
  if s.link.state = .quiet then ((s.setLink { s.link with state := .active }).farxisEvent 7).sendRows [[]] else s

end Sys2Proof.Machine
end

