-- ==== Sys2Proof/Machine/Pair.lean ====
section
/-! DEFINITION. The redundant pair: roles and the token, joining, lockstep, heartbeats, takeover and hand-over
(R450 to R476). -/

namespace Sys2Proof.Machine

/-! ### What the pair sees of the link -/

/-- The link is up (R434: STATE 5, 6 or 7). -/
def Link.up (l : Link) : Bool := l.state == .active || l.state == .quiet || l.state == .deep

/-- Mbit/s per lane of a rung (R422). -/
def rungRate (r : Nat) : Nat := [1250, 2500, 5000, 10000, 16000, 25000, 32000].getD r 0

/-- Payload rate in Mbit/s (R433, PAIR_STATUS). -/
def State.linkMbps (s : State) : Nat := if s.link.up then s.link.width * rungRate s.link.rung * 128 / 130 else 0

/-- Put a packet on VC0 or VC1 (R429). -/
def State.sendPacket (vc length : Nat) (p : PairPayload) (s : State) : State :=
  let l := s.link
  if vc = 0 then { s with link := { l with vc0 := { l.vc0 with ready := l.vc0.ready ++ [(length, p)] } } }
  else { s with link := { l with vc1 := { l.vc1 with ready := l.vc1.ready ++ [(length, p)] } } }

/-! ### Changes of role, state and token (R455, R544) -/

/-- TOKEN (R543): 1 this device drives the line, 2 the partner, 0 line high. -/
def Pair.holder (p : Pair) : Nat := if p.token then 1 else if p.partnerToken then 2 else 0

/-- PAIR_STATE (R474). -/
def State.pairEvent (old cause : Nat) (s : State) : State :=
  s.raise 928 0x0E00 0 (evData [(0, leBytes 1 s.pair.role), (1, leBytes 1 old), (2, leBytes 1 s.pair.state),
    (3, leBytes 1 cause), s.mBytes])

/-- Responses that waited for the standby's acknowledgment, up to a block, with PAIR_DEGRADED as given; tag memory keeps what is
written (R67, R462). -/
def State.releaseHeld (upTo : Nat) (degraded : Bool) (s : State) : State :=
  (List.range 8).foldl (init := s) fun s mb =>
    match (s.box mb).held with
    | some h =>
      if h.block ≤ upTo then
        let p := { h.resp with degraded := degraded }
        let b := s.box mb
        let tags := b.tags.map fun e => if e.resp = h.resp then { e with resp := p } else e
        (s.setBox mb { b with tags := tags }).deliver mb p
      else s
    | none => s

/-- A device that no longer follows numbers for itself what the record has not numbered (R460, R467). -/
def State.settleEvents (s : State) : State :=
  if s.following then s
  else s.pair.unnumbered.foldl (fun s e => s.number e) { s with pair := { s.pair with unnumbered := [] } }

/-- Change the pair's role, state or token: one update of the pair registers, its alerts, cause 11 and PAIR_STATE. Outside
lockstep no response waits. -/
def State.pairChange (f : Pair → Pair) (cause : Nat) (s : State) : State :=
  let o := s.pair
  let n := f o
  let s := { s with pair := n }
  let role := o.role != n.role
  let state := o.state != n.state
  let token := o.holder != n.holder
  if role || state || token then
    let s := { s with pair := { n with
      changes := n.changes + 1, alertRole := n.alertRole || role, alertState := n.alertState || state
      alertToken := n.alertToken || token
      log := if n.role = 1 ∧ (n.state = 2 ∨ n.state = 3) then n.log else [] } }
    let s := if n.state = 3 then { s with link := { s.link with hadPair := true } } else s
    let s := (s.setCause 11).settleEvents.pairEvent o.state cause
    if o.state = 3 ∧ n.state ≠ 3 then s.releaseHeld (s.time.block + 2) true else s
  else s

/-- The pair leaves lockstep: state 4 with its cause. -/
def State.leaveLockstep (cause : Nat) (s : State) : State :=
  s.pairChange (fun p => { p with state := 4, cause := cause, deciding := false }) cause

/-- Drive or release PAIR_TOKEN (R453, R466). -/
def State.driveToken (on : Bool) (s : State) : State := if s.pair.token = on then s else s.emit (.token on)

/-! ### Joining (R456, R532) -/

/-- The standby's committed load and enabled ports fit what is in service (R472). -/
def State.pairFits (s : State) : Bool :=
  (List.range 16).all (fun c => s.bench.clustersOut.contains c → s.clusterLoad c = 0)
    && s.committed ≤ s.clustersIn.length * clusterLimit

/-- What the partner is told of this device as a join begins: pair level, clusters and slices in service (R462, R532). -/
def State.tellPartner (s : State) : State :=
  s.sendPacket 0 16 (.level s.boot.running.pairLevel s.clustersIn.length (12 - s.gal.slicesOut.length))

/-- A join starts: the token holder is the primary, the partner the standby; their pair levels must agree. -/
def State.startJoin (cause : Nat) (s : State) : State :=
  if !s.link.up || s.pair.holder = 0 then s
  else
    let role := if s.pair.token then 1 else 2
    if s.boot.running.pairLevel ≠ s.pair.partnerLevel then
      let s := s.pairChange (fun p => { p with role := role, state := 4, cause := 6 }) 6
      if role = 1 then
        s.raise 5 0x1101 0 (evData [(0, leBytes 2 s.boot.running.pairLevel), (2, leBytes 2 s.pair.partnerLevel)])
      else s
    else
      s.tellPartner.pairChange (fun p => { p with
        role := role, state := 2, cause := 0, joinBytes := 0, records := [], log := [], closes := []
        seqAcked := max p.seqAcked s.evq.nextSeq, deciding := false, cutDone := false, stored := [] }) cause

/-! ### The cut (R456) -/

def State.makeCut (s : State) : Cut :=
  { block := s.time.block, epoch := s.time.epoch, ticks := s.time.ticks, rate96 := s.time.rate96, cfg := s.time.cfg
    ports := s.time.ports, pins := s.time.pins, pendCfg := s.time.pendCfg, pendPorts := s.time.pendPorts
    pendPins := s.time.pendPins, pendSet := s.time.pendSet
    actions := s.time.actions, mbx := s.mbx, slots := s.boot.slots, evq := s.evq, nodes := s.nodes, leaving := s.leaving
    conns := s.conns, pend := s.pend, pendLate := s.pendLate, run := s.run, wires := s.wires, slabs := s.slabs
    commits := s.commits, slabSet := s.slabSet, setHere := s.setHere, rd := s.rd, wr := s.wr, front := s.front, gal := s.gal, ren := s.ren, spk := s.spk, cap := s.cap
    streams := s.eth.streams, hops := s.eth.cache, ifs := s.eth.ports.toList.map EthPort.ifs, groups := s.eth.groups, voice := s.voice, bench := s.bench, user := s.mem.user
    holds := s.faults.holds, rails := s.power.rails.toList.map fun r => (r.warn, r.reset), throttle := s.power.hostReq
    compareMode := s.pair.compareMode, autoRejoin := s.pair.autoRejoin }

/-- A packet of the cut holds at most this many bytes (R429). -/
def cutPart : Nat := 2032

/-- The primary of a join takes the cut at a block boundary and sends it on VC1; from here its decisions go into records. Its
bytes, an Ashlar-B stream, are counted as one packet (log 30). -/
def State.sendCut (s : State) : State :=
  let p := s.pair
  if p.role = 1 ∧ p.state = 2 ∧ !p.cutDone then
    State.sendPacket 1 cutPart (.cut cutPart (some s.makeCut)) { s with pair := { p with cutDone := true, log := [] } }
  else s

/-- A local time of the primary as one of this device, whose clock stands d ahead. -/
def shiftTime (d : Int) (t : Nat) : Nat := ((t : Int) + d).toNat

def Mbx.loadFrom (d : Int) (own p : Mbx) : Mbx :=
  { own with
    sess := p.sess, keySlot := p.keySlot, nonce := p.nonce, openKey := p.openKey, lapseAt := shiftTime d p.lapseAt
    lockedOpen := p.lockedOpen, idleTimeout := p.idleTimeout, lastDoorbell := shiftTime d p.lastDoorbell, count := p.count
    tags := p.tags }

/-- Failure counts and locks come with the cut; the keys are each device's own (R81, R515). -/
def KeySlot.loadFrom (d : Int) (own p : KeySlot) : KeySlot :=
  { own with failures := p.failures, lockUntil := p.lockUntil.map (shiftTime d) }

/-- A port's PTP settings are mirrored; its PTP state is each device's own (R153). -/
def PtpPort.loadFrom (own p : PtpPort) : PtpPort :=
  { own with
    enable := p.enable, mech := p.mech, transport := p.transport, step := p.step, logSync := p.logSync
    logAnnounce := p.logAnnounce, logDelay := p.logDelay, announceTimeout := p.announceTimeout, ingress := p.ingress
    egress := p.egress, asymmetry := p.asymmetry }

/-- Timers of a stream, which stand against the primary's local time. -/
def StreamDyn.shift (d : Int) (x : StreamDyn) : StreamDyn :=
  let t := shiftTime d
  { x with
    jb := { x.jb with
      lastChange := if x.jb.lastChange = 0 then 0 else t x.jb.lastChange, overSince := x.jb.overSince.map t
      dropSince := x.jb.dropSince.map t, emptySince := x.jb.emptySince.map t }
    lastSr := x.lastSr.map fun y => (y.1, t y.2), lastRx := t x.lastRx, rtcpAt := t x.rtcpAt, noHopSince := t x.noHopSince
    askedAt := t x.askedAt }

/-- The sending side of a stream stays the standby's own, which builds every packet itself (R322, R323). -/
def StreamDyn.withSender (x own : StreamDyn) : StreamDyn :=
  { x with
    tx := own.tx, begun := own.begun, nextSeq := own.nextSeq, nextPacketAt := own.nextPacketAt, txSamples := own.txSamples
    cnt := { x.cnt with sent := own.cnt.sent, octets := own.cnt.octets }, hop := own.hop, noHopSince := own.noHopSince
    askedAt := own.askedAt, noRoute := own.noRoute }

/-- Numbering, store, settings and latches come with the cut; the ring and interrupt registers are each device's own (R129). -/
def Evq.loadFrom (own p : Evq) : Evq :=
  { own with
    nextSeq := p.nextSeq, store := p.store, gap := p.gap, masked := p.masked, urgent := p.urgent, latches := p.latches
    written := 0, owed := none, owedSlot := false }

/-- The standby loads the cut: what retention tables keep in a failover becomes the primary's (R456). -/
def State.loadCut (c : Cut) (s : State) : State :=
  let d : Int := (s.time.ticks : Int) - c.ticks
  { s with
    time := { s.time with
      block := c.block, pos := 0, epoch := c.epoch, rate96 := c.rate96, cfg := c.cfg, actions := c.actions
      ports := Vector.ofFn fun i : Fin 4 => (s.time.ports[i]).loadFrom c.ports[i], pins := c.pins, pendCfg := c.pendCfg
      pendPorts := c.pendPorts, pendPins := c.pendPins, pendSet := c.pendSet }
    mbx := Vector.ofFn fun i : Fin 8 => (s.box i).loadFrom d (c.mbx[i])
    boot := { s.boot with slots := Vector.ofFn fun i : Fin 16 =>
      (s.boot.slots[i]).loadFrom d (c.slots[i]) }
    evq := s.evq.loadFrom c.evq
    nodes := c.nodes, leaving := c.leaving, conns := c.conns, pend := c.pend, pendLate := c.pendLate, run := c.run
    wires := c.wires, slabs := c.slabs, commits := c.commits, slabSet := c.slabSet, setHere := c.setHere, rd := c.rd, wr := c.wr, front := c.front
    gal := { c.gal with slicesOut := s.gal.slicesOut, moves := s.gal.moves }
    ren := c.ren, spk := c.spk, cap := c.cap
    eth := { s.eth with
      groups := c.groups, ports := Vector.ofFn fun i : Fin 4 => { s.eth.ports[i] with ifs := c.ifs.getD i.val (s.eth.ports[i]).ifs }
      streams := c.streams.map (StreamDyn.shift d), cache := c.hops.map fun h => { h with time := shiftTime d h.time } }
    voice := c.voice, bench := { c.bench with clustersOut := s.bench.clustersOut }
    mem := { s.mem with user := Mem.ofCells c.user }
    faults := { s.faults with holds := c.holds }
    power := { s.power with
      hostReq := c.throttle
      rails := Vector.ofFn fun i : Fin 16 =>
        let t := c.rails.getD i.val (30, 60)
        { s.power.rails[i] with warn := t.1, reset := t.2 } }
    pair := { s.pair with
      compareMode := c.compareMode, autoRejoin := c.autoRejoin, cutDone := true, recordGot := max c.block s.pair.recordGot } }

/-! ### Rejoining -/

/-- A device out of lockstep, or alone, joins again once the cause has cleared (R456, R473). -/
def State.rejoin (s : State) : State :=
  let p := s.pair
  if p.state = 1 ∧ s.link.up then s.startJoin 1
  else if p.state = 4 ∧ s.link.up ∧ p.autoRejoin ∧ (p.role = 1 ∨ s.pairFits) then s.startJoin p.cause
  else s

/-- The link has come up (R456): the device tells its pair level, and the join starts. -/
def State.pairLinkUp (s : State) : State :=
  if s.pairEn then s.tellPartner.rejoin else s

/-- The link has gone down: the pair leaves lockstep, a join ends (R456, R468, R475). -/
def State.pairLinkDown (s : State) : State :=
  if !s.pairEn then s
  else if s.pair.state = 3 then s.leaveLockstep 1
  else if s.pair.state = 2 then s.pairChange (fun p => { p with state := 1 }) 1
  else s

/-! ### Events and records of the partner -/

/-- An event that only the standby raised (R467): PAIR_PARTNER_EVENT, and what it tells of the standby's capacity and
image. -/
def State.partnerEvent (src code node : Nat) (data : Bytes) (s : State) : State :=
  let p := s.pair
  let p :=
    if code = 0x1001 ∨ code = 0x1002 then { p with partnerClusters := field data 1 1 }
    else if code = 0x0400 ∨ code = 0x1017 then { p with partnerSlices := field data 1 1 }
    else if src = 4 ∧ code = 0x1100 then { p with partnerStaged := field data 0 1 = 1 }
    else p
  { s with pair := p }.raise 933 0x0E05 node
    (evData [(0, leBytes 2 src), (2, leBytes 2 code), (4, data.take 8)])

/-- RECORD_ACK (R462): waiting responses up to the block's commands, and the ring's records (R467). -/
def State.acknowledge (block : Nat) (s : State) : State :=
  if s.pair.role = 1 ∧ (s.pair.state = 2 ∨ s.pair.state = 3) ∧ block ≤ s.pair.recordClosed then
    let p := s.pair
    let done := p.closes.filter fun x => x.1 ≤ block
    let s := { s with pair := { p with
      recordAcked := max p.recordAcked block, closes := p.closes.filter fun x => block < x.1
      seqAcked := done.foldl (fun m (x : Nat × Nat) => max m x.2) p.seqAcked } }
    s.releaseHeld block false
  else s

/-- A compare CRC of the standby (R473, R474). -/
def State.compareCrc (block : Nat) (crc : Word) (s : State) : State :=
  match getA block s.pair.ownCrc with
  | some own =>
    if s.pair.role = 1 ∧ s.pair.compareMode ≠ 0 ∧ own ≠ crc then
      let p := s.pair
      let s := { s with pair := { p with
        mismatches := satN u32max (p.mismatches + 1), mismatchSecond := p.mismatchSecond + 1 } }
      let s := s.crossWithin 930 0 0 s.pair.mismatchSecond
        (evData [(0, leBytes 8 block), (8, leBytes 4 own.toNat), (12, leBytes 4 crc.toNat)])
      if p.compareMode = 2 then s.leaveLockstep 6 else s
    else s
  | none => s

/-- What an accepted packet brings (R429, R456 to R473, R507). -/
def State.pairReceive (x : PairPayload) (s : State) : State :=
  match x with
  | .record n ds oldest =>
    if s.pair.role = 2 ∧ (s.pair.state = 2 ∨ s.pair.state = 3) then
      let s := { s with
        pair := { s.pair with recordGot := max s.pair.recordGot n, records := s.pair.records ++ [(n, ds)] }
        evq := if s.following then { s.evq with store := s.evq.store.filter fun e => oldest ≤ e.seq } else s.evq }
      s.sendPacket 0 16 (.ack n)
    else s
  | .level v clusters slices =>
    let s := { s with pair := { s.pair with partnerLevel := v, partnerClusters := clusters, partnerSlices := slices } }
    if s.pair.state = 2 ∧ v ≠ s.boot.running.pairLevel then s.startJoin 6 else s
  | .ack n => s.acknowledge n
  | .cannotApply => if s.pair.role = 1 ∧ s.pair.state = 3 then s.leaveLockstep 3 else s
  | .cut n c =>
    if s.pair.role = 2 ∧ s.pair.state = 2 then
      let s := { s with pair := { s.pair with joinBytes := s.pair.joinBytes + n } }
      match c with
      | some x => s.loadCut x
      | none => s
    else s
  | .compare n crc => s.compareCrc n crc
  | .event src code node data => if s.pair.role = 1 then s.partnerEvent src code node data else s
  | .sleep due sources gpios seconds =>
    let w := s.power
    let asleep : Bool := match w.change with | some (d, _) => d == .sleep | none => false
    if 2 ≤ s.pair.state then
      match due with
      | some m => { s with power := { w with
          change := some (.sleep, m), wakeSources := sources, wakeGpios := gpios, wakeSeconds := seconds } }
      | none => if asleep then { s with power := { w with change := none } } else s
    else s
  | .other _ => s

/-! ### Heartbeats (R465 to R468) -/

/-- PAIR_PATH (R474): path 1 link, 2 pin; 1 lost, 2 regained. -/
def State.pathEvent (path what : Nat) (s : State) : State :=
  s.raise 931 0x0E03 0 (evData [(0, leBytes 1 path), (1, leBytes 1 what), s.mBytes])

/-- A device out of lockstep says so in its heartbeats. -/
def Pair.outOfLockstep (p : Pair) : Bool := p.state == 4

/-- Role as the heartbeat carries it: 1 primary, 2 standby. -/
def State.ownBeat (s : State) : Heartbeat :=
  { role := s.pair.role, state := s.pair.state, token := s.pair.token, outOfLockstep := s.pair.outOfLockstep
    lastBlock := s.time.block - 1 }

/-- Count the partner's heartbeats of the instant that ends. -/
def State.countBeats (s : State) : State :=
  let p := s.pair
  { s with pair := { p with
      missLink := if p.gotLink then 0 else p.missLink + 1, missPin := if p.gotPin then 0 else p.missPin + 1
      gotLink := false, gotPin := false } }

/-- One heartbeat instant: send, or withhold; at the second in a row the token and the outputs are released (R465, R466). -/
def State.beat (missed : Bool) (s : State) : State :=
  let s := s.countBeats
  let p := s.pair
  if missed then
    let s := { s with pair := { p with withheld := p.withheld + 1 } }
    if 2 ≤ p.withheld + 1 then (s.driveToken false).pairChange (fun p => { p with token := false }) 6 else s
  else
    let s := { s with pair := { p with withheld := 0, aliveOut := !p.aliveOut } }
    let s := s.emit (.alive s.pair.aliveOut)
    if s.link.up then s.linkWake.emitLink (.heartbeat s.ownBeat) else s

/-- Heartbeats run from the end of boot with PAIR_EN strapped, outside Sleep (R454, R465). -/
def State.beating (s : State) : Bool := s.pairEn && s.ready && s.awake

/-- A HEARTBEAT block of the partner (R465, R468, R473). -/
def State.pairHeard (h : Heartbeat) (s : State) : State :=
  let p := s.pair
  let lost := 3 ≤ p.missLink
  let s := { s with pair := { p with
    gotLink := true, linkHb := true, missLink := 0, averted := p.averted && h.token
    highSince := if p.partnerToken && !h.token then s.time.ticks else p.highSince } }
  let s := if lost then s.pathEvent 1 2 else s
  let s := s.pairChange (fun p => { p with partnerToken := h.token }) 8
  let s := if s.pair.deciding then s.leaveLockstep 5 else s
  let s := if s.pair.state = 3 ∧ h.outOfLockstep then s.leaveLockstep 6 else s
  s.rejoin

/-- HEARTBEAT_RX. -/
def execHeartbeatRx (h : Heartbeat) (s : State) : Host.Outcome State Fault Refusal :=
  .next (if s.beating && s.link.up then s.pairHeard h else s)

/-- PAIR_ALIVE_EDGE (R465): the pin path's heartbeat. -/
def execPairAliveEdge (s : State) : Host.Outcome State Fault Refusal :=
  .next (if s.beating then
    let p := s.pair
    let s' := { s with pair := { p with gotPin := true, pinHb := true, missPin := 0, lastEdge := s.time.ticks } }
    let s' := if 3 ≤ p.missPin then s'.pathEvent 2 2 else s'
    if s'.pair.deciding then s'.leaveLockstep 5 else s'
  else s)

/-! ### The token (R454) -/

/-- Whether PAIR_TOKEN reads high. What the partner last told holds while either path is good; once three instants are missed on
both, no row carries the level of the line, and its reading is free (log 30). -/
def State.tokenHigh (s : State) : Bool × State :=
  let p := s.pair
  if !p.partnerToken then (true, s)
  else if 3 ≤ p.missLink && 3 ≤ p.missPin then
    let (v, s) := s.drawFree
    (v % 2 == 0, s)
  else (false, s)

/-- Drive PAIR_TOKEN low and become the primary. -/
def State.takeToken (s : State) : State :=
  let s := (s.driveToken true).pairChange (fun p => { p with
    token := true, partnerToken := false, role := 1, state := max 1 p.state }) 8
  s.rejoin

/-- 20 ms. -/
def tokenWait : Nat := 960

/-- TOKEN_ACQUIRE (R454): side B after 20 ms of a high line and no edge; side A as soon as the line reads high. -/
def execTokenAcquire (s : State) : Host.Outcome State Fault Refusal :=
  let p := s.pair
  let quiet := p.highSince + tokenWait ≤ s.time.ticks && p.lastEdge + tokenWait ≤ s.time.ticks
  .next (if s.beating && p.role == 3 && !p.token && (!s.id.straps.pairSideB || quiet) then
    let (high, s) := s.tokenHigh
    if high then s.takeToken else s
  else s)

/-! ### Failure and takeover (R468, R469) -/

/-- PAIR_DECLARE_FAILURE: three instants missed in a row. -/
def State.declareFailure (s : State) : State :=
  let p := s.pair
  let link := 3 ≤ p.missLink
  let pin := 3 ≤ p.missPin
  if link && pin then
    let s := { s with pair := { p with linkHb := false, pinHb := false } }
    if p.role = 2 ∧ !p.takeover ∧ !p.averted then
      let (high, s) := s.tokenHigh
      if high then
        ((s.driveToken true).pairChange (fun p => { p with
          token := true, partnerToken := false, takeover := true, deciding := false }) 7).setCause 11
      else
        let s := { s with pair := { s.pair with averted := true } }
        (s.leaveLockstep 5).raise 932 0x0E04 0 (evData [s.mBytes])
    else if p.role = 1 ∧ p.state ≠ 1 then s.pairChange (fun p => { p with state := 1 }) 1
    else s
  else if link && p.linkHb then { s with pair := { p with linkHb := false } }.pathEvent 1 1
  else if pin && p.pinHb then { s with pair := { p with pinHb := false } }.pathEvent 2 1
  else s

def execPairDeclareFailure (s : State) : Host.Outcome State Fault Refusal :=
  .next (if s.beating then s.declareFailure else s)

/-- Gratuitous announcements of every pair-shared interface (R299). -/
def State.announceShared (s : State) : State :=
  { s with eth := { s.eth with ports := s.eth.ports.map fun p =>
      { p with ifs := p.ifs.map fun i => if i.enable && i.shared then { i with announce := 3 } else i } } }

/-- The new active device acts as an ENABLE, its checks included, with the resume number at the oldest record that the mirrored
tail has not freed; records numbered before the takeover carry REDELIVERED (R130). -/
def State.resumeRing (before : Nat) (s : State) : State :=
  let q := s.evq
  if q.enable then
    let oldest := match q.store with
      | e :: _ => e.seq
      | [] => match q.gap with | some g => g.1 | none => q.nextSeq
    let mark (e : EvRec) : EvRec := { e with redelivered := e.redelivered || decide (e.seq < before) }
    let q := { q with resume := oldest, store := q.store.map mark }
    if q.configOk then State.startRing { s with evq := q }
    else State.setConfigErr { s with evq := { q with active := false } }
  else s

/-- The standby takes over: it drives the token and every output from this boundary (R469). -/
def State.takeOver (s : State) : State :=
  let p := s.pair
  let before := s.evq.nextSeq + p.unnumbered.length
  let s' := (s.driveToken true).pairChange (fun p => { p with
    token := true, partnerToken := false, role := 1, state := 1, takeover := false, averted := false, deciding := false
    lastTakeover := s.m }) 7
  let s' := s'.raise 929 0x0E01 0 (evData [(0, leBytes 8 s.time.block), (8, leBytes 8 p.recordGot)])
  s'.announceShared.resumeRing before

/-- PAIR_TAKEOVER (R468, R469) at a block boundary: after a declaration that drove the token, or, while an averted failure
stands, once the line reads high. -/
def execPairTakeover (s : State) : Host.Outcome State Fault Refusal :=
  let p := s.pair
  let stands := 3 ≤ p.missLink && 3 ≤ p.missPin
  .next (if s.beating && s.time.pos == 0 then
    if p.takeover then s.takeOver
    else if p.averted && stands then
      let (high, s) := s.tokenHigh
      if high then s.takeOver else s
    else s
  else s)

/-- JOIN_COMPLETE (R456): at a block boundary the standby has the cut and has processed every stored block; both devices are in
state 3. -/
def execJoinComplete (s : State) : Host.Outcome State Fault Refusal :=
  .next (if s.beating && s.pair.state == 2 && s.link.up && s.pair.cutDone && s.pair.stored.isEmpty then
    s.pairChange (fun p => { p with
      state := 3, recordGot := max p.recordGot s.time.block, recordAcked := max p.recordAcked s.time.block }) 2
  else s)

/-! ### Records (R458, R462) -/

/-- Number of the oldest event that the ring's tail has not freed. -/
def State.oldestEvent (s : State) : Nat := match s.evq.store with | e :: _ => e.seq | [] => s.evq.nextSeq

/-- Bytes of a decision: a command with its header and payload, a packet's payload, 64 for any other (log 30). -/
def Decision.size (d : Decision) : Nat :=
  match d with
  | .command c => 16 + c.r.payload.length + c.bulk.length
  | .counted _ _ (some e) => 32 + e.resp.payload.length
  | .position p => 8 * p.length
  | .stream x => 64 + sumN (x.after.jb.packets.map fun p => p.payload.length)
  | _ => 64

/-- Length of a record packet, at most one packet (log 30). -/
def recordLength (l : List Decision) : Nat := min cutPart (32 + sumN (l.map Decision.size))

/-- DECISION_RECORD_CLOSE: the record of the next block closes; what is applied after it takes effect a block later. -/
def execDecisionRecordClose (s : State) : Host.Outcome State Fault Refusal :=
  let p := s.pair
  .next (if s.beating && s.recording && s.closedView.isNone then
    let n := s.time.block + 1
    let enabled := (s.nodes.filter fun x => x.2.state == .enabled).map fun x => (x.1, x.2.order)
    let s' := { s with
      closedView := some (enabled, s.conns)
      pair := { p with recordClosed := n, log := [], closes := p.closes ++ [(n, s.evq.nextSeq)] } }
    s'.sendPacket 0 (recordLength p.log) (.record n p.log s.oldestEvent)
  else s)

/-- RECORD_ACK. -/
def execRecordAck (block : Nat) (s : State) : Host.Outcome State Fault Refusal := .next (s.acknowledge block)

/-- ACK_TIMEOUT (R462): a response has waited 4 blk past its effect block. -/
def execAckTimeout (s : State) : Host.Outcome State Fault Refusal :=
  let late := (List.range 8).any fun mb =>
    match (s.box mb).held with
    | some h => h.block + 4 ≤ s.time.block
    | none => false
  .next (if s.pair.role == 1 && s.pair.state == 3 && late then s.leaveLockstep 3 else s)

/-! ### Planned hand-over (R471) -/

def pairSwitch : Contract where
  opcode := 0x0E03
  len := lenIs 16
  fixed _ _ r :=
    let p := r.payload
    reservedZero p [(1, 7)] && (field p 0 1 = 0 || field p 0 1 = 2)
  node := onCp
  fields _ _ r := if field r.payload 0 1 = 0 then field r.payload 8 8 = 0 else field r.payload 8 8 % 16 = 0
  body s mb r :=
    let p := r.payload
    let first := 16 * (s.time.block + 4)
    let at_ := if field p 0 1 = 0 then first else field p 8 8
    if s.pair.state ≠ 3 then failWith Err.peer
    else if at_ < first then failWith Err.late
    else .wait { s with pair := { s.pair with switchAt := some (at_, mb.val, r) } }

def execPairSwitch (mb : Fin 8) (r : Req) (s : State) : Host.Outcome State Fault Refusal := runCommand pairSwitch mb r s

/-- The new primary answers PAIR_SWITCH in the mailbox that issued it; the session remembers it (R67). It waits for no
acknowledgment: the switch is past (R471). -/
def State.answerSwitch (mb : Nat) (r : Req) (s : State) : State :=
  let b := s.box mb
  let n := (b.count + 1) % 65536
  let opened := b.sess == .opened
  let p : Resp := { degraded := s.degraded, tag := r.tag, node := r.node, count := if opened then n else 0 }
  let e : TagEntry := ⟨r.tag, reqCrc 0x0E03 r, p⟩
  let s := if opened then (s.takeEntry mb n (some e)).note (.counted mb n (some e)) else s
  s.deliver mb p

/-- TOKEN_HANDOVER: at m_s the token changes hands. -/
def execTokenHandover (s : State) : Host.Outcome State Fault Refusal :=
  .next (match s.pair.switchAt with
    | some (at_, mb, r) =>
      if s.time.pos == 0 && at_ ≤ s.m then
        let s' := { s with pair := { s.pair with switchAt := none } }
        if s.pair.role = 1 then
          let s' := (s'.driveToken false).pairChange (fun p => { p with token := false, partnerToken := true, role := 2 }) 8
          s'.setBox mb { s'.box mb with busy := false }
        else
          let before := s.evq.nextSeq + s.pair.unnumbered.length
          let s' := (s'.driveToken true).pairChange (fun p => { p with token := true, partnerToken := false, role := 1 }) 8
          (s'.answerSwitch mb r).resumeRing before
      else s
    | none => s)

/-! ### PAIR_CONFIG and PAIR_STATUS (R473) -/

def pairConfig : Contract where
  opcode := 0x0E02
  len := lenIs 4
  fixed _ _ r := field r.payload 0 1 ≤ 2 && field r.payload 1 1 ≤ 1 && reservedZero r.payload [(2, 2)]
  node := onCp
  body s _ r :=
    let s := { s with pair := { s.pair with
      compareMode := field r.payload 0 1, autoRejoin := field r.payload 1 1 = 1 } }
    okay (if s.pair.state = 4 then s.rejoin else s)

def execPairConfig (mb : Fin 8) (r : Req) (s : State) : Host.Outcome State Fault Refusal := runCommand pairConfig mb r s

def pairStatus : Contract where
  opcode := 0x0E01
  len := lenIs 0
  node := onCp
  body s _ _ :=
    let p := s.pair
    let last := if p.role = 1 then p.recordAcked else p.recordGot
    answer s (leBytes 1 p.role ++ leBytes 1 p.state ++ leBytes 1 p.holder
      ++ leBytes 1 (ofBool p.linkHb + 2 * ofBool p.pinHb) ++ leBytes 4 s.linkMbps ++ leBytes 8 last
      ++ leBytes 4 p.mismatches ++ leBytes 4 (p.joinBytes / 1048576) ++ leBytes 8 p.lastTakeover)

def execPairStatus (mb : Fin 8) (r : Req) (s : State) : Host.Outcome State Fault Refusal := runCommand pairStatus mb r s

/-- The end of a second for the latch of PAIR_MISMATCH (R474). -/
def State.mismatchSecond (s : State) : State :=
  let n := s.pair.mismatchSecond
  let s := if (findKey Latch.key (4 * 930) s.evq.latches).isSome then s.setLevel 930 0 n (n != 0) false else s
  { s with pair := { s.pair with mismatchSecond := 0 } }

end Sys2Proof.Machine
end

