-- ==== Sys2Proof/Machine/Faults.lean ====
section
/-! DEFINITION. Error containment, cluster retirement, slice loss, scrubbing, self tests and injections (R477 to R490). -/

namespace Sys2Proof.Machine

def State.setFaults (f : Faults) (s : State) : State := { s with faults := f }

/-- A containment that changes output bits takes a formed pair out of lockstep (R482). -/
def State.outputsChanged (s : State) : State := if s.pair.state = 3 then s.leaveLockstep 6 else s

/-! ### Holds (R377, R483) -/

/-- The sample each output of a node last delivered. -/
def State.lastSamples (s : State) (id : Nat) : List (Nat × Int) :=
  (s.rd.filter fun x => x.1 == id).map fun x => (x.2.1, x.2.2.getLastD 0)

/-- Internal outputs of the model, which no hold replaces: the renderer's feed and a beam's y (log 21). -/
def isInternalOutput (id o : Nat) : Bool := o == 1 && (nodeType id == Ty.spk || nodeType id == Ty.beam)

/-- A node's outputs hold from now until a block; one that already holds keeps its samples. -/
def State.holdNode (until_ : Nat) (s : State) (id : Nat) : State :=
  let outs := match s.faults.holds.find? fun h => h.node == id with
    | some h => h.outs
    | none => s.lastSamples id
  let rest := s.faults.holds.filter fun h => h.node != id
  (s.setFaults { s.faults with holds := rest ++ [⟨id, until_, outs⟩] }).note (.hold ⟨id, until_, outs⟩)

/-- The primary records an output hold as it stands (R458). -/
def State.noteHold (id : Nat) (s : State) : State :=
  match s.faults.holds.find? fun h => h.node == id with
  | some h => s.note (.hold h)
  | none => s

def State.holdUntil (id until_ : Nat) (s : State) : State :=
  let s := s.setFaults { s.faults with
    holds := s.faults.holds.map fun h => if h.node = id then { h with until_ := until_ } else h }
  s.noteHold id

/-- The device disables a node by itself; to the engines it is disabled like any other (R85, R217). -/
def State.deviceDisables (id reason : Nat) (s : State) : State :=
  if s.enabled id then ((s.disableByDevice id reason).renHook id false).note (.shed id reason) else s

/-- At a block's end, blocks of held nodes carry the held samples; holds that end here go. -/
def State.applyHolds (s : State) : State :=
  let live := s.faults.holds.filter fun h => s.time.block < h.until_
  let held (x : Nat × Nat × List Int) : Bool :=
    live.any fun h => h.node == x.1 && !isInternalOutput x.1 x.2.1
  let mk (h : Hold) : List (Nat × Nat × List Int) :=
    (h.outs.filter fun o => !isInternalOutput h.node o.1).map fun o => (h.node, o.1, List.replicate s.spb o.2)
  { s with
    wr := (s.wr.filter fun x => !held x) ++ live.flatMap mk
    faults := { s.faults with holds := live } }

/-! ### Cluster retirement (R483, R484) -/

/-- Enabled nodes on a cluster. -/
def State.onCluster (s : State) (c : Nat) : List Nat := (s.nodes.filter fun x => x.2.cluster == some c).map (·.1)

/-- Step 1: the cluster stops, CLUSTER_RETIRED, its instances hold. -/
def State.retireCluster (c cause : Nat) (s : State) : State :=
  if s.bench.clustersOut.contains c then s
  else
    let f := s.time.block
    let ids := s.onCluster c
    let fl := s.faults
    let clusters := match fl.retire with | some r => r.clusters ++ [c] | none => [c]
    let s := { s with
      bench := { s.bench with clustersOut := s.bench.clustersOut ++ [c] }
      faults := { fl with retire := some ⟨f, clusters⟩, retirements := satAdd32 fl.retirements 1 } }
    let s := ids.foldl (State.holdNode (f + 3)) s
    let n := s.clustersIn.length
    s.raise (389 + 8 * c) 0x1001 0 (evData [(0, leBytes 1 cause), (1, leBytes 1 n), (4, leBytes 4 (n * clusterLimit)),
      (8, leBytes 8 f)])

/-- Nodes that a retirement may shed, newest admission first: enabled and costing bcu (R38). -/
def insertByOrder (x : Nat × Node) : List (Nat × Node) → List (Nat × Node)
  | [] => [x]
  | y :: r => if y.2.order < x.2.order then x :: y :: r else y :: insertByOrder x r

def State.shedOrder (s : State) : List (Nat × Node) :=
  (s.nodes.filter fun x => x.2.state == .enabled && x.2.bcu != 0).foldr insertByOrder []

/-- bcu that pending Slabs reserve for a node (R102). -/
def State.reservedFor (s : State) (id : Nat) : Nat :=
  sumN (s.slabs.flatMap fun sl => (sl.reserved.filter fun x => x.1 == id).map (·.2))

/-- Place the instances of retired clusters, oldest admission first (R357): the new clusters, or none when one finds no
place. -/
def State.placeAll (s : State) : List (Nat × Node) → Option State
  | [] => some s
  | (id, n) :: r =>
    match s.pick (n.bcu + s.reservedFor id) (regionOf s id) with
    | some c => State.placeAll (s.setNode id { n with cluster := some c }) r
    | none => none

/-- Instances to move, oldest admission first. -/
def State.toMove (s : State) : List (Nat × Node) :=
  (s.shedOrder.filter fun x => match x.2.cluster with | some c => s.bench.clustersOut.contains c | none => false).reverse

/-- Shed one node: its pending Slabs' reserved increases are released, its outputs hold to the block in which it delivers
zero (R106, R483). -/
def State.shed (id : Nat) (s : State) : State :=
  let drop (sl : Slab) : Slab := { sl with reserved := sl.reserved.filter fun x => x.1 != id }
  let s := { s with slabs := s.slabs.map drop }
  (s.deviceDisables id 1).holdUntil id (s.time.block + 1)

/-- Shed until the total is within the limit and every instance is placed (R38, R357): the state with nodes shed, and how it
would look with every instance placed. The fuel is the number of nodes. -/
def State.shedLoop : Nat → State → State × Option State
  | 0, s => (s, s.placeAll s.toMove)
  | n + 1, s =>
    let placed := if s.committed ≤ s.admissionLimit then s.placeAll s.toMove else none
    match placed, s.shedOrder with
    | some p, _ => (s, some p)
    | none, [] => (s, some s)
    | none, x :: _ => State.shedLoop n (s.shed x.1)

/-- KRN_MOVED, and the block at which the outputs resume: within 3 blk of f (R377, R483; log 29). A mirror that cannot be
read disables the instance instead (R480). -/
def State.moved (f : Nat) (before : State) (s : State) (x : Nat × Node) : State :=
  let old := (x.2.cluster).getD 0
  if nodeType x.1 = Ty.kernel ∧ before.faults.badMirrors.contains (nodeIdx x.1) then
    let s := s.deviceDisables x.1 2
    s.setFaults { s.faults with badMirrors := s.faults.badMirrors.filter (· != nodeIdx x.1) }
  else
    let new := (s.node x.1).cluster.getD 0
    let (v, s) := s.drawFree
    let resume := max (s.time.block + 1) (f + 1 + v % 3)
    ((s.holdUntil x.1 resume).note (.placed x.1 (s.node x.1).cluster)).raise (386 + 8 * new) 0x0A02 x.1
      (evData [(0, leBytes 1 old), (1, leBytes 1 new), (8, leBytes 8 resume)])

/-- Steps 2 and 3 in strobe period f + 1. A standby in lockstep sheds nothing: it leaves lockstep when its instances no
longer fit (R472). -/
def State.retireStep (s : State) : State :=
  match s.faults.retire with
  | none => s
  | some r =>
    if s.time.block ≤ r.f then s
    else
      let s := s.setFaults { s.faults with retire := none }
      if s.pair.role = 2 ∧ s.pair.state = 3 then
        match s.placeAll s.toMove with
        | some p => s.toMove.foldl (State.moved r.f s) p
        | none => s.leaveLockstep 4
      else
        let before := (s.shedOrder.length, s.committed)
        let (t, placed) := State.shedLoop s.nodes.length s
        let n := before.1 - t.shedOrder.length
        let t' := placed.getD t
        let t' := t'.raise 965 0x1015 0 (evData [(0, leBytes 4 n), (4, leBytes 4 (before.2 - t.committed)),
          (8, leBytes 8 r.f)])
        t.toMove.foldl (State.moved r.f s) t'

/-- CLUSTER_RETIRED: a cluster is found faulty (R477). -/
def execClusterRetired (cluster : Fin 16) (cause : Nat) (s : State) : Host.Outcome State Fault Refusal :=
  .next (if s.awake ∧ 1 ≤ cause ∧ cause ≤ 5 then s.retireCluster cluster.val cause else s)

/-! ### Slice loss (R208, R485) -/

/-- A port of the failing slice holds the sample it delivered last, over the whole block; its limiter stands at the end of the
last block that it completed (R208). -/
def State.holdPort (resume : Nat) (s : State) (o : Nat) : State :=
  let id := mkNode Ty.galOut o
  let x := s.galOut o
  let v := match x.hold with | some h => h.1 | none => x.delivered
  let back (w : Nat × Nat × List Int) : Nat × Nat × List Int :=
    if w.1 = id ∧ w.2.1 = 0 then (w.1, w.2.1, w.2.2.map fun _ => v) else w
  let s := s.note (.hold ⟨id, resume, []⟩)
  { s.setGalOut { x with
      hold := some (v, resume), lim := x.base, clips := x.baseClips, sums := [], clipN := 0, clipAt := 0, peak := 0 } with
    wr := s.wr.map back }

/-- The slice fails in this block: its ports hold at most 3 blk from it (R208; log 29). -/
def State.sliceFails (k : Nat) (s : State) : State :=
  if s.gal.slicesOut.contains k || s.faults.sliceLost.contains k then s
  else
    let (v, s) := s.drawFree
    let resume := s.time.block + 1 + v % 3
    let on := ((s.runningOf Ty.galOut).map nodeIdx).filter fun o => s.sliceOf o == k
    let s := on.foldl (State.holdPort resume) s
    s.setFaults { s.faults with
      sliceLost := s.faults.sliceLost ++ [k], sliceHold := some resume, sliceLosses := satAdd32 s.faults.sliceLosses 1 }

/-- At the block boundary the slice is out: the carried count falls, and ports above it are disabled by the device. -/
def State.sliceOut (s : State) (k : Nat) : State :=
  let n := s.carried
  let own := s.ownCarried
  let s := State.replacePorts own (s.setGal { s.gal with slicesOut := s.gal.slicesOut ++ [k] })
  let n' := s.carried
  let gone := ((s.nodesOf Ty.galOut).map fun x => nodeIdx x.1).filter fun o => n' ≤ o
  let s := if n' < n then s.setGal (s.gal.endAll fun o => n' ≤ o) else s
  let s := gone.foldl (fun s o => s.deviceDisables (mkNode Ty.galOut o) 2) s
  s.raise 512 0x0400 0 (evData [(0, leBytes 1 k), (1, leBytes 1 s.slicesIn), (2, leBytes 2 n), (4, leBytes 2 n'), s.mBytes])

def State.sliceBoundary (s : State) : State :=
  let lost := s.faults.sliceLost
  let s := s.setFaults { s.faults with sliceLost := [] }
  let s := lost.foldl State.sliceOut s
  match s.faults.sliceHold with
  | some b => if b ≤ s.time.block then s.setFaults { s.faults with sliceHold := none } else s
  | none => s

def execGallerySliceLost (slice : Fin 12) (s : State) : Host.Outcome State Fault Refusal :=
  .next (if s.awake then s.sliceFails slice.val else s)

/-! ### Errors found (R477 to R480, R486) -/

/-- A corrected common-store error. -/
def State.sramCorrected (s : State) : State :=
  let f := s.faults
  s.setFaults { f with sramCorr := satAdd32 f.sramCorr 1, sramBlock := f.sramBlock + 1 }

/-- Corrected local-store errors in any 1 s that a cluster may have (R477). -/
def localRate : Nat := 1024

/-- Count one more at this time among those of the last second: cluster, time and count, newest first. -/
def countRecent (c now : Nat) (l : List (Nat × Nat × Nat)) : List (Nat × Nat × Nat) :=
  let l := l.filter fun x => now < x.2.1 + smpPerSecond
  match l with
  | (d, t, k) :: r => if d = c ∧ t = now then (d, t, k + 1) :: r else (c, now, 1) :: l
  | [] => [(c, now, 1)]

/-- A corrected local-store error; too many in 1 s retire the cluster. A cluster out of service reads nothing. -/
def State.localCorrected (c : Nat) (s : State) : State :=
  let f := s.faults
  if s.bench.clustersOut.contains c then s
  else
    let n := (getA c f.localBlock).getD 0 + 1
    let recent := countRecent c s.time.ticks f.localRecent
    let s := s.setFaults { f with
      localCorr := satAdd32 f.localCorr 1, localBlock := setA c n f.localBlock, localRecent := recent }
    if localRate < sumN ((recent.filter fun x => x.1 == c).map (·.2.2)) then s.retireCluster c 2 else s

/-- An uncorrectable local-store word. -/
def State.localLost (c cause : Nat) (s : State) : State :=
  let s := s.setFaults { s.faults with localUnc := satAdd32 s.faults.localUnc 1 }
  s.retireCluster c cause

/-- SRAM_UNCORRECTABLE (R489). -/
def State.sramLost (partition owner node : Nat) (s : State) : State :=
  let s := s.setFaults { s.faults with sramUnc := satAdd32 s.faults.sramUnc 1 }
  s.raise 961 0x1011 node (evData [(0, leBytes 1 partition), (1, leBytes 1 owner), s.mBytes])

/-- LPDDR_UNCORRECTABLE: which channel held the word is log 29. -/
def State.lpddrLost (region node : Nat) (s : State) : State :=
  let (v, s) := s.drawFree
  let s := s.setFaults { s.faults with lpddrUnc := satAdd32 s.faults.lpddrUnc 1 }
  s.raise 963 0x1013 node (evData [(0, leBytes 1 (v % 8)), (1, leBytes 1 region), s.mBytes])

/-- A sample of a block buffer is delivered as zero in this block. -/
def State.zeroSample (n o k : Nat) (s : State) : State :=
  { s with rd := s.rd.map fun x => if x.1 = n ∧ x.2.1 = o then (x.1, x.2.1, x.2.2.set k 0) else x }

/-- The staging of a Slab holds an uncorrectable word (R486). -/
def State.stagingLost (i : Nat) (s : State) : State :=
  match s.slab? i with
  | none => s
  | some sl =>
    let unusable (s : State) : State :=
      { s with slabs := putKey Slab.index { sl with state := .unusable, waiter := none, reserved := [] } s.slabs }
    match sl.state with
    | .open_ => unusable s
    | .unusable => s
    | .applying =>
      match sl.waiter with
      | some (mb, r) =>
        if h : mb < 8 then (unusable s).finishWaited 0x0112 ⟨mb, h⟩ r Err.fault {}
        else unusable s
      | none => unusable s
    | .pending => s.discardSlab 3 sl

/-- Mark the k-th word of a list of packets. -/
def poisonAt : Nat → List QPacket → List QPacket
  | _, [] => []
  | k, p :: r =>
    if k < p.length then (p.set k ((p.getD k (0, false)).1, true)) :: r else p :: poisonAt (k - p.length) r

/-- Poison a word that a queue holds, counted from the oldest (R394). -/
def State.poisonQueue (q k : Nat) (s : State) : State :=
  let h := s.queue q
  let n := sumN (h.packets.map List.length)
  s.setQueueRaw q (if k < n then { h with packets := poisonAt k h.packets }
    else { h with partial_ := h.partial_.set (k - n) ((h.partial_.getD (k - n) (0, false)).1, true) })

/-- Large queues are of 64 KiB and more; they have SECDED, the others parity (R394). -/
def HostQueue.large (h : HostQueue) : Bool := 2048 < h.cap

/-- What the scrubber or a read found, contained by its owner. -/
def State.contain (s : State) (x : ScrubFinding) : State :=
  match x with
  | .sramCorrected => s.sramCorrected
  | .localCorrected c => s.localCorrected c.val
  | .localUncorrectable c => s.localLost c.val 1
  | .xpCorrected o i => s.xpCorrected o i
  | .xpUncorrectable o i => s.xpUncorrectable o i
  | .blockBuffer n o k => ((s.zeroSample n o k).sramLost 1 1 n).outputsChanged
  | .aecFilter b r =>
    let s := s.setFaults { s.faults with sramUnc := satAdd32 s.faults.sramUnc 1 }
    (s.reconverge b r 3 s.m true).outputsChanged
  | .rampEntry o i =>
    let g := s.gal.endRamp o i (xpTarget44 (s.gal.entry o i))
    ((s.setGal { g with queue := g.queue.filter fun y => !(y.1 == o && y.2 == i) }).sramLost 1 3
      (mkNode Ty.galOut o)).outputsChanged
  | .rendererState o => ((s.atBoundary (.restart o)).sramLost 1 4 (objId o)).outputsChanged
  | .largeQueueWord q k => if (s.queue q).large then (s.poisonQueue q k).sramLost 2 5 (queueNode q) else s
  | .smallQueueWord q k => if (s.queue q).large then s else s.poisonQueue q k
  | .queueCorrected q =>
    let h := s.queue q
    if h.large then (s.setQueueRaw q { h with corrected := satAdd32 h.corrected 1 }).sramCorrected else s
  | .lpddrCorrected _ =>
    let f := s.faults
    { s with
      mem := { s.mem with linkEcc := satAdd32 s.mem.linkEcc 1 }, faults := { f with lpddrBlock := f.lpddrBlock + 1 } }
  | .lpddrBank k b i => ((s.bankWordLost k b i).lpddrLost 2 (spkId k)).outputsChanged
  | .lpddrHistory k i => ((s.historyLost k i).lpddrLost 2 (spkId k)).outputsChanged
  | .lpddrLine k i => ((s.lineLost k i).lpddrLost 2 (spkId k)).outputsChanged
  | .lpddrJitter n ext =>
    let x := s.streamDyn n
    let j := { x.jb with packets := x.jb.packets.filter fun p => p.ext != ext }
    let s := s.setStream { x with jb := j }
    (s.lpddrLost 1 n).outputsChanged
  | .lpddrStaging i => (s.stagingLost i).lpddrLost 4 (mkNode Ty.slab i)
  | .lpddrImage n =>
    let im := ImageSlot.of s.bench.slots n
    (s.setSlotImage { im with poisoned := true }).lpddrLost 5 0
  | .lpddrMirror i =>
    (s.setFaults { s.faults with badMirrors := i :: s.faults.badMirrors }).lpddrLost 3 (krnId i)
  | .lpddrUser w =>
    let s := { s with mem := { s.mem with userBad := w :: s.mem.userBad } }
    s.lpddrLost 6 0

/-- SCRUB_PASS (R478): a pass over the SRAM ends, with what it found. -/
def execScrubPass (found : List ScrubFinding) (s : State) : Host.Outcome State Fault Refusal :=
  .next (if s.awake then
    let s := s.setFaults { s.faults with scrubs := satAdd32 s.faults.scrubs 1 }
    found.foldl State.contain s
  else s)

/-! ### Injections (R488) -/

/-- The next common-store word read belongs to an owner in the device's internal order, which the spec leaves open: a free
choice among the block buffers read, the filters and the renderer's objects (log 29). -/
def State.injectTargets (s : State) : List ScrubFinding :=
  (s.rd.map fun x => .blockBuffer x.1 x.2.1 0)
    ++ (s.cap.beams.filter fun b => s.aecOn b.beam).map (fun b => .aecFilter b.beam 0)
    ++ (s.gal.ramps.map fun r => .rampEntry r.out r.inp)
    ++ ((s.runningOf Ty.obj).map fun o => .rendererState (nodeIdx o))

/-- An armed injection corrupts the next word of its target that is read in this block, or waits. A slice accumulates for
all its ports in every block, enabled or not (DEDUCED, log 29). -/
def State.inject (s : State) (x : Nat × Nat) : State :=
  let fired (s : State) : State := s.setFaults { s.faults with armed := s.faults.armed.filter (· != x) }
  if x.1 = 1 then (fired s).sramCorrected
  else if x.1 = 2 then
    let l := s.injectTargets
    let (v, s) := s.drawFree
    match l[v % (max 1 l.length)]? with
    | some t => (fired s).contain t
    | none => s
  else if x.1 = 3 then (if (s.onCluster x.2).any s.running then (fired s).localLost x.2 5 else s)
  else (fired s).sliceFails x.2

def State.injectBlock (s : State) : State := if s.power.state == .active then s.faults.armed.foldl State.inject s else s

/-! ### The end of a block (R481, R489) -/

/-- The latch of a source that counts corrected errors by block: a block with errors is one crossing (R122, R489). -/
def State.corrected (src n : Nat) (s : State) : State := s.blockLatch src 0 0 n (evData [(0, leBytes 4 n), s.mBytes])

def State.faultBlock (s : State) : State :=
  let f := s.faults
  let s := (List.range 16).foldl (fun s c => s.corrected (388 + 8 * c) ((getA c f.localBlock).getD 0)) s
  let s := (s.corrected 960 f.sramBlock).corrected 962 f.lpddrBlock
  let s := f.poisonBlock.foldl (init := s) fun s x =>
    s.raise 964 0x1014 (queueNode x.1) (evData [(0, leBytes 1 x.2.1), (4, leBytes 4 x.2.2), s.mBytes])
  s.setFaults { s.faults with sramBlock := 0, lpddrBlock := 0, localBlock := [], poisonBlock := [] }

/-! ### Self tests (R487, R488) -/

/-- The unit is out of service on this device. -/
def State.unitOut (s : State) (kind index : Nat) : Bool :=
  if kind = 1 then s.bench.clustersOut.contains index else s.gal.slicesOut.contains index

/-- The partner of a formed pair may have the unit out of service (R488). -/
def State.partnerShort (s : State) (kind : Nat) : Bool :=
  s.pair.state == 3 && (if kind = 1 then s.pair.partnerClusters < 16 else s.pair.partnerSlices < 12)

def faultRestore : Contract where
  opcode := 0x1002
  standby := false
  len := lenIs 4
  fixed _ _ r :=
    let p := r.payload
    1 ≤ field p 0 1 && field p 0 1 ≤ 2 && reservedZero p [(2, 2)]
  node := onCp
  fields _ _ r := field r.payload 1 1 < if field r.payload 0 1 = 1 then 16 else 12
  body s mb r :=
    let kind := field r.payload 0 1
    let i := field r.payload 1 1
    let tested := s.faults.tests.any (fun t => t.kind == kind && t.index == i) || s.faults.restoring.contains (kind, i)
    if tested then failWith Err.busy
    else if !s.unitOut kind i then (if s.partnerShort kind then okay s else failWith Err.state)
    else
      let len := if kind = 1 then 960 else 480
      .wait (s.setFaults { s.faults with tests := s.faults.tests ++ [⟨kind, i, mb, r, s.time.ticks + len⟩] })

def execFaultRestore (mb : Fin 8) (r : Req) (s : State) : Host.Outcome State Fault Refusal := runCommand faultRestore mb r s

/-- CLUSTER_RESTORED or SLICE_RESTORED, with the capacity from the next block boundary on. -/
def State.restoredEvent (kind i : Nat) (s : State) : State :=
  let first := (8, leBytes 8 (s.time.block + 1))
  if kind = 1 then s.raise (390 + 8 * i) 0x1002 0 (evData [(1, leBytes 1 (s.clustersIn.length + 1)), first])
  else
    let n := s.slicesIn + 1
    s.raise 967 0x1017 0 (evData [(0, leBytes 1 i), (1, leBytes 1 n), (2, leBytes 2 (portsCarried s.time.rate96 n)), first])

/-- UNIT_SELF_TEST_DONE: the oldest self test that has run its time. -/
def execUnitSelfTestDone (pass : Bool) (s : State) : Host.Outcome State Fault Refusal :=
  .next (match s.faults.tests.find? fun t => t.doneAt ≤ s.time.ticks with
    | none => s
    | some t =>
      let s := s.setFaults { s.faults with tests := s.faults.tests.erase t }
      let opened := (s.box t.mb.val).sess == .opened
      if pass then
        let s := s.restoredEvent t.kind t.index
        (s.setFaults { s.faults with restoring := s.faults.restoring ++ [(t.kind, t.index)] }).finish 0x1002 t.mb t.req
          opened true 0 {}
      else
        (s.raise 966 0x1016 0 (evData [(0, leBytes 1 t.kind), (1, leBytes 1 t.index), (2, leBytes 1 1)])).finish 0x1002
          t.mb t.req opened true Err.fault {})

/-- Units that passed enter service at the block boundary. -/
def State.restoreBoundary (s : State) : State :=
  let l := s.faults.restoring
  let own := s.ownCarried
  let s := { s with
    bench := { s.bench with clustersOut := s.bench.clustersOut.filter fun c => !l.contains (1, c) }
    gal := { s.gal with slicesOut := s.gal.slicesOut.filter fun k => !l.contains (2, k) }
    faults := { s.faults with restoring := [] } }
  if l.any fun x => x.1 == 2 then s.replacePorts own else s

/-! ### FAULT_STATUS and FAULT_INJECT -/

def maskIn (n : Nat) (out : List Nat) : Nat := sumN ((List.range n).map fun k => if out.contains k then 0 else 2 ^ k)

def faultStatus : Contract where
  opcode := 0x1001
  len := lenIs 4
  fixed _ _ r := field r.payload 0 1 ≤ 1 && reservedZero r.payload [(1, 3)]
  node := onCp
  body s _ r :=
    let f := s.faults
    let counts := [f.sramCorr, f.sramUnc, f.localCorr, f.localUnc, f.lpddrUnc, f.poison, f.scrubs, f.retirements, f.sliceLosses]
    let out := leBytes 2 (maskIn 16 s.bench.clustersOut) ++ leBytes 2 (maskIn 12 s.gal.slicesOut)
      ++ counts.flatMap (leBytes 4) ++ zeros 8
    let cleared := { f with
      sramCorr := 0, sramUnc := 0, localCorr := 0, localUnc := 0, lpddrUnc := 0, poison := 0, scrubs := 0, retirements := 0
      sliceLosses := 0 }
    answer (if field r.payload 0 1 = 1 then s.setFaults cleared else s) out

def execFaultStatus (mb : Fin 8) (r : Req) (s : State) : Host.Outcome State Fault Refusal := runCommand faultStatus mb r s

def faultInject : Contract where
  opcode := 0x1003
  standby := false
  len := lenIs 4
  fixed _ _ r :=
    let p := r.payload
    1 ≤ field p 0 1 && field p 0 1 ≤ 4 && reservedZero p [(2, 2)]
  node := onCp
  fields _ _ r :=
    let t := field r.payload 0 1
    let i := field r.payload 1 1
    if t = 3 then i < 16 else if t = 4 then i < 12 else i = 0
  body s _ r :=
    let t := field r.payload 0 1
    let i := field r.payload 1 1
    if s.pairEn then failWith Err.peer
    else if t = 3 ∧ s.bench.clustersOut.contains i ∨ t = 4 ∧ s.gal.slicesOut.contains i then failWith Err.fault
    else okay (s.atBoundary (.inject t i))

def execFaultInject (mb : Fin 8) (r : Req) (s : State) : Host.Outcome State Fault Refusal := runCommand faultInject mb r s

/-- The injection is armed from the block of R86; one for the same target replaces it. -/
def State.arm (t i : Nat) (s : State) : State :=
  s.setFaults { s.faults with armed := (s.faults.armed.filter fun x => x.1 != t || (t == 3 && x.2 != i) || (t == 4 && x.2 != i)) ++ [(t, i)] }

end Sys2Proof.Machine
end

