-- ==== Sys2Proof/Machine/Link.lean ====
section
/-! DEFINITION. The Farxis link: bring-up, rungs and width, virtual channels, lost lanes, lane power, tests and counters
(R422 to R449). -/

namespace Sys2Proof.Machine

/-- The largest of 8, 4, 2 and 1 that is no more than k, 0 for none (R436, R439). -/
def widthFor (k : Nat) : Nat := if 8 ≤ k then 8 else if 4 ≤ k then 4 else if 2 ≤ k then 2 else if 1 ≤ k then 1 else 0

/-! ### Bring-up (R435 to R438) -/

/-- A bring-up attempt starts at Detect, rung 0, and sends WAKE. -/
def State.linkDetect (s : State) : State :=
  let l := s.link
  s.setLink { l with
    state := .detect, rung := 0, width := 0, laneMap := [], lock := [], laneSet := [], lost := [], step := 1
    since := s.time.ticks, wakes := 0, acked := false, swept := false, sweepSeen := false, ownMask := none
    partnerResult := none, goSeen := false, returning := false, leavingDeep := none
    vc0 := {}, vc1 := {} } |>.emitLink (.train 1 0)

/-- NODE_ENABLE of the link: a running test ends and bring-up starts (R434, R446). -/
def State.linkStart (s : State) : State :=
  (s.setLink { s.link with test := none, attempts := 0, absent := false }).linkDetect

/-- The link stopped: training, traffic and a test end. -/
def Link.stopped (l : Link) : Link :=
  { l with
    state := .disabled, step := 0, width := 0, laneMap := [], laneSet := [], lock := [], absent := false, leavingDeep := none
    test := none, vc0 := {}, vc1 := {} }

/-- NODE_DISABLE, or Sleep: the link stops at once and its lanes go to electrical idle (R434, R448). -/
def State.linkStop (cause : Nat) (s : State) : State :=
  let up := s.link.up
  let s := (s.setLink s.link.stopped).farxisEvent cause
  if up then s.pairLinkDown else s

/-- A failed attempt (R437, R447): reason 1 timeout, 2 no lane passed, 3 bad message. -/
def State.linkFail (reason : Nat) (s : State) : State :=
  let l := s.link
  let n := l.attempts + 1
  let told := !l.absent
  let s := s.setLink { l with attempts := satN 255 n }
  let s :=
    if told then
      s.raise 865 0x0D01 linkNode (evData [(0, leBytes 1 l.step), (1, leBytes 1 l.rung), (2, leBytes 1 reason),
        (3, leBytes 1 n), (4, leBytes 1 l.holder), s.mBytes])
    else s
  if l.absent ∨ 3 ≤ n then
    let s := s.setLink { s.link with state := .absent, absent := true, step := 0, since := s.time.ticks, rung := 0 }
    if told then s.raise 866 0x0D02 linkNode (evData [(0, leBytes 1 l.holder), s.mBytes]) else s
  else s.linkDetect

/-- Step 4b: the sweep of CTLE codes at the rung. -/
def State.linkSweep (s : State) : State :=
  s.setLink { s.link with
    state := .rungTest, step := 5, since := s.time.ticks, swept := false, sweepSeen := false, ownMask := none
    partnerResult := none }

/-- Step 4a: the rate change to a rung. -/
def State.linkRate (r : Nat) (s : State) : State :=
  (s.setLink { s.link with
    state := .rungTest, step := 4, rung := r, lock := [], acked := false, since := s.time.ticks, swept := false
    sweepSeen := false, ownMask := none, partnerResult := none }).emitLink (.train 4 r)

/-- The link is up: credits of R431, ATTEMPTS 0 (R435, R437). -/
def State.linkUpNow (s : State) : State :=
  let l := s.link
  let s := s.setLink { l with
    state := .active, step := 0, attempts := 0, absent := false, holder := 0
    vc0 := { credits := 256 }, vc1 := { credits := 512 }, lastPacket := s.time.ticks, lock := l.laneSet }
  (s.farxisEvent 1).pairLinkUp

/-- Step 5: send GO, and come up once the partner's GO is here. -/
def State.linkGo (s : State) : State :=
  let s := (s.setLink { s.link with step := 7, since := s.time.ticks }).emitLink (.train 8 0)
  if s.link.goSeen then s.linkUpNow else s

/-- Where the link goes after a rung test whose passing lanes are known (R436). -/
def State.linkDecide (s : State) : State :=
  let l := s.link
  match l.ownMask, l.partnerResult with
  | some a, some b =>
    let pass := l.laneSet.filter fun x => bit a x && bit b x
    let top := min s.maxRung l.partnerRung
    match l.leavingDeep with
    | some dest =>
      if l.laneMap.all pass.contains then
        (s.setLink { l with state := dest, step := 0, leavingDeep := none }).farxisEvent 7
      else
        s.linkDetect
    | none =>
      if l.rung = 0 then
        let w := widthFor pass.length
        if w = 0 then s.linkFail 2
        else
          let s := s.setLink { l with width := w, laneSet := pass, laneMap := pass.take w }
          if top = 0 then s.linkGo else s.linkRate 1
      else if l.laneMap.all pass.contains then (if l.rung < top then s.linkRate (l.rung + 1) else s.linkGo)
      else
        let r := l.rung - 1
        let codes := (getA r l.stored).getD l.ctle
        (s.setLink { l with returning := true, ctle := codes, ctleTrained := codes }).linkRate r
  | _, _ => s

/-- Step 4a ends once the partner has answered and every lane of the set has block lock. -/
def State.linkLocked (s : State) : State :=
  let l := s.link
  if l.step = 4 ∧ l.acked ∧ l.laneSet.all l.lock.contains then
    if l.returning then (s.setLink { l with returning := false }).linkGo else s.linkSweep
  else s

/-- Step 4b ends once both sweeps are done. -/
def State.linkSwept (s : State) : State :=
  let l := s.link
  if l.step = 5 ∧ l.swept ∧ l.sweepSeen then s.setLink { l with step := 6, since := s.time.ticks } else s

/-- A CAP of the partner on a lane: legal fields, the top rung and the lane set (R435). -/
def State.linkCap (m : TrainMessage) (s : State) : State :=
  let l := s.link
  let ok := m.f2.toNat ≤ 6 && m.f3 != 0 && m.f4.toNat ≤ 1
  let mine := bit s.laneMask m.lane.val && bit m.f3.toNat m.lane.val
  let add (l : Link) : Link :=
    { l with laneSet := (List.range 8).filter fun x => l.laneSet.contains x || (mine && x == m.lane.val) }
  if !ok then s
  else if l.step = 3 then
    (s.setLink (add { l with
      partnerRung := m.f2.toNat, partnerMask := m.f3.toNat, partnerSideB := m.f4 = 1 })).linkSweep
  else if l.step = 5 ∧ l.rung = 0 ∧ !l.swept then s.setLink (add l)
  else s

/-- A TRAIN message of the partner (R435). A bad message is the row LINK_TRAIN_FAIL. -/
def State.trainRx (m : TrainMessage) (s : State) : State :=
  let l := s.link
  if l.step = 0 then s
  else
    match m.message with
    | 1 =>
      if l.step = 2 then
        let n := l.wakes + 1
        let s := s.setLink { l with wakes := n }
        let s := if n = 64 then s.emitLink (.train 1 1) else s
        if m.f2.getLsbD 0 then
          let field := s.maxRung + 256 * s.laneMask + 65536 * ofBool s.id.straps.pairSideB + 16777216
          (s.setLink { s.link with state := .caps, step := 3, since := s.time.ticks }).emitLink (.train 2 field)
        else s
      else s
    | 2 => s.linkCap m
    | 4 => if l.step = 4 ∧ m.f2.toNat = l.rung then s.emitLink (.train 5 l.rung) else s
    | 5 => if l.step = 4 then (s.setLink { l with acked := true, since := s.time.ticks }).linkLocked else s
    | 6 => if l.step = 5 then (s.setLink { l with sweepSeen := true }).linkSwept else s
    | 7 =>
      if l.step = 5 ∨ l.step = 6 then
        let s := s.setLink { l with partnerResult := some m.f2.toNat }
        if l.step = 6 then s.linkDecide else s
      else s
    | 8 => if l.step = 7 then (s.setLink { l with goSeen := true }).linkUpNow else s.setLink { l with goSeen := true }
    | _ => s

def execTrainMessageRx (m : TrainMessage) (s : State) : Host.Outcome State Fault Refusal := .next (s.trainRx m)

/-- BLOCK_LOCK (R428): Detect moves to Wake with the first lane; a checker locks in a test (R446). -/
def execBlockLock (lane : Fin 8) (s : State) : Host.Outcome State Fault Refusal :=
  let l := s.link
  let locked := { l with lock := (List.range 8).filter fun x => l.lock.contains x || x == lane.val }
  .next (
    if l.state = .test then
      match l.test with
      | some (_, _, lanes, mode) =>
        if bit lanes lane.val && bit mode 1 && !bit l.checkerLock lane.val then
          s.setLink { l with checkerLock := l.checkerLock + 2 ^ lane.val }
        else s
      | none => s
    else if l.step = 1 then
      if bit s.laneMask lane.val then (s.setLink { locked with state := .wake, step := 2, since := s.time.ticks }).emitLink (.train 1 0)
      else s
    else if l.step = 0 ∧ !l.up then s
    else if l.step = 4 ∧ !l.acked then s
    else (s.setLink locked).linkLocked)

/-- Error-free runs of a mask of 16 codes: start and length of the longest, the first of equals. -/
def longestRun (mask : Nat) : Nat × Nat :=
  let step := fun (a : (Nat × Nat) × (Nat × Nat)) (c : Nat) =>
    let cur := if bit mask c then (if a.2.2 = 0 then (c, 1) else (a.2.1, a.2.2 + 1)) else (0, 0)
    (if a.1.2 < cur.2 then cur else a.1, cur)
  ((List.range 16).foldl step ((0, 0), (0, 0))).1

/-- The middle code of the longest error-free run, the lower of two middles (R435); none without an error-free code. -/
def middleCode (mask : Nat) : Option Nat :=
  let r := longestRun mask
  if r.2 = 0 then none else some (r.1 + (r.2 - 1) / 2)

/-- Codes of the lanes of the set from their masks; a lane without an error-free code takes a free one (log 28). -/
def State.pickCodes (masks : List Nat) (s : State) : List Nat × State :=
  (List.range 8).foldl (init := ([], s)) fun a lane =>
    let old := s.link.ctle.getD lane 0
    if !s.link.laneSet.contains lane then (a.1 ++ [old], a.2)
    else
      match middleCode (masks.getD lane 0) with
      | some c => (a.1 ++ [c], a.2)
      | none => let (v, t) := a.2.drawFree; (a.1 ++ [v % 16], t)

/-- CTLE_SWEEP: the own sweep is done and SWEEP_DONE goes out (R435). -/
def execCtleSweep (codes : List Nat) (s : State) : Host.Outcome State Fault Refusal :=
  .next (if s.link.step = 5 ∧ !s.link.swept then
    let (cs, s) := s.pickCodes codes
    let l := s.link
    (s.setLink { l with
      ctle := cs, ctleTrained := cs, stored := setA l.rung cs l.stored, swept := true
      since := s.time.ticks }).emitLink (.train 6 0) |>.linkSwept
  else s)

/-- Checker errors of the lanes outside a mask: at least one each, how many is free (log 28). -/
def State.countPrbs (lanes : List Nat) (mask : Nat) (s : State) : State :=
  lanes.foldl (init := s) fun s x =>
    if bit mask x then s
    else
      let (v, s) := s.drawFree
      s.setLink { s.link with prbsErr := s.link.prbsErr.set x (satN u32max (s.link.prbsErr.getD x 0 + 1 + v)) }

/-- PRBS_TEST: the mask of lanes with zero errors; TEST_RESULT goes out, and the rung is decided (R435, R436). -/
def execPrbsTest (mask : Byte) (s : State) : Host.Outcome State Fault Refusal :=
  let l := s.link
  .next (
    if l.state = .test then
      match l.test with
      | some (_, _, lanes, mode) => if bit mode 1 then s.countPrbs (lanesOf (lanes &&& l.checkerLock)) mask.toNat else s
      | none => s
    else if l.step = 6 ∧ l.ownMask.isNone then
      let s := s.countPrbs l.laneSet mask.toNat
      ((s.setLink { s.link with ownMask := some mask.toNat, since := s.time.ticks }).emitLink (.train 7 mask.toNat)).linkDecide
    else s)

/-- 10 ms, and 1 s, in smp. -/
def trainTimeout : Nat := 480

/-- LINK_TRAIN_FAIL (R435): a bad message, or a wait that has timed out; leaving Deep falls back to Detect (R444). -/
def execLinkTrainFail (badMessage : Bool) (s : State) : Host.Outcome State Fault Refusal :=
  let l := s.link
  .next (if l.step ≠ 0 ∧ (badMessage ∨ l.since + trainTimeout ≤ s.time.ticks) then
    (if l.leavingDeep.isSome then s.pairLinkDown.linkDetect else s.linkFail (if badMessage then 3 else 1))
  else s)

/-- LINK_ABSENT_RETRY (R437). -/
def execLinkAbsentRetry (s : State) : Host.Outcome State Fault Refusal :=
  .next (if s.link.state = .absent ∧ s.link.since + smpPerSecond ≤ s.time.ticks then s.linkDetect else s)

/-! ### Going down, lost lanes (R439, R440) -/

/-- A link reset: unacknowledged packets, credits and sequences are discarded, and an attempt starts (R440). -/
def State.linkDown (cause : Nat) (s : State) : State :=
  let l := s.link
  let s := s.setLink { l with
    resets := satN u32max (l.resets + 1), holder := if l.hadPair then s.pair.holder else 0, attempts := 0, absent := false }
  let s := s.linkDetect
  (s.farxisEvent cause).pairLinkDown

/-- A virtual channel is sent again from its first unacknowledged packet (R430). -/
def Vc.again (v : Vc) : Vc := { v with sent := 0 }

/-- Packets sent 16 times without an acknowledgment take the link down (R430). -/
def Vc.exhausted (v : Vc) : Bool := v.unacked.any fun p => 16 ≤ p.times

/-- Lanes of the width are lost, and with them spare ones that have no block lock now: REWIDTH, a new width and map, and both VCs again (R439). -/
def State.loseLanes (lanes : List Nat) (s : State) : State :=
  let l := s.link
  let gone := lanes.filter fun x => l.laneSet.contains x
  if !l.up || !gone.any l.laneMap.contains then s.setLink { l with lock := l.lock.filter fun x => !gone.contains x }
  else
    let good := l.laneSet.filter fun x => l.lock.contains x && !gone.contains x
    let w := widthFor good.length
    let l := { l with laneSet := good, lost := l.lost ++ gone, lock := l.lock.filter fun x => !gone.contains x }
    if w = 0 then (s.setLink l).linkDown 4
    else
      let s := s.setLink { l with
        width := w, laneMap := good.take w, rewidths := satN u32max (l.rewidths + 1), vc0 := l.vc0.again, vc1 := l.vc1.again }
      (s.emitLink (.rewidth (maskOf good) w)).farxisEvent 2

/-- LANE_LOST: block lock or deskew lost. -/
def execLaneLost (lane : Fin 8) (s : State) : Host.Outcome State Fault Refusal := .next (s.loseLanes [lane.val])

/-- REWIDTH_RX: the lanes of the width that the partner no longer receives. -/
def execRewidthRx (mask : Byte) (_width : Nat) (s : State) : Host.Outcome State Fault Refusal :=
  .next (s.loseLanes (s.link.laneSet.filter fun x => !bit mask.toNat x))

/-- LINK_CLOCK_LOST (R440): the clock also stops in Deep, where the link stays as it is (R442). -/
def execLinkClockLost (s : State) : Host.Outcome State Fault Refusal :=
  .next (if s.link.state = .active ∨ s.link.state = .quiet then s.linkDown 3 else s)

/-! ### Packets and credits (R429 to R431) -/

def Link.vc (l : Link) (v : Nat) : Vc := if v = 0 then l.vc0 else l.vc1
def Link.setVc (v : Nat) (x : Vc) (l : Link) : Link := if v = 0 then { l with vc0 := x } else { l with vc1 := x }

/-- Credits a packet consumes (R431). -/
def creditsFor (length : Nat) : Nat := ceilDiv (16 + length) 64

/-- Packets move in Active and Quiet. -/
def Link.moves (l : Link) : Bool := l.state == .active || l.state == .quiet

/-- Send a packet again (R430, R447). -/
def State.resendPacket (v : Nat) (p : SentPacket) (s : State) : State :=
  let s := s.linkWake
  let l := s.link
  let x := l.vc v
  let x := { x with sent := x.sent + 1, unacked := x.unacked.set x.sent { p with times := p.times + 1 } }
  let n := l.resentBlock + 1
  let s := s.setLink { l.setVc v x with
    resent := satN u32max (l.resent + 1), resentBlock := n, lastPacket := s.time.ticks
    resentFirst := if n = 1 then (v, p.seq) else l.resentFirst }
  s.emitLink (.packet v p.seq p.length p.payload)

/-- Send the next ready packet, or let it wait for its credits. -/
def State.sendNew (v : Nat) (s : State) : State :=
  let x := s.link.vc v
  match x.ready with
  | [] => s
  | (len, p) :: rest =>
    if x.credits < creditsFor len then
      let n := if x.waited then s.link.waited else satN u32max (s.link.waited + 1)
      s.setLink { s.link.setVc v { x with waited := true } with waited := n }
    else
      let s := s.linkWake
      let x := { x with
        ready := rest, waited := false, credits := x.credits - creditsFor len, txSeq := (x.txSeq + 1) % 4096
        unacked := x.unacked ++ [⟨x.txSeq, len, p, 1⟩], sent := x.sent + 1 }
      let seq := (s.link.vc v).txSeq
      (s.setLink { s.link.setVc v x with lastPacket := s.time.ticks }).emitLink (.packet v seq len p)

/-- LINK_PACKET_TX: the packet the VC sends next. -/
def execLinkPacketTx (vc : Fin 2) (s : State) : Host.Outcome State Fault Refusal :=
  let x := s.link.vc vc.val
  .next (if s.link.moves then
    match x.unacked[x.sent]? with
    | some p => s.resendPacket vc.val p
    | none => s.sendNew vc.val
  else s)

/-- LINK_PACKET_RX (R430): accept the next one expected, or discard and owe a NAK. -/
def execLinkPacketRx (p : VcPacket) (s : State) : Host.Outcome State Fault Refusal :=
  .next (if s.link.moves then
    let v := p.vc.val
    let l := s.link
    let x := l.vc v
    if !p.headerCrcOk || !p.payloadCrcOk then
      s.setLink { l.setVc v { x with nak := true } with crcErr := satN u32max (l.crcErr + 1) }
    else if p.seq ≠ x.rxSeq then s.setLink (l.setVc v { x with nak := true })
    else
      let x := { x with
        rxSeq := (x.rxSeq + 1) % 4096, lastGood := p.seq, freed := (x.freed + creditsFor p.length) % 65536 }
      (s.setLink (l.setVc v x)).pairReceive p.payload
  else s)

/-- What a CREDIT block does to a VC: credits returned, and packets acknowledged. -/
def Vc.credit (credits last : Nat) (v : Vc) : Vc :=
  let gained := (credits + 65536 - v.returned) % 65536
  let n := match v.unacked.findIdx? fun p => p.seq == last with | some i => i + 1 | none => 0
  { v with credits := v.credits + gained, returned := credits, unacked := v.unacked.drop n, sent := v.sent - n }

/-- CREDIT_RX. -/
def execCreditRx (c : CreditBlock) (s : State) : Host.Outcome State Fault Refusal :=
  .next (if s.link.moves then
    let l := s.link
    let a := l.vc0.credit c.credits0 c.last0
    let b := l.vc1.credit c.credits1 c.last1
    let s := s.setLink { l with vc0 := a, vc1 := b }
    if (c.nak0 && a.exhausted) || (c.nak1 && b.exhausted) then s.linkDown 5
    else
      let a := if c.nak0 then a.again else a
      let b := if c.nak1 then b.again else b
      s.setLink { s.link with vc0 := a, vc1 := b }
  else s)

/-- CREDIT_TX (R431). -/
def execCreditTx (s : State) : Host.Outcome State Fault Refusal :=
  .next (if s.link.moves then
    let s := s.linkWake
    let l := s.link
    (s.setLink { l with vc0 := { l.vc0 with nak := false }, vc1 := { l.vc1 with nak := false } }).emitLink
      (.credit { nak0 := l.vc0.nak, nak1 := l.vc1.nak, credits0 := l.vc0.freed, credits1 := l.vc1.freed
                 last0 := l.vc0.lastGood, last1 := l.vc1.lastGood })
  else s)

/-- LANE_MARKER_TX (R427, R443): a marker row, which is not sent in Quiet. -/
def execLaneMarkerTx (s : State) : Host.Outcome State Fault Refusal :=
  .next (if s.link.moves then
    let n := s.link.markers + 1
    let s' := s.setLink { s.link with markers := n }
    if s.link.state = .active then s'.emitLink (.marker n) else s'
  else s)

/-! ### Lane power and tracking (R441 to R444) -/

/-- QUIET_IDLE in smp, rounded up (log 12). -/
def State.quietIdle (s : State) : Nat := ceilDiv (s.parN linkNode 3 * 48) 1000

/-- LINK_QUIET. -/
def execLinkQuiet (s : State) : Host.Outcome State Fault Refusal :=
  .next (if s.link.state = .active ∧ s.quietIdle ≠ 0 ∧ s.link.lastPacket + s.quietIdle ≤ s.time.ticks then
    (s.setLink { s.link with state := .quiet }).farxisEvent 7
  else s)

/-- CTLE_TRACK (R441): one code, within 2 of the trained one, frozen in Quiet and Deep. -/
def execCtleTrack (lane : Fin 8) (up : Bool) (s : State) : Host.Outcome State Fault Refusal :=
  let l := s.link
  let c := l.ctle.getD lane.val 0
  let t := l.ctleTrained.getD lane.val 0
  let n := if up then c + 1 else c - 1
  .next (if l.state = .active ∧ l.laneSet.contains lane.val ∧ n ≠ c ∧ n ≤ 15 ∧ n ≤ t + 2 ∧ t ≤ n + 2 then
    s.setLink { l with ctle := l.ctle.set lane.val n }
  else s)

/-- 1 ms intervals of local time that have ended. -/
def State.errIntervals (s : State) : Nat := s.time.ticks / 48

/-- The most errors on one lane in the interval that ends, those of this row among them. -/
def State.mostErrors (count : Nat) (s : State) : Nat :=
  match s.link.errInterval with
  | some (k, n) => if k = s.errIntervals then max n count else count
  | none => count

/-- LINK_ERRORS (R434, R447): the sync-header errors of a lane in the 1 ms interval that ends. -/
def execLinkErrors (lane : Fin 8) (count : Nat) (s : State) : Host.Outcome State Fault Refusal :=
  let l := s.link
  .next (if l.step ≠ 0 ∨ l.moves then
    let most := s.mostErrors count
    let s := s.setLink { l with
      syncErr := l.syncErr.set lane.val (satN u32max (l.syncErr.getD lane.val 0 + count))
      errInterval := some (s.errIntervals, most) }
    if s.parN linkNode 4 ≤ count then
      s.cross 867 0 linkNode most false (evData [(0, leBytes 1 lane.val), (4, leBytes 4 count), s.mBytes])
    else if (findKey Latch.key (4 * 867) s.evq.latches).isSome then
      s.setLevel 867 0 most (decide (s.parN linkNode 4 ≤ most)) false
    else s
  else s)

def onLink (_ : State) (_ : Fin 8) (r : Req) : Nat :=
  if nodeType r.node.toNat ≠ Ty.link then Err.nodeType else if r.node.toNat = linkNode then 0 else Err.noNode

def linkPower : Contract where
  opcode := 0x0D01
  len := lenIs 4
  fixed _ _ r := field r.payload 0 1 ≤ 2 && reservedZero r.payload [(1, 3)]
  node := onLink
  body s _ r :=
    let want : LinkState := if field r.payload 0 1 = 0 then .active else if field r.payload 0 1 = 1 then .quiet else .deep
    let l := s.link
    if !l.up then failWith Err.state
    else if want = .deep ∧ s.pairEn then failWith Err.state
    else if l.state = want then okay s
    else if l.state = .deep then
      let s := s.setLink { l with leavingDeep := some want }
      okay (if l.rung = 0 then s.linkSweep else s.linkRate l.rung)
    else okay ((s.setLink { l with state := want }).farxisEvent 7)

def execLinkPower (mb : Fin 8) (r : Req) (s : State) : Host.Outcome State Fault Refusal := runCommand linkPower mb r s

/-! ### Tests and counters (R445, R446) -/

def linkTest : Contract where
  opcode := 0x0D02
  len := lenIs 8
  fixed _ _ r :=
    let p := r.payload
    field p 0 1 ≤ 1 && [7, 15, 23, 31].contains (field p 1 1) && field p 2 1 ≤ 6 && 1 ≤ field p 3 1
      && 1 ≤ field p 4 1 && field p 4 1 ≤ 3 && reservedZero p [(5, 3)]
  node := onLink
  body s _ r :=
    let p := r.payload
    let l := s.link
    if field p 0 1 = 0 then
      if l.test.isNone then failWith Err.state
      else okay (s.setLink { l with test := none, state := .disabled })
    else if s.enabled linkNode then failWith Err.state
    else if l.test.isSome then failWith Err.conflict
    else
      let lanes := lanesOf (field p 3 1)
      okay (s.setLink { l with
        test := some (field p 1 1, field p 2 1, field p 3 1, field p 4 1), state := .test, rung := field p 2 1
        prbsErr := List.replicate 8 0, checkerLock := 0
        ctle := (List.range 8).map fun x => if lanes.contains x then 8 else l.ctle.getD x 0 })

def execLinkTest (mb : Fin 8) (r : Req) (s : State) : Host.Outcome State Fault Refusal := runCommand linkTest mb r s

def linkCounters : Contract where
  opcode := 0x0D03
  len := lenIs 4
  fixed _ _ r := field r.payload 0 1 ≤ 1 && reservedZero r.payload [(1, 3)]
  node := onLink
  body s _ r :=
    let l := s.link
    let out := l.syncErr.flatMap (leBytes 4) ++ l.prbsErr.flatMap (leBytes 4) ++ leBytes 4 l.crcErr ++ leBytes 4 l.resent
      ++ leBytes 4 l.waited ++ leBytes 4 l.rewidths ++ leBytes 4 l.resets ++ leBytes 1 l.checkerLock ++ zeros 11
    let cleared := { l with
      syncErr := List.replicate 8 0, prbsErr := List.replicate 8 0, crcErr := 0, resent := 0, waited := 0, rewidths := 0
      resets := 0 }
    answer (if field r.payload 0 1 = 1 then s.setLink cleared else s) out

def execLinkCounters (mb : Fin 8) (r : Req) (s : State) : Host.Outcome State Fault Refusal := runCommand linkCounters mb r s

/-- An interval without a LINK_ERRORS row had no errors: the level of its latch falls back (R447). -/
def State.errorsOver (s : State) : State :=
  match s.link.errInterval with
  | some (k, _) =>
    if k + 2 ≤ s.errIntervals then
      let s := s.setLink { s.link with errInterval := none }
      if (findKey Latch.key (4 * 867) s.evq.latches).isSome then s.setLevel 867 0 0 false false else s
    else s
  | none => s

/-- The end of a block for the latches of LINK_REPLAY and LINK_ERRORS (R447). -/
def State.linkBlock (s : State) : State :=
  let l := s.link
  let s := s.blockLatch 868 0 linkNode l.resentBlock
    (evData [(0, leBytes 1 l.resentFirst.1), (2, leBytes 2 l.resentFirst.2), s.mBytes])
  State.errorsOver (s.setLink { s.link with resentBlock := 0 })

/-- Live link parameters (R434). -/
def State.linkLive (s : State) (pid : Nat) : Bytes :=
  let l := s.link
  if pid = 16 then leBytes 1 l.state.code
  else if pid = 17 then leBytes 1 l.rung
  else if pid = 18 then leBytes 1 l.width
  else if pid = 19 then (List.range 8).map fun k => BitVec.ofNat 8 (l.laneMap.getD k 0xFF)
  else if pid = 20 then l.ctle.map (BitVec.ofNat 8)
  else if pid = 21 then leBytes 1 l.attempts
  else leBytes 1 l.partnerRung ++ leBytes 1 l.partnerMask ++ leBytes 1 (ofBool l.partnerSideB) ++ zeros 1

end Sys2Proof.Machine
end

