-- ==== Sys2Proof/Machine/Apply.lean ====
section
/-! DEFINITION. How time passes within a block and how changes take effect: samples, the hooks of each parameter, the nodes
that enter and leave the engines, and the changes that a block boundary applies (R16, R86, R100). -/

namespace Sys2Proof.Machine

/-! ### Samples (R14 to R17) -/

/-- Every engine of the data path processes primary sample j of its block. -/
def State.primarySample (s : State) (j : Nat) : State :=
  let s := s.galSample j
  let s := s.renSample j
  let s := s.stageSample j
  let s := s.captureSample j
  let s := s.callsSample j
  if s.power.state == .active then
    ((s.runningOf Ty.aes).filter fun n => s.sends n).foldl (State.aesGather j) s
  else s

/-- The next sample boundary: the engines process the primary samples of this smp, and the clocks move. -/
def State.sampleStep (s : State) : State :=
  let f := s.perSmp
  let base := s.time.pos * f
  (if s.awake then ((List.range f).map (base + ·)).foldl State.primarySample s else s).tickSample

/-- The sample at which this strobe period ends. -/
def State.blockEnd (s : State) : Nat := 16 * s.time.block + 16

/-- Bring the engines to the boundary of sample m, inside this strobe period. -/
def State.reach (m : Nat) (s : State) : State := times (min m s.blockEnd - s.m) State.sampleStep s

/-- The first sample boundary of this strobe period at which no media phase is left to be pulled; `none` when there is none. -/
def State.alignedAt : Nat → State → Option State
  | 0, s => if s.time.pull = 0 then some s else none
  | n + 1, s => if s.time.pull = 0 then some s else State.alignedAt n s.sampleStep

/-- MEDIA_ALIGNED (R140): the residual of the last step reaches zero; sample boundaries fall on T(m) again. -/
def execMediaAligned (s : State) : Host.Outcome State Fault Refusal :=
  match s.time.residual, s.awake with
  | some r, true =>
    match State.alignedAt (s.blockEnd - s.m) s with
    | some t =>
      .next (State.raise 134 0x0206 0 (evData [(0, leSigned 8 t.time.epoch), (8, signedNs r), (12, leBytes 1 1)])
        { t with time := { t.time with residual := none } })
    | none => .next s
  | _, _ => .next s

/-- TIME_STEP (R140): a step of network time at the next sample boundary. -/
def execTimeStep (s : State) : Host.Outcome State Fault Refusal :=
  .next (if s.time.pendStep.isSome && s.awake then (s.reach (s.m + 1)).applyStep else s)

/-! ### Changes of parameters and crosspoints (R86, R98, R103) -/

/-- A ball that the device drives: an enabled GPIO output (R570). -/
def State.gpioOut (s : State) (g : Nat) : Bool :=
  s.running (mkNode Ty.gpio g) && s.parN (mkNode Ty.gpio g) 1 == 1

/-- Whether an output pulls its ball: an open-drain one does so for level 0 only (R569). -/
def State.gpioPulls (s : State) (g : Nat) : Bool := s.parN (mkNode Ty.gpio g) 4 == 0 || s.parN (mkNode Ty.gpio g) 2 == 0

def State.driveGpio (g : Nat) (s : State) : State :=
  if s.gpioPulls g then s.emit (.gpio g (s.parN (mkNode Ty.gpio g) 2 == 1)) else s.emit (.gpioFree g)

/-- Level at the ball: what the device drives, else what was last sampled. -/
def State.gpioLevel (s : State) (g : Nat) : Bool :=
  if s.gpioOut g && s.gpioPulls g then s.parN (mkNode Ty.gpio g) 2 == 1 else (getA g s.gpio.inputs).getD false

/-- Put the new value of a change into its store, at sample m. -/
def State.storeChange (m : Nat) (s : State) (c : Change) : State :=
  let t := nodeType c.node
  let i := nodeIdx c.node
  if t = Ty.galOut ∧ 0x1000 ≤ c.pid then s.galChange i (c.pid - 0x1000) m (BitVec.ofNat 32 (leNat c.val))
  else if t = Ty.rail then
    let set (r : Rail) : Rail := if c.pid = 1 then { r with warn := leNat c.val } else { r with reset := leNat c.val }
    match s.power.rails[i]? with
    | some r => { s with power := { s.power with rails := s.power.rails.setIfInBounds i (set r) } }
    | none => s
  else s.storePar c.node c.pid c.val

/-- What a stored change of a parameter does to its engine at sample m; `old` is the value before. -/
def State.changeHook (m : Nat) (s : State) (x : Change × Bytes) : State :=
  let c := x.1
  let t := nodeType c.node
  let i := nodeIdx c.node
  if t = Ty.spk then s.spkChanged i c.pid (leNat c.val) m
  else if t = Ty.mic then (if c.pid = 1 then s.micRespond i (leNat c.val) m else s)
  else if t = Ty.beam then
    if 0x1000 ≤ c.pid then s.micFilterChanged i else if c.pid = 12 then s.dropLeaders m else s
  else if t = Ty.zone then s.aecZoneGain i (toSigned 2 (leNat x.2)) (toSigned 2 (leNat c.val)) m
  else if t = Ty.call then
    if c.pid = 10 ∨ c.pid = 11 then s.callGain i c.pid
    else if c.pid = 8 then s.lecMoved i (leNat x.2)
    else if (c.pid = 1 ∨ 3 ≤ c.pid ∧ c.pid ≤ 6) ∧ x.2 ≠ c.val then s.codecChanged i
    else s
  else if t = Ty.rtp then (if c.pid = 6 ∨ c.pid = 7 then s.remoteChanged c.node else s)
  else if t = Ty.kernel then (if 0x20 ≤ c.pid ∧ c.pid < 0x1000 then s.krnLine i (c.pid - 0x20) else s)
  else if t = Ty.gpio then (if c.pid = 2 ∧ s.gpioOut i then s.driveGpio i else s)
  else s

/-- A crosspoint: each command's change of it is a request of its own (R200). -/
def isXpChange (c : Change) : Bool := nodeType c.node == Ty.galOut && 0x1000 ≤ c.pid

/-- Of several changes of one parameter at one sample, the one applied last stands (R103). -/
def lastChanges : List Change → List Change
  | [] => []
  | c :: r =>
    if !isXpChange c && r.any fun d => d.node == c.node && d.pid == c.pid then lastChanges r else c :: lastChanges r

/-- Changes take effect together at sample m: all values are stored, then every engine takes what is new. -/
def State.applyChanges (m : Nat) (l : List Change) (s : State) : State :=
  let l := (lastChanges l).filter fun c => s.live c.node
  let olds := l.map fun c => (c, s.par c.node c.pid)
  let queued := s.gal.queue.length
  let s := olds.foldl (State.changeHook m) (l.foldl (State.storeChange m) s)
  if l.any isXpChange then s.queueLatch queued else s

/-! ### Nodes that enter and leave the engines (R86) -/

def State.beginHook (m : Nat) (s : State) (id : Nat) : State :=
  let t := nodeType id
  let i := nodeIdx id
  if t = Ty.call then s.callBegin i
  else if t = Ty.rtp ∨ t = Ty.aes then s.streamBegin id m
  else if t = Ty.tdmPort then s.tdmPortBegin i m
  else if t = Ty.mic then s.micBegin i m
  else if t = Ty.beam then s.beamBegin i m
  else if t = Ty.galOut then s.galOutBegin i
  else if t = Ty.obj then s.objBegin i m
  else if t = Ty.spk then s.spkBegin i
  else if t = Ty.tone then s.toneBegin i
  else if t = Ty.kernel then s.krnBegin i
  else if t = Ty.gpio then (if s.gpioOut i then s.driveGpio i else s)
  else s

def State.endHook (m : Nat) (s : State) (id : Nat) : State :=
  let t := nodeType id
  let i := nodeIdx id
  if t = Ty.call then s.callEnd i
  else if t = Ty.rtp ∨ t = Ty.aes then s.streamEnd id
  else if t = Ty.tdmPort then s.tdmPortEnd i
  else if t = Ty.mic then s.micEnd i
  else if t = Ty.beam then s.beamEnd i m
  else if t = Ty.galOut then s.galOutEnd i
  else if t = Ty.obj then s.objEnd i
  else if t = Ty.spk then s.spkEnd i
  else if t = Ty.kernel then s.krnEnd i
  else if t = Ty.eth then s.portEnd i
  else if t = Ty.gpio then (if s.parN id 1 == 1 then s.emit (.gpioFree i) else s)
  else s

/-- What a destroyed node leaves in its engine goes with it. -/
def State.forget (s : State) (id : Nat) : State :=
  let t := nodeType id
  let i := nodeIdx id
  if t = Ty.call then { s with voice := { s.voice with calls := dropKey CallDyn.ch i s.voice.calls } }
  else if t = Ty.rtp ∨ t = Ty.aes then { s with eth := { s.eth with streams := dropKey StreamDyn.node id s.eth.streams } }
  else if t = Ty.beam then { s with cap := { s.cap with beams := dropKey BeamDyn.beam i s.cap.beams } }
  else if t = Ty.obj then { s with ren := { s.ren with objs := dropKey ObjDyn.obj i s.ren.objs } }
  else if t = Ty.zone then { s with ren := { s.ren with zones := dropKey ZoneDyn.zone i s.ren.zones } }
  else if t = Ty.spk then { s with spk := { s.spk with spks := dropKey SpkDyn.spk i s.spk.spks } }
  else if t = Ty.tone then { s with voice := { s.voice with tones := dropKey ToneDyn.det i s.voice.tones } }
  else if t = Ty.kernel then { s with bench := { s.bench with insts := dropKey KernDyn.inst i s.bench.insts } }
  else s

/-- Nodes and connections as the record of this block closed them, else as they stand (R458). -/
def State.enabledNow (s : State) : List (Nat × Nat) :=
  match s.closedView with
  | some v => v.1
  | none => (s.nodes.filter fun x => x.2.state == .enabled).map fun x => (x.1, x.2.order)

def State.connsNow (s : State) : List Conn :=
  match s.closedView with
  | some v => v.2
  | none => s.conns

/-- A node that the device itself disabled leaves the engines whatever the record said. -/
def State.stillOn (s : State) (id : Nat) : Bool := (s.node id).state != .byDevice

/-- Bring the engines' nodes and connections up to date at block boundary m: what leaves ends, what enters begins. -/
def State.updateRun (m : Nat) (s : State) : State :=
  let now := s.enabledNow.filter fun x => s.stillOn x.1
  let gone := s.run.filter fun x => !now.contains x
  let came := now.filter fun x => !s.run.contains x
  let before := s.wires
  let s := { s with run := now, wires := s.connsNow, closedView := none }
  let s := (gone.map (·.1)).foldl (State.endHook m) s
  let left := (s.leaving.map (·.1)).filter fun id => !s.live id
  let s := left.foldl State.forget s
  let s := { s with leaving := [] }
  ((came.map (·.1)).foldl (State.beginHook m) s).aecSources before m

/-! ### Zone membership at a boundary (R217, R283) -/

/-- A member that joins or leaves a referenced zone concerns its cancellers; a zone's own enable or disable does not. -/
def State.membershipChanged (before : List (Nat × Nat)) (own : List Nat) (m : Nat) (s : State) : State :=
  let changed := (List.range 64).filter fun z =>
    (before.filter fun x => x.2 == z) != (s.ren.members.filter fun x => x.2 == z)
  (changed.filter fun z => s.running (zoneId z) && !own.contains z).foldl (State.aecMembership m) s

def State.zonesAtBoundary (m : Nat) (s : State) : State :=
  let own := (s.ren.zoneWait.filter fun x => x.1 ≤ m && (x.2.1 == 3 || x.2.1 == 4)).map (·.2.2)
  let before := s.ren.members
  s.zoneBoundary.membershipChanged before own m

/-! ### What a block boundary applies (R86) -/

/-- The parameter changes among the waiting ones. -/
def pendChanges (l : List Pend) : List Change := l.filterMap fun p => match p with | .change c => some c | _ => none

/-- Settings that hold for every change of the boundary: profile lengths and the speed of sound. -/
def State.applySetting (s : State) (p : Pend) : State :=
  match p with
  | .profile w n => s.setGal (if w = 14 then { s.gal with prof14 := n } else { s.gal with prof15 := n })
  | .soundSpeed v => s.setRen { s.ren with speed := v }
  | _ => s

/-- Resets and the like, in the order in which Daluo applied them. -/
def State.applyOther (m : Nat) (s : State) (p : Pend) : State :=
  match p with
  | .micReset first count => s.micResets first count m
  | .aecReset b mask => s.aecReset b mask m
  | .locator g k hyst hold => s.setLocGroup g { s.locGroup g with k := k, hyst := hyst, hold := hold }
  | .lecReset ch => s.lecCleared ch
  | .inject t i => s.arm t i
  | .restart o => if s.running (objId o) then s.objBegin o m else s
  | .change _ | .profile _ _ | .soundSpeed _ => s

/-- The waiting changes of the block that begins at m take effect. -/
def State.applyPend (m : Nat) (s : State) : State :=
  let l := s.pend
  let here := (pendChanges l).map fun c => (c.node, c.pid)
  let s := { s with pend := s.pendLate, pendLate := [], setHere := here }
  let s := l.foldl State.applySetting s
  let s := s.applyChanges m (pendChanges l)
  l.foldl (State.applyOther m) s

/-! ### A Slab's changes at its sample (R100, R103) -/

/-- Kernel instances whose PARAM words a list of changes sets. -/
def kernelsOf (l : List Change) : List Nat :=
  ((l.filter fun c => nodeType c.node == Ty.kernel && 0x1000 ≤ c.pid).map fun c => nodeIdx c.node).eraseDups

/-- Objects whose parameters a list of changes sets. -/
def objectsOf (l : List Change) : List Nat :=
  ((l.filter fun c => nodeType c.node == Ty.obj).map fun c => nodeIdx c.node).eraseDups

def spksOf (pid : Nat) (l : List Change) : List Nat :=
  ((l.filter fun c => nodeType c.node == Ty.spk && c.pid == pid).map fun c => nodeIdx c.node).eraseDups

/-- Geometry records that start at sample m for these objects (R224, R225); `own` are the objects whose stored parameters
the change sets, `keep` says which pending records were made later. -/
def State.startRecords (m : Nat) (own objs : List Nat) (keep : GeoRec → Bool) (s : State) : State :=
  objs.foldl (init := s) fun s o => s.startRecord o m (if own.contains o then s.par (objId o) 1 else
    (match (s.objDyn o).pend with | some r => r.pos | none => s.par (objId o) 1)) keep

/-- Changes with effect at sample m inside a block: what the changes do, then the geometry records they make (R224): those
of the objects set, of those for which a loudspeaker whose WEIGHT changes is a candidate, or of every enabled object where a
membership changes. -/
def State.applyAt (m : Nat) (l : List Change) (keep : GeoRec → Bool) (s : State) : State :=
  let s := s.applyChanges m l
  let s := (kernelsOf l).foldl (fun s i => if s.running (krnId i) then s.krnSwitch i m else s) s
  let zoned := spksOf 2 l
  let before := s.ren.members
  let s := if zoned.isEmpty then s else s.updateMembers zoned.contains (fun _ _ => 1) m
  let s := s.membershipChanged before [] m
  let weighed (o : Nat) : Bool := (spksOf 3 l).any (s.isCandidate (s.parN (objId o) 8))
  let objs := ((s.runningOf Ty.obj).map nodeIdx).filter fun o =>
    s.ren.members != before || (objectsOf l).contains o || weighed o
  s.startRecords m (objectsOf l) objs keep

end Sys2Proof.Machine
end

