-- ==== Sys2Proof/Machine/Ashlar.lean ====
section
/-! DEFINITION. Ashlar contexts, jobs, saved images (R405 to R421). -/

namespace Sys2Proof.Machine

def ashId (i : Nat) : Nat := mkNode Ty.ash i

def State.ashDyn (s : State) (i : Nat) : AshDyn := (findKey AshDyn.ctx i s.ash).getD { ctx := i }
def State.setAsh (x : AshDyn) (s : State) : State := { s with ash := putKey AshDyn.ctx x s.ash }

def State.ashCfg (s : State) (i : Nat) : AshCfg :=
  let g (p : Nat) : Nat := s.parN (ashId i) p
  { dir := g 1, mode := g 2, framing := g 3, word := g 4, channels := g 5 }

/-- NODE_ENABLE and START begin with no stream state (R406, R414); a job in progress stays. -/
def AshDyn.clear (x : AshDyn) : AshDyn := { ctx := x.ctx, job := x.job }

def State.ashClear (i : Nat) (s : State) : State := s.setAsh (s.ashDyn i).clear

def AshDyn.pending (x : AshDyn) : Nat := sumN (x.held.map List.length)

/-! ### A job on its input (R414, R415) -/

/-- A job while it runs: stream state, input left, symbols written newest first, and what its record reports. -/
structure AshRun where
  dyn : AshDyn
  input : Bytes
  consumed : Nat := 0
  room : Nat
  out : List Bytes := []
  blocks : Nat := 0
  /-- Raw bytes consumed (compress) or written (decompress), newest group first. -/
  raw : List Bytes := []
  full : Bool := false
  short : Bool := false
  finished : Bool := false
  /-- Detail of R417 and the input offset at fault. -/
  fault : Option (Nat × Nat) := none

def AshRun.produced (r : AshRun) : Nat := sumN (r.out.map List.length)

def AshRun.stopped (r : AshRun) : Bool := r.full || r.short || r.fault.isSome

def AshRun.take (n : Nat) (r : AshRun) : AshRun := { r with input := r.input.drop n, consumed := r.consumed + n }

/-- Write symbols in order while they fit; the rest is held and the job stops with OUTPUT_FULL. -/
def AshRun.write (raw : Bool) : List Bytes → AshRun → AshRun
  | [], r => r
  | x :: l, r =>
    if x.length ≤ r.room then
      AshRun.write raw l { r with out := x :: r.out, room := r.room - x.length, raw := if raw then x :: r.raw else r.raw }
    else { r with full := true, dyn := { r.dyn with held := x :: l } }

/-- The held symbols go first (R415); a block that they complete counts. -/
def AshRun.drain (raw header : Bool) (r : AshRun) : AshRun :=
  if r.dyn.held.isEmpty then r
  else
    let r' := AshRun.write raw r.dyn.held { r with dyn := { r.dyn with held := [] } }
    if r'.full || header then r' else { r' with blocks := r'.blocks + 1 }

def AshDyn.hist (x : AshDyn) : AshHist := { chans := x.histA, raw := x.histB }

/-- Stream state after a block of raw bytes with this sequence number. -/
def AshDyn.after (c : AshCfg) (seq : Nat) (raw : Bytes) (x : AshDyn) : AshDyn :=
  let h := c.extend raw x.hist
  { x with nextSeq := (seq + 1) % 2 ^ 32, rawTotal := (x.rawTotal + raw.length) % 2 ^ 64, histA := h.chans, histB := h.raw }

/-- Compress block after block; fuel is the input's length. -/
def AshRun.compress (c : AshCfg) (finish : Bool) : Nat → AshRun → AshRun
  | 0, r => r
  | f + 1, r =>
    if r.stopped || r.input.isEmpty then r
    else if r.input.length < 4096 && !finish then { r with short := true }
    else
      let raw := r.input.take 4096
      let block := c.encodeBlock r.dyn.nextSeq r.dyn.hist raw
      let r := r.take raw.length
      let r := { r with dyn := r.dyn.after c r.dyn.nextSeq raw, raw := raw :: r.raw }
      let r := AshRun.write false [block] r
      AshRun.compress c finish f (if r.full then r else { r with blocks := r.blocks + 1 })

/-- Decompress block after block (R414, R417). -/
def AshRun.decompress (c : AshCfg) (finish : Bool) : Nat → AshRun → AshRun
  | 0, r => r
  | f + 1, r =>
    if r.stopped || r.input.isEmpty then r
    else
      let b := blockHdr r.input
      let payload := slice r.input 16 b.payload
      let bad (k : Nat) : AshRun := { r with fault := some (k, r.consumed) }
      let incomplete : AshRun := if finish then bad 7 else { r with short := true }
      if r.input.length < 16 then incomplete
      else if !b.ok c || (r.dyn.inStream && r.dyn.rawTotal % 4096 ≠ 0) then bad 3
      else if c.framing = 1 && b.seq ≠ r.dyn.nextSeq then bad 4
      else if payload.length ≠ b.payload then incomplete
      else
        match c.decodeBlock (b.type = 1) b.raw r.dyn.hist payload with
        | none => bad 5
        | some syms =>
          let raw := syms.flatten
          if raw.length ≠ b.raw then bad 5
          else if (crc32c raw).toNat ≠ b.crc then bad 6
          else
            let r := r.take (16 + b.payload)
            let r := AshRun.write true syms { r with dyn := r.dyn.after c b.seq raw }
            AshRun.decompress c finish f (if r.full then r else { r with blocks := r.blocks + 1 })

/-- The end of a job with FINISH: a known raw length must agree (R417), and with nothing pending the stream ends. -/
def AshRun.close (c : AshCfg) (finish : Bool) (r : AshRun) : AshRun :=
  if r.stopped || !finish then r
  else
    match (if c.dir = 2 then r.dyn.known else none) with
    | some n => if n = r.dyn.rawTotal then { r with finished := true, dyn := { r.dyn with inStream := false, known := none } }
                else { r with fault := some (8, r.consumed) }
    | none => { r with finished := true, dyn := { r.dyn with inStream := false, known := none } }

/-- A START: the stream header is written, or parsed and checked. -/
def AshRun.start (c : AshCfg) (finish : Bool) (user : Nat) (r : AshRun) : AshRun :=
  let r := { r with dyn := { r.dyn.clear with inStream := true } }
  if c.dir = 1 then AshRun.write false [streamHeader c (if finish then r.input.length else unknownLength) user] r
  else
    let k := headerDetail c r.input
    if k ≠ 0 then { r with fault := some (k, 0) }
    else
      let n := field r.input 16 8
      { r.take 64 with dyn := { r.dyn with known := if n = unknownLength then none else some n } }

/-- The whole job on its input. -/
def AshRun.run (c : AshCfg) (start finish : Bool) (user : Nat) (r : AshRun) : AshRun :=
  let header := c.dir = 1 && r.dyn.rawTotal = 0
  let r := if start then r.start c finish user else r.drain (c.dir = 2) header
  let n := r.input.length
  (if c.dir = 1 then r.compress c finish n else r.decompress c finish n).close c finish

/-- The completion record. -/
def AshRun.record (r : AshRun) : Bytes :=
  let flags := ofBool r.full + 2 * ofBool r.short + 4 * ofBool (r.dyn.pending ≠ 0) + 8 * ofBool r.finished
  leBytes 2 flags ++ leBytes 2 ((r.fault.map (·.1)).getD 0) ++ leBytes 4 r.blocks ++ leBytes 4 r.consumed
    ++ leBytes 4 r.produced ++ leBytes 4 r.dyn.pending ++ leBytes 4 (crc32c r.raw.reverse.flatten).toNat
    ++ leBytes 4 r.dyn.nextSeq ++ leBytes 8 r.dyn.rawTotal ++ leBytes 4 ((r.fault.map (·.2)).getD 0)

/-! ### ASH_JOB (R414 to R417) -/

/-- Fields of an ASH_JOB payload. -/
structure AshJob where
  start : Bool
  finish : Bool
  inSpace : Nat
  outSpace : Nat
  inAddr : Nat
  inLen : Nat
  outLen : Nat
  outAddr : Nat
  user : Nat

def ashJobOf (p : Bytes) : AshJob :=
  { start := bit (field p 0 1) 0, finish := bit (field p 0 1) 1, inSpace := field p 1 1, outSpace := field p 2 1
    inAddr := field p 8 8, inLen := field p 16 4, outLen := field p 20 4, outAddr := field p 24 8, user := field p 32 8 }

def ashLenMax : Nat := 16777216

/-- The fields of ASH_JOB, each alone (R575). -/
def ashJobFixed (p : Bytes) : Bool :=
  let j := ashJobOf p
  field p 0 1 < 4 && 1 ≤ j.inSpace && j.inSpace ≤ 3 && 1 ≤ j.outSpace && j.outSpace ≤ 3
    && reservedZero p [(3, 5), (40, 8)] && j.inAddr % 4 = 0 && j.outAddr % 4 = 0
    && j.inLen ≤ ashLenMax && j.outLen ≤ ashLenMax

/-- Both ranges lie inside the spaces they name and do not overlap. -/
def State.ashJobOk (s : State) (p : Bytes) : Bool :=
  let j := ashJobOf p
  s.haulRange j.inSpace j.inAddr j.inLen && s.haulRange j.outSpace j.outAddr j.outLen
    && !(j.inSpace = j.outSpace && overlaps j.inAddr j.inLen j.outAddr j.outLen)

def ashJob : Contract where
  opcode := 0x0C01
  len := lenIs 48
  fixed _ _ r := ashJobFixed r.payload
  node := onTypes [Ty.ash]
  fields s _ r := s.ashJobOk r.payload
  body s mb r :=
    let i := nodeIdx r.node.toNat
    let j := ashJobOf r.payload
    let c := s.ashCfg i
    let x := s.ashDyn i
    if c.dir = 1 && c.mode = 1 && j.finish && j.inLen % 4096 % c.frame ≠ 0 then failWith Err.range
    else if !s.enabled (ashId i) then failWith Err.state
    else if !j.start && !x.inStream && (c.dir = 1 || c.framing = 1) then failWith Err.state
    else if j.start && x.pending ≠ 0 then failWith Err.state
    else if s.id.straps.hostQspi && (j.inSpace = 2 || j.outSpace = 2) then failWith Err.state
    else if (j.inSpace = 3 && s.hitsAttachment mb j.inAddr j.inLen)
        || (j.outSpace = 3 && s.hitsAttachment mb j.outAddr j.outLen) then failWith Err.conflict
    else .wait (s.setAsh { x with job := some (mb.val, r) })

def execAshJob (mb : Fin 8) (r : Req) (s : State) : Host.Outcome State Fault Refusal := runCommand ashJob mb r s

/-- Source 832 (R419). -/
def State.ashFailed (i detail off produced : Nat) (s : State) : State :=
  s.raise 832 0x0C00 (ashId i) (evData [(0, leBytes 1 detail), (4, leBytes 4 off), (8, leBytes 4 produced)])

/-- Output bytes of a failed job beyond the count are undefined (R417): free values. -/
def State.ashSmear (mb : Nat) (j : AshJob) (k : Nat) (s : State) : State :=
  let n := j.outLen - k
  let b := (List.range n).map fun i => BitVec.ofNat 8 (Config.freeValue (s.free + i))
  State.haulWrite mb j.outSpace (j.outAddr + k) b { s with free := s.free + n }

/-- End a job: its output is written, then its response (R414). A transfer that stops after `limit` input bytes, or a
poisoned input word, ends it with ERR_FAULT (R416); after a failure the context is as before the job. -/
def State.endAshJob (i : Nat) (mb : Fin 8) (r : Req) (limit : Option Nat) (s : State) : State :=
  let x := { s.ashDyn i with job := none }
  let c := s.ashCfg i
  let j := ashJobOf r.payload
  let opened := (s.box mb).sess == .opened
  let cut : Option Nat :=
    match limit, s.badAt j.inSpace j.inAddr j.inLen with
    | some a, some b => some (min a b)
    | some a, none => some a
    | none, b => b
  let input := s.haulRead mb j.inSpace j.inAddr (min j.inLen (cut.getD j.inLen))
  let run := AshRun.run c j.start (j.finish && cut.isNone) j.user { dyn := x, input := input, room := j.outLen }
  let s := s.haulWrite mb j.outSpace j.outAddr run.out.reverse.flatten
  let fail (code detail off : Nat) (payload : Bytes) : State :=
    (((s.setAsh x).ashSmear mb j run.produced).ashFailed i detail off run.produced).finish 0x0C01 mb r opened true code
      { payload := payload }
  match run.fault with
  | some (k, off) => fail Err.image k off run.record
  | none =>
    if cut.isSome && !run.full then fail Err.fault 0 0 []
    else (s.setAsh run.dyn).finish 0x0C01 mb r opened true 0 { payload := run.record }

/-- ASH_JOB_COMPLETE (R414). -/
def execAshJobComplete (ctx : Nat) (s : State) : Host.Outcome State Fault Refusal :=
  match (s.ashDyn ctx).job with
  | some (mb, r) => if h : mb < 8 then .next (s.endAshJob ctx ⟨mb, h⟩ r none) else .next s
  | none => .next s

/-- HAUL_TIMEOUT (R390, R416): the transfer of the mailbox's Haul or Ashlar job stops after `moved` bytes. At most all but
the last of a Haul job's bytes have moved. -/
def execHaulTimeout (mb : Fin 8) (moved : Nat) (s : State) : Host.Outcome State Fault Refusal :=
  match s.job? mb with
  | some j => .next (s.endHaul mb j (min moved (sumN (j.descs.map (·.len)) - 1)))
  | none =>
    match s.ash.find? fun a => (a.job.map (·.1)) == some mb.val with
    | some a =>
      match a.job with
      | some (_, r) => .next (s.endAshJob a.ctx mb r (some moved))
      | none => .next s
    | none => .next s

/-! ### ASH_CTX_SAVE, ASH_CTX_RESTORE (R418) -/

def ashImageBytes : Nat := 40960

/-- The creation record of a context. -/
def AshCfg.bytes (c : AshCfg) : Bytes :=
  leBytes 1 c.dir ++ leBytes 1 c.mode ++ leBytes 1 c.framing ++ leBytes 1 c.word ++ leBytes 1 c.channels ++ zeros 3

/-- The image of a context: histories oldest first, shorter ones zero-padded at their end. -/
def ashImage (c : AshCfg) (x : AshDyn) : Bytes :=
  let chan (i : Nat) : Bytes := padTo 32 (((x.histA.getD i []).reverse).flatMap (leSigned 8))
  let body := c.bytes ++ leBytes 4 (ofBool x.inStream) ++ leBytes 4 x.pending ++ leBytes 4 x.nextSeq ++ leBytes 4 0
    ++ leBytes 8 x.rawTotal ++ zeros 24 ++ (List.range 8).flatMap chan ++ padTo 32768 x.histB.reverse
    ++ padTo 4112 x.held.flatten ++ zeros 3760
  leBytes 4 0x58435341 ++ leBytes 4 (crc32c body).toNat ++ body

/-- The stream state that an image holds: held bytes fall into frames (Ashlar-A), single bytes (Ashlar-B), or one whole
compressed symbol (log 23). -/
def ashOfImage (c : AshCfg) (i : Nat) (b : Bytes) : AshDyn :=
  let total := field b 32 8
  let held := slice b 33088 (min 4112 (field b 20 4))
  let chan (k : Nat) : List Int :=
    (((List.range 4).map fun j => sfield b (64 + 32 * k + 8 * j) 8).take (min 4 (total / max 1 c.frame))).reverse
  { ctx := i, inStream := field b 16 4 = 1, nextSeq := field b 24 4, rawTotal := total
    histA := if c.mode = 1 && total ≠ 0 then (List.range c.channels).map chan else []
    histB := (slice b 320 (min 32768 total)).reverse
    held := if held.isEmpty then [] else if c.dir = 1 then [held] else chunks c.frame held }

def ctxFixed (p : Bytes) : Bool :=
  1 ≤ field p 0 1 && field p 0 1 ≤ 3 && reservedZero p [(1, 7)] && field p 8 8 % 4 = 0

/-- Both commands take a space and an address with the 40,960 bytes inside it. -/
def ctxFieldsOk (s : State) (p : Bytes) : Bool :=
  s.haulRange (field p 0 1) (field p 8 8) ashImageBytes

/-- Host memory needs PCIe; a bulk range must not overlap an attachment (R399, R416): 0 or the code. -/
def ctxSpace (s : State) (mb : Nat) (p : Bytes) : Nat :=
  if s.id.straps.hostQspi && field p 0 1 = 2 then Err.state
  else if field p 0 1 = 3 && s.hitsAttachment mb (field p 8 8) ashImageBytes then Err.conflict else 0

def ashCtxSave : Contract where
  opcode := 0x0C02
  len := lenIs 16
  fixed _ _ r := ctxFixed r.payload
  node := onTypes [Ty.ash]
  fields s _ r := ctxFieldsOk s r.payload
  body s mb r :=
    let p := r.payload
    let i := nodeIdx r.node.toNat
    let k := ctxSpace s mb p
    if k ≠ 0 then failWith k
    else okay (s.haulWrite mb (field p 0 1) (field p 8 8) (ashImage (s.ashCfg i) (s.ashDyn i)))

def execAshCtxSave (mb : Fin 8) (r : Req) (s : State) : Host.Outcome State Fault Refusal := runCommand ashCtxSave mb r s

/-- A completion record that only tells a detail: the error payload of ASH_CTX_RESTORE (log 23). -/
def detailRecord (k : Nat) : Bytes := zeros 2 ++ leBytes 2 k ++ zeros 36

def ashCtxRestore : Contract where
  opcode := 0x0C03
  len := lenIs 16
  fixed _ _ r := ctxFixed r.payload
  node := onTypes [Ty.ash]
  fields s _ r := ctxFieldsOk s r.payload
  body s mb r :=
    let p := r.payload
    let i := nodeIdx r.node.toNat
    let c := s.ashCfg i
    let k := ctxSpace s mb p
    let b := s.haulRead mb (field p 0 1) (field p 8 8) ashImageBytes
    if !s.enabled (ashId i) then failWith Err.state
    else if k ≠ 0 then failWith k
    else if (s.badAt (field p 0 1) (field p 8 8) ashImageBytes).isSome then failWith Err.fault
    else if field b 0 4 ≠ 0x58435341 || field b 4 4 ≠ (crc32c (b.drop 8)).toNat then
      .fail Err.image (detailRecord 1)
    else if slice b 8 8 ≠ c.bytes then .fail Err.image (detailRecord 2)
    else okay (s.setAsh (ashOfImage c i b))

def execAshCtxRestore (mb : Fin 8) (r : Req) (s : State) : Host.Outcome State Fault Refusal :=
  runCommand ashCtxRestore mb r s

/-! ### Live parameters (R405) -/

def State.ashLive (s : State) (i pid : Nat) : Nat :=
  let x := s.ashDyn i
  if pid = 16 then ofBool x.inStream else if pid = 17 then x.pending else if pid = 18 then x.nextSeq else x.rawTotal

end Sys2Proof.Machine
end

