-- ==== Sys2Proof/Machine/Nodes.lean ====
section
/-! DEFINITION. The node commands: creation, destruction, parameters, connections, enabling (R82 to R96). -/

namespace Sys2Proof.Machine

/-! ### Live read-only parameters (R92) -/

def State.railLive (s : State) (i pid : Nat) : Bytes :=
  match s.power.rails[i]? with
  | none => []
  | some r =>
    if pid = 16 then leBytes 2 r.setpoint
    else if pid = 17 then leBytes 2 r.voltage
    else if pid = 18 then leBytes 4 (if i = 3 ∨ i = 4 then u32max else Config.readIout i)
    else leBytes 1 r.state

/-- BUDGET, CYCLES_LAST, CYCLES_MAX and REGION of a kernel instance (R373). -/
def State.krnLive (s : State) (i pid : Nat) : Nat :=
  let k := s.krn i
  if pid = 3 then s.krnBudget i else if pid = 4 then k.cyclesLast else if pid = 5 then k.cyclesMax
  else regionOf s (krnId i)

/-- A parameter that is not simply stored. -/
def State.livePar? (s : State) (id pid : Nat) : Option Bytes :=
  let t := nodeType id
  let i := nodeIdx id
  let len := ((s.par? id pid).map Par.len).getD 0
  let ro := ((s.par? id pid).map Par.ro).getD false
  if t = Ty.obj ∧ pid = 1 then (if (s.objDyn i).lastStart.isSome then some (s.objDyn i).pos else none)
  else if t = Ty.spk ∧ pid = 0x109 then some (s.spkLive i pid)
  else if !ro ∨ ((t = Ty.tone ∨ t = Ty.kernel) ∧ pid = 1) then none
  else if t = Ty.tdmPort then some (leBytes len (s.tdmLive i pid))
  else if t = Ty.mic then some (leBytes len (s.micLive i pid))
  else if t = Ty.galIn then some (leSigned 2 ((getA i s.gal.levels).getD (-32768)))
  else if t = Ty.galOut then some (leBytes len (s.galLiveParam i pid))
  else if t = Ty.obj then some (leBytes len (s.objLive i pid))
  else if t = Ty.spk then some (s.spkLive i pid)
  else if t = Ty.zone then some (leSigned len (s.zoneLive i pid))
  else if t = Ty.beam then some (s.beamLive i pid)
  else if t = Ty.eth then some (leBytes len (s.port i).link)
  else if t = Ty.call then some (s.callLive i pid)
  else if t = Ty.tone then some (leBytes len (s.toneDyn i).count)
  else if t = Ty.kernel then some (leBytes len (s.krnLive i pid))
  else if t = Ty.ash then some (leBytes len (s.ashLive i pid))
  else if t = Ty.link then some (s.linkLive pid)
  else if t = Ty.rail then some (s.railLive i pid)
  else if t = Ty.gpio then some (leBytes 1 (ofBool (s.gpioLevel i)))
  else none

/-- The value that NODE_GET returns. -/
def State.getPar (s : State) (id pid : Nat) : Bytes := (s.livePar? id pid).getD (s.par id pid)

/-! ### Checks shared by the node commands -/

/-- Node types of R83; node ID 0 is the control processor. -/
def knownType (t : Nat) : Bool := t ≤ Ty.gpio

/-- Check 7 for an opcode that every node type accepts. -/
def onNode (s : State) (_ : Fin 8) (r : Req) : Nat :=
  let id := r.node.toNat
  if !knownType (nodeType id) then Err.nodeType else if s.live id then 0 else Err.noNode

/-- Check 7 for NODE_CONNECT and NODE_DISCONNECT, whose header names the source: types with outputs in R93 (log 42). -/
def onSource (s : State) (_ : Fin 8) (r : Req) : Nat :=
  let outs := [Ty.tdmCh, Ty.mic, Ty.aes, Ty.rtp, Ty.call, Ty.beam, Ty.zone, Ty.galOut, Ty.spk, Ty.kernel]
  if !outs.contains (nodeType r.node.toNat) then Err.nodeType else if s.live r.node.toNat then 0 else Err.noNode

/-- Check 7 for the opcodes of R89: types that can be enabled. -/
def onEnable (s : State) (_ : Fin 8) (r : Req) : Nat :=
  let t := nodeType r.node.toNat
  if !knownType t || [0, Ty.session, Ty.slab, Ty.action, Ty.rail, Ty.queue].contains t then Err.nodeType
  else if s.live r.node.toNat then 0 else Err.noNode

/-! ### NODE_CREATE (R82 to R87) -/

/-- Indices that a record's kind of node may take: from and count. -/
def State.indexRange (s : State) (t : Nat) (p : Bytes) : Nat × Nat :=
  if t = Ty.tone then (if field p 0 1 = 1 then (0, 8192) else (8192, 1024)) else (0, indexCount s.time.rate96 t)

/-- The index that a creation takes: the one named, or the lowest free one of the range. -/
def State.freeIndex (s : State) (t : Nat) (range : Nat × Nat) : Option Nat :=
  ((List.range range.2).map (range.1 + ·)).find? fun i => !s.live (mkNode t i)

/-- A record field as the parameter it sets. -/
def recordItems (t : Nat) (p : Bytes) : List (Nat × Bytes) := (recordOf t).fields.map fun f => (f.1, slice p f.2.1 f.2.2)

/-- Every field of the record is legal. -/
def recordLegal (t : Nat) (p : Bytes) : Bool :=
  reservedZero p (recordOf t).reserved && (recordItems t p).all fun x =>
    match (parsOf t).find? fun q => q.id == x.1 with
    | some q => q.legal x.2
    | none => false

/-- Legal values that hang on other parameters of the node: the depths of a jitter buffer (R304), PLAYOUT of a receiving AES67 stream
(R315, log 17), and WORD and CHANNELS of an Ashlar context (R405). -/
def crossLegal (t : Nat) (get : Nat → Nat) : Bool :=
  if t = Ty.rtp then get 15 ≤ get 17 && get 17 ≤ get 16
  else if t = Ty.aes then get 3 = 2 || ptimeSmp (get 6) ≤ get 14
  else if t = Ty.ash then (if get 2 = 1 then get 5 ≠ 0 else get 4 = 0 && get 5 = 0)
  else true

/-- The owning chapters' conditions on a record: 0, or the code. -/
def State.recordCheck (s : State) (t : Nat) (p : Bytes) : Nat :=
  let get (pid : Nat) : Nat := leNat ((getA pid (recordItems t p)).getD [])
  if !recordLegal t p || !crossLegal t get then Err.range
  else if t = Ty.tone ∧ ¬(get 1 = 1 ∨ get 1 = 2) then Err.range
  else if t = Ty.kernel then
    let im := ImageSlot.of s.bench.slots (get 1)
    if 64 ≤ get 1 then Err.range
    else if im.state != .ready then Err.state
    else if (if s.time.rate96 then im.header.cost96 else im.header.cost48) = 0 then Err.conflict
    else 0
  else if t = Ty.call then (if callCombo get then 0 else Err.conflict)
  else if t = Ty.spk then (if get 2 = 0xFF || s.live (zoneId (get 2)) then 0 else Err.conflict)
  else if t = Ty.rtp ∨ t = Ty.aes then s.streamCreate t p
  else 0

/-- An index that no node has: a destroyed node whose index a new one takes runs there to the block boundary. -/
def shadowOf (id : Nat) : Nat := id + 0x800000

/-- Give an entry of an engine's table the shadow index. -/
def shadowKey {α : Type} (key : α → Nat) (rename : α → α) (i : Nat) (l : List α) : List α :=
  match findKey key i l with
  | some x => putKey key (rename x) (dropKey key i l)
  | none => l

/-- A destroyed node that the engines run to the block boundary makes way for a new node of its index (R86, R88). -/
def State.shadow (id : Nat) (s : State) : State :=
  let t := nodeType id
  let i := nodeIdx id
  let j := nodeIdx (shadowOf id)
  let f (x : Nat) : Nat := if x = id then shadowOf id else x
  let wire (c : Conn) : Conn := { c with src := f c.src, dst := f c.dst }
  let s := { s with
    run := s.run.map fun x => (f x.1, x.2), wires := s.wires.map wire
    leaving := s.leaving.map fun x => (f x.1, x.2)
    closedView := s.closedView.map fun v => (v.1.map fun x => (f x.1, x.2), v.2.map wire)
    rd := s.rd.map fun x => (f x.1, x.2), wr := s.wr.map fun x => (f x.1, x.2)
    midway := s.midway.map fun x => (f x.1, x.2)
    faults := { s.faults with holds := s.faults.holds.map fun h => { h with node := f h.node } } }
  if t = Ty.call then { s with voice := { s.voice with calls := shadowKey CallDyn.ch (fun x => { x with ch := j }) i s.voice.calls } }
  else if t = Ty.rtp ∨ t = Ty.aes then
    { s with eth := { s.eth with
      streams := shadowKey StreamDyn.node (fun x => { x with node := shadowOf id }) id s.eth.streams } }
  else if t = Ty.beam then { s with cap := { s.cap with beams := shadowKey BeamDyn.beam (fun x => { x with beam := j }) i s.cap.beams } }
  else if t = Ty.obj then { s with ren := { s.ren with objs := shadowKey ObjDyn.obj (fun x => { x with obj := j }) i s.ren.objs } }
  else if t = Ty.zone then
    { s with ren := { s.ren with
      zones := shadowKey ZoneDyn.zone (fun x => { x with zone := j }) i s.ren.zones
      members := s.ren.members.map fun x => if x.2 = i then (x.1, j) else x } }
  else if t = Ty.spk then
    { s with
      spk := { s.spk with spks := shadowKey SpkDyn.spk (fun x => { x with spk := j }) i s.spk.spks }
      ren := { s.ren with members := shadowKey (·.1) (fun x => (j, x.2)) i s.ren.members } }
  else if t = Ty.tone then
    { s with voice := { s.voice with tones := shadowKey ToneDyn.det (fun x => { x with det := j }) i s.voice.tones } }
  else if t = Ty.kernel then
    { s with bench := { s.bench with insts := shadowKey KernDyn.inst (fun x => { x with inst := j }) i s.bench.insts } }
  else s

/-- The index starts afresh: an old node of it that still runs goes to the shadow index, one that does not leaves nothing. -/
def State.makeWay (id : Nat) (s : State) : State :=
  if s.running id then s.shadow id
  else if (getA id s.leaving).isSome then State.forget { s with leaving := delA id s.leaving } id
  else s

/-- The node with the parameters of its record; defaults are not listed. -/
def State.createNode (id : Nat) (items : List (Nat × Bytes)) (s : State) : State :=
  let s := s.makeWay id
  let keep := items.filter fun x => x.2 != s.dfltBytes id x.1
  { s with nodes := setA id { params := keep.foldl (fun l x => setA x.1 x.2 l) [] } s.nodes }

/-- FLAGS bit 2 of an RTP stream: INIT_SEQ and INIT_TS come from the random source (R304). -/
def State.drawInit (t : Nat) (items : List (Nat × Bytes)) (s : State) : List (Nat × Bytes) × State :=
  if t = Ty.rtp ∧ bit (leNat ((getA 4 items).getD [])) 2 then
    let (b, s) := s.drawBytes 6
    (items.map fun x => if x.1 = 12 then (12, b.take 2) else if x.1 = 14 then (14, b.drop 2) else x, s)
  else (items, s)

def nodeCreate : Contract where
  opcode := 0x0101
  len _ := true
  node _ _ r := if isCreated (nodeType r.node.toNat) then 0 else Err.nodeType
  body s _ r :=
    let t := nodeType r.node.toNat
    let i := nodeIdx r.node.toNat
    let p := r.payload
    let range := s.indexRange t p
    let named := i ≠ 0xFFFFFF
    if p.length ≠ (recordOf t).len then failWith Err.length
    else if named && !(range.1 ≤ i && i < range.1 + range.2) then failWith Err.range
    else if named && s.live (mkNode t i) then failWith Err.conflict
    else
      match if named then some i else s.freeIndex t range with
      | none => failWith Err.capacity
      | some k =>
        if liveLimit ≤ s.liveCount then failWith Err.capacity
        else
          let e := s.recordCheck t p
          if e ≠ 0 then failWith e
          else
            let id := mkNode t k
            let (items, s) := s.drawInit t (recordItems t p)
            .done (s.createNode id items) { node := some (BitVec.ofNat 32 id) }

def execNodeCreate (mb : Fin 8) (r : Req) (s : State) : Host.Outcome State Fault Refusal := runCommand nodeCreate mb r s

/-! ### NODE_DESTROY (R88) -/

/-- Nodes that a scheduled action names (R71, R88). -/
def State.actionTouches (s : State) (a : Action) : List Nat :=
  match a.body with
  | .command op node p => s.touches op { flags := 0, tag := 0, node := node, rsvd := 0, payload := p }
  | .gpio g _ => [mkNode Ty.gpio g]
  | .portStart n => [n]
  | .marker _ => []
  | .slab i => [mkNode Ty.slab i]

/-- An open or pending Slab stages an item for the node, or a pending action names it. -/
def State.heldBySlab (s : State) (id : Nat) : Bool :=
  (s.slabs.any fun sl => sl.items.any fun c => c.node == id)
    || s.time.actions.any fun a => (s.actionTouches a).contains id

def pendNode : Pend → Option Nat
  | .change c => some c.node
  | _ => none

/-- Take the node out of the tables; the engines run what they hold of it to the block boundary. -/
def State.removeNode (id : Nat) (s : State) : State :=
  let n := s.node id
  let off : Node := { params := n.params }
  let stays (p : Pend) : Bool := pendNode p != some id
  { s with
    nodes := delA id s.nodes, conns := s.conns.filter fun c => c.src != id && c.dst != id
    leaving := setA id off s.leaving, pend := s.pend.filter stays, pendLate := s.pendLate.filter stays
    ren := { s.ren with zoneWait := s.ren.zoneWait.filter fun x => !(x.2.1 == 5 && spkId x.2.2 == id) } }

/-- Every member of a destroyed zone gets ZONE 0xFF at the start sample (R214). -/
def State.orphan (z : Nat) (s : State) : State :=
  let members := ((s.nodesOf Ty.spk).filter fun x => s.latestN x.1 2 == z).map fun x => nodeIdx x.1
  s.setRen { s.ren with zoneWait := s.ren.zoneWait ++ members.map fun k => (s.earliestRecord, 5, k) }

/-- What destroying a node means elsewhere: zones lose their members, an Ashlar context its stream. -/
def State.destroyHook (id : Nat) (was : Node) (s : State) : State :=
  let t := nodeType id
  let i := nodeIdx id
  if t = Ty.zone then
    State.orphan i (if was.state == .enabled && s.zoneUsed i then s.zoneChange 4 i else s)
  else if t = Ty.spk then
    let z := leNat ((getA 2 was.params).getD [0xFF])
    (if was.state == .enabled && s.enabled (zoneId z) then s.zoneChange 2 i else s)
  else if t = Ty.ash then { s with ash := dropKey AshDyn.ctx i s.ash }
  else s

def nodeDestroy : Contract where
  opcode := 0x0102
  len := lenIs 0
  node s _ r :=
    if !isCreated (nodeType r.node.toNat) then Err.nodeType else if s.live r.node.toNat then 0 else Err.noNode
  body s _ r :=
    let id := r.node.toNat
    if s.heldBySlab id then failWith Err.busy
    else okay ((s.removeNode id).destroyHook id (s.node id))

def execNodeDestroy (mb : Fin 8) (r : Req) (s : State) : Host.Outcome State Fault Refusal := runCommand nodeDestroy mb r s

/-! ### NODE_SET (R90, R91) -/

/-- An item writes a defined parameter with a legal value. -/
def State.itemLegal (s : State) (id : Nat) (x : Nat × Bytes) : Bool :=
  match s.par? id x.1 with
  | none => false
  | some p =>
    !p.ro && x.2.length == p.len && p.legal x.2
      && !(nodeType id == Ty.spk && x.1 == 0x109 && !s.bankLegal (nodeIdx id) (leNat x.2))
      && !(nodeType id == Ty.mic && x.1 == 4 && leNat x.2 == 0 && s.time.rate96)

/-- Value of a parameter once the items are applied. -/
def State.withItems (s : State) (id : Nat) (items : List (Nat × Bytes)) (pid : Nat) : Bytes :=
  (getA pid items).getD (s.latest id pid)

/-- CLOCK_RATE and START are set for the 16 microphones of a group (R168). -/
def groupMics (id : Nat) : List Nat := (List.range 16).map fun k => mkNode Ty.mic (16 * (nodeIdx id / 16) + k)

/-- A parameter named by an item is fixed while enabled, and the node, or a microphone of its group, is. -/
def State.itemFixed (s : State) (id : Nat) (x : Nat × Bytes) : Bool :=
  if nodeType id = Ty.mic ∧ (x.1 = 4 ∨ x.1 = 5) then (groupMics id).any s.enabled
  else s.enabled id && ((s.par? id x.1).map Par.fixed).getD false

/-- The owning chapters' checks of the combination: 0, or the code. -/
def State.comboCheck (s : State) (id : Nat) (items : List (Nat × Bytes)) : Nat :=
  let t := nodeType id
  let i := nodeIdx id
  let get (pid : Nat) : Nat := leNat (s.withItems id items pid)
  let sets (pid : Nat) : Bool := (getA pid items).isSome
  let bad : Bool :=
    if t = Ty.call then !callCombo get
    else if t = Ty.tdmPort then sets 2 && s.slotsTaken i (get 2)
    else if t = Ty.rail then decide (get 2 < get 1 + 10)
    else if t = Ty.spk then
      (sets 2 && get 2 != 0xFF && !s.live (zoneId (get 2))) || decide (get 0x100 < get 0x106)
        || (sets 0x108 && !s.maxTapsOk i (get 0x108))
    else false
  if bad then Err.conflict else 0

/-- Cost that the items bring, when the node is enabled. -/
def State.costAfter (s : State) (id : Nat) (items : List (Nat × Bytes)) : Nat :=
  if s.enabled id then nodeCost s id fun pid => leNat (s.withItems id items pid) else 0

/-- An increase fits the device and the cluster that runs the instance (R33). -/
def State.raiseFits (s : State) (id old new : Nat) : Bool :=
  new ≤ old || (s.admits (new - old) && match (s.node id).cluster with
    | some c => s.clusterLoad c + (new - old) ≤ clusterLimit
    | none => true)

/-- Every check of NODE_SET in order: 0, or the code. -/
def State.setCheck (s : State) (id : Nat) (payload : Bytes) : Nat :=
  match itemsOf payload with
  | none => Err.range
  | some items =>
    let cross := crossLegal (nodeType id) fun pid => leNat (s.withItems id items pid)
    if !items.all (s.itemLegal id) || (items.map (·.1)).eraseDups.length ≠ items.length || !cross then Err.range
    else if items.any (s.itemFixed id) then Err.state
    else
      let k := s.comboCheck id items
      if k ≠ 0 then k
      else if s.raiseFits id (s.node id).bcu (s.costAfter id items) then 0 else Err.capacity

/-- The items as changes; group parameters of a microphone change on all 16. -/
def setChanges (id : Nat) (items : List (Nat × Bytes)) : List Change :=
  items.flatMap fun x =>
    if nodeType id = Ty.mic ∧ (x.1 = 4 ∨ x.1 = 5) then (groupMics id).map fun n => ⟨n, x.1, x.2⟩ else [⟨id, x.1, x.2⟩]

/-- Commit or release the difference in cost at once (R32). -/
def State.setCost (id : Nat) (items : List (Nat × Bytes)) (s : State) : State :=
  if s.enabled id then s.setNode id { s.node id with bcu := s.costAfter id items } else s

/-- Objects for which a loudspeaker is a candidate. -/
def State.objectsFor (s : State) (k : Nat) : List Nat :=
  s.enabledObjs.filter fun o => s.isCandidate (s.parN (objId o) 8) k

/-- Geometry records and membership changes that the items make (R217, R224). -/
def State.setRecords (id : Nat) (items : List (Nat × Bytes)) (s : State) : State :=
  let t := nodeType id
  let i := nodeIdx id
  if t = Ty.obj then s.makeRecord i s.earliestRecord
  else if t = Ty.spk then
    let s := if (getA 3 items).isSome then
        (s.objectsFor i).foldl (fun s o => s.makeRecord o s.earliestRecord) s else s
    match getA 2 items with
    | some z =>
      let s' := s.setRen { s.ren with zoneWait := s.ren.zoneWait.filter fun x => !(x.2.1 == 5 && x.2.2 == i) }
      if s.enabled id ∧ z ≠ s.latest id 2 then s'.zoneChange 1 i else s'
    | none => s
  else s

/-- NODE_SET's effect: an object's position is stored at once (R219), everything else waits for the block of R86. -/
def State.setItems (id : Nat) (items : List (Nat × Bytes)) (s : State) : State :=
  let s := s.setCost id items
  let now (c : Change) : Bool := nodeType id == Ty.obj && c.pid == 1
  let changes := setChanges id items
  let s := (changes.filter now).foldl (fun s c => s.storePar c.node c.pid c.val) s
  let s := s.setRecords id items
  (changes.filter fun c => !now c).foldl (fun s c => s.atBoundary (.change c)) s

def nodeSet : Contract where
  opcode := 0x0103
  len := lenIn 4 8176
  node := onNode
  body s _ r :=
    let id := r.node.toNat
    let k := s.setCheck id r.payload
    if k ≠ 0 then failWith k else okay (s.setItems id ((itemsOf r.payload).getD []))

def execNodeSet (mb : Fin 8) (r : Req) (s : State) : Host.Outcome State Fault Refusal := runCommand nodeSet mb r s

/-! ### NODE_GET (R92) -/

def NodeState.code : NodeState → Nat
  | .disabled => 0
  | .enabled => 1
  | .byDevice => 2

/-- The 16-byte status record. -/
def State.statusRecord (s : State) (id : Nat) : Bytes :=
  let n := s.node id
  let on := n.state == .enabled
  leBytes 1 n.state.code ++ leBytes 1 n.reason ++ leBytes 1 (n.cluster.getD 0xFF) ++ [0]
    ++ leBytes 4 (if on then n.bcu else 0) ++ leBytes 4 (s.conns.filter fun c => c.src == id || c.dst == id).length
    ++ leBytes 4 (if on then n.order else 0)

/-- The parameter IDs that NODE_GET names. -/
def State.namedPars (s : State) (id : Nat) (p : Bytes) : List Nat :=
  if p.isEmpty then s.parIds id else (List.range (p.length / 2)).map fun j => field p (2 * j) 2

def nodeGet : Contract where
  opcode := 0x0104
  len l := l % 2 = 0
  node := onNode
  body s _ r :=
    let id := r.node.toNat
    let ids := s.namedPars id r.payload
    if ids.any fun pid => (s.par? id pid).isNone then failWith Err.range
    else
      let p := s.statusRecord id ++ ids.flatMap fun pid => itemBytes pid (s.getPar id pid)
      if 8176 < p.length then failWith Err.length else answer s p

def execNodeGet (mb : Fin 8) (r : Req) (s : State) : Host.Outcome State Fault Refusal := runCommand nodeGet mb r s

/-! ### Connections (R93 to R96) -/

/-- Destinations of a source type. -/
def destinationsOf (t : Nat) : List Nat :=
  if t = Ty.tdmCh ∨ t = Ty.mic ∨ t = Ty.aes then [Ty.galIn, Ty.beam, Ty.kernel]
  else if t = Ty.rtp then [Ty.call]
  else if t = Ty.call then [Ty.galIn, Ty.tone, Ty.kernel, Ty.rtp]
  else if t = Ty.beam then [Ty.galIn, Ty.kernel]
  else if t = Ty.zone then [Ty.beam]
  else if t = Ty.galOut then [Ty.call, Ty.tdmCh, Ty.aes, Ty.obj, Ty.spk, Ty.kernel]
  else if t = Ty.spk then [Ty.tdmCh, Ty.aes]
  else if t = Ty.kernel then [Ty.galIn, Ty.beam, Ty.spk, Ty.tdmCh, Ty.aes, Ty.kernel]
  else []

/-- The pair of types stands in R93; a beam's reference inputs take a zone only (R285). -/
def pairAllowed (src dst inp : Nat) : Bool :=
  (destinationsOf (nodeType src)).contains (nodeType dst)
    && !(nodeType dst == Ty.beam && nodeType src != Ty.zone && 64 ≤ inp && inp ≤ 71)

/-- The output number is in its range for this destination. -/
def State.outputOk (s : State) (src out dst : Nat) : Bool :=
  let t := nodeType src
  if t = Ty.tdmCh then nodeIdx src < 1024 && out = 0
  else if t = Ty.aes then out ≤ 7
  else if t = Ty.call then out = (if nodeType dst = Ty.rtp then 1 else 0)
  else if t = Ty.kernel then out < (s.krnSlot src).header.outputs
  else out = 0

/-- The input number is in its range for this source. -/
def State.inputOk (s : State) (src dst inp : Nat) : Bool :=
  let t := nodeType dst
  if t = Ty.beam then (if nodeType src = Ty.zone then 64 ≤ inp && inp ≤ 71 else inp ≤ 63)
  else if t = Ty.kernel then inp < (s.krnSlot dst).header.inputs
  else if t = Ty.tdmCh then 1024 ≤ nodeIdx dst && inp = 0
  else if t = Ty.aes then inp ≤ 7
  else if t = Ty.call then inp = (if nodeType src = Ty.rtp then 0 else 1)
  else inp = 0

/-- The connection that a payload names. -/
def connOf (r : Req) : Conn :=
  { src := r.node.toNat, srcOut := field r.payload 0 2, dst := field r.payload 4 4, dstIn := field r.payload 8 2 }

def maxConns : Nat := 262144

/-- R95 in order: 0, or the code. -/
def State.connectCheck (s : State) (c : Conn) : Nat :=
  let zoneTwice : Bool := nodeType c.src == Ty.zone
    && s.conns.any fun d => d.src == c.src && d.dst == c.dst && 64 ≤ d.dstIn
  if !s.live c.dst then Err.noNode
  else if !pairAllowed c.src c.dst c.dstIn then Err.nodeType
  else if !s.outputOk c.src c.srcOut c.dst || !s.inputOk c.src c.dst c.dstIn then Err.range
  else if (s.conns.any fun d => d.dst == c.dst && d.dstIn == c.dstIn) || zoneTwice then Err.conflict
  else if 1024 ≤ (s.conns.filter fun d => d.src == c.src && d.srcOut == c.srcOut).length || maxConns ≤ s.conns.length then
    Err.capacity
  else if nodeType c.dst == Ty.beam && nodeType c.src != Ty.zone && 1024 < (captureSources (s.conns ++ [c])).length then
    Err.capacity
  else 0

def connFields (r : Req) : Bool := reservedZero r.payload [(2, 2), (10, 2)]

def nodeConnect : Contract where
  opcode := 0x0105
  len := lenIs 12
  fixed _ _ r := connFields r
  node := onSource
  body s _ r :=
    let c := connOf r
    let k := s.connectCheck c
    if k ≠ 0 then failWith k else okay { s with conns := s.conns ++ [c] }

def execNodeConnect (mb : Fin 8) (r : Req) (s : State) : Host.Outcome State Fault Refusal := runCommand nodeConnect mb r s

def nodeDisconnect : Contract where
  opcode := 0x0106
  len := lenIs 12
  fixed _ _ r := connFields r
  node := onSource
  body s _ r :=
    let c := connOf r
    if s.conns.contains c then okay { s with conns := s.conns.filter (· != c) } else failWith Err.state

def execNodeDisconnect (mb : Fin 8) (r : Req) (s : State) : Host.Outcome State Fault Refusal :=
  runCommand nodeDisconnect mb r s

/-! ### NODE_ENABLE and NODE_DISABLE (R89) -/

/-- The owning chapter's precondition holds. -/
def State.enableReady (s : State) (id : Nat) : Bool :=
  let t := nodeType id
  let i := nodeIdx id
  if t = Ty.tdmPort then s.tdmPortReady i
  else if t = Ty.tdmCh then s.tdmChReady i
  else if t = Ty.eth then s.portReady i
  else if t = Ty.rtp then s.rtpReady id
  else true

/-- The hardware the node needs is retired. -/
def State.hardwareGone (s : State) (id : Nat) : Bool :=
  let t := nodeType id
  if t = Ty.galOut then s.carried ≤ nodeIdx id
  else if t = Ty.kernel then
    let pref := s.latestN id 2
    (s.krnSlot id).poisoned || (pref < 16 && s.bench.clustersOut.contains pref)
  else false

/-- Cost and cluster of an enable; `none` where admission fails (R33, R357, R290). -/
def State.admission (s : State) (id : Nat) : Option (Nat × Option Nat) :=
  let cost := nodeCost s id (s.latestN id)
  let aec : Bool := nodeType id == Ty.beam && s.latestN id 1 == 1 && 128 ≤ s.aecCount
  if aec then none
  else if cost = 0 then some (0, none)
  else if s.admits cost then
    (s.place (if nodeType id = Ty.kernel then s.latestN id 2 else 0xFF) cost (regionOf s id)).map fun c => (cost, some c)
  else none

/-- R89's rows for an enable that is not in force: 0, or the code. -/
def State.enableCheck (s : State) (id : Nat) : Nat :=
  if s.enabled id then Err.state
  else if !s.enableReady id then Err.state
  else if s.hardwareGone id then Err.fault
  else if (s.admission id).isNone then Err.capacity
  else 0

/-- What enabling or disabling a node means at once: to the renderer, the link, a context. -/
def State.enableHook (id : Nat) (on : Bool) (s : State) : State :=
  let t := nodeType id
  if t = Ty.link then (if on then s.linkStart else s.linkStop 6)
  else if t = Ty.ash then s.ashClear (nodeIdx id)
  else s.renHook id on

/-- Commit cost, place, and give the next admission order (R32, R36). -/
def State.enableNode (id : Nat) (cost : Nat) (cluster : Option Nat) (s : State) : State :=
  let n := (s.bench.enables + 1) % 2 ^ 32
  let s := { s with bench := { s.bench with enables := n } }
  (s.setNode id { s.node id with state := .enabled, reason := 0, cluster := cluster, bcu := cost, order := n }).enableHook
    id true

/-- Release the cost; the outputs carry zero from the block of R86. -/
def State.disableNode (id : Nat) (s : State) : State :=
  (s.setNode id { s.node id with state := .disabled, reason := 0, cluster := none, bcu := 0, order := 0 }).enableHook id false

/-- The response of NODE_ENABLE. -/
def enableReply (cost : Nat) (cluster : Option Nat) : Bytes :=
  leBytes 4 cost ++ leBytes 1 (cluster.getD 0xFF) ++ zeros 3

def nodeEnable : Contract where
  opcode := 0x0107
  len := lenIs 0
  node := onEnable
  body s _ r :=
    let id := r.node.toNat
    let k := s.enableCheck id
    if k ≠ 0 then failWith k
    else
      match s.admission id with
      | some (cost, c) => answer (s.enableNode id cost c) (enableReply cost c)
      | none => failWith Err.capacity

def execNodeEnable (mb : Fin 8) (r : Req) (s : State) : Host.Outcome State Fault Refusal := runCommand nodeEnable mb r s

/-- R89 for a disable; the link of a formed pair stays (R434): 0, or the code. -/
def State.disableCheck (s : State) (id : Nat) : Nat :=
  if !s.enabled id || (nodeType id == Ty.link && s.pair.state == 3) then Err.state else 0

def nodeDisable : Contract where
  opcode := 0x0108
  len := lenIs 0
  node := onEnable
  body s _ r :=
    let id := r.node.toNat
    let k := s.disableCheck id
    if k ≠ 0 then failWith k else okay (s.disableNode id)

def execNodeDisable (mb : Fin 8) (r : Req) (s : State) : Host.Outcome State Fault Refusal := runCommand nodeDisable mb r s

/-! ### The node commands inside a block (R146) -/

/-- Types whose nodes leave the engines only at the block boundary, since their block is made at its end; what lies past the
position of a disable carries zero. -/
def endsAtBoundary (t : Nat) : Bool := [Ty.tdmPort, Ty.tdmCh, Ty.mic, Ty.aes, Ty.kernel].contains t

/-- Blocks in the making of a node that begins at this position start with zeros. -/
def State.padOutputs (id : Nat) (s : State) : State :=
  let n := s.time.pos * s.perSmp
  let t := nodeType id
  let outs := if t = Ty.spk ∨ t = Ty.beam then [0, 1] else if t = Ty.call ∨ t = Ty.galOut ∨ t = Ty.zone then [0] else []
  let pad (l : List (Nat × Nat × List Int)) (o : Nat) : List (Nat × Nat × List Int) :=
    let old := match l.find? fun x => x.1 == id && x.2.1 == o with | some x => x.2.2 | none => []
    (l.filter fun x => !(x.1 == id && x.2.1 == o)) ++ [(id, o, List.replicate (n - old.length) 0 ++ old)]
  { s with wr := outs.foldl pad s.wr }

/-- Record an enable or disable for what makes its block at the block's end. -/
def State.markMidway (id : Nat) (on : Bool) (s : State) : State :=
  let mark (n : Nat) : Nat × Nat × Bool := (n, s.time.pos * s.perSmp, on)
  if [Ty.tdmCh, Ty.mic, Ty.aes, Ty.kernel].contains (nodeType id) then { s with midway := s.midway ++ [mark id] }
  else if nodeType id = Ty.tdmPort ∧ !on then
    let p := nodeIdx id
    let s := match s.tdm? p with | some t => s.setTdm { t with stopAt := some s.m } | none => s
    { s with midway := s.midway ++ ((s.runningOf Ty.tdmCh).filter fun c => tdmPortOf (nodeIdx c) == p && nodeIdx c < 1024).map mark }
  else s

/-- A node enters the engines at the sample in progress. -/
def State.beginNow (id : Nat) (s : State) : State :=
  let was := s.running id
  let s := if was then s.endHook s.m id else s
  let entry := (id, (s.node id).order)
  let put (l : List (Nat × Nat)) : List (Nat × Nat) := (l.filter fun x => x.1 != id) ++ [entry]
  let view (v : List (Nat × Nat) × List Conn) : List (Nat × Nat) × List Conn := (put v.1, v.2)
  let s := { s with run := put s.run, closedView := s.closedView.map view }
  ((s.padOutputs id).markMidway id true).beginHook s.m id

/-- A node leaves the engines at the sample in progress, or at the block's end where its block is made there. -/
def State.endNow (id : Nat) (s : State) : State :=
  let drop (l : List (Nat × Nat)) : List (Nat × Nat) := l.filter fun x => x.1 != id
  let view (v : List (Nat × Nat) × List Conn) : List (Nat × Nat) × List Conn := (drop v.1, v.2)
  let s := { s with closedView := s.closedView.map view }
  if endsAtBoundary (nodeType id) then s.markMidway id false
  else if s.running id then State.endHook s.m { s with run := drop s.run } id
  else s

/-- Connections change at the sample in progress. -/
def State.wiresNow (f : List Conn → List Conn) (s : State) : State :=
  let before := s.wires
  let view (v : List (Nat × Nat) × List Conn) : List (Nat × Nat) × List Conn := (v.1, f v.2)
  State.aecSources before s.m { s with conns := f s.conns, wires := f s.wires, closedView := s.closedView.map view }

/-- A NODE_SET on an instance whose image is not SLAB_AWARE waits for the block boundary (R375). -/
def State.waitsForBlock (s : State) (id : Nat) : Bool :=
  nodeType id == Ty.kernel && !bit (s.krnSlot id).header.flags 0 && s.time.pos != 0

/-- The effect of an embedded NODE_SET at the sample in progress (R146, R224). -/
def State.setNow (id : Nat) (items : List (Nat × Bytes)) (s : State) : State :=
  let s := s.setCost id items
  if s.waitsForBlock id then (setChanges id items).foldl (fun s c => s.atBoundary (.change c)) s
  else s.applyAt s.m (setChanges id items) fun _ => false

end Sys2Proof.Machine
end

