-- ==== Sys2Proof/Machine/Slabs.lean ====
section
/-! DEFINITION. Slabs: staging, commit, abort and the sample at which they take effect (R97 to R108). -/

namespace Sys2Proof.Machine

def slabId (i : Nat) : Nat := mkNode Ty.slab i
def actionId (i : Nat) : Nat := mkNode Ty.action i

/-! ### SLAB_OPEN (R97) -/

/-- A Slab that a session still fills. -/
def Slab.isOpen (sl : Slab) : Bool := sl.state == .open_ || sl.state == .unusable

/-- Committed and not yet in effect (R97). -/
def Slab.waits (sl : Slab) : Bool := sl.state == .applying || sl.state == .pending

/-- Check 7 of an opcode that assigns an index: any other index is ERR_RANGE (R97, R148). -/
def onAssigned (t : Nat) (_ : State) (_ : Fin 8) (r : Req) : Nat :=
  if nodeType r.node.toNat ≠ t then Err.nodeType else if nodeIdx r.node.toNat = 0xFFFFFF then 0 else Err.range

def stagingKiB : Nat := 65536

def slabOpen : Contract where
  opcode := 0x0110
  len := lenIs 4
  fixed _ _ r := 4 ≤ field r.payload 0 4 && field r.payload 0 4 ≤ 16384
  node := onAssigned Ty.slab
  body s mb r :=
    let k := field r.payload 0 4
    let own := (s.slabs.filter fun sl => sl.session == mb.val && sl.isOpen).length
    match lowestFree (s.slabs.map Slab.index) 64 with
    | none => failWith Err.capacity
    | some i =>
      if 16 ≤ own || stagingKiB < sumN (s.slabs.map Slab.reserveKiB) + k || liveLimit ≤ s.liveCount then
        failWith Err.capacity
      else
        let sl : Slab := { index := i, session := mb.val, reserveKiB := k }
        .done { s with slabs := putKey Slab.index sl s.slabs } { node := some (BitVec.ofNat 32 (slabId i)) }

def execSlabOpen (mb : Fin 8) (r : Req) (s : State) : Host.Outcome State Fault Refusal := runCommand slabOpen mb r s

/-! ### SLAB_WRITE (R98, R99) -/

/-- The Slab is open, usable and owned by the issuing session: 0, or ERR_SLAB. -/
def State.slabOwned (s : State) (mb : Fin 8) (i : Nat) : Nat :=
  match s.slab? i with
  | some sl => if sl.state == .open_ && sl.session == mb.val then 0 else Err.slab
  | none => Err.noNode

/-- Entries of a rectangle as crosspoint changes. -/
def rectChanges (o on i n : Nat) (es : List Nat) : List Change :=
  (List.range on).flatMap fun a => (List.range n).map fun b =>
    ⟨mkNode Ty.galOut (o + a), 0x1000 + i + b, leBytes 4 (es.getD (a * n + b) 0)⟩

/-- One item of a Slab: its changes, staged crosspoint entries, parameter items and bytes; `none` when it is malformed or a
value is illegal. A parameter of an instance that does not exist is left to ERR_NO_NODE. DESIGN CHOICE (log 17): an item whose
target's type is unknown or has no such parameter is an undefined parameter, ERR_RANGE; R99 names ERR_NODE_TYPE for a target
without saying which target that is, so no item answers it. -/
def State.slabItem (s : State) (mb : Fin 8) (p : Bytes) : Option (List Change × Nat × Nat × Nat) :=
  let kind := field p 0 1
  if kind = 1 then
    let id := field p 4 4
    match itemsOf (p.drop 8) with
    | some [x] =>
      let ok (q : Par) : Bool := q.slab && s.itemLegal id x
      let absent : Bool := nodeType id == Ty.kernel && !s.live id
      if absent || ((s.par? id x.1).map ok).getD false then some ([⟨id, x.1, x.2⟩], 0, 1, p.length) else none
    | _ => none
  else if kind = 2 then
    let n := field p 8 2
    let es := words32 n (p.drop 12)
    if p.length = 12 + 4 * n ∧ field p 4 2 < s.outPorts ∧ 1 ≤ n ∧ n ≤ 2040 ∧ field p 6 2 + n ≤ 4096
        ∧ field p 10 2 = 0 ∧ es.all (· < 0x20000000) then
      some (rectChanges (field p 4 2) 1 (field p 6 2) n es, n, 0, 16 + 4 * n)
    else none
  else if kind = 3 then
    let q := p.drop 4
    let n := field q 2 2 * field q 6 2
    if p.length ≠ 16 ∨ !s.rectOk q then none
    else
      let es := words32 n (s.readBulk mb (field q 8 4) (4 * n))
      if es.all (· < 0x20000000) then
        some (rectChanges (field q 0 2) (field q 2 2) (field q 4 2) (field q 6 2) es, n, 0, 16 + 4 * n)
      else none
  else none

/-- All items of a payload, added up; the fuel is the length. -/
def State.slabItems (s : State) (mb : Fin 8) : Nat → Bytes → Option (List Change × Nat × Nat × Nat)
  | 0, p => if p.isEmpty then some ([], 0, 0, 0) else none
  | f + 1, p =>
    if p.isEmpty then some ([], 0, 0, 0)
    else
      let len := field p 2 2
      if p.length < 4 || len < 4 || len % 4 ≠ 0 || p.length < len || field p 1 1 ≠ 0 then none
      else
        match s.slabItem mb (p.take len), s.slabItems mb f (p.drop len) with
        | some a, some b => some (a.1 ++ b.1, a.2.1 + b.2.1, a.2.2.1 + b.2.2.1, a.2.2.2 + b.2.2.2)
        | _, _ => none

/-- A bulk-window item of the payload overlaps a queue attachment (R399). -/
def State.slabHits (s : State) (mb : Fin 8) : Nat → Bytes → Bool
  | 0, _ => false
  | f + 1, p =>
    if p.length < 4 then false
    else
      (field p 0 1 == 3 && s.hitsAttachment mb (field p 12 4) (4 * field p 6 2 * field p 10 2))
        || s.slabHits mb f (p.drop (max 4 (field p 2 2)))

def slabWrite : Contract where
  opcode := 0x0111
  len := lenIn 4 8176
  node := onTypes [Ty.slab]
  body s mb r :=
    let i := nodeIdx r.node.toNat
    let own := s.slabOwned mb i
    if own ≠ 0 then failWith own
    else
      match s.slabItems mb r.payload.length r.payload, s.slab? i with
      | some (cs, xp, par, bytes), some sl =>
        let combo := (cs.map fun c => if nodeType c.node = Ty.spk then s.comboCheck c.node [(c.pid, c.val)] else 0).filter
          (· != 0)
        if cs.any fun c => !s.live c.node then failWith Err.noNode
        else if combo ≠ [] then failWith (combo.headD 0)
        else if sl.reserveKiB * 1024 < sl.bytes + bytes then failWith Err.capacity
        else if s.slabHits mb r.payload.length r.payload then failWith Err.conflict
        else
          let sl := { sl with
            items := sl.items ++ cs, xpCount := sl.xpCount + xp, parCount := sl.parCount + par
            bytes := sl.bytes + bytes }
          okay { s with slabs := putKey Slab.index sl s.slabs }
      | _, _ => failWith Err.range

def execSlabWrite (mb : Fin 8) (r : Req) (s : State) : Host.Outcome State Fault Refusal := runCommand slabWrite mb r s

/-! ### SLAB_COMMIT (R101, R102) -/

/-- Blocks of the shadow load. -/
def Slab.loadBlocks (sl : Slab) : Nat := 1 + ceilDiv sl.xpCount 65536 + ceilDiv sl.parCount 4096

/-- The earliest sample: the load begins at the first strobe after the commit is applied. -/
def State.slabEarliest (s : State) (sl : Slab) : Nat := 16 * (s.time.block + 1 + sl.loadBlocks)

/-- A time field of SLAB_COMMIT or TIME_SCHEDULE: seconds or sample at 4, nanoseconds at 12, sub-nanoseconds at 16. -/
def timeField (p : Bytes) : Nat := timeOf (field p 4 8) (field p 12 4) (field p 16 2)

/-- Due sample and lateness in ns at sample e, for a time in network time (true) or a sample number. -/
def State.dueOf (s : State) (net : Bool) (p : Bytes) : Nat := if net then s.dueSample (timeField p) else field p 4 8

def State.lateOf (s : State) (net : Bool) (p : Bytes) (e : Nat) : Nat :=
  satN u32max (if net then s.lateAt (timeField p) e else smpNs (e - field p 4 8))

/-- Cost increases and decreases that the Slab's items bring to enabled nodes: node, old and new cost (R102). -/
def State.slabCosts (s : State) (sl : Slab) : List (Nat × Nat × Nat) :=
  (((sl.items.map Change.node).eraseDups).filter s.enabled).map fun id =>
    let items := ((lastChanges sl.items).filter fun c => c.node == id).map fun c => (c.pid, c.val)
    (id, (s.node id).bcu, s.costAfter id items)

/-- The net cost increase passes admission on the device and on each node's cluster (R33). -/
def State.slabAdmits (s : State) (sl : Slab) : Bool :=
  let l := s.slabCosts sl
  sumN (l.map (·.2.2)) ≤ sumN (l.map (·.2.1))
    || (s.admits (sumN (l.map (·.2.2)) - sumN (l.map (·.2.1))) && l.all fun x => s.raiseFits x.1 x.2.1 x.2.2)

/-- A pending Slab with a later due sample touches a node that this one touches. -/
def State.slabConflict (s : State) (sl : Slab) (due : Nat) : Bool :=
  s.slabs.any fun x => x.index != sl.index && x.waits && due < x.due && x.items.any fun c => sl.items.any (·.node == c.node)

/-- Commit: cost increases are reserved at once, and the commit takes its place in the order. -/
def State.commitSlab (sl : Slab) (s : State) : State :=
  let raises := (s.slabCosts sl).filter fun x => x.2.1 < x.2.2
  let sl := { sl with order := s.commits, reserved := raises.map fun x => (x.1, x.2.2 - x.2.1) }
  { s with commits := s.commits + 1, slabs := putKey Slab.index sl s.slabs }

/-- The 20-byte response. -/
def commitReply (action m late : Nat) : Bytes := leBytes 4 action ++ zeros 4 ++ leBytes 8 m ++ leBytes 4 late

/-- Enter an action in the table (R144): it is frozen at once when its time for that has passed. -/
def State.armAction (a : Action) (s : State) : State :=
  let a := { a with frozen := a.late || decide (a.due / 16 ≤ s.time.block + 2), order := s.commits }
  { s with commits := s.commits + 1, time := { s.time with actions := s.time.actions ++ [a] } }

def State.actionIndex (s : State) : Option Nat :=
  if liveLimit ≤ s.liveCount then none else lowestFree (s.time.actions.map Action.index) 256

def slabCommit : Contract where
  opcode := 0x0112
  len := lenIs 20
  flags := 1
  fixed _ _ r :=
    let p := r.payload
    let mode := field p 0 1
    mode ≤ 2 && field p 12 4 ≤ 999999999 && reservedZero p [(1, 3), (18, 2)]
  node := onTypes [Ty.slab]
  fields _ _ r :=
    let p := r.payload
    let mode := field p 0 1
    (mode ≠ 0 || field p 4 8 = 0) && (mode = 1 || reservedZero p [(12, 6)])
  body s mb r :=
    let i := nodeIdx r.node.toNat
    let own := s.slabOwned mb i
    if own ≠ 0 then failWith own
    else
      match s.slab? i with
      | none => failWith Err.noNode
      | some sl =>
        let p := r.payload
        let mode := field p 0 1
        let strict := r.flags.getLsbD 0
        let e := s.slabEarliest sl
        let due := if mode = 0 then e else s.dueOf (mode = 1) p
        let late := decide (due < e)
        let timed := mode ≠ 0 && !late
        let held := if late && !strict then e else due
        let full := s.actionIndex.isNone || 16 ≤ (s.slabs.filter fun x => x.state == .pending).length
        if s.slabConflict sl held then failWith Err.conflict
        else if !s.slabAdmits sl || (timed && full) then failWith Err.capacity
        else if late && strict then failWith Err.late
        else if timed then
          match s.actionIndex with
          | none => failWith Err.capacity
          | some k =>
            let a : Action :=
              { index := k, netTime := if mode = 1 then some (timeField p) else none, due := due, session := mb.val
                body := .slab i }
            answer ((s.commitSlab { sl with state := .pending, due := due }).armAction a) (commitReply (actionId k) due 0)
        else
          let ns := if late then s.lateOf (mode = 1) p e else 0
          .wait (s.commitSlab { sl with
            state := .applying, due := e, late := late, lateNs := ns, waiter := some (mb.val, r) })

def execSlabCommit (mb : Fin 8) (r : Req) (s : State) : Host.Outcome State Fault Refusal := runCommand slabCommit mb r s

/-! ### SLAB_ABORT (R104) -/

def slabAbort : Contract where
  opcode := 0x0113
  len := lenIs 0
  node := onTypes [Ty.slab]
  body s mb r :=
    match s.slab? (nodeIdx r.node.toNat) with
    | none => failWith Err.noNode
    | some sl =>
      if sl.isOpen then (if sl.session = mb.val then okay (s.dropSlab sl.index) else failWith Err.slab)
      else if sl.state == .pending && s.time.block < sl.due / 16 then okay (s.dropSlab sl.index)
      else failWith Err.busy

def execSlabAbort (mb : Fin 8) (r : Req) (s : State) : Host.Outcome State Fault Refusal := runCommand slabAbort mb r s

/-! ### The effect (R100, R103, R106, R108) -/

/-- Lateness at the effect: as told at the commit, else of the network time that was passed over (R101). -/
def State.slabLate (s : State) (sl : Slab) : Nat :=
  if sl.state == .applying then sl.lateNs
  else
    match (s.time.actions.find? fun a => a.body == .slab sl.index).bind Action.netTime with
    | some t => if sl.late then satN u32max (s.lateAt t sl.due) else 0
    | none => 0

/-- The turn of an action or of a Slab that is being applied: its due sample, the network time of one that was passed over, and
its place among armings and commits (R76, R103, R144, R145). -/
structure Turn where
  due : Nat
  passed : Option Nat
  order : Nat
  deriving DecidableEq, Repr

/-- Due order; at one sample those passed over come first, by network time, and arming order decides the rest. DESIGN CHOICE
(log 18): the spec gives no order at one sample between actions passed over and others. -/
def Turn.before (x y : Turn) : Bool :=
  x.due < y.due || (x.due == y.due && match x.passed, y.passed with
    | some a, some b => a < b || (a == b && x.order < y.order)
    | some _, none => true
    | none, some _ => false
    | none, none => x.order < y.order)

def Action.turn (a : Action) : Turn := ⟨a.due, if a.passed then a.netTime else none, a.order⟩

/-- A pending Slab's turn is its action's; one that is being applied stands by its commit. -/
def State.slabTurn (s : State) (sl : Slab) : Turn :=
  match s.time.actions.find? fun a => a.body == .slab sl.index with
  | some a => a.turn
  | none => ⟨sl.due, none, sl.order⟩

/-- Nothing else takes effect before this turn. -/
def State.isNext (s : State) (t : Turn) : Bool :=
  (s.time.actions.all fun a => !a.turn.before t)
    && s.slabs.all fun x => x.state != .applying || !(s.slabTurn x).before t

/-- No other Slab or action takes effect before this one. -/
def State.slabNext (s : State) (sl : Slab) : Bool := s.isNext (s.slabTurn sl)

/-- Costs of the nodes that the Slab changed, as they stand now (R32, R102). -/
def State.settleCosts (ids : List Nat) (s : State) : State :=
  (ids.filter s.enabled).foldl (fun s id => s.setNode id { s.node id with bcu := nodeCost s id (s.latestN id) }) s

/-- The response of a SLAB_COMMIT that waited (R577), which the record already carries; while it waits for the partner it keeps the
Slab's nodes from other commands (R71). -/
def State.commitDone (m ns : Nat) (late : Bool) (nodes : List Nat) (w : Nat × Req) (s : State) : State :=
  if h : w.1 < 8 then
    State.keepNodes ⟨w.1, h⟩ nodes (s.finishWaited 0x0112 ⟨w.1, h⟩ w.2 0 { late := late, payload := commitReply 0 m ns })
  else s

/-- Items whose value stands: what a command sets with effect at the same sample was applied after the commit, and the value of a
Slab that was committed later stands where both share an item (R103). -/
def State.slabStands (s : State) (sl : Slab) : List Change :=
  sl.items.filter fun c =>
    !(sl.due = 16 * s.time.block && s.setHere.contains (c.node, c.pid))
      && !s.slabSet.any fun x => x.1 == sl.due && x.2.1 == c.node && x.2.2.1 == c.pid && sl.order < x.2.2.2

/-- Note what a Slab sets at its sample. -/
def State.noteSet (sl : Slab) (s : State) : State :=
  { s with slabSet :=
      (s.slabSet.filter fun x => x.1 == sl.due) ++ sl.items.map fun c => (sl.due, c.node, c.pid, sl.order) }

/-- SLAB_APPLIED: the Slab takes effect at its sample in this strobe period. -/
def execSlabApplied (slab : Nat) (s : State) : Host.Outcome State Fault Refusal :=
  match s.slab? slab with
  | none => .next s
  | some sl =>
    if sl.waits && sl.due < s.blockEnd && s.awake && s.slabNext sl then
      let s := s.reach sl.due
      let ns := s.slabLate sl
      let s := s.dropSlab slab
      let s := State.noteSet sl (s.applyAt sl.due (s.slabStands sl) fun g => sl.order < g.order)
      let s := s.settleCosts (sl.items.map Change.node).eraseDups
      let s := s.raise 16 0x0011 (slabId slab)
        (evData [(0, leBytes 8 sl.due), (8, leBytes 4 ns), (12, leBytes 4 (ofBool sl.late))])
      .next (match sl.waiter with | some w => s.commitDone sl.due ns sl.late sl.touches w | none => s)
    else .next s

end Sys2Proof.Machine
end

