-- ==== Sys2Proof/Machine/Actions.lean ====
section
/-! DEFINITION. Scheduled actions: arming, cancelling and firing, embedded commands among them (R144 to R149). -/

namespace Sys2Proof.Machine

/-! ### The body of an action (R148) -/

/-- Opcodes that an action may embed. -/
def embeddable : List Nat := [0x0103, 0x0107, 0x0108, 0x0105, 0x0106, 0x0301]

/-- The contract of an embeddable opcode. -/
def embeddedContract (op : Nat) : Contract :=
  if op = 0x0103 then nodeSet else if op = 0x0105 then nodeConnect else if op = 0x0106 then nodeDisconnect
  else if op = 0x0107 then nodeEnable else if op = 0x0108 then nodeDisable else feResync

/-- The embedded command of a body as a request. -/
def embeddedReq (b : Bytes) : Req :=
  { flags := 0, tag := 0, node := BitVec.ofNat 32 (field b 4 4), rsvd := 0, payload := b.drop 12 }

/-- An item that its type's table defines with a legal value. -/
def State.itemTyped (s : State) (id : Nat) (x : Nat × Bytes) : Bool :=
  match s.par? id x.1 with
  | some p => !p.ro && x.2.length == p.len && p.legal x.2
  | none => nodeType id == Ty.kernel && !s.live id

/-- The fields of an embedded command are legal under its own payload table. -/
def State.embeddedLegal (s : State) (mb : Fin 8) (b : Bytes) : Bool :=
  let op := field b 0 2
  let r := embeddedReq b
  let c := embeddedContract op
  embeddable.contains op && reservedZero b [(2, 2), (10, 2)] && field b 8 2 ≤ 64 && field b 8 2 % 4 = 0
    && c.len r.payload.length && c.fixed s mb r && c.fields s mb r
    && (if op = 0x0103 then
          match itemsOf r.payload with
          | some l => l.all (s.itemTyped r.node.toNat)
          | none => false
        else true)

/-- Body length of a kind (R148). -/
def bodyLen (kind : Nat) (b : Bytes) : Nat := if kind = 1 then 12 + field b 8 2 else if kind = 4 then 8 else 4

/-- A TDM port or PDM clock group has started (R147). -/
def State.portStarted (s : State) (id : Nat) : Bool :=
  if nodeType id = Ty.tdmPort then s.tdmStarted (nodeIdx id) else s.groupRuns (micGroup (nodeIdx id))

/-- The GPIO is an enabled output. -/
def State.isOutput (s : State) (g : Nat) : Bool := s.enabled (mkNode Ty.gpio g) && s.latestN (mkNode Ty.gpio g) 1 == 1

/-- R148 up to ERR_STATE, in order: 0, or the code. -/
def State.bodyCheck (s : State) (mb : Fin 8) (kind : Nat) (b : Bytes) : Nat :=
  if b.length ≠ bodyLen kind b ∨ (kind = 1 ∧ b.length < 12) then Err.length
  else if kind = 1 then
    if !s.embeddedLegal mb b then Err.range
    else (embeddedContract (field b 0 2)).node s mb (embeddedReq b)
  else if kind = 2 then
    if !(field b 0 1 ≤ 31 && field b 1 1 ≤ 1 && reservedZero b [(2, 2)]) then Err.range
    else if s.isOutput (field b 0 1) then 0 else Err.state
  else if kind = 3 then
    let id := field b 0 4
    if !(nodeType id == Ty.tdmPort || nodeType id == Ty.mic) then Err.nodeType
    else if !s.live id then Err.noNode
    else if s.enabled id && !s.portStarted id then 0 else Err.state
  else 0

def actionBody (kind : Nat) (b : Bytes) : ActionBody :=
  if kind = 1 then .command (field b 0 2) (BitVec.ofNat 32 (field b 4 4)) (b.drop 12)
  else if kind = 2 then .gpio (field b 0 1) (field b 1 1 = 1)
  else if kind = 3 then .portStart (field b 0 4)
  else .marker b

/-! ### TIME_SCHEDULE and TIME_CANCEL (R148, R149) -/

/-- The earliest sample at which an action that is armed now can fire. -/
def State.actionEarliest (s : State) (kind : Nat) : Nat := if kind = 1 then 16 * (s.time.block + 3) else s.m + 1

def timeSchedule : Contract where
  opcode := 0x0201
  len l := 20 ≤ l
  flags := 1
  fixed _ _ r :=
    let p := r.payload
    (field p 0 1 = 1 || field p 0 1 = 2) && 1 ≤ field p 1 1 && field p 1 1 ≤ 4 && field p 12 4 ≤ 999999999
      && reservedZero p [(2, 2), (18, 2)]
  node := onAssigned Ty.action
  fields _ _ r := field r.payload 0 1 = 1 || reservedZero r.payload [(12, 6)]
  body s mb r :=
    let p := r.payload
    let kind := field p 1 1
    let net : Bool := field p 0 1 = 1
    let b := p.drop 20
    let k := s.bodyCheck mb kind b
    if k ≠ 0 then failWith k
    else
      match s.actionIndex with
      | none => failWith Err.capacity
      | some i =>
        let e := s.actionEarliest kind
        let due := s.dueOf net p
        let late := decide (due < e)
        if late && r.flags.getLsbD 0 then failWith Err.late
        else
          let ns := if late then s.lateOf net p e else 0
          let m := if late then e else due
          let a : Action :=
            { index := i, netTime := if net then some (timeField p) else none, due := m, late := late, lateNs := ns
              session := mb.val, body := actionBody kind b }
          .done (s.armAction a)
            { late := late, node := some (BitVec.ofNat 32 (actionId i)), payload := leBytes 8 m ++ leBytes 4 ns ++ zeros 4 }

def execTimeSchedule (mb : Fin 8) (r : Req) (s : State) : Host.Outcome State Fault Refusal :=
  runCommand timeSchedule mb r s

def State.dropAction (i : Nat) (s : State) : State :=
  { s with time := { s.time with actions := s.time.actions.filter fun a => a.index != i } }

def timeCancel : Contract where
  opcode := 0x0202
  len := lenIs 0
  node := onTypes [Ty.action]
  body s _ r :=
    match s.action? (nodeIdx r.node.toNat) with
    | none => failWith Err.noNode
    | some a =>
      match a.body with
      | .slab _ => failWith Err.state
      | _ => if s.time.block < a.due / 16 - 2 then okay (s.dropAction a.index) else failWith Err.busy

def execTimeCancel (mb : Fin 8) (r : Req) (s : State) : Host.Outcome State Fault Refusal := runCommand timeCancel mb r s

/-! ### Firing (R146, R147) -/

/-- Enabling or disabling a loudspeaker or zone at sample m changes memberships there (R217, R224). -/
def State.membersNow (cause : Nat) (pick : Nat → Bool) (own : List Nat) (s : State) : State :=
  let before := s.ren.members
  let m := s.m
  let s := (s.updateMembers pick (fun _ => cause) m).membershipChanged before own m
  if s.ren.members == before then s else s.startRecords m [] ((s.runningOf Ty.obj).map nodeIdx) fun _ => false

def State.hookNow (id : Nat) (on : Bool) (s : State) : State :=
  let i := nodeIdx id
  if nodeType id = Ty.spk then s.membersNow 2 (· == i) []
  else if nodeType id = Ty.zone then
    s.membersNow 3 (fun k => zoneOfIn s.ren.members k == some i || s.parN (spkId k) 2 == i) [i]
  else s.enableHook id on

/-- NODE_ENABLE at the sample in progress. -/
def State.enableNow (id cost : Nat) (cluster : Option Nat) (s : State) : State :=
  let n := (s.bench.enables + 1) % 2 ^ 32
  let s := { s with bench := { s.bench with enables := n } }
  let s := s.setNode id { s.node id with state := .enabled, reason := 0, cluster := cluster, bcu := cost, order := n }
  if nodeType id = Ty.obj then (s.enableHook id true).beginNow id else (s.beginNow id).hookNow id true

/-- NODE_DISABLE at the sample in progress. -/
def State.disableNow (id : Nat) (s : State) : State :=
  let off : Node := { s.node id with state := .disabled, reason := 0, cluster := none, bcu := 0, order := 0 }
  ((s.setNode id off).endNow id).hookNow id false

/-- The effect of an embedded command that passed checks 7 and 8, at the sample in progress: the state, or the code. -/
def State.embedded (s : State) (op : Nat) (r : Req) : Except Nat State :=
  let id := r.node.toNat
  let c := connOf r
  if op = 0x0103 then
    let k := s.setCheck id r.payload
    if k ≠ 0 then .error k else .ok (s.setNow id ((itemsOf r.payload).getD []))
  else if op = 0x0105 then
    let k := s.connectCheck c
    if k ≠ 0 then .error k else .ok (s.wiresNow (· ++ [c]))
  else if op = 0x0106 then
    if s.conns.contains c then .ok (s.wiresNow fun l => l.filter (· != c)) else .error Err.state
  else if op = 0x0107 then
    let k := s.enableCheck id
    if k ≠ 0 then .error k
    else
      match s.admission id with
      | some (cost, cl) => .ok (s.enableNow id cost cl)
      | none => .error Err.capacity
  else if op = 0x0108 then
    let k := s.disableCheck id
    if k ≠ 0 then .error k else .ok (s.disableNow id)
  else .ok (s.micResets (field r.payload 0 2) (field r.payload 2 2) s.m)

/-- R55 from check 7 for an embedded command: its status and the state, unchanged where it fails. -/
def State.runEmbedded (s : State) (mb : Fin 8) (op : Nat) (r : Req) : Nat × State :=
  let c := embeddedContract op
  let k := c.node s mb r
  if k ≠ 0 then (k, s)
  else if s.power.state == .standby && !c.standby then (Err.power, s)
  else
    match s.embedded op r with
    | .ok s' => (0, s')
    | .error k => (k, s)

/-- Start a TDM port or clock group at the sample in progress (R146). -/
def State.startPort (id : Nat) (s : State) : State :=
  let s := if s.running id then s else s.beginNow id
  if nodeType id = Ty.tdmPort then s.tdmStartAt (nodeIdx id) s.m else s.groupStart (micGroup (nodeIdx id)) s.m

/-- What a firing action does: its status, and the state. -/
def State.fireBody (s : State) (a : Action) : Nat × State :=
  match a.body with
  | .command op node p =>
    if h : a.session < 8 then s.runEmbedded ⟨a.session, h⟩ op { flags := 0, tag := 0, node := node, rsvd := 0, payload := p }
    else (0, s)
  | .gpio g level =>
    let id := mkNode Ty.gpio g
    if s.enabled id && s.parN id 1 == 1 then (0, (s.storePar id 2 [BitVec.ofNat 8 (ofBool level)]).driveGpio g)
    else (Err.state, s)
  | .portStart id => if s.enabled id && !s.portStarted id then (0, s.startPort id) else (Err.state, s)
  | .marker _ | .slab _ => (0, s)

/-- An embedded NODE_SET that waits for the next block boundary fires late by this much (R375). -/
def State.waitLate (s : State) (a : Action) : Nat :=
  match a.body with
  | .command op node _ => if op = 0x0103 ∧ s.waitsForBlock node.toNat then smpNs (s.blockEnd - a.due) else 0
  | _ => 0

/-- Lateness of a firing in ns (R145, R148). -/
def State.actionLate (s : State) (a : Action) : Nat :=
  if !a.late then 0
  else
    match a.netTime with
    | some t => satN u32max (s.lateAt t a.due)
    | none => a.lateNs

def Action.isSlab (a : Action) : Bool := match a.body with | .slab _ => true | _ => false

/-- ACTION_FIRED: the action fires at its due sample in this strobe period. -/
def execActionFired (action : Nat) (s : State) : Host.Outcome State Fault Refusal :=
  match s.action? action with
  | none => .next s
  | some a =>
    if !a.isSlab ∧ s.isNext a.turn ∧ a.due < s.blockEnd ∧ s.awake then
      let s := (s.reach a.due).dropAction action
      let wait := s.waitLate a
      let (status, s) := s.fireBody a
      let wait := if status = 0 then wait else 0
      let ns := satN u32max (s.actionLate a + wait)
      let first := match a.body with | .marker v => v | _ => leBytes 8 a.due
      .next (s.raise 131 0x0203 (actionId action)
        (evData [(0, first), (8, leBytes 4 ns), (12, leBytes 2 status), (14, leBytes 1 (ofBool (a.late || wait != 0)))]))
    else .next s

end Sys2Proof.Machine
end

