-- ==== Sys2Proof/Machine/Resets.lean ====
section
/-! DEFINITION. The resets of R510 with what each keeps (R515, R516), sequencing, wakes, and the end of boot (R492 to R494,
R508 to R513, R519 to R521, R531). -/

namespace Sys2Proof.Machine

def State.setPower (p : Power) (s : State) : State := { s with power := p }
def State.setBoot (b : Boot) (s : State) : State := { s with boot := b }

/-! ### Throttle (R503) -/

/-- Requests that stand, as causes of THROTTLE: bit 0 rail, bit 1 thermal, bit 2 host. -/
def Power.requests (p : Power) : Nat :=
  ofBool (p.rails.any Rail.throttle) + 2 * ofBool p.thermReq + 4 * ofBool p.hostReq

/-- THROTTLE (R517). -/
def State.throttleEvent (what causes us : Nat) (s : State) : State :=
  s.raise 81 0x0F02 0 (evData [(0, leBytes 1 what), (1, leBytes 1 causes), (4, leBytes 4 us), s.mBytes])

/-- The throttle, a step of the CORE clock (R503), follows its requests while there is a CORE clock: it starts with
the first one and ends after the last. Local time tells the duration to a block only: within that it is free (log 12). -/
def State.followThrottle (s : State) : State :=
  let req := s.power.requests
  match s.power.throttled with
  | none =>
    if req = 0 || !s.awake then s
    else State.throttleEvent 1 req 0 { s with power := { s.power with throttled := some (s.time.ticks, req) } }
  | some (t, seen) =>
    if req ≠ 0 then { s with power := { s.power with throttled := some (t, seen ||| req) } }
    else
      let (v, s) := s.drawFree
      let us := (s.time.ticks - t) * 125 / 6 + v % 667 - 333
      State.throttleEvent 2 seen (satN u32max us) { s with power := { s.power with throttled := none } }

/-! ### The reset-cause log (R512, R513) -/

def State.logReset (cause detail : Nat) (s : State) : State :=
  { s with power := { s.power with
      log := ((cause, detail, s.pmuSeconds) :: s.power.log).take 8, lastCause := cause, lastDetail := detail } }

/-! ### What a reset keeps (R515, R516) -/

/-- Sources of the always-on domain, whose latches and held events outlive an RST_N and Sleep (R127, R129). -/
def isAlwaysOn (src : Nat) : Bool := 64 ≤ src && src ≤ 80

/-- Held events of the always-on domain; once network time restarts they take the time at which they are numbered (R127). -/
def heldOver (l : List HeldEvent) : List HeldEvent :=
  (l.filter fun h => isAlwaysOn h.e.source).map fun h => { h with timed := false }

/-- PAIR_EN strapped: the reset state of role and state is candidate and alone (R475, R543). -/
def Pair.alone (st : Straps) (p : Pair) : Pair := { p with role := if st.pairEn then 3 else 0, state := if st.pairEn then 1 else 0 }

/-- The token line as the always-on domain reads it (R454). -/
def Pair.line (p : Pair) : Pair :=
  { partnerToken := p.partnerToken, highSince := p.highSince, lastEdge := p.lastEdge, aliveOut := p.aliveOut }

/-- Any reset but a cluster's or the link's releases PAIR_TOKEN (R466, R511). -/
def State.releaseToken (s : State) : State :=
  let s := s.driveToken false
  { s with pair := { s.pair with highSince := if s.pair.token then s.time.ticks else s.pair.highSince, token := false } }

/-- OTP, and what outlives every reset of the boot unit (R515, R521). -/
def Boot.lasting (b : Boot) : Boot :=
  { active := b.active, trial := b.trial, descSeq := b.descSeq, rows := b.rows, rowHashes := b.rowHashes
    secMin := b.secMin }

/-- OTP slots keep key, lock and revocation; a PORST resets failure counts and locks after failures (R81, R515). -/
def KeySlot.afterPorst (volatile : Bool) (x : KeySlot) : KeySlot :=
  if volatile then {} else { x with failures := 0, lockUntil := none }

/-- Volatile slots lose their key, not their failure count, at an RST_N (R81, R515). -/
def KeySlot.afterRstN (volatile : Bool) (x : KeySlot) : KeySlot :=
  if volatile then { failures := x.failures, lockUntil := x.lockUntil } else x

/-- The slots with their volatility. -/
def mapSlots (f : Bool → KeySlot → KeySlot) (l : Vector KeySlot 16) : Vector KeySlot 16 :=
  l.mapIdx fun i x => f (8 ≤ i) x

/-- What no reset touches: the model's queue, free values and transcript, host memory, the pins, local time, the flash, OTP
and the log. -/
def State.common (s : State) : State :=
  { pending := s.pending, free := s.free, sent := s.sent, id := { straps := s.id.straps }, gpio := { inputs := s.gpio.inputs }, jtag := s.jtag
    boot := { s.boot.lasting with startedAt := s.time.ticks }, mem := { host := s.mem.host }
    time := { ticks := s.time.ticks }, pair := Pair.alone s.id.straps s.pair.line
    power := { rails := Rail.initial, tj := s.power.tj, log := s.power.log, lastCause := s.power.lastCause
               lastDetail := s.power.lastDetail, hot := s.power.hot } }

/-- PORST (R510). The always-on registers reset; rails that are up stay up (R492). -/
def State.porst (cause detail : Nat) (s : State) : State :=
  let s := s.releaseToken.logReset cause detail
  let n := s.common
  let up := s.awake
  let off (r : Rail) : Rail := { r with state := if up then 2 else 0 }
  { n with
    boot := { n.boot with slots := mapSlots KeySlot.afterPorst s.boot.slots }
    power := { n.power with
      rails := n.power.rails.map off, state := if up then .active else .down, retryAt := s.time.ticks } }

/-- The always-on side of an RST_N and of Sleep: sequence number, power and thermal latches, thresholds, scratch. -/
def State.keepAlwaysOn (s n : State) : State :=
  { n with
    id := { n.id with straps := s.id.straps }
    evq := { nextSeq := s.evq.nextSeq, everWritten := s.evq.everWritten
             latches := s.evq.latches.filter fun l => isAlwaysOn l.source
             waiting := heldOver s.evq.waiting }
    power := { n.power with
      rails := s.power.rails, thermReq := s.power.thermReq, thermWarn := s.power.thermWarn
      throttled := s.power.throttled, scratch := s.power.scratch } }

/-- RST_N pin (R510): volatile keys and the PWR_THROTTLE hold are lost. -/
def State.rstPin (s : State) : State :=
  let s := s.releaseToken.logReset 7 0
  let n := s.keepAlwaysOn s.common
  State.followThrottle { n with
    boot := { n.boot with slots := mapSlots KeySlot.afterRstN s.boot.slots }
    pair := { n.pair with mismatches := s.pair.mismatches }
    power := { n.power with state := .active } }

/-- Pairs 7 to 0 are switched off (R494). -/
def State.powerDown (s : State) : State :=
  (List.range 8).foldl (fun s k => s.emit (.pmuEn (7 - k) false)) s

/-- Rails that the PMU switches, by pair; rails 3 and 4 are the board's (R491). -/
def railsOfPair (k : Nat) : List Nat :=
  [[0], [1, 2], [5, 6, 7, 8], [9], [10, 11], [12], [13, 14], [15]].getD k []

def State.setRails (l : List Nat) (st : Nat) (s : State) : State :=
  let set (s : State) (i : Nat) : State :=
    match s.power.rails[i]? with
    | some r => { s with power := { s.power with rails := s.power.rails.setIfInBounds i { r with state := st } } }
    | none => s
  l.foldl set s

def State.railsOff (s : State) : State := ((List.range 8).flatMap railsOfPair |> fun l => s.setRails l 0)

/-- Sleep entry (R508): volatile keys stay, the PWR_THROTTLE hold is released. -/
def State.enterSleep (s : State) : State :=
  let s := s.releaseToken
  let s := if s.link.state == .disabled then s else s.linkStop 6
  let n := s.keepAlwaysOn s.common
  let p := s.power
  let quiet (r : Rail) : Rail := { r with throttle := false, dip := none }
  State.railsOff (State.powerDown { n with
    id := s.id
    boot := { n.boot with slots := s.boot.slots, keyLocked := s.boot.keyLocked }
    pair := { n.pair with mismatches := s.pair.mismatches }
    power := { n.power with
      rails := n.power.rails.map quiet, throttled := none, thermReq := false, state := .sleep
      wakeSources := p.wakeSources, wakeGpios := p.wakeGpios, wakeSeconds := p.wakeSeconds
      retryAt := s.time.ticks + p.wakeSeconds * smpPerSecond } })

/-- A power-down that ends in a PORST (R493, R500, R502): nothing restarts before `wait` smp have passed. -/
def State.fall (cause detail wait : Nat) (s : State) : State :=
  let s := s.porst cause detail
  State.railsOff (State.powerDown { s with power := { s.power with state := .down, retryAt := s.time.ticks + wait } })

/-! ### Warm resets (R510, R515) -/

/-- Node configuration stays, enables go off (R109). -/
def Node.off (n : Node) : Node := { params := n.params }

/-- Changes already applied by a command stand, though their boundary never came (R81, R109). -/
def State.settlePend (s : State) : State :=
  let l := s.pend ++ s.pendLate
  let other (s : State) (p : Pend) : State :=
    match p with
    | .locator g k hyst hold => s.setLocGroup g { s.locGroup g with k := k, hyst := hyst, hold := hold }
    | _ => s
  let s := (pendChanges l).foldl (State.storeChange s.m) s
  let s := (s.ren.zoneWait.filter fun x => x.2.1 == 5).foldl (fun s x => s.storePar (spkId x.2.2) 2 [0xFF]) s
  l.foldl (fun s p => other (s.applySetting p) p) s

/-- Time over a warm reset: m, E, network time and the configuration stay; PTP enables and pins go off (R153). -/
def Time.warm (t : Time) : Time :=
  { t with
    cfg := t.pendCfg.getD t.cfg, ports := t.portsNext.map fun p => { p with enable := false, calibrated := false }, pins := {}
    pulse := none, mclk := none, pendCfg := none, pendPorts := [], pendPins := none, pendSet := none, actions := [] }

/-- A stream's keys and numbers (R329). -/
def StreamDyn.warm (x : StreamDyn) : StreamDyn :=
  { node := x.node, rx := x.rx, tx := x.tx, rtcpIndex := x.rtcpIndex, rtcpSeen := x.rtcpSeen, begun := x.begun, nextSeq := x.nextSeq }

def EthPort.warm (p : EthPort) : EthPort := { ifs := p.ifs.map fun i => { i with announce := 0 } }

/-- Training results and channels stay with a link that is up; counters restart (R449). -/
def Link.warm (l : Link) : Link :=
  { l with
    attempts := 0, syncErr := List.replicate 8 0, prbsErr := List.replicate 8 0, crcErr := 0, resent := 0, waited := 0
    rewidths := 0, resets := 0, checkerLock := 0, resentBlock := 0, errInterval := none }

/-- Host warm reset and CP watchdog reset. The kept copy restarts if boot had come as far as making one (R519). DESIGN CHOICE
(log 53): an open gap stays with the store, whose numbers it continues; R129 keeps the store and gives GAP_OPEN, read with the
ring's registers, the reset value 0. -/
def State.warmReset (cause detail : Nat) (s : State) : State :=
  let s := s.releaseToken.logReset cause detail
  let s := if s.link.up then s else s.setLink s.link.stopped
  let s := s.spkStandby.settlePend
  let g := s.gal.endAll fun _ => true
  let b := s.boot
  let q := s.evq
  let bank (x : SpkDyn) : SpkDyn := { spk := x.spk, bankA := x.bankA, bankB := x.bankB, active := s.spkPar x.spk 0x109 }
  let group (x : LocGroup) : LocGroup := { k := x.k, hyst := x.hyst, hold := x.hold }
  let p := s.pair
  let n : State :=
    { pending := s.pending, free := s.free, sent := s.sent, id := { straps := s.id.straps }, gpio := { inputs := s.gpio.inputs }, jtag := s.jtag
      boot := { b with
        code := 0, fallback := false, boardOpen := false, source := 0, detail := 0, dlOffset := 0, dlLength := 0
        dlBusy := false, dlImage := [], dlReturnAt := none, keyData := List.replicate 8 0, keyRefused := false
        activateAt := none, warm := b.warm || (6 ≤ b.code && b.code ≤ 7), startedAt := s.time.ticks }
      evq := { nextSeq := q.nextSeq, everWritten := q.everWritten, store := q.store, gap := q.gap
               latches := q.latches.filter fun l => isAlwaysOn l.source
               waiting := q.waiting.filter fun h => isAlwaysOn h.e.source
               msixTable := if cause == 9 then ({} : Evq).msixTable else q.msixTable
               pba := if cause == 9 then 0 else q.pba
               msixEnable := cause != 9 && q.msixEnable, msixMask := cause != 9 && q.msixMask }
      time := s.time.warm, nodes := (s.nodes.map fun x => (x.1, x.2.off)).filter fun x =>
        !(isFixed (nodeType x.1) && x.2 == {})
      conns := s.conns, commits := s.commits
      gal := { xp := g.xp, gain := g.gain, prof14 := g.prof14, prof15 := g.prof15, slicesOut := g.slicesOut, moves := g.moves }
      ren := { speed := s.ren.speed }, spk := { spks := s.spk.spks.map bank }
      cap := { groups := s.cap.groups.map group }
      eth := { ports := s.eth.ports.map EthPort.warm, streams := s.eth.streams.map StreamDyn.warm }
      bench := { slots := s.bench.slots, clustersOut := s.bench.clustersOut }
      mem := { host := s.mem.host, user := s.mem.user, userBad := s.mem.userBad, density := s.mem.density
               rate := s.mem.rate, margins := s.mem.margins }
      link := s.link.warm
      pair := { Pair.alone s.id.straps p.line with
        compareMode := p.compareMode, autoRejoin := p.autoRejoin, mismatches := p.mismatches, changes := p.changes
        lastTakeover := p.lastTakeover, partnerLevel := p.partnerLevel }
      power := { s.power with state := .active, change := none } }
  n.setServo (if s.time.everLocked then .holdover else .free)

/-! ### Reset commands and pins (R510 to R513) -/

/-- RST_CTRL with its key in the same write. -/
def rstKey (v : Word) : Bool := v.toNat / 65536 == 0x5253

/-- A write of RST_CTRL: FULL comes before WARM; a warm reset needs a powered device. -/
def State.writeRstCtrl (v : Word) (s : State) : State :=
  if !rstKey v then s
  else if v.getLsbD 1 then s.porst 6 0
  else if v.getLsbD 0 && s.awake then s.warmReset 8 0
  else s

/-- RST_CTRL_WARM: a write of RST_CTRL with WARM 1. -/
def execRstCtrlWarm (v : Word) (s : State) : Host.Outcome State Fault Refusal := .next (s.writeRstCtrl (v ||| 1))

/-- RST_CTRL_FULL: a write of RST_CTRL with FULL 1. -/
def execRstCtrlFull (v : Word) (s : State) : Host.Outcome State Fault Refusal := .next (s.writeRstCtrl (v ||| 2))

/-- A write of RST_LOG: CLEAR empties the log; LAST and DETAIL stay. -/
def State.writeRstLog (v : Word) (s : State) : State :=
  if v.getLsbD 0 then { s with power := { s.power with log := [] } } else s

def execRstLogClear (v : Word) (s : State) : Host.Outcome State Fault Refusal := .next (s.writeRstLog (v ||| 1))

/-- PORST_N: the straps are sampled, failed attempts are forgotten (R450, R493, R518). -/
def execPorstN (straps : Straps) (s : State) : Host.Outcome State Fault Refusal :=
  let s := s.porst 2 0
  .next { s with
    id := { straps := straps }, pair := Pair.alone straps s.pair
    power := { s.power with seqFails := 0, seqPair := if s.awake then s.power.seqPair else 8 } }

/-- RST_N: the rails stay up; nothing outside the always-on domain is powered in Sleep or powered down. -/
def execRstN (s : State) : Host.Outcome State Fault Refusal := .next (if s.awake then s.rstPin else s)

/-- PCIe resets reach a device that its host attaches over PCIe (R534). -/
def State.pcieReset (detail : Nat) (s : State) : State :=
  if s.awake && !s.id.straps.hostQspi then s.warmReset 9 detail else s

def execPcieHotReset (s : State) : Host.Outcome State Fault Refusal := .next (s.pcieReset 1)
def execPerst (s : State) : Host.Outcome State Fault Refusal := .next (s.pcieReset 2)

/-- CP_WATCHDOG_RESET: Daluo has not served its watchdog for 20 ms. -/
def execCpWatchdogReset (s : State) : Host.Outcome State Fault Refusal := .next (if s.awake then s.warmReset 10 0 else s)

/-- FW_ACTIVATE_RESET (R531): the warm reset of an activated target at its block boundary. -/
def execFwActivateReset (s : State) : Host.Outcome State Fault Refusal :=
  match s.boot.activateAt with
  | some b => .next (if s.awake && b ≤ s.time.block then s.warmReset 8 0 else s)
  | none => .next s

/-! ### Sequencing (R492, R493) and wakes (R508) -/

/-- PMU_ENk goes high: the pair's rails are sequencing. -/
def State.startPair (k : Nat) (s : State) : State :=
  State.emit (State.setRails (railsOfPair k) 1 { s with power := { s.power with seqPair := k } }) (.pmuEn k true)

/-- Powered down and not sequencing. -/
def State.isDown (s : State) : Bool := s.power.state == .down && s.power.seqPair == 8

/-- PMU_POWER_UP (R492). -/
def execPmuPowerUp (s : State) : Host.Outcome State Fault Refusal :=
  .next (if s.isDown && s.power.retryAt ≤ s.time.ticks && !s.power.hot && s.power.seqFails == 0 then s.startPair 0 else s)

/-- SEQUENCING_RETRY (R493): 1 s after the first or second failure in a row. -/
def execSequencingRetry (s : State) : Host.Outcome State Fault Refusal :=
  let n := s.power.seqFails
  .next (if s.isDown && s.power.retryAt ≤ s.time.ticks && !s.power.hot && 1 ≤ n && n < 3 then s.startPair 0 else s)

/-- PMU_PG_RISE: the next pair, or the release of the internal reset after the last one. -/
def execPmuPgRise (s : State) : Host.Outcome State Fault Refusal :=
  let k := s.power.seqPair
  if s.power.state == .down && k < 8 then
    let s := s.setRails (railsOfPair k) 2
    .next (if k < 7 then s.startPair (k + 1)
      else { s with
        power := { s.power with state := .active, seqPair := 8, seqFails := 0 }
        boot := { s.boot with startedAt := s.time.ticks } })
  else .next s

/-- SEQUENCING_FAILURE (R493): PMU_PGk has stayed low for 10 ms. -/
def execSequencingFailure (s : State) : Host.Outcome State Fault Refusal :=
  let k := s.power.seqPair
  if s.power.state == .down && k < 8 then
    let n := s.power.seqFails + 1
    let s := s.fall 5 k smpPerSecond
    .next { s with power := { s.power with seqFails := n } }
  else .next s

/-- A wake from Sleep by an enabled source (R508): the entry in the log, then power-up. -/
def State.wake (source : Nat) (s : State) : State :=
  if s.power.state == .sleep && bit s.power.wakeSources source then
    let s := s.logReset 0x0B (2 ^ source)
    State.startPair 0 { s with power := { s.power with state := .down } }
  else s

def execWakeN (s : State) : Host.Outcome State Fault Refusal := .next (s.wake 0)

def execWakeGpio (g : Fin 8) (s : State) : Host.Outcome State Fault Refusal :=
  .next (if bit s.power.wakeGpios g.val then s.wake 1 else s)

/-- WAKE_TIMER: the AON timer ends; local time has then reached its end. -/
def execWakeTimer (s : State) : Host.Outcome State Fault Refusal :=
  .next (if s.power.state == .sleep && bit s.power.wakeSources 3 then
    State.wake 3 { s with time := { s.time with ticks := max s.time.ticks s.power.retryAt } }
  else s)

/-- A write of PMU_WAKE (R514): only QSPI reaches it in Sleep. -/
def State.writePmuWake (v : Word) (viaQspi : Bool) (s : State) : State :=
  if v.toNat / 65536 == 0x574B && v.getLsbD 0 && viaQspi then s.wake 2 else s

def execPmuWake (v : Word) (viaQspi : Bool) (s : State) : Host.Outcome State Fault Refusal :=
  .next (s.writePmuWake v viaQspi)

/-! ### The end of boot (R519, R521, R127, R454) -/

def bootInfo (b : BootReport) : ImageInfo :=
  { major := b.major, minor := b.minor, build := b.build, pairLevel := b.pairLevel, secVersion := b.secVersion }

/-- The order in which held events are numbered: by the instant at which they arose, ties to the lower source (R127). -/
def HeldEvent.before (x y : HeldEvent) : Bool := x.ticks < y.ticks || (x.ticks == y.ticks && x.e.source ≤ y.e.source)

def insertHeld (x : HeldEvent) : List HeldEvent → List HeldEvent
  | [] => [x]
  | y :: r => if x.before y then x :: y :: r else y :: insertHeld x r

/-- A held event is numbered; one without a time takes the present one, and so does its latch (R127). -/
def State.numberOne (s : State) (h : HeldEvent) : State :=
  let e := h.e
  if h.timed then s.number e
  else
    let now (s : State) (l : Latch) : State :=
      if l.source == e.source && l.code == e.code && e.latched then s.putLatch { l with sec := s.secs, ns := s.nanos } else s
    s.evq.latches.foldl now (s.number { e with sec := s.secs, ns := s.nanos })

/-- Held events are numbered after RESET_RECORD (R127). -/
def State.numberHeld (s : State) : State :=
  (s.evq.waiting.foldr insertHeld []).foldl State.numberOne { s with evq := { s.evq with waiting := [] } }

/-- At the end of boot the device reads PAIR_TOKEN (R454). -/
def State.readToken (low : Bool) (s : State) : State :=
  if s.pairEn then
    { s with pair := { s.pair with
        partnerToken := low, highSince := if s.pair.partnerToken && !low then s.time.ticks else s.pair.highSince } }
  else s

/-- The image, the memory and the units as boot found them: the active slot's image, or the other's where the active one fails
(R521); memory at the board block's density, at no more than its top rate (R384, R523). -/
def State.bootFound (b : BootReport) (s : State) : State :=
  let o := s.boot
  let flash := !o.warm && o.source ≠ 2
  let full := s.mem.density = 0
  let info := if flash then bootInfo b else if o.warm then o.kept else o.running
  let download := o.source = 2
  let board := boardBlock o.dlImage
  let mv := if download then field board 6 2 else b.auxMv
  let aux (r : Rail) : Rail := { r with setpoint := mv, levelSet := mv, voltage := mv }
  let s := s.setBoot { o with
    running := info, kept := info
    source := if !flash then o.source else if b.fallbackReason = 0 then o.active else 1 - o.active
    fallback := if flash then b.fallbackReason ≠ 0 else o.fallback
    detail := if flash && b.fallbackReason ≠ 0 then BitVec.ofNat 32 b.fallbackReason else o.detail
    boardOpen := b.boardOpen, descSeq := o.descSeq + ofBool o.trial, trial := false, keptTrial := false, warm := false }
  let s := s.readToken b.tokenLow
  if full then
    let t := { s with
      mem := { s.mem with
        density := if download then 4 * 2 ^ field board 4 1 else b.density
        rate := if download then min (lpddrRates.getD (field board 5 1) 4266) b.rate else b.rate }
      time := { s.time with rate96 := b.rate96 }
      bench := { s.bench with clustersOut := b.badClusters.filter (· < 16) }
      gal := { s.gal with slicesOut := b.badSlices.filter (· < 12), moves := [] }
      power := { s.power with rails := s.power.rails.mapIdx fun i r => if i = 15 then aux r else r } }
    if t.gal.slicesOut.isEmpty then t else t.replacePorts t.ownCarried
  else s

/-- The link starts and the token is sought (R434, R454). -/
def State.pairBoot (s : State) : State :=
  if !s.pairEn then s
  else
    let s := { s with pair := { s.pair with nextBeat := ceilDiv s.m 4 * 4 } }
    let s := s.setNode linkNode { s.node linkNode with state := .enabled, reason := 0 }
    let s := if s.link.up then s.pairLinkUp else s.linkStart
    if !s.id.straps.pairSideB && !s.pair.partnerToken then s.takeToken else s

/-- A start on trial has failed: 2 s have passed, or a CP watchdog reset came first (R521). -/
def State.trialExpired (s : State) : Bool :=
  (s.boot.trial || s.boot.keptTrial) && (s.boot.startedAt + 2 * smpPerSecond ≤ s.time.ticks || s.power.lastCause == 0x0A)

/-- The boot can come to its end: not stopped, and a download has been accepted where one is strapped. -/
def State.canBoot (s : State) : Bool :=
  s.awake && s.boot.code < 7 && !s.trialExpired && !(s.id.straps.download && !s.boot.warm && s.boot.code < 5)

/-- DALUO_READY (R519): CODE 0x07; RESET_RECORD is the first event numbered. -/
def execDaluoReady (b : BootReport) (s : State) : Host.Outcome State Fault Refusal :=
  if s.canBoot then
    let s := (s.bootFound b).setCode 7
    let p := s.power
    let at_ := match p.log with | e :: _ => e.2.2 | [] => s.pmuSeconds
    let s := s.raise 84 0x0F05 0 (evData [(0, leBytes 1 p.lastCause), (1, leBytes 1 p.lastDetail), (4, leBytes 4 at_)])
    .next s.numberHeld.pairBoot
  else .next s

/-- TRIAL_FALLBACK (R521): the other slot becomes the kept copy and the active slot with TRIAL clear, and starts. -/
def execTrialFallback (b : BootReport) (s : State) : Host.Outcome State Fault Refusal :=
  let o := s.boot
  if s.awake && o.code < 7 && s.trialExpired then
    let slot := 1 - o.active
    .next (State.setCode 6 (s.setBoot { o with
      active := slot, trial := false, keptTrial := false, descSeq := o.descSeq + 1, kept := bootInfo b, running := bootInfo b
      source := slot, fallback := true, detail := 9, warm := true, startedAt := s.time.ticks }))
  else .next s

end Sys2Proof.Machine
end

