-- ==== Sys2Proof/Machine/Power.lean ====
section
/-! DEFINITION. Rails, dips, temperature, PMBus, voltage scaling and the power states (R491 to R509). -/

namespace Sys2Proof.Machine

/-! ### Levels of a rail (R499) -/

def Rail.resetLevel (now : Nat) (r : Rail) : Nat := r.base now * (1000 - r.reset) / 1000
def Rail.rearmLevel (now : Nat) (r : Rail) : Nat := r.warnLevel now + ceilDiv (r.base now) 100

def State.rail (s : State) (i : Nat) : Rail := s.power.rails[i]?.getD { setpoint := 0, voltage := 0, levelSet := 0 }

def State.setRail (i : Nat) (r : Rail) (s : State) : State :=
  { s with power := { s.power with rails := s.power.rails.setIfInBounds i r } }

/-- The PMU watches the rail: the board's always, the others while they are up. -/
def State.railUp (s : State) (i : Nat) : Bool := i = 3 || i = 4 || s.awake

/-! ### Dips (R500, R501) -/

/-- The dip is a crossing: the first since PORST, or after 1 ms at or above the re-arm level. Of the voltage since the last
dip the model knows the live sample only (log 37). -/
def Rail.crosses (now : Nat) (r : Rail) : Bool :=
  match r.lastDipEnd with
  | none => true
  | some t => t + 48 ≤ now && r.rearmLevel now ≤ r.voltage

/-- Count a crossing on the rail's latch; its event waits for the dip (R501). -/
def State.countDip (i mv : Nat) (s : State) : State :=
  let l := s.latch (64 + i) 0
  let x := if (findKey Latch.key (4 * (64 + i)) s.evq.latches).isNone then (mv : Int) else min l.extreme mv
  let first := l.count = 0
  s.setLatch { l with
    count := satN 65535 (l.count + 1), extreme := x, level := mv, holds := true
    sec := if first then s.secs else l.sec, ns := if first then s.nanos else l.ns }

/-- RAIL_WARNING (R500): a sample below the warning level. -/
def execRailWarning (rail : Fin 16) (mv : Nat) (s : State) : Host.Outcome State Fault Refusal :=
  let i := rail.val
  let r := s.rail i
  let now := s.time.ticks
  if s.railUp i && r.dip.isNone && mv < r.warnLevel now then
    let crossing := r.crosses now
    let owes := crossing && (s.latch (64 + i) 0).count == 0
    let s := s.setRail i { r with voltage := mv, state := 3, dip := some (mv, s.m, owes), throttle := true }
    let l := s.latch (64 + i) 0
    let s := if crossing then s.countDip i mv
      else s.setLatch { l with level := mv, holds := true, extreme := min l.extreme mv }
    .next s.followThrottle
  else .next s

/-- PWR_WARN (R501): the dip ends, or 1 ms has passed since the crossing. The voltage after a dip is a live sample at or above
the warning level: a free value (log 37). -/
def execPwrWarn (rail : Fin 16) (minimum belowUs : Nat) (ended : Bool) (s : State) : Host.Outcome State Fault Refusal :=
  let i := rail.val
  let r := s.rail i
  match r.dip with
  | none => .next s
  | some (low, start, owes) =>
    let low := min low minimum
    let (v, s) := s.drawFree
    let level := if ended then r.warnLevel s.time.ticks + v % 4096 else r.voltage
    let s := s.setRail i (if ended then
        { r with dip := none, lastDipEnd := some s.time.ticks, voltage := level, state := 2 }
      else { r with dip := some (low, start, false) })
    let l := s.latch (64 + i) 0
    let data := evData [(0, leBytes 1 i), (1, leBytes 1 (ofBool !ended)), (2, leBytes 2 low),
      (4, leBytes 4 (satN u32max belowUs)), (8, leBytes 8 start)]
    let s := s.setLatch { l with
      extreme := min l.extreme low, level := level, holds := !ended
      data := if owes then data else l.data }
    .next (if owes then s.raiseLatched (64 + i) 0x0F00 (mkNode Ty.rail i) data else s)

/-- THROTTLE_RELEASE (R500, R503): 100 µs after the dips have ended their requests end. -/
def execThrottleRelease (s : State) : Host.Outcome State Fault Refusal :=
  let calm (r : Rail) : Rail := if r.dip.isNone then { r with throttle := false } else r
  if s.power.rails.any fun r => r.throttle && r.dip.isNone then
    .next (State.followThrottle { s with power := { s.power with rails := s.power.rails.map calm } })
  else .next s

/-- BROWN_OUT (R500): power-down, 100 ms, power-up as after PORST. -/
def execBrownOut (detail : Byte) (s : State) : Host.Outcome State Fault Refusal :=
  let d := detail.toNat
  let named := d < 16 || (0x80 ≤ d && d < 0x88)
  .next (if named && (s.awake || d = 3 || d = 4) then s.fall 3 d 4800 else s)

/-! ### Temperature (R502) -/

def State.setTj (tj : Int) (s : State) : State := { s with power := { s.power with tj := tj } }

/-- THERMAL_WARN: Tj has reached 100 °C. -/
def execThermalWarn (tj : Int) (sensor : Fin 16) (s : State) : Host.Outcome State Fault Refusal :=
  if s.awake && !s.power.thermWarn && 10000 ≤ tj then
    let s := s.setTj tj
    let s := { s with power := { s.power with thermWarn := true, thermReq := true } }
    let s := s.cross 80 0 0 tj false (evData [(0, leSigned 2 tj), (2, leBytes 1 sensor.val), s.mBytes])
    .next s.followThrottle
  else .next s

/-- THERMAL_WARN_END: Tj has fallen below 95 °C. -/
def execThermalWarnEnd (tj : Int) (s : State) : Host.Outcome State Fault Refusal :=
  if s.power.thermWarn && tj < 9500 then
    let s := s.setTj tj
    let s := { s with power := { s.power with thermWarn := false, thermReq := false } }
    .next (s.setLevel 80 0 tj false false).followThrottle
  else .next s

/-- THERMAL_SHUTDOWN: Tj has reached 115 °C. -/
def execThermalShutdown (sensor : Fin 16) (s : State) : Host.Outcome State Fault Refusal :=
  if s.awake then
    let s := (s.setTj (max s.power.tj 11500)).fall 4 sensor.val 0
    .next { s with power := { s.power with hot := true } }
  else .next s

/-- THERMAL_RECOVERY: Tj has fallen below 85 °C, and the PMU powers up. -/
def execThermalRecovery (tj : Int) (s : State) : Host.Outcome State Fault Refusal :=
  if s.power.hot && s.isDown && tj < 8500 then
    let s := s.setTj tj
    .next (State.startPair 0 { s with power := { s.power with hot := false } })
  else .next s

/-! ### PMBus and voltage scaling (R495, R496) -/

/-- PMBUS_ALERT: the STATUS_WORD read after PMBUS_ALERT_N fell shows a fault, or its transaction has failed. -/
def execPmbusAlert (rail : Fin 16) (answer : PmbusAnswer) (s : State) : Host.Outcome State Fault Refusal :=
  let told (what word : Nat) (s : State) : State :=
    s.raise 82 0x0F03 (mkNode Ty.rail rail.val) (evData [(0, leBytes 1 what), (2, leBytes 2 word), s.mBytes])
  .next (if answer.failure ≠ 0 then told answer.failure.val 0 s else if answer.status = 0 then s
    else told 3 answer.status.toNat s)

/-- AVS may step again: 1 ms has passed since its last step (R496). -/
def Rail.mayStep (now : Nat) (r : Rail) : Bool :=
  match r.stepAt with
  | none => true
  | some t => t + 48 ≤ now

/-- AVS_STEP: one step of 5 mV within 680 to 840 mV, at most one in 1 ms, and none while a throttle request is active. The
voltage follows to a live sample that the spec does not give: a free value (log 37). -/
def execAvsStep (up : Bool) (s : State) : Host.Outcome State Fault Refusal :=
  let r := s.rail 0
  let mv := if up then r.setpoint + 5 else r.setpoint - 5
  if s.awake && s.power.requests = 0 && r.mayStep s.time.ticks && 680 ≤ mv && mv ≤ 840 then
    let (v, s) := s.drawFree
    let base := r.base s.time.ticks
    let r := { r with setpoint := mv, stepAt := some s.time.ticks, voltage := r.warnLevel s.time.ticks + v % 4096 }
    .next (s.setRail 0 (if up then { r with levelSet := base, raisedAt := some s.time.ticks }
      else { r with levelSet := mv, raisedAt := none }))
  else .next s

/-! ### PWR_THROTTLE (R503) -/

def pwrThrottle : Contract where
  opcode := 0x0F02
  len := lenIs 4
  fixed _ _ r := field r.payload 0 1 ≤ 1 && reservedZero r.payload [(1, 3)]
  node := onCp
  body s _ r := okay (State.followThrottle { s with power := { s.power with hostReq := field r.payload 0 1 = 1 } })

def execPwrThrottle (mb : Fin 8) (r : Req) (s : State) : Host.Outcome State Fault Refusal := runCommand pwrThrottle mb r s

/-! ### Power states (R504 to R509) -/

def PowerState.code : PowerState → Nat
  | .active => 0
  | .standby => 1
  | .sleep => 2
  | .down => 3

def powerStateOf (n : Nat) : PowerState := if n = 0 then .active else if n = 1 then .standby else .sleep

/-- The fields of PWR_STATE, each alone. -/
def pwrFixed (p : Bytes) : Bool :=
  field p 0 1 ≤ 2 && (field p 1 1 = 0 || field p 1 1 = 2) && field p 2 1 ≤ 15

/-- The fields of PWR_STATE whose legality hangs on another field (R575). -/
def pwrFields (p : Bytes) : Bool :=
  let st := field p 0 1
  let src := field p 2 1
  let gpios := field p 3 1
  let secs := field p 4 4
  (field p 1 1 = 0 || st ≠ 2) && (src ≠ 0 || st ≠ 2) && (src = 0 || st = 2)
    && (if bit src 1 then gpios ≠ 0 else gpios = 0) && (if bit src 3 then secs ≠ 0 else secs = 0)
    && (if field p 1 1 = 2 then field p 8 8 % 16 = 0 else field p 8 8 = 0)

/-- Outside lockstep no record brings a request for Sleep, or what replaces it, to the partner (R507). -/
def State.tellSleep (old : Power) (s : State) : State :=
  let w := s.power
  let told := s.pairEn && (s.pair.state == 2 || s.pair.state == 4) && !s.recording
  match old.change, w.change with
  | _, some (.sleep, m) => if told then s.sendPacket 0 32 (.sleep (some m) w.wakeSources w.wakeGpios w.wakeSeconds) else s
  | some (.sleep, _), _ => if told then s.sendPacket 0 32 (.sleep none 0 0 0) else s
  | _, _ => s

def pwrState : Contract where
  opcode := 0x0F01
  len := lenIs 16
  flags := 1
  fixed _ _ r := pwrFixed r.payload
  node := onCp
  fields _ _ r := pwrFields r.payload
  body s _ r :=
    let p := r.payload
    let dest := powerStateOf (field p 0 1)
    let e := 16 * (s.time.block + 3)
    let late := field p 1 1 = 2 && field p 8 8 < e
    let due := if field p 1 1 = 2 && !late then field p 8 8 else e
    let cancels := dest == s.power.state
    if cancels && s.power.change.isNone then failWith Err.state
    else if late && r.flags.getLsbD 0 then failWith Err.late
    else
      let w := s.power
      let power := { w with
        change := if cancels then none else some (dest, due), wakeSources := field p 2 1, wakeGpios := field p 3 1
        wakeSeconds := field p 4 4 }
      .done (State.tellSleep w { s with power := power }) { late := late }

def execPwrState (mb : Fin 8) (r : Req) (s : State) : Host.Outcome State Fault Refusal := runCommand pwrState mb r s

/-- Standby entry: the engines stop; ports still send the last block they made, then zero (R184, R504; DEDUCED, log 44). -/
def State.standbyEntry (s : State) : State :=
  let s := s.galStandby.renStandby.spkStandby.captureStandby.voiceStandby.streamsStandby
  let stop (x : KernDyn) : KernDyn := { x with ctx := none }
  { s with
    bench := { s.bench with insts := s.bench.insts.map stop } }

/-- Standby exit at m: invocations and streams start with this block. -/
def State.standbyExit (s : State) : State :=
  ((s.runningOf Ty.kernel).map nodeIdx).foldl (fun s i => s.krnStart i) (s.streamsResume s.m)

/-- POWER_STATE (R506): a pending Standby or Active change at its block boundary. -/
def execPowerState (s : State) : Host.Outcome State Fault Refusal :=
  match s.power.change with
  | some (dest, due) =>
    if s.awake && dest != .sleep && s.time.pos == 0 && due ≤ s.m then
      let old := s.power.state
      let s := { s with power := { s.power with change := none, state := dest } }
      let s := if dest == .standby then s.standbyEntry else s.standbyExit
      .next (s.raise 83 0x0F04 0 (evData [(0, leBytes 1 old.code), (1, leBytes 1 dest.code), s.mBytes]))
    else .next s
  | none => .next s

/-- SLEEP_ENTRY (R508) at its block boundary. -/
def execSleepEntry (s : State) : Host.Outcome State Fault Refusal :=
  match s.power.change with
  | some (dest, due) => .next (if s.awake && dest == .sleep && s.time.pos == 0 && due ≤ s.m then s.enterSleep else s)
  | none => .next s

end Sys2Proof.Machine
end

