-- ==== Sys2Proof/Machine/Strobe.lean ====
section
/-! DEFINITION. The block strobe: what the period that ends leaves, and what the new one begins with (R14 to R16, R86); the
commands that wait and those that a standby takes from its records (R80, R459); heartbeat instants (R465). -/

namespace Sys2Proof.Machine

/-! ### Opcodes and contracts -/

/-- Every opcode's contract. -/
def allContracts : List Contract :=
  [sysGetId, sessionOpen, sessionProve, sessionClose, sysCapacity, evtSourceSet, evtLatchRead, evtLatchClear, nodeCreate,
   nodeDestroy, nodeSet, nodeGet, nodeConnect, nodeDisconnect, nodeEnable, nodeDisable, slabOpen, slabWrite, slabCommit,
   slabAbort, timeSchedule, timeCancel, timeGet, timeConfig, timePortSet, timeSet, timePinSet, feResync] ++
  [galXpWrite, galXpBulk, galXpRead, galProfileSet, galStatus, renConfig, renPosBatch, renPosQueue, renFootprintRead,
   spkBankLoad, spkBankRead, spkBankClear, capLocatorConfig, capLocatorRead, capAecReset, capAecStatus, ethIfSet,
   streamKeySet, streamStats, ethCounters, voiceDigitSend, voiceDigitCancel, voiceLecReset] ++
  [krnImageLoad, krnImageClear, krnImageInfo, queueConfig, queueStatus, haulSubmit, memInfo, ashJob, ashCtxSave,
   ashCtxRestore, linkPower, linkTest, linkCounters, pairStatus, pairConfig, pairSwitch, pwrState, pwrThrottle,
   faultStatus, faultRestore, faultInject, keyWrite, keyLock, keyFuse, keyInfo, fwStage, fwActivate]

def contractOf (op : Nat) : Option Contract := allContracts.find? fun c => c.opcode == op

/-! ### Commands that waited (R39, R71, R80) -/

/-- The first waiting command that nothing before it blocks, with the others (R71). -/
def State.firstFree (s : State) (nodes : List Nat) : List Waiting → Option (Waiting × List Waiting)
  | [] => none
  | w :: r =>
    if s.blocked (nodes ++ s.packetNodes w.ahead) w.opcode w.req then
      (s.firstFree (nodes ++ s.touches w.opcode w.req) r).map fun x => (x.1, w :: x.2)
    else some (w, r)

/-- DEFERRED_COMMAND_APPLY: the command is applied after what it waited for. -/
def execDeferredCommandApply (s : State) : Host.Outcome State Fault Refusal :=
  match s.firstFree s.waitingNodes s.deferred with
  | none => .next s
  | some (w, rest) =>
    match contractOf w.opcode, s.ready && s.awake with
    | some c, true =>
      if h : w.mb < 8 then
        .next (c.settle ⟨w.mb, h⟩ w.req ((s.box w.mb).sess == .opened) { s with deferred := rest })
      else .next { s with deferred := rest }
    | _, _ => .next s

/-! ### Records on the standby (R458 to R462) -/

/-- Run something at the primary's clocks, with its draws and what it read of a bulk window. -/
def State.asPrimary (c : Mirrored) (f : State → State) (s : State) : State :=
  let t := s.time
  let u := f { s with
    time := { t with block := c.block, pos := c.pos, net := c.net }, free := c.draws, mem := { s.mem with bar2 := c.bulk } }
  { u with
    time := { u.time with block := t.block, pos := t.pos, net := t.net }, free := s.free
    mem := { u.mem with bar2 := s.mem.bar2 } }

/-- A command of a record takes effect as the primary applied it; its response is the primary's. -/
def State.applyMirrored (c : Mirrored) (s : State) : State :=
  match contractOf c.opcode with
  | none => s
  | some k => s.asPrimary c fun s =>
    match k.apply s c.mb c.r with
    | .fail _ _ => s
    | .done s' _ => s'
    | .wait s' => s'

/-- An event of a record: the standby's own copy gives way to the numbered record (R130, R467). -/
def State.followEvent (e : EvRec) (s : State) : State :=
  let same (x : EvRec) : Bool := x.source == e.source && x.code == e.code && x.node == e.node
  State.number e { s with
    pair := { s.pair with unnumbered := s.pair.unnumbered.eraseP same }, evq := { s.evq with nextSeq := e.seq } }

/-- The frozen due sample of an action. -/
def State.followDue (i due : Nat) (late : Bool) (s : State) : State :=
  let one (a : Action) : Action := if a.index = i then { a with due := due, late := late, frozen := true } else a
  State.syncSlabs { s with time := { s.time with actions := s.time.actions.map one } }

/-- One decision of a record takes effect on the standby. -/
def State.follow (s : State) (d : Decision) : State :=
  match d with
  | .command c => s.applyMirrored c
  | .counted mb n e => s.takeEntry mb n e
  | .bell mb => s.setBox mb { s.box mb with lastDoorbell := s.time.ticks }
  | .expired x => s.expire x
  | .event e => s.followEvent e
  | .latch l => s.setLatch l
  | .due i m late => s.followDue i m late
  | .position p => s.applyPacket (s.ren.posQueue.getD 0) (packetBytes p)
  | .stream x =>
    (s.setStream ((x.after.shift ((s.time.ticks : Int) - x.ticks)).withSender (s.streamDyn x.node))).drainEvents x.node
  | .hop h t => s.resolved { h with time := shiftTime ((s.time.ticks : Int) - t) h.time }
  | .callFrame c m r change => s.receiveWith c m r change
  | .hold h =>
    if nodeType h.node = Ty.galOut then State.holdPort h.until_ s (nodeIdx h.node)
    else s.setFaults { s.faults with holds := (s.faults.holds.filter fun x => x.node != h.node) ++ [h] }
  | .shed n reason => s.deviceDisables n reason
  | .placed n c => s.setNode n { s.node n with cluster := c }
  | .xpZeroed o i => s.zeroEntry o i
  | .epoch e => { s with time := { s.time with epoch := e } }

/-- The records up to the block that begins next; without its record a device in lockstep decides for itself (R460). -/
def State.applyRecords (s : State) : State :=
  let p := s.pair
  if s.following then
    let n := s.time.block + 1
    let due := p.records.filter fun x => x.1 ≤ n
    let s := { s with pair := { p with
      records := p.records.filter fun x => n < x.1, deciding := p.state == 3 && p.recordGot < n } }
    State.settleEvents ((due.flatMap (·.2)).foldl State.follow s)
  else s

/-! ### The end of a period -/

/-- Zero the samples of a block in the making before or from a position; blocks in the making are newest first. -/
def maskNewest (spb p : Nat) (on : Bool) (l : List Int) : List Int :=
  (List.range l.length).map fun i => if (spb - 1 - i < p) == on then 0 else l.getD i 0

def maskWords (p : Nat) (on : Bool) (l : List Word) : List Word :=
  (List.range l.length).map fun i => if (i < p) == on then 0 else l.getD i 0

/-- What was enabled or disabled within the block carries zero before or after its position (R146). -/
def State.maskMidway (s : State) : State :=
  let one (s : State) (x : Nat × Nat × Bool) : State :=
    let mask (b : Nat × Nat × List Int) : Nat × Nat × List Int :=
      if b.1 = x.1 then (b.1, b.2.1, maskNewest s.spb x.2.1 x.2.2 b.2.2) else b
    let out (w : Nat × List Word) : Nat × List Word :=
      if mkNode Ty.tdmCh w.1 = x.1 then (w.1, maskWords x.2.1 x.2.2 w.2) else w
    { s with wr := s.wr.map mask, front := { s.front with outNow := s.front.outNow.map out } }
  s.midway.foldl one { s with midway := [] }

/-- The bytes over which compare mode takes its CRC (R473): the blocks of enabled output channels and sent AES67 channels in
node order, then the RTP payloads. -/
def State.comparedBytes (s : State) : Bytes :=
  let tdm := ((s.runningOf Ty.tdmCh).filter fun id => 1024 ≤ nodeIdx id).map fun id => (id, 0)
  let aes := ((s.runningOf Ty.aes).filter fun n => s.sends n).flatMap fun n => (List.range (s.parN n 4)).map fun c => (n, c)
  let insert (l : List (Nat × Nat)) (x : Nat × Nat) : List (Nat × Nat) :=
    (l.filter fun y => y.1 ≤ x.1) ++ [x] ++ l.filter fun y => x.1 < y.1
  let order := (tdm ++ aes).foldl insert []
  (order.flatMap fun x => (s.inputBlock x.1 x.2).flatMap (leSigned 4)) ++ s.pair.rtpOut

/-- Compare mode: the standby sends its CRC of the block, the primary keeps its own. -/
def State.compareBlock (s : State) : State :=
  let p := s.pair
  let s' := { s with pair := { p with rtpOut := [] } }
  if p.compareMode = 0 ∨ p.state ≠ 3 then s'
  else
    let crc := crc32c s.comparedBytes
    if p.role = 2 then s'.sendPacket 0 32 (.compare s.time.block crc)
    else { s' with pair := { s'.pair with ownCrc := ((s.time.block, crc) :: p.ownCrc).take 16 } }

/-- The end of a block for the GPIO inputs: one event for each with selected edges (R570). -/
def State.gpioBlock (s : State) : State :=
  let one (s : State) (x : Nat × Bool × Nat × Nat) : State :=
    s.raise 8 0x1700 (mkNode Ty.gpio x.1)
      (evData [(0, leBytes 1 x.1), (1, leBytes 1 (ofBool x.2.1)), (2, leBytes 2 (satN 0xFFFF x.2.2.2)),
        (8, leBytes 8 x.2.2.1)])
  s.gpio.edges.foldl one { s with gpio := { s.gpio with edges := [] } }

/-- Every engine, its samples done, ends its block; figures and latches of the block follow. -/
def State.endBlock (io : BlockIn) (s : State) : State :=
  let s := s.frontBlock io
  let active := s.power.state == .active
  let s := if active then ((s.runningOf Ty.aes).filter fun n => !s.sends n).foldl State.aesInBlock s else s
  let s := if active then ((s.runningOf Ty.kernel).map nodeIdx).foldl (fun s i => s.krnFinish i) s else s
  let s := s.maskMidway
  let s := s.galBlock.renBlock.stageBlock.captureBlock.voiceBlock.ethBlock.linkBlock.queueBlock
  s.injectBlock.applyHolds.compareBlock.faultBlock.gpioBlock

/-! ### The beginning of a period -/

/-- The block boundary itself: buffers change hands, block number and clocks move on (R14, R16, R131). -/
def State.swapBlocks (s : State) : State :=
  let t := s.time
  { s with
    rd := s.wr.map fun x => (x.1, x.2.1, x.2.2.reverse), wr := []
    time := { t with block := t.block + 1, pos := 0, ticks := if s.behind then t.ticks else t.ticks + 16 } }

/-- Due samples of network-time actions that are not frozen follow the clock (R144). -/
def State.redate (s : State) : State :=
  let one (a : Action) : Action :=
    match a.netTime with
    | some t => if a.frozen then a else { a with due := max s.m (s.dueSample t) }
    | none => a
  ({ s with time := { s.time with actions := s.time.actions.map one } }).syncSlabs

def State.startKernels (s : State) : State :=
  if s.power.state == .active then ((s.runningOf Ty.kernel).map nodeIdx).foldl (fun s i => s.krnStart i) s else s

/-- Levels at the balls of GPIO inputs. -/
def State.sampleGpio (io : BlockIn) (s : State) : State :=
  { s with gpio := { s.gpio with inputs := io.gpio.foldl (fun l x => setA x.1 x.2 l) s.gpio.inputs } }

/-- The end of a second of media time for PAIR_MISMATCH's latch (R474). -/
def State.secondEnd (s : State) : State := if s.time.block % 3000 == 0 then s.mismatchSecond else s

/-- What the new block begins with. DESIGN CHOICE (log 57): crosspoint changes are resolved before a NODE_ENABLE or NODE_DISABLE
with the same boundary puts their port into or out of the run list, so against the ports that ran before it; R197 does not
order the two. -/
def State.beginBlock (io : BlockIn) (s : State) : State :=
  let s := s.timeBoundary.redate.freezeActions
  let s := s.sliceBoundary.restoreBoundary.retireStep
  let s := s.zonesAtBoundary s.m
  let s := s.applyPend s.m
  let s := s.updateRun s.m
  io.found.foldl State.contain (s.startKernels.sampleGpio io).secondEnd

/-- A strobe of the engines: the period that ends, with the decisions of its record, and the one that begins; the primary of a join
takes its cut there. -/
def State.strobe (io : BlockIn) (s : State) : State :=
  ((((s.reach s.blockEnd).applyRecords.endBlock io).swapBlocks).beginBlock io).sendCut

/-- A block of real time passes without the engines. -/
def State.passBlock (s : State) : State :=
  { s with time := { s.time with ticks := s.time.ticks + 16, net := s.time.net + 16 * netPerSmp } }

/-- The standby of a join processes stored blocks, and waits for them (R456). -/
def State.catchesUp (s : State) : Bool := s.pairEn && s.pair.role == 2 && s.pair.state == 2

/-- BLOCK_STROBE (R16): a device without its rails only counts local time; the standby of a join stores its input once the
primary's records arrive (R456). -/
def execBlockStrobe (io : BlockIn) (s : State) : Host.Outcome State Fault Refusal :=
  if !s.awake then .next { s with time := { s.time with ticks := s.time.ticks + 16 } }
  else if s.catchesUp then
    let keep := s.pair.cutDone || !s.pair.records.isEmpty
    .next (State.passBlock { s with pair := { s.pair with stored := if keep then s.pair.stored ++ [io] else s.pair.stored } })
  else .next (s.strobe io)

/-- What the device does by itself when no command waits: the standby of a join processes the next stored block whose record it
has, faster than the strobe (R456; log 30). Otherwise nothing. -/
def State.idle (s : State) : State :=
  match s.pair.stored with
  | io :: rest =>
    if s.behind && s.time.block < s.pair.recordGot then State.strobe io { s with pair := { s.pair with stored := rest } } else s
  | [] => s

/-! ### Heartbeat instants (R465) -/

/-- HEARTBEAT_INSTANT: an instant past the block's end with no strobe since is a missed deadline. -/
def execHeartbeatInstant (s : State) : Host.Outcome State Fault Refusal :=
  let due := s.pair.nextBeat
  if s.beating then
    let missed := decide (s.blockEnd < due)
    let s := (s.reach due).beat missed
    .next { s with pair := { s.pair with nextBeat := due + 4 } }
  else .next s

end Sys2Proof.Machine
end

