-- ==== Sys2Proof/Machine/Instants.lean ====
section
/-! DEFINITION. Instants that the engines reach by themselves: ends of fades, ramps and windows, periods, frames, edges. Each
row brings the engines to its instant and has its effect there; a row whose instant does not lie in this strobe period changes
nothing (log 1). -/

namespace Sys2Proof.Machine

/-- The engines process the data path. -/
def State.isActive (s : State) : Bool := s.power.state == .active

/-- An effect at an instant of this strobe period. -/
def State.instant (due : Option Nat) (f : Nat → State → State) (s : State) : State :=
  match due with
  | some d => if s.awake && d < s.blockEnd then f d (s.reach d) else s
  | none => s

/-! ### Slave frames (R162, R165, R166) -/

/-- TDM_FRAME: a frame-start edge `phase` ns before the boundary of media sample m, with the bit clocks of the frame it opens. -/
def execTdmFrame (port : Fin 32) (bits : Nat) (edge : FrameEdge) (s : State) : Host.Outcome State Fault Refusal :=
  let at_ := if edge.phase = 0 then edge.m else edge.m - 1
  if s.awake && s.m ≤ edge.m && 16 * s.time.block ≤ at_ && edge.m ≤ s.blockEnd && s.tdmPar port 1 == 0 then
    let s := s.reach at_
    .next (s.tdmFrameIn ((s.tdm? port).getD { port := port }) bits (s.frameSample edge.m edge.phase) edge.phase)
  else .next s

/-! ### Microphones (R174, R175, R178) -/

/-- PDM_VALID. -/
def execPdmValid (mic : Fin 256) (s : State) : Host.Outcome State Fault Refusal :=
  match s.pdmValidDue mic.val with
  | some (kind, d) => .next (s.instant (some d) fun d s => s.pdmValid mic.val kind d)
  | none => .next s

/-- HAND_OVER_COMPLETE. -/
def execHandOverComplete (mic : Fin 256) (s : State) : Host.Outcome State Fault Refusal :=
  .next (s.instant (s.handOverDue mic.val) fun d s => s.handOver mic.val d)

/-- The first sample after a response fade. -/
def State.responseFadeDue (s : State) (i : Nat) : Option Nat :=
  match s.mic? i with
  | some x => x.now.fade.map fun fd => fd.start + fd.len
  | none => none

/-- RESPONSE_SWAP. -/
def execResponseSwap (mic : Fin 256) (s : State) : Host.Outcome State Fault Refusal :=
  .next (s.instant (s.responseFadeDue mic.val) fun d s => s.micFadeEnd mic.val d)

/-! ### Mixer, renderer and loudspeaker stage -/

/-- RAMP_END (R195, R198): after the sample in which the ramp reaches its target the entry is stable. -/
def execRampEnd (out inp : Nat) (s : State) : Host.Outcome State Fault Refusal :=
  .next (s.instant (s.rampEndDue out inp) fun d s => (s.reach (d + 1)).rampEnd out inp)

/-- GEOMETRY_RECORD_START (R225). -/
def execGeometryRecordStart (obj : Nat) (s : State) : Host.Outcome State Fault Refusal :=
  .next (if s.running (objId obj) then s.instant (s.recordDue obj) fun d s => s.startPending obj d else s)

/-- FADING_SLOT_FREE (R227): at a block boundary. -/
def execFadingSlotFree (obj spk : Nat) (s : State) : Host.Outcome State Fault Refusal :=
  .next (if s.isActive && s.time.pos == 0 then s.freeFading obj spk else s)

/-- SPK_BANK_SWAP (R261). -/
def execSpkBankSwap (spk : Nat) (s : State) : Host.Outcome State Fault Refusal :=
  .next (if s.isActive then s.instant (s.bankFadeDue spk) fun d s => s.bankFadeEnd spk d else s)

/-- DELAY_XFADE_END (R247). -/
def execDelayXfadeEnd (spk : Nat) (s : State) : Host.Outcome State Fault Refusal :=
  .next (if s.isActive then s.instant (s.delayFadeDue spk) fun _ s => s.delayFadeEnd spk else s)

/-! ### Beams and cancellers (R273 to R283) -/

/-- MIC_FILTER_FADE_END (R273). -/
def execMicFilterFadeEnd (beam : Nat) (s : State) : Host.Outcome State Fault Refusal :=
  .next (if s.isActive then s.instant (s.filterFadeDue beam) fun _ s => s.filterFadeEnd beam else s)

/-- ADAPTATION_PERIOD (R278, R284). -/
def execAdaptationPeriod (beam : Nat) (s : State) : Host.Outcome State Fault Refusal :=
  .next (if s.isActive && s.periodDue beam then s.adapt beam else s)

/-- AEC_DIVERGED (R281): the 32nd worse period in a row has ended. -/
def execAecDiverged (beam : Nat) (s : State) : Host.Outcome State Fault Refusal :=
  .next (if s.isActive && s.time.pos == 0 && s.aecOn beam && 32 ≤ (s.beamDyn beam).worse then s.diverge beam else s)

/-- AEC_REF_IDLE (R279): idle from the block after the 600th quiet one. -/
def execAecRefIdle (beam ref : Nat) (s : State) : Host.Outcome State Fault Refusal :=
  let x := s.beamDyn beam
  let c := x.ref ref
  .next (if s.isActive && s.aecOn beam && ref < 8 && (s.refZone beam ref).isSome && 600 ≤ c.quiet && !c.idle then
    refIdleEvent beam ref 1 (16 * s.time.block) (s.setBeam (x.setRef ref { c with idle := true }))
  else s)

/-- DOUBLE_TALK_END (R280): DT_HOLD has passed. -/
def execDoubleTalkEnd (beam : Nat) (s : State) : Host.Outcome State Fault Refusal :=
  .next (if s.isActive then
    s.instant (s.beamDyn beam).dtUntil fun _ s => s.setBeam { s.beamDyn beam with dtUntil := none }
  else s)

/-- RECONVERGENCE_END (R282): AEC_CONVERGED may follow. -/
def execReconvergenceEnd (beam ref : Nat) (s : State) : Host.Outcome State Fault Refusal :=
  .next (if s.isActive then
    s.instant ((s.beamDyn beam).ref ref).reconv fun _ s =>
      let x := s.beamDyn beam
      s.setBeam (x.setRef ref { x.ref ref with reconv := none, awaitConv := true })
  else s)

/-- AEC_RECONVERGE (R283): a change reaches the canceller. -/
def execAecReconverge (beam ref : Nat) (s : State) : Host.Outcome State Fault Refusal :=
  match ((s.beamDyn beam).ref ref).due with
  | some (d, cause, clear) =>
    .next (if s.isActive then s.instant (some d) fun d s => s.reconverge beam ref cause d clear else s)
  | none => .next s

/-- LOCATOR_CHANGE (R275): the candidate has led for N blocks. -/
def execLocatorChange (group : Fin 16) (s : State) : Host.Outcome State Fault Refusal :=
  let l := s.locGroup group.val
  match l.cand with
  | some (c, n) =>
    .next (if s.isActive && l.blocks ≤ n then s.setLeader group.val (some c) (16 * s.time.block) else s)
  | none => .next s

/-! ### Voice channels (R330, R348) -/

/-- CALL_SEND_FRAME: the oldest gathered frame goes out. -/
def execCallSendFrame (ch : Nat) (s : State) : Host.Outcome State Fault Refusal :=
  .next (if s.isActive && s.running (callId ch) then s.instant (s.callSendDue ch) fun _ s => s.callSend ch else s)

/-- VOICE_DIGIT_DONE: the off time ends. -/
def execVoiceDigitDone (ch : Nat) (s : State) : Host.Outcome State Fault Refusal :=
  .next (if s.isActive && s.running (callId ch) then s.instant (s.digitDoneDue ch) fun d s => s.digitEnd ch d else s)

/-! ### GPIO (R570) -/

/-- An edge to this level is one that EDGE_EVENT selects on an enabled input. -/
def State.selectsEdge (s : State) (g : Nat) (level : Bool) : Bool :=
  let id := mkNode Ty.gpio g
  s.running id && s.parN id 1 == 0 && bit (s.parN id 5) (if level then 0 else 1)

/-- A selected edge, with the further ones of its block; the block's end reports the first (R570). -/
def Gpio.edge (g : Nat) (level : Bool) (m further : Nat) (x : Gpio) : Gpio :=
  { inputs := setA g level x.inputs
    edges := match getA g x.edges with
      | some (l, at_, n) => setA g (l, at_, n + 1 + further) x.edges
      | none => x.edges ++ [(g, level, m, further)] }

/-- GPIO_EDGE: the m of the first edge is that of the row (log 39). -/
def execGpioEdge (g : Fin 32) (level : Bool) (further : Nat) (s : State) : Host.Outcome State Fault Refusal :=
  .next (if s.awake && s.selectsEdge g.val level then { s with gpio := s.gpio.edge g.val level s.m further } else s)

end Sys2Proof.Machine
end

