-- ==== Sys2Proof/Machine/Registers.lean ====
section
/-! DEFINITION. Accesses of the host that are not a row of their own: register writes (R537 to R546), BAR2 (R547), and the QSPI
target (R548 to R551). -/

namespace Sys2Proof.Machine

/-! ### The map (R541) -/

/-- Blocks of BAR0. -/
inductive RegBlock where
  | identity
  | reset
  | boot
  | power
  | mailbox (n : Nat)
  | events
  | queue (q : Nat)
  | pair
  | msix
  | debug
  | unmapped
  deriving DecidableEq, Repr

/-- The block of a 32-bit register; an offset that the map's ranges hold is defined, though its fields be reserved (log 40). -/
def regBlock (off : Nat) : RegBlock :=
  if off < 0x20 then .identity
  else if (0x100 ≤ off && off < 0x10C) || (0x110 ≤ off && off < 0x150) then .reset
  else if (0x200 ≤ off && off < 0x218) || (0x220 ≤ off && off < 0x248) then .boot
  else if 0x400 ≤ off && off < 0x418 then .power
  else if 0x1000 ≤ off && off < 0x1800 then
    if off % 0x100 < 8 then .mailbox ((off - 0x1000) / 0x100) else .unmapped
  else if (0x2000 ≤ off && off < 0x204C) || (0x2400 ≤ off && off < 0x3000) then .events
  else if 0x3000 ≤ off && off < 0x3800 then .queue ((off - 0x3000) / 0x80)
  else if 0x4000 ≤ off && off < 0x401C then .pair
  else if (0x8000 ≤ off && off < 0x8200) || (0x9000 ≤ off && off < 0x9008) then .msix
  else if 0xF000 ≤ off && off < 0x10000 then .debug
  else .unmapped

/-- The always-on set (R551). -/
def alwaysOn (off : Nat) : Bool := off < 8 || (0x100 ≤ off && off < 0x150) || (0x400 ≤ off && off < 0x418)


/-- The blocks that answer only while CODE is 0x07 (R538). -/
def RegBlock.needsReady : RegBlock → Bool
  | .mailbox _ => true
  | .events => true
  | .queue _ => true
  | _ => false

/-- The 64-bit data registers. -/
def isDataReg (off : Nat) : Bool := 0x3000 ≤ off && off < 0x3800 && (off % 0x80 == 0x40 || off % 0x80 == 0x48)

/-! ### What a read returns (R10, R13, R537 to R547) -/

def word (n : Nat) : Word := BitVec.ofNat 32 n

/-- The low or the high half of a 64-bit value, by the offset of its register. -/
def half (off base n : Nat) : Word := word (if off = base then n else n / 0x100000000)

/-- Identity registers (R1, R542). -/
def State.readIdentity (s : State) (off : Nat) : Word :=
  let i := s.id
  let v := s.boot.running
  if off = 0 then 0x88004556
  else if off = 4 then 0x0142
  else if off = 8 then (if s.ready then word (v.major + 0x100 * v.minor + 0x10000 * v.build) else 0)
  else if off = 0xC then
    word (ofBool i.straps.pairEn + 2 * ofBool i.straps.pairSideB + 4 * ofBool i.straps.download + 8 * ofBool i.straps.hostQspi)
  else if off = 0x10 ∨ off = 0x14 then half off 0x10 Config.dieUid
  else if off = 0x18 then s.power.scratch
  else
    word (ofBool i.errPartial + 2 * ofBool i.errUnmapped + 4 * ofBool i.errNotReady + 8 * ofBool i.errQspi
      + 0x10000 * i.errOffset)

/-- RST_CAUSE and RST_LOG (R513); RST_CTRL and CLEAR are write-only. -/
def State.readReset (s : State) (off : Nat) : Word :=
  let p := s.power
  if off = 0x104 then word (p.lastCause + 0x100 * p.lastDetail + 0x10000 * p.log.length)
  else if 0x110 ≤ off then
    let e := p.log.getD ((off - 0x110) / 8) (0, 0, 0)
    word (if off % 8 = 0 then e.1 + 0x100 * e.2.1 else e.2.2)
  else 0

/-- Boot registers (R525); key data and key control are write-only. -/
def State.readBoot (s : State) (off : Nat) : Word :=
  let b := s.boot
  if off = 0x200 then word (b.code + 0x100 * ofBool b.fallback + 0x200 * ofBool b.boardOpen + 0x400 * b.source)
  else if off = 0x204 then b.detail
  else if off = 0x208 then word b.dlOffset
  else if off = 0x20C then word b.dlLength
  else if off = 0x210 then word (4 * ofBool b.dlBusy)
  else if off = 0x214 then word (b.updState + 0x100 * b.updReason)
  else if off = 0x244 then word (ofBool b.keyLocked + 2 * ofBool b.keyRefused)
  else 0

/-- Power status registers (R514); PMU_WAKE is write-only. In Sleep PMU_STATUS.STATE has its reset value (log 55). -/
def State.readPower (s : State) (off : Nat) : Word :=
  let p := s.power
  if off = 0x400 then
    word ((if p.change.isSome then 2 else if p.state == .standby then 1 else 0) + 4 * ofBool p.throttled.isSome
      + 8 * ofBool p.thermWarn)
  else if off = 0x404 then word (sumN ((List.range 16).map fun r => if (s.latch (64 + r) 0).count = 0 then 0 else 2 ^ r))
  else if off = 0x408 then BitVec.ofNat 32 (leNat (leSigned 2 p.tj))
  else if off = 0x40C then word (match p.rails[0]? with | some r => r.voltage | none => 0)
  else if off = 0x414 then word s.pmuSeconds
  else 0

def SessState.code : SessState → Nat
  | .closed => 0
  | .awaiting => 1
  | .opened => 2

/-- MBX_STATUS (R45); MBX_DOORBELL is write-only. -/
def State.readMailbox (s : State) (n off : Nat) : Word :=
  let b := s.box n
  if off % 0x100 = 4 then
    word (ofBool b.busy + 2 * ofBool b.respReady + 4 * ofBool b.dbOverrun + 8 * b.sess.code + 0x100 * b.keySlot)
  else 0

/-- Ring and interrupt registers, and the internal ring while INTERNAL is 1 (R116, R541). -/
def State.readEvents (s : State) (off : Nat) : Word :=
  let q := s.evq
  if 0x2400 ≤ off then
    let i := (off - 0x2400) / 48
    match q.internal, getA i q.ring with
    | true, some e => word (field e.bytes ((off - 0x2400) % 48) 4)
    | _, _ => 0
  else if off = 0x2000 then word (ofBool q.enable + 2 * ofBool q.internal + 4 * q.sizeLog2)
  else if off = 0x2008 ∨ off = 0x200C then half off 0x2008 q.base
  else if off = 0x2010 then q.head
  else if off = 0x2014 then q.tail
  else if off = 0x2018 ∨ off = 0x201C then half off 0x2018 q.resume
  else if off = 0x2020 ∨ off = 0x2024 then half off 0x2020 q.nextSeq
  else if off = 0x2030 then word (q.modCount + 0x10000 * q.modTime)
  else if off = 0x2038 then
    word (ofBool q.active + 2 * ofBool q.full + 4 * ofBool q.gap.isSome + 8 * ofBool q.configErr + 16 * ofBool q.tailErr)
  else if off = 0x2040 then q.intStatus
  else if off = 0x2044 then q.intEnable
  else if off = 0x2048 then word (ofBool q.pinEn)
  else 0

/-- Host queue registers without side effect (R397). -/
def State.readQueueReg (s : State) (q r : Nat) : Word :=
  let h := s.queue q
  if r = 4 then word (h.status q)
  else if r = 8 then word h.level
  else if r = 0xC then word (if q < 8 then (h.packets.headD []).length else 0)
  else if r = 0x10 then word h.spoil
  else if r = 0x14 then word h.flushed
  else if r = 0x18 then word h.high
  else if r = 0x1C then word h.low
  else if r = 0x20 then h.winHead
  else if r = 0x24 then h.winTail
  else 0

/-- Pair status registers (R543). -/
def State.readPairReg (s : State) (off : Nat) : Word :=
  let p := s.pair
  if off = 0x4000 then
    word (p.role + 4 * p.state + 32 * p.holder + 128 * ofBool p.linkHb + 256 * ofBool p.pinHb)
  else if off = 0x4004 then word s.linkMbps
  else if off = 0x4008 ∨ off = 0x400C then half off 0x4008 p.lastTakeover
  else if off = 0x4010 then p.changes
  else if off = 0x4014 then word (ofBool p.alertRole + 2 * ofBool p.alertState + 4 * ofBool p.alertToken)
  else 0

/-- MSI-X table and pending bit array: over QSPI both read 0 (R545). -/
def State.readMsix (s : State) (off : Nat) : Word :=
  if off < 0x9000 then s.evq.msixTable.getD ((off - 0x8000) / 4) 0 else if off = 0x9000 then s.evq.pba else 0

/-- A whole 32-bit register is read, with its side effects: the value and the state. A read of HQ_DATA removes a word, its upper
half is held for a read of the next offset (R398). -/
def State.readReg (viaQspi : Bool) (off : Nat) (s : State) : Word × State :=
  let b := regBlock off
  if b.needsReady && !s.ready then (0, s.flagAccess off fun i => { i with errNotReady := true })
  else
    match b with
    | .identity => (s.readIdentity off, s)
    | .reset => (s.readReset off, s)
    | .boot => (s.readBoot off, s)
    | .power => (s.readPower off, s)
    | .mailbox n => (s.readMailbox n off, s)
    | .events => (s.readEvents off, s)
    | .queue q =>
      let r := off % 0x80
      if r = 0x40 ∨ r = 0x44 then
        let s' := s.readHqData q (if r = 0x40 then .low 0 else .high 0)
        ((s'.queue q).readValue.setWidth 32, s')
      else (s.readQueueReg q r, s)
    | .pair => (s.readPairReg off, s)
    | .msix => (if viaQspi then 0 else s.readMsix off, s)
    | .debug => (0, s)
    | .unmapped => (0, s.flagAccess off fun i => { i with errUnmapped := true })

/-- The registers of an aligned 64-bit unit that a read touches, each whole: HQ_DATA at once where all 8 bytes are asked for. -/
def State.readPair64 (viaQspi only : Bool) (first count : Nat) (s : State) (off : Nat) : Bytes × State :=
  let touches (o : Nat) : Bool := first < o + 4 && o < first + count && (!only || alwaysOn o)
  let one (o : Nat) (s : State) : Bytes × State :=
    if touches o then let (v, s) := s.readReg viaQspi o; (leBytes 4 v.toNat, s) else (zeros 4, s)
  if off % 0x80 = 0x40 ∧ isDataReg off ∧ first ≤ off ∧ off + 8 ≤ first + count ∧ s.ready ∧ !only then
    let s' := s.readHqData ((off - 0x3000) / 0x80) (.whole 0)
    (leBytes 8 (s'.queue ((off - 0x3000) / 0x80)).readValue.toNat, s')
  else
    let (a, s) := one off s
    let (b, s) := one (off + 4) s
    (a ++ b, s)

/-- A read of BAR0 bytes: aligned units in ascending order, then the bytes asked for (R537, R549). -/
def State.readBar0 (viaQspi only : Bool) (first count : Nat) (s : State) : Bytes × State :=
  let from_ := first / 8 * 8
  let units := (List.range ((first + count + 7) / 8 - from_ / 8)).map fun i => from_ + 8 * i
  let (b, s) := units.foldl (init := (([] : Bytes), s)) fun (b, s) off =>
    let (x, s) := s.readPair64 viaQspi only first count off
    (b ++ x, s)
  ((b.drop (first - from_)).take count, s)

/-- One byte of BAR2: request areas and bulk windows as written, response areas as the device wrote them; before Daluo is ready
only the download window (R538, R547). -/
def State.readBar2 (s : State) (a : Nat) : Byte × State :=
  if s.ready || (s.downloading && 0x20000 ≤ a) then
    (if a < 0x20000 ∧ 0x2000 ≤ a % 0x4000 then (s.box (a / 0x4000)).area.getD (a % 0x4000 - 0x2000) 0 else s.mem.bar2.read a, s)
  else (0, s.flagAccess (a % 65536) fun i => { i with errNotReady := true })

def State.readBytes2 (first count : Nat) (s : State) : Bytes × State :=
  (List.range count).foldl (init := (([] : Bytes), s)) fun (b, s) i =>
    let (x, s) := s.readBar2 (first + i)
    (b ++ [x], s)

/-! ### Registers that the host writes -/

/-- ID_SCRATCH and the W1C bits of ID_ACCESS_ERR (R542); OFFSET stays. -/
def State.writeIdentity (off : Nat) (v : Word) (s : State) : State :=
  if off = 0x18 then { s with power := { s.power with scratch := v } }
  else if off = 0x1C then
    let i := s.id
    { s with id := { i with
      errPartial := i.errPartial && !v.getLsbD 0, errUnmapped := i.errUnmapped && !v.getLsbD 1
      errNotReady := i.errNotReady && !v.getLsbD 2, errQspi := i.errQspi && !v.getLsbD 3 } }
  else s

/-- Boot registers (R525). -/
def State.writeBoot (off : Nat) (v : Word) (s : State) : State :=
  let b := s.boot
  if off = 0x208 then { s with boot := { b with dlOffset := v.toNat % 0x800000 } }
  else if off = 0x20C then { s with boot := { b with dlLength := v.toNat % 0x100000 } }
  else if off = 0x210 then s.writeDlCtrl v
  else if 0x220 ≤ off ∧ off < 0x240 then { s with boot := { b with keyData := b.keyData.set ((off - 0x220) / 4) v } }
  else if off = 0x240 then s.writeKeyCtrl v
  else s

/-- The request that lies in a mailbox's request area (R49): opcode, header payload length, and the request of a doorbell of
this length. -/
def State.requestAt (s : State) (mb length : Nat) : Nat × Nat × Req :=
  let h := s.mem.bar2.readBytes (0x4000 * mb) 16
  (field h 0 2, field h 12 2,
    { flags := BitVec.ofNat 16 (field h 2 2), tag := BitVec.ofNat 32 (field h 4 4), node := BitVec.ofNat 32 (field h 8 4)
      rsvd := BitVec.ofNat 16 (field h 14 2), payload := s.mem.bar2.readBytes (0x4000 * mb + 16) (length - 16) })

/-- A write of MBX_DOORBELL: the device copies the request from its area and runs it (R46, R55). -/
def State.ring (mb : Nat) (v : Word) (s : State) : State :=
  let length := v.toNat % 0x4000
  let (op, hdr, r) := s.requestAt mb length
  let k := doorbellCheck length hdr op
  if h : mb < 8 then
    s.doorbell op ⟨mb, h⟩ fun s =>
      match k, contractOf op with
      | 0, some c => c.checked ⟨mb, h⟩ r s
      | k, _ => s.finish op ⟨mb, h⟩ r ((s.box mb).sess == .opened) false k {}
  else s

def State.writeMailbox (n off : Nat) (v : Word) (s : State) : State :=
  if off % 0x100 = 0 then s.ring n v
  else if v.getLsbD 2 then s.setBox n { s.box n with dbOverrun := false } else s

/-- Causes that still hold set their bits again (R125): an alert of the pair, a readable packet toward the host. -/
def State.holdCauses (s : State) : State :=
  let p := s.pair
  let s := if p.alertRole || p.alertState || p.alertToken then s.setCause 11 else s
  ((List.range 8).filter fun q => !(s.queue q).packets.isEmpty).foldl (fun s q => s.setCause (16 + q)) s

/-- Ring and interrupt registers (R116, R118). -/
def State.writeEvents (off : Nat) (v : Word) (s : State) : State :=
  let q := s.evq
  let low (n : Nat) : Nat := n % 0x100000000
  let rebase (b : Nat) : State :=
    if q.active then (if b = q.base then s else s.setConfigErr) else { s with evq := { q with base := b } }
  if off = 0x2000 then s.writeEvqCtrl v
  else if off = 0x2008 then rebase (q.base - low q.base + v.toNat / 4096 * 4096)
  else if off = 0x200C then rebase (low q.base + 0x100000000 * v.toNat)
  else if off = 0x2014 then s.writeTail v
  else if off = 0x2018 then { s with evq := { q with resume := q.resume - low q.resume + v.toNat } }
  else if off = 0x201C then { s with evq := { q with resume := low q.resume + 0x100000000 * v.toNat } }
  else if off = 0x2030 then
    { s with evq := { q with modCount := v.toNat % 65536, modTime := v.toNat / 65536 } }
  else if off = 0x2038 then
    { s with evq := { q with configErr := q.configErr && !v.getLsbD 3, tailErr := q.tailErr && !v.getLsbD 4 } }
  else if off = 0x2040 then State.holdCauses { s with evq := { q with intStatus := q.intStatus &&& ~~~ v } }
  else if off = 0x2044 then { s with evq := { q with intEnable := v } }
  else if off = 0x2048 then { s with evq := { q with pinEn := v.getLsbD 0 } }
  else s

/-- Host queue registers (R397, R398). -/
def State.writeQueue (q off : Nat) (v : Word) (s : State) : State :=
  let r := off % 0x80
  let h := s.queue q
  if r = 0 then s.writeHqCtrl q v
  else if r = 4 then
    s.setQueueRaw q { h with
      overrun := h.overrun && !v.getLsbD 2, poisonSeen := h.poisonSeen && !v.getLsbD 5
      underrun := h.underrun && !v.getLsbD 6 }
  else if r = 0x18 then s.putQueue q { h with high := v.toNat % 0x40000 }
  else if r = 0x1C then s.putQueue q { h with low := v.toNat % 0x40000 }
  else if r = 0x20 then (if q < 8 then s else s.setQueueRaw q { h with winHead := v })
  else if r = 0x24 then (if 8 ≤ q then s else s.setQueueRaw q { h with winTail := v })
  else if r = 0x40 then s.writeHqData q false (.low v)
  else if r = 0x44 then s.writeHqData q false (.high v)
  else if r = 0x48 then s.writeHqData q true (.low v)
  else if r = 0x4C then s.writeHqData q true (.high v)
  else s

/-- PAIR_ALERT (R543). -/
def State.writePair (off : Nat) (v : Word) (s : State) : State :=
  let p := s.pair
  if off = 0x4014 then
    { s with pair := { p with
      alertRole := p.alertRole && !v.getLsbD 0, alertState := p.alertState && !v.getLsbD 1
      alertToken := p.alertToken && !v.getLsbD 2 } }
  else s

/-- A pending message that masking no longer holds goes out (R125, log 38). -/
def State.sendPending (s : State) (n : Nat) : State :=
  let q := s.evq
  if q.holdsVector n || !q.msixEnable || !q.pba.getLsbD n then s
  else State.emit { s with evq := { q with pba := q.pba &&& ~~~ (1#32 <<< n) } } (.msix n)

/-- A word of the MSI-X table; unmasking a vector sends its pending message (R545). -/
def State.writeMsix (off : Nat) (v : Word) (s : State) : State :=
  if 0x9000 ≤ off then s
  else
    let w := (off - 0x8000) / 4
    State.sendPending { s with evq := { s.evq with msixTable := s.evq.msixTable.set w v } } (w / 4)

/-- Message Control of the MSI-X capability: bit 15 enables, bit 14 masks every vector (R536, PCIe specification, log 38). -/
def State.writeMsixControl (v : Nat) (s : State) : State :=
  (List.range 32).foldl State.sendPending
    { s with evq := { s.evq with msixEnable := v.testBit 15, msixMask := v.testBit 14 } }

/-- A whole 32-bit register is written. -/
def State.writeReg (viaQspi : Bool) (off : Nat) (v : Word) (s : State) : State :=
  let b := regBlock off
  if b.needsReady && !s.ready then s.flagAccess off fun i => { i with errNotReady := true }
  else
    match b with
    | .identity => s.writeIdentity off v
    | .reset => if off = 0x100 then s.writeRstCtrl v else if off = 0x108 then s.writeRstLog v else s
    | .boot => s.writeBoot off v
    | .power => if off = 0x410 then s.writePmuWake v viaQspi else s
    | .mailbox n => s.writeMailbox n off v
    | .events => s.writeEvents off v
    | .queue q => s.writeQueue q off v
    | .pair => s.writePair off v
    | .msix => if viaQspi then s else s.writeMsix off v
    | .debug => s
    | .unmapped => s.flagAccess off fun i => { i with errUnmapped := true }

/-! ### Accesses (R537, R547, R549) -/

/-- The bytes that an access writes: offset and value. -/
def accessBytes (a : Access) : List (Nat × Byte) :=
  ((List.range a.data.length).filter fun i => a.enables.getD i false).map fun i => (a.offset + i, a.data.getD i 0)

def wordOf (b : Bytes) : Word := BitVec.ofNat 32 (leNat b)

/-- A 32-bit unit of BAR0: whole, in part, or not touched; where there is no register, no part of one is written (log 40). Only the always-on set answers when `only` holds (R551). -/
def State.writeUnit (viaQspi only : Bool) (bytes : List (Nat × Byte)) (s : State) (off : Nat) : State :=
  let got := bytes.filter fun x => off ≤ x.1 && x.1 < off + 4
  if got.isEmpty || (only && !alwaysOn off) then s
  else if got.length = 4 then s.writeReg viaQspi off (wordOf (got.map (·.2)))
  else
    let b := regBlock off
    if b = .debug then s
    else if b = .unmapped then s.flagAccess off fun i => { i with errUnmapped := true }
    else s.flagAccess off fun i => { i with errPartial := true, errNotReady := i.errNotReady || (b.needsReady && !s.ready) }

/-- HQ_DATA or HQ_DATA_LAST of queue q, all 8 bytes at once. -/
def State.writePushed (off : Nat) (w : BitVec 64) (s : State) : State :=
  if s.ready then s.writeHqData ((off - 0x3000) / 0x80) (off % 0x80 == 0x48) (.whole w)
  else s.flagAccess off fun i => { i with errNotReady := true }

/-- An aligned 64-bit unit of BAR0: one access to a whole data register, else its two halves, the lower first. -/
def State.writePair64 (viaQspi only : Bool) (bytes : List (Nat × Byte)) (s : State) (off : Nat) : State :=
  let got := bytes.filter fun x => off ≤ x.1 && x.1 < off + 8
  if isDataReg off && got.length = 8 then
    if only then s else s.writePushed off (BitVec.ofNat 64 (leNat (got.map (·.2))))
  else s.writeUnit viaQspi only bytes off |>.writeUnit viaQspi only bytes (off + 4)

/-- BAR0: aligned units in ascending order. -/
def State.writeBar0 (viaQspi only : Bool) (bytes : List (Nat × Byte)) (s : State) : State :=
  let units := (bytes.map fun x => x.1 / 8 * 8).eraseDups
  units.foldl (State.writePair64 viaQspi only bytes) s

/-- One byte of BAR2: response areas ignore writes; the download window is open during a download (R538, R547). -/
def State.writeBar2 (s : State) (x : Nat × Byte) : State :=
  if s.ready || (s.downloading && 0x20000 ≤ x.1) then
    if x.1 < 0x20000 ∧ 0x2000 ≤ x.1 % 0x4000 then s
    else { s with mem := { s.mem with bar2 := s.mem.bar2.writeBytes x.1 [x.2] } }
  else s.flagAccess (x.1 % 65536) fun i => { i with errNotReady := true }

/-- The QSPI target reaches only the always-on set: in Sleep, and while the host is attached over PCIe (R534, R551). -/
def State.qspiLimited (s : State) : Bool := s.power.state == .sleep || !s.id.straps.hostQspi

/-- REGISTER_WRITE: a write access of the host over PCIe or QSPI (R44, R534, R549). -/
def execRegisterWrite (a : Access) (s : State) : Host.Outcome State Fault Refusal :=
  let bytes := accessBytes a
  let pcie := s.awake && !s.id.straps.hostQspi
  match a.space with
  | .msixControl =>
    .next (if pcie && a.offset == 0 && a.enables == [true, true] then s.writeMsixControl (leNat (a.data.take 2)) else s)
  | .bar0 => .next (if pcie then s.writeBar0 false false (bytes.filter fun x => x.1 < 0x10000) else s)
  | .bar2 => .next (if pcie then (bytes.filter fun x => x.1 < 0x100000).foldl State.writeBar2 s else s)
  | .qspi =>
    if s.power.state == .down then .next s
    else
      let s' := s.writeBar0 true s.qspiLimited (bytes.filter fun x => x.1 < 0x10000)
      let win := (bytes.filter fun x => 0x100000 ≤ x.1 && x.1 < 0x200000).map fun x => (x.1 - 0x100000, x.2)
      .next (if s.qspiLimited then s' else win.foldl State.writeBar2 s')

/-- A read access of the host: what it returns, and what it leaves (R44, R534, R538, R549, R551). The table has no row for it but
HQ_DATA_READ; it states what every register reads. -/
def State.readAccess (space : Space) (first count : Nat) (s : State) : Bytes × State :=
  let pcie := s.awake && !s.id.straps.hostQspi
  match space with
  | .msixControl =>
    ((padTo count (leBytes 2 (0x8000 * ofBool s.evq.msixEnable + 0x4000 * ofBool s.evq.msixMask + 31))).take count, s)
  | .bar0 => if pcie then s.readBar0 false false first count else (zeros count, s)
  | .bar2 => if pcie then s.readBytes2 first count else (zeros count, s)
  | .qspi =>
    if s.power.state == .down || 0x200000 ≤ first then (zeros count, s)
    else if first < 0x10000 then s.readBar0 true s.qspiLimited first count
    else if 0x100000 ≤ first ∧ !s.qspiLimited then s.readBytes2 (first - 0x100000) count
    else (zeros count, s)

/-! ### QSPI instructions (R548, R550) -/

/-- The byte of the read status instruction. -/
def State.qspiStatus (s : State) : Byte :=
  let i := s.id
  let sleep := s.power.state == .sleep
  BitVec.ofNat 8 (ofBool (s.ready && !sleep) + 2 * ofBool (i.errPartial || i.errUnmapped || i.errNotReady || i.errQspi)
    + 4 * ofBool sleep + 8 * ofBool s.intN)

/-- QSPI_READ_STATUS: answered in Sleep and in every boot step. -/
def execQspiReadStatus (s : State) : Host.Outcome State Fault Refusal :=
  .next (if s.power.state == .down then s else s.emit (.qspiStatus s.qspiStatus))

/-- The instructions of R548. -/
def qspiInstructions : List Byte := [0x02, 0xA2, 0xD2, 0x32, 0x38, 0x0B, 0x3B, 0xBB, 0x6B, 0xEB, 0x05]

/-- QSPI_INVALID_INSTRUCTION: no rule gives it an address, so the OFFSET it leaves is a free value (log 41). -/
def execQspiInvalidInstruction (insn : Byte) (s : State) : Host.Outcome State Fault Refusal :=
  if qspiInstructions.contains insn || s.power.state == .down then .next s
  else
    let (v, s) := s.drawFree
    .next (s.flagAccess v fun i => { i with errQspi := true })

end Sys2Proof.Machine
end

