-- ==== Sys2Proof/Machine/Dispatch.lean ====
section
/-! DEFINITION. One arm per command of the table: a direct call of its meaning. -/

namespace Sys2Proof.Machine

def exec (i : Instr) (s : State) : Host.Outcome State Fault Refusal :=
  match i with
  | .sysGetId mb r => Sys2Proof.Machine.execSysGetId mb r s
  | .sessionOpen mb r => Sys2Proof.Machine.execSessionOpen mb r s
  | .sessionProve mb r => Sys2Proof.Machine.execSessionProve mb r s
  | .sessionClose mb r => Sys2Proof.Machine.execSessionClose mb r s
  | .sysCapacity mb r => Sys2Proof.Machine.execSysCapacity mb r s
  | .evtSourceSet mb r => Sys2Proof.Machine.execEvtSourceSet mb r s
  | .evtLatchRead mb r => Sys2Proof.Machine.execEvtLatchRead mb r s
  | .evtLatchClear mb r => Sys2Proof.Machine.execEvtLatchClear mb r s
  | .nodeCreate mb r => Sys2Proof.Machine.execNodeCreate mb r s
  | .nodeDestroy mb r => Sys2Proof.Machine.execNodeDestroy mb r s
  | .nodeSet mb r => Sys2Proof.Machine.execNodeSet mb r s
  | .nodeGet mb r => Sys2Proof.Machine.execNodeGet mb r s
  | .nodeConnect mb r => Sys2Proof.Machine.execNodeConnect mb r s
  | .nodeDisconnect mb r => Sys2Proof.Machine.execNodeDisconnect mb r s
  | .nodeEnable mb r => Sys2Proof.Machine.execNodeEnable mb r s
  | .nodeDisable mb r => Sys2Proof.Machine.execNodeDisable mb r s
  | .slabOpen mb r => Sys2Proof.Machine.execSlabOpen mb r s
  | .slabWrite mb r => Sys2Proof.Machine.execSlabWrite mb r s
  | .slabCommit mb r => Sys2Proof.Machine.execSlabCommit mb r s
  | .slabAbort mb r => Sys2Proof.Machine.execSlabAbort mb r s
  | .timeSchedule mb r => Sys2Proof.Machine.execTimeSchedule mb r s
  | .timeCancel mb r => Sys2Proof.Machine.execTimeCancel mb r s
  | .timeGet mb r => Sys2Proof.Machine.execTimeGet mb r s
  | .timeConfig mb r => Sys2Proof.Machine.execTimeConfig mb r s
  | .timePortSet mb r => Sys2Proof.Machine.execTimePortSet mb r s
  | .timeSet mb r => Sys2Proof.Machine.execTimeSet mb r s
  | .timePinSet mb r => Sys2Proof.Machine.execTimePinSet mb r s
  | .feResync mb r => Sys2Proof.Machine.execFeResync mb r s
  | .galXpWrite mb r => Sys2Proof.Machine.execGalXpWrite mb r s
  | .galXpBulk mb r => Sys2Proof.Machine.execGalXpBulk mb r s
  | .galXpRead mb r => Sys2Proof.Machine.execGalXpRead mb r s
  | .galProfileSet mb r => Sys2Proof.Machine.execGalProfileSet mb r s
  | .galStatus mb r => Sys2Proof.Machine.execGalStatus mb r s
  | .renConfig mb r => Sys2Proof.Machine.execRenConfig mb r s
  | .renPosBatch mb r => Sys2Proof.Machine.execRenPosBatch mb r s
  | .renPosQueue mb r => Sys2Proof.Machine.execRenPosQueue mb r s
  | .renFootprintRead mb r => Sys2Proof.Machine.execRenFootprintRead mb r s
  | .spkBankLoad mb r => Sys2Proof.Machine.execSpkBankLoad mb r s
  | .spkBankRead mb r => Sys2Proof.Machine.execSpkBankRead mb r s
  | .spkBankClear mb r => Sys2Proof.Machine.execSpkBankClear mb r s
  | .capLocatorConfig mb r => Sys2Proof.Machine.execCapLocatorConfig mb r s
  | .capLocatorRead mb r => Sys2Proof.Machine.execCapLocatorRead mb r s
  | .capAecReset mb r => Sys2Proof.Machine.execCapAecReset mb r s
  | .capAecStatus mb r => Sys2Proof.Machine.execCapAecStatus mb r s
  | .ethIfSet mb r => Sys2Proof.Machine.execEthIfSet mb r s
  | .streamKeySet mb r => Sys2Proof.Machine.execStreamKeySet mb r s
  | .streamStats mb r => Sys2Proof.Machine.execStreamStats mb r s
  | .ethCounters mb r => Sys2Proof.Machine.execEthCounters mb r s
  | .voiceDigitSend mb r => Sys2Proof.Machine.execVoiceDigitSend mb r s
  | .voiceDigitCancel mb r => Sys2Proof.Machine.execVoiceDigitCancel mb r s
  | .voiceLecReset mb r => Sys2Proof.Machine.execVoiceLecReset mb r s
  | .krnImageLoad mb r => Sys2Proof.Machine.execKrnImageLoad mb r s
  | .krnImageClear mb r => Sys2Proof.Machine.execKrnImageClear mb r s
  | .krnImageInfo mb r => Sys2Proof.Machine.execKrnImageInfo mb r s
  | .queueConfig mb r => Sys2Proof.Machine.execQueueConfig mb r s
  | .queueStatus mb r => Sys2Proof.Machine.execQueueStatus mb r s
  | .haulSubmit mb r => Sys2Proof.Machine.execHaulSubmit mb r s
  | .memInfo mb r => Sys2Proof.Machine.execMemInfo mb r s
  | .ashJob mb r => Sys2Proof.Machine.execAshJob mb r s
  | .ashCtxSave mb r => Sys2Proof.Machine.execAshCtxSave mb r s
  | .ashCtxRestore mb r => Sys2Proof.Machine.execAshCtxRestore mb r s
  | .linkPower mb r => Sys2Proof.Machine.execLinkPower mb r s
  | .linkTest mb r => Sys2Proof.Machine.execLinkTest mb r s
  | .linkCounters mb r => Sys2Proof.Machine.execLinkCounters mb r s
  | .pairStatus mb r => Sys2Proof.Machine.execPairStatus mb r s
  | .pairConfig mb r => Sys2Proof.Machine.execPairConfig mb r s
  | .pairSwitch mb r => Sys2Proof.Machine.execPairSwitch mb r s
  | .pwrState mb r => Sys2Proof.Machine.execPwrState mb r s
  | .pwrThrottle mb r => Sys2Proof.Machine.execPwrThrottle mb r s
  | .faultStatus mb r => Sys2Proof.Machine.execFaultStatus mb r s
  | .faultRestore mb r => Sys2Proof.Machine.execFaultRestore mb r s
  | .faultInject mb r => Sys2Proof.Machine.execFaultInject mb r s
  | .keyWrite mb r => Sys2Proof.Machine.execKeyWrite mb r s
  | .keyLock mb r => Sys2Proof.Machine.execKeyLock mb r s
  | .keyFuse mb r => Sys2Proof.Machine.execKeyFuse mb r s
  | .keyInfo mb r => Sys2Proof.Machine.execKeyInfo mb r s
  | .fwStage mb r => Sys2Proof.Machine.execFwStage mb r s
  | .fwActivate mb r => Sys2Proof.Machine.execFwActivate mb r s
  | .deferredCommandApply => Sys2Proof.Machine.execDeferredCommandApply s
  | .rstCtrlWarm v => Sys2Proof.Machine.execRstCtrlWarm v s
  | .rstCtrlFull v => Sys2Proof.Machine.execRstCtrlFull v s
  | .rstLogClear v => Sys2Proof.Machine.execRstLogClear v s
  | .bootDlGo v => Sys2Proof.Machine.execBootDlGo v s
  | .bootDlFinal v => Sys2Proof.Machine.execBootDlFinal v s
  | .bootKeyWrite v => Sys2Proof.Machine.execBootKeyWrite v s
  | .bootKeyLock v => Sys2Proof.Machine.execBootKeyLock v s
  | .pmuWake v viaQspi => Sys2Proof.Machine.execPmuWake v viaQspi s
  | .hqFlush q v => Sys2Proof.Machine.execHqFlush q v s
  | .hqSpoil q v => Sys2Proof.Machine.execHqSpoil q v s
  | .hqDataWrite q d => Sys2Proof.Machine.execHqDataWrite q d s
  | .hqDataLast q d => Sys2Proof.Machine.execHqDataLast q d s
  | .hqDataRead q d => Sys2Proof.Machine.execHqDataRead q d s
  | .hqWinHeadWrite q v => Sys2Proof.Machine.execHqWinHeadWrite q v s
  | .hqWinTailWrite q v => Sys2Proof.Machine.execHqWinTailWrite q v s
  | .evqEnable v => Sys2Proof.Machine.execEvqEnable v s
  | .evqDisable v => Sys2Proof.Machine.execEvqDisable v s
  | .evqTailWrite v => Sys2Proof.Machine.execEvqTailWrite v s
  | .registerWrite a => Sys2Proof.Machine.execRegisterWrite a s
  | .qspiReadStatus => Sys2Proof.Machine.execQspiReadStatus s
  | .qspiInvalidInstruction insn => Sys2Proof.Machine.execQspiInvalidInstruction insn s
  | .blockStrobe io => Sys2Proof.Machine.execBlockStrobe io s
  | .sessionIdleClosed mb => Sys2Proof.Machine.execSessionIdleClosed mb s
  | .openLapse mb => Sys2Proof.Machine.execOpenLapse mb s
  | .slotUnlock slot => Sys2Proof.Machine.execSlotUnlock slot s
  | .slabApplied slab => Sys2Proof.Machine.execSlabApplied slab s
  | .actionFired action => Sys2Proof.Machine.execActionFired action s
  | .ringRecordWrite => Sys2Proof.Machine.execRingRecordWrite s
  | .eventsLost => Sys2Proof.Machine.execEventsLost s
  | .ringCoalesceTimer => Sys2Proof.Machine.execRingCoalesceTimer s
  | .ptpMessageRx p => Sys2Proof.Machine.execPtpMessageRx p s
  | .ptpMessageTx port kind => Sys2Proof.Machine.execPtpMessageTx port kind s
  | .timeStep => Sys2Proof.Machine.execTimeStep s
  | .holdoverEntry => Sys2Proof.Machine.execHoldoverEntry s
  | .ppsInEdge stamp => Sys2Proof.Machine.execPpsInEdge stamp s
  | .ppsInLost => Sys2Proof.Machine.execPpsInLost s
  | .mediaAligned => Sys2Proof.Machine.execMediaAligned s
  | .mediaSourceSlewEnd phase => Sys2Proof.Machine.execMediaSourceSlewEnd phase s
  | .portCalibrated port phy => Sys2Proof.Machine.execPortCalibrated port phy s
  | .tdmFrame port bits edge => Sys2Proof.Machine.execTdmFrame port bits edge s
  | .tdmClockLost port => Sys2Proof.Machine.execTdmClockLost port s
  | .pdmValid mic => Sys2Proof.Machine.execPdmValid mic s
  | .handOverComplete mic => Sys2Proof.Machine.execHandOverComplete mic s
  | .responseSwap mic => Sys2Proof.Machine.execResponseSwap mic s
  | .rampQueueStart => Sys2Proof.Machine.execRampQueueStart s
  | .rampEnd out inp => Sys2Proof.Machine.execRampEnd out inp s
  | .geometryRecordStart obj => Sys2Proof.Machine.execGeometryRecordStart obj s
  | .fadingSlotFree obj spk => Sys2Proof.Machine.execFadingSlotFree obj spk s
  | .posPacketApply => Sys2Proof.Machine.execPosPacketApply s
  | .spkBankSwap spk => Sys2Proof.Machine.execSpkBankSwap spk s
  | .delayXfadeEnd spk => Sys2Proof.Machine.execDelayXfadeEnd spk s
  | .micFilterFadeEnd beam => Sys2Proof.Machine.execMicFilterFadeEnd beam s
  | .adaptationPeriod beam => Sys2Proof.Machine.execAdaptationPeriod beam s
  | .aecDiverged beam => Sys2Proof.Machine.execAecDiverged beam s
  | .aecRefIdle beam ref => Sys2Proof.Machine.execAecRefIdle beam ref s
  | .doubleTalkEnd beam => Sys2Proof.Machine.execDoubleTalkEnd beam s
  | .reconvergenceEnd beam ref => Sys2Proof.Machine.execReconvergenceEnd beam ref s
  | .aecReconverge beam ref => Sys2Proof.Machine.execAecReconverge beam ref s
  | .locatorChange group => Sys2Proof.Machine.execLocatorChange group s
  | .ethFrameRx f => Sys2Proof.Machine.execEthFrameRx f s
  | .ethLink port up => Sys2Proof.Machine.execEthLink port up s
  | .gratuitousArp port iface => Sys2Proof.Machine.execGratuitousArp port iface s
  | .hostFrameTx port => Sys2Proof.Machine.execHostFrameTx port s
  | .streamNoRoute stream => Sys2Proof.Machine.execStreamNoRoute stream s
  | .streamTimeout stream => Sys2Proof.Machine.execStreamTimeout stream s
  | .rtcpSend stream => Sys2Proof.Machine.execRtcpSend stream s
  | .jbResync stream => Sys2Proof.Machine.execJbResync stream s
  | .aes67PacketSend stream => Sys2Proof.Machine.execAes67PacketSend stream s
  | .callReceiveFrame ch => Sys2Proof.Machine.execCallReceiveFrame ch s
  | .callSendFrame ch => Sys2Proof.Machine.execCallSendFrame ch s
  | .voiceDigitDone ch => Sys2Proof.Machine.execVoiceDigitDone ch s
  | .voiceDigit det d => Sys2Proof.Machine.execVoiceDigit det d s
  | .voiceCpTone det d => Sys2Proof.Machine.execVoiceCpTone det d s
  | .voiceFaxTone det kind begins => Sys2Proof.Machine.execVoiceFaxTone det kind begins s
  | .voiceLec ch change => Sys2Proof.Machine.execVoiceLec ch change s
  | .eventTimeout ch => Sys2Proof.Machine.execEventTimeout ch s
  | .nop inst w => Sys2Proof.Machine.execNop inst w s
  | .endInvocation inst w => Sys2Proof.Machine.execEndInvocation inst w s
  | .br inst w => Sys2Proof.Machine.execBr inst w s
  | .brz inst w => Sys2Proof.Machine.execBrz inst w s
  | .brnz inst w => Sys2Proof.Machine.execBrnz inst w s
  | .loop inst w => Sys2Proof.Machine.execLoop inst w s
  | .trap inst w => Sys2Proof.Machine.execTrap inst w s
  | .add inst w => Sys2Proof.Machine.execAdd inst w s
  | .sub inst w => Sys2Proof.Machine.execSub inst w s
  | .addi inst w => Sys2Proof.Machine.execAddi inst w s
  | .andS inst w => Sys2Proof.Machine.execAndS inst w s
  | .orS inst w => Sys2Proof.Machine.execOrS inst w s
  | .xorS inst w => Sys2Proof.Machine.execXorS inst w s
  | .shl inst w => Sys2Proof.Machine.execShl inst w s
  | .shr inst w => Sys2Proof.Machine.execShr inst w s
  | .sar inst w => Sys2Proof.Machine.execSar inst w s
  | .mul inst w => Sys2Proof.Machine.execMul inst w s
  | .slt inst w => Sys2Proof.Machine.execSlt inst w s
  | .shli inst w => Sys2Proof.Machine.execShli inst w s
  | .lds inst w => Sys2Proof.Machine.execLds inst w s
  | .sts inst w => Sys2Proof.Machine.execSts inst w s
  | .vld inst w => Sys2Proof.Machine.execVld inst w s
  | .vst inst w => Sys2Proof.Machine.execVst inst w s
  | .vldb inst w => Sys2Proof.Machine.execVldb inst w s
  | .vlds inst w => Sys2Proof.Machine.execVlds inst w s
  | .vsts inst w => Sys2Proof.Machine.execVsts inst w s
  | .vadd inst w => Sys2Proof.Machine.execVadd inst w s
  | .vsub inst w => Sys2Proof.Machine.execVsub inst w s
  | .vmul inst w => Sys2Proof.Machine.execVmul inst w s
  | .vand inst w => Sys2Proof.Machine.execVand inst w s
  | .vor inst w => Sys2Proof.Machine.execVor inst w s
  | .vxor inst w => Sys2Proof.Machine.execVxor inst w s
  | .vshl inst w => Sys2Proof.Machine.execVshl inst w s
  | .vsar inst w => Sys2Proof.Machine.execVsar inst w s
  | .vmov inst w => Sys2Proof.Machine.execVmov inst w s
  | .vbc inst w => Sys2Proof.Machine.execVbc inst w s
  | .vcmplt inst w => Sys2Proof.Machine.execVcmplt inst w s
  | .vsel inst w => Sys2Proof.Machine.execVsel inst w s
  | .vlane inst w => Sys2Proof.Machine.execVlane inst w s
  | .mac inst w => Sys2Proof.Machine.execMac inst w s
  | .msu inst w => Sys2Proof.Machine.execMsu inst w s
  | .macs inst w => Sys2Proof.Machine.execMacs inst w s
  | .macm inst w => Sys2Proof.Machine.execMacm inst w s
  | .macmm inst w => Sys2Proof.Machine.execMacmm inst w s
  | .aclr inst w => Sys2Proof.Machine.execAclr inst w s
  | .ext inst w => Sys2Proof.Machine.execExt inst w s
  | .extw inst w => Sys2Proof.Machine.execExtw inst w s
  | .ald inst w => Sys2Proof.Machine.execAld inst w s
  | .ovfm inst w => Sys2Proof.Machine.execOvfm inst w s
  | .satm inst w => Sys2Proof.Machine.execSatm inst w s
  | .smax inst w => Sys2Proof.Machine.execSmax inst w s
  | .smin inst w => Sys2Proof.Machine.execSmin inst w s
  | .rmax inst w => Sys2Proof.Machine.execRmax inst w s
  | .rmin inst w => Sys2Proof.Machine.execRmin inst w s
  | .psetb inst w => Sys2Proof.Machine.execPsetb inst w s
  | .psetl inst w => Sys2Proof.Machine.execPsetl inst w s
  | .pseti inst w => Sys2Proof.Machine.execPseti inst w s
  | .pgeti inst w => Sys2Proof.Machine.execPgeti inst w s
  | .padd inst w => Sys2Proof.Machine.execPadd inst w s
  | .budgetTrap inst => Sys2Proof.Machine.execBudgetTrap inst s
  | .haulComplete mb => Sys2Proof.Machine.execHaulComplete mb s
  | .haulTimeout mb moved => Sys2Proof.Machine.execHaulTimeout mb moved s
  | .ashJobComplete ctx => Sys2Proof.Machine.execAshJobComplete ctx s
  | .windowCopyToHost q => Sys2Proof.Machine.execWindowCopyToHost q s
  | .windowMoveFromHost q => Sys2Proof.Machine.execWindowMoveFromHost q s
  | .lpddrRetrain channel margin => Sys2Proof.Machine.execLpddrRetrain channel margin s
  | .scrubPass found => Sys2Proof.Machine.execScrubPass found s
  | .clusterRetired cluster cause => Sys2Proof.Machine.execClusterRetired cluster cause s
  | .gallerySliceLost slice => Sys2Proof.Machine.execGallerySliceLost slice s
  | .unitSelfTestDone pass => Sys2Proof.Machine.execUnitSelfTestDone pass s
  | .trainMessageRx m => Sys2Proof.Machine.execTrainMessageRx m s
  | .blockLock lane => Sys2Proof.Machine.execBlockLock lane s
  | .laneLost lane => Sys2Proof.Machine.execLaneLost lane s
  | .ctleSweep codes => Sys2Proof.Machine.execCtleSweep codes s
  | .prbsTest mask => Sys2Proof.Machine.execPrbsTest mask s
  | .linkTrainFail badMessage => Sys2Proof.Machine.execLinkTrainFail badMessage s
  | .linkAbsentRetry => Sys2Proof.Machine.execLinkAbsentRetry s
  | .linkPacketRx p => Sys2Proof.Machine.execLinkPacketRx p s
  | .linkPacketTx vc => Sys2Proof.Machine.execLinkPacketTx vc s
  | .creditRx c => Sys2Proof.Machine.execCreditRx c s
  | .creditTx => Sys2Proof.Machine.execCreditTx s
  | .rewidthRx mask width => Sys2Proof.Machine.execRewidthRx mask width s
  | .laneMarkerTx => Sys2Proof.Machine.execLaneMarkerTx s
  | .linkClockLost => Sys2Proof.Machine.execLinkClockLost s
  | .linkQuiet => Sys2Proof.Machine.execLinkQuiet s
  | .ctleTrack lane up => Sys2Proof.Machine.execCtleTrack lane up s
  | .linkErrors lane count => Sys2Proof.Machine.execLinkErrors lane count s
  | .heartbeatInstant => Sys2Proof.Machine.execHeartbeatInstant s
  | .heartbeatRx h => Sys2Proof.Machine.execHeartbeatRx h s
  | .pairAliveEdge => Sys2Proof.Machine.execPairAliveEdge s
  | .tokenAcquire => Sys2Proof.Machine.execTokenAcquire s
  | .pairDeclareFailure => Sys2Proof.Machine.execPairDeclareFailure s
  | .pairTakeover => Sys2Proof.Machine.execPairTakeover s
  | .joinComplete => Sys2Proof.Machine.execJoinComplete s
  | .decisionRecordClose => Sys2Proof.Machine.execDecisionRecordClose s
  | .recordAck block => Sys2Proof.Machine.execRecordAck block s
  | .ackTimeout => Sys2Proof.Machine.execAckTimeout s
  | .tokenHandover => Sys2Proof.Machine.execTokenHandover s
  | .porstN straps => Sys2Proof.Machine.execPorstN straps s
  | .rstN => Sys2Proof.Machine.execRstN s
  | .pcieHotReset => Sys2Proof.Machine.execPcieHotReset s
  | .perst => Sys2Proof.Machine.execPerst s
  | .cpWatchdogReset => Sys2Proof.Machine.execCpWatchdogReset s
  | .pmuPowerUp => Sys2Proof.Machine.execPmuPowerUp s
  | .pmuPgRise => Sys2Proof.Machine.execPmuPgRise s
  | .sequencingFailure => Sys2Proof.Machine.execSequencingFailure s
  | .sequencingRetry => Sys2Proof.Machine.execSequencingRetry s
  | .railWarning rail mv => Sys2Proof.Machine.execRailWarning rail mv s
  | .pwrWarn rail minimum belowUs ended => Sys2Proof.Machine.execPwrWarn rail minimum belowUs ended s
  | .brownOut detail => Sys2Proof.Machine.execBrownOut detail s
  | .throttleRelease => Sys2Proof.Machine.execThrottleRelease s
  | .thermalWarn tj sensor => Sys2Proof.Machine.execThermalWarn tj sensor s
  | .thermalWarnEnd tj => Sys2Proof.Machine.execThermalWarnEnd tj s
  | .thermalShutdown sensor => Sys2Proof.Machine.execThermalShutdown sensor s
  | .thermalRecovery tj => Sys2Proof.Machine.execThermalRecovery tj s
  | .pmbusAlert rail answer => Sys2Proof.Machine.execPmbusAlert rail answer s
  | .avsStep up => Sys2Proof.Machine.execAvsStep up s
  | .powerState => Sys2Proof.Machine.execPowerState s
  | .sleepEntry => Sys2Proof.Machine.execSleepEntry s
  | .wakeN => Sys2Proof.Machine.execWakeN s
  | .wakeGpio g => Sys2Proof.Machine.execWakeGpio g s
  | .wakeTimer => Sys2Proof.Machine.execWakeTimer s
  | .daluoReady b => Sys2Proof.Machine.execDaluoReady b s
  | .trialFallback b => Sys2Proof.Machine.execTrialFallback b s
  | .downloadReturn => Sys2Proof.Machine.execDownloadReturn s
  | .fwStaged readBackOk => Sys2Proof.Machine.execFwStaged readBackOk s
  | .fwActivateReset => Sys2Proof.Machine.execFwActivateReset s
  | .gpioEdge g level further => Sys2Proof.Machine.execGpioEdge g level further s
  | .mbxDoorbell mb length opcode hdrLength r => Sys2Proof.Machine.execMbxDoorbell mb length opcode hdrLength r s
  | .bootStop code unit => Sys2Proof.Machine.execBootStop code unit s
  | .announceReceiptTimeout next => Sys2Proof.Machine.execAnnounceReceiptTimeout next s

end Sys2Proof.Machine
end

