-- ==== Sys2Proof/Safety.lean ====
section
/-! DEFINITION. What a safe step is, and the terms in which the statements speak of a mailbox command: which request gets
through the device's checks, and what a complete response is. -/

namespace Sys2Proof

open Machine

/-- A step answers a next state: no fault and no refusal. -/
def StepsOn (s : State) : Prop := ∃ t, step s = .next t

/-- A state after n steps. -/
def After : Nat → State → State → Prop
  | 0, s, t => s = t
  | n + 1, s, t => ∃ u, step s = .next u ∧ After n u t

/-- On a device that runs alone, the request in mailbox `mb` gets through checks 1 to 9 of R55 and waits behind nothing
(R71, R80): its command is applied at once, on the state that the accepted doorbell leaves. -/
structure Passes (c : Contract) (s : State) (mb : Fin 8) (r : Req) : Prop where
  /-- R538: the mailboxes answer. -/
  awake : s.awake = true
  ready : s.ready = true
  /-- R47: not BUSY. -/
  idle : (s.box mb).busy = false
  /-- Check 1. -/
  short : r.payload.length ≤ 8176
  /-- Check 3. -/
  session : (s.box mb).sess = .opened ∨ c.closedOk = true
  /-- No pair (R450). -/
  single : s.pairEn = false
  alone : s.pair.role = 0
  /-- Check 4: tag memory does not hold the tag (R67). -/
  fresh : (s.box mb).tagOf r.tag = none
  /-- Checks 5 and 6. -/
  early : c.early (s.accept c.opcode mb) mb r = 0
  /-- R71, R80: it waits behind no other command and no recovery. -/
  free : (s.accept c.opcode mb).mustWait c.opcode r = false
  /-- Check 7. -/
  node : c.node (s.accept c.opcode mb) mb r = 0
  /-- Check 8. -/
  power : s.power.state ≠ .standby ∨ c.standby = true
  /-- Check 9, of the fields whose legality hangs on another field (R575). -/
  fields : c.fields (s.accept c.opcode mb) mb r = true

/-- `t` is `u` with the response of R46 and R51 written for the request in mailbox `mb`: the mailbox's interrupt cause is set
(R124), an MSI-X message may have left, and nothing else differs. -/
structure Answered (u : State) (mb : Fin 8) (r : Req) (rep : Reply) (t : State) : Prop where
  /-- Nothing but the mailboxes, INT_STATUS, the pending bits and what was sent differs from `u`. -/
  rest : t = { u with
    mbx := t.mbx, evq := { u.evq with intStatus := t.evq.intStatus, pba := t.evq.pba }, sent := t.sent }
  others : ∀ k : Fin 8, k ≠ mb → t.box k = u.box k
  cause : t.evq.intStatus = u.evq.intStatus ||| (1#32 <<< mb.val)
  /-- Of its own mailbox, only BUSY, RESP_READY, the response, the count (R54) and tag memory (R67) differ. -/
  box : t.box mb = { u.box mb with
    busy := false, respReady := true, held := none, resp := (t.box mb).resp, area := (t.box mb).area
    count := (t.box mb).count, tags := (t.box mb).tags }
  /-- The response area holds the response's bytes (R46, R51). -/
  area : (t.box mb).area = (t.box mb).resp.bytes ++ (u.box mb).area.drop (t.box mb).resp.bytes.length
  status : (t.box mb).resp.status = rep.status
  late : (t.box mb).resp.late = rep.late
  tag : (t.box mb).resp.tag = r.tag
  node : (t.box mb).resp.node = rep.node.getD r.node
  payload : (t.box mb).resp.payload = rep.payload

/-- Instruction `i`, a command of contract `c` in mailbox `mb`, completes: its response is `rep`, and its effect on the state
that the accepted doorbell leaves (R46) is `u`. -/
def Completes (c : Contract) (i : Instr) (s : State) (mb : Fin 8) (r : Req) (rep : Reply) (u : State → State) : Prop :=
  ∃ t, exec i s = .next t ∧ Answered (u (s.accept c.opcode mb)) mb r rep t

/-- Instruction `i` is accepted and its effect, on the state that the accepted doorbell leaves, is `u`; its response comes
later (R577). -/
def Waits (c : Contract) (i : Instr) (s : State) (mb : Fin 8) (u : State → State) : Prop :=
  exec i s = .next (u (s.accept c.opcode mb))

/-- `t` is `s` but for raised events: the event unit (R111 to R125), the interrupt messages sent, and in a pair the record, the
packets and the events without a number that carry them (R467). -/
def Machine.OnlyEvents (s t : State) : Prop :=
  t = { s with
    evq := t.evq, sent := t.sent, link := { s.link with vc0 := { s.link.vc0 with ready := t.link.vc0.ready } }
    pair := { s.pair with log := t.pair.log, unnumbered := t.pair.unnumbered } }

/-- The instruction of fields `w`, class and operation is the next one of an invocation in progress (R358, R367): its run is
`r`, whose count is below the budget (R370) and whose image holds it at the PC; its fields are legal. -/
structure Issues (s : State) (inst cls op : Nat) (w : IWord) (r : Run) : Prop where
  run : ∃ c, (s.krn inst).ctx = some c ∧ r = { s.krnRun (s.krn inst) c with next := c.pc + 8 }
  budget : r.c.cycles < s.krnBudget inst
  word : r.im.fetch r.c.pc = some ⟨cls, op, w⟩
  legal : Code.legal ⟨cls, op, w⟩ = true

/-- The instruction has left the run `t`: the invocation goes on at the next instruction, or at the start of a LOOP body that
ends there and has repetitions left (R368). Nothing but the instance, and the events of its lines (R365), differs. -/
def Ran (s : State) (inst : Nat) (t : Run) : State :=
  (s.setKrn { t.k with ctx := some { t.c with
      loops := (closeLoops t.c.loops t.next).1, pc := (closeLoops t.c.loops t.next).2 } }).krnWraps inst t.wraps

/-- A run whose instruction read and wrote these registers in `n` issue cycles (R369), with its effect on the context. -/
def Machine.Run.puts (reads : List Nat) (n : Nat) (writes : List (Nat × Nat)) (f : Ctx → Ctx) (r : Run) : Run :=
  { r with c := f (r.c.issue reads n writes) }

/-! ### What every step keeps -/

/-- The legal states of one-time programmable memory and of the sparse memories: four image-key rows, each blank, programmed or
revoked (R524), a security minimum of 0 to 63 (R524, R527), only OTP slots revoked and a revoked one without a key (R527),
and the canonical form of the memories that the host and Haul reach (log 10). -/
structure Kept (s : State) : Prop where
  rows : s.boot.rows.length = 4
  row : ∀ v ∈ s.boot.rows, v ≤ 2
  minimum : s.boot.secMin ≤ 63
  revoked : ∀ k, (s.slot k).revoked = true → k < 8 ∧ (s.slot k).key = none
  user : s.mem.user.wf = true
  host : s.mem.host.wf = true
  bar2 : s.mem.bar2.wf = true

/-- One-time programmable memory only moves forward (R524, R527): rows go from blank to programmed to revoked and keep their
hash, the security minimum never falls, a revoked slot stays revoked, and an OTP key stays until it is revoked. -/
structure OtpForward (s t : State) : Prop where
  row : ∀ x, s.boot.rows.getD x 0 ≤ t.boot.rows.getD x 0
  hash : ∀ x, s.boot.rows.getD (x + 1) 0 ≠ 0 → t.boot.rowHashes[x]? = s.boot.rowHashes[x]?
  minimum : s.boot.secMin ≤ t.boot.secMin
  revoked : ∀ k, (s.slot k).revoked = true → (t.slot k).revoked = true
  key : ∀ k, k < 8 → (s.slot k).key ≠ none → (t.slot k).key = (s.slot k).key ∨ (t.slot k).revoked = true

end Sys2Proof
end

