-- ==== Sys2Proof/WellFormed.lean ====
section
/-! DEFINITION. Well-formed commands: every operand lies in the range that the row's rule gives it. A mailbox request carries
what the host wrote, legal or not (the device itself checks it, R55), so only the width of its length field bounds it. -/

namespace Sys2Proof

/-- The header's payload length is a 16-bit field (R49). -/
def Req.wf (r : Req) : Bool := r.payload.length < 65536

/-- Size of a space in bytes (R44, R535); Message Control is one 16-bit word. -/
def Space.size : Space → Nat
  | .msixControl => 2
  | .bar0 => 0x10000
  | .bar2 => 0x100000
  | .qspi => 0x1000000

/-- A write names each of its bytes once, at an offset inside its space (R537, R549). -/
def Access.wf (a : Access) : Bool :=
  a.data ≠ [] && a.data.length == a.enables.length && a.offset + a.data.length ≤ a.space.size

/-- Body of a PTP message: a step count of two bytes (R139). -/
def PtpBody.wf : PtpBody → Bool
  | .announce _ steps _ _ => steps < 65536
  | .sync _ _ | .delayReq | .pdelayReq | .delayResp _ _ | .pdelayResp _ _ _ | .management _ | .authenticated => true

/-- PTP domains are one byte (R135). -/
def PtpMessage.wf (p : PtpMessage) : Bool := p.domain < 256 && p.body.wf

/-- A frame's length fits the 16-bit length of its host packet (R302). -/
def EthFrame.wf (f : EthFrame) : Bool := f.bytes.length < 65536

/-- DTMF digits number 16 (R345). -/
def ToneDecision.wf (d : ToneDecision) : Bool := d.digit < 16

/-- Tone frequencies are two bytes (R345). -/
def CpDecision.wf (d : CpDecision) : Bool := d.f1 < 65536 && d.f2 < 65536

/-- Crosspoints, objects, beams, banks and queues that an error names exist (R83, R480). -/
def ScrubFinding.wf : ScrubFinding → Bool
  | .sramCorrected | .localCorrected _ | .localUncorrectable _ | .blockBuffer _ _ _ | .lpddrJitter _ _ | .lpddrStaging _
  | .lpddrImage _ | .lpddrMirror _ | .lpddrUser _ => true
  | .xpCorrected o i | .xpUncorrectable o i | .rampEntry o i => o < 4096 && i < 4096
  | .aecFilter b r => b < 256 && r < 8
  | .rendererState o => o < 1024
  | .largeQueueWord q _ | .smallQueueWord q _ | .queueCorrected q => q < 128
  | .lpddrHistory s _ | .lpddrLine s _ => s < 1024
  | .lpddrCorrected c => c < 8
  | .lpddrBank s b c => s < 1024 && b < 2 && c < 8192

/-- Input balls exist: 32 TDM ports with at most 32 samples in a block, 256 microphones, 32 GPIOs; and so do the words in error
(R17, R83). -/
def BlockIn.wf (io : BlockIn) : Bool :=
  io.tdm.all (fun x => x.1 < 32 && x.2.length ≤ 32) && io.pdm.all (fun x => x.1 < 256) && io.gpio.all (fun x => x.1 < 32)
    && io.found.all ScrubFinding.wf

/-- A TRAIN message number of R435 or another byte. -/
def TrainMessage.wf (m : TrainMessage) : Bool := m.message < 256

/-- A sequence number has 16 bits (R429). -/
def VcPacket.wf (p : VcPacket) : Bool := p.seq < 65536

/-- Credits and sequence numbers are 16-bit fields (R425). -/
def CreditBlock.wf (c : CreditBlock) : Bool :=
  c.credits0 < 65536 && c.credits1 < 65536 && c.last0 < 65536 && c.last1 < 65536

/-- Role and state as PAIR_STATUS codes them (R465, R473). -/
def Heartbeat.wf (h : Heartbeat) : Bool := h.role ≤ 2 && h.state ≤ 4

/-- A boot report names units that exist (R3, R487), a fallback reason of R524, a density and rate of R383 and the
levels of the identity registers (R493). -/
def BootReport.wf (b : BootReport) : Bool :=
  b.badClusters.all (· < 16) && b.badSlices.all (· < 12) && b.fallbackReason < 8 && [4, 8, 16, 32].contains b.density
    && lpddrRates.contains b.rate && 500 ≤ b.auxMv && b.auxMv ≤ 3300 && b.major < 256 && b.minor < 256 && b.build < 65536
    && b.pairLevel < 65536 && b.secVersion < 64

/-- An Announce counts its steps in two bytes (R139). -/
def announceWf : Option Announce → Bool
  | some a => a.steps < 65536
  | none => true

/-- A node ID of an RTP or AES67 stream (R82, R83). -/
def isStream (id : Nat) : Bool :=
  (id / 0x1000000 == 2 && id % 0x1000000 < 8192) || (id / 0x1000000 == 3 && id % 0x1000000 < 1024)

/-- Well-formed: one clause for each kind of operand. -/
def Instr.wf : Instr → Bool
  | .sysGetId _ r | .sessionOpen _ r | .sessionProve _ r | .sessionClose _ r | .sysCapacity _ r | .evtSourceSet _ r
  | .evtLatchRead _ r | .evtLatchClear _ r | .nodeCreate _ r | .nodeDestroy _ r | .nodeSet _ r | .nodeGet _ r
  | .nodeConnect _ r | .nodeDisconnect _ r | .nodeEnable _ r | .nodeDisable _ r | .slabOpen _ r | .slabWrite _ r
  | .slabCommit _ r | .slabAbort _ r | .timeSchedule _ r | .timeCancel _ r | .timeGet _ r | .timeConfig _ r
  | .timePortSet _ r | .timeSet _ r | .timePinSet _ r | .feResync _ r | .galXpWrite _ r | .galXpBulk _ r
  | .galXpRead _ r | .galProfileSet _ r | .galStatus _ r | .renConfig _ r | .renPosBatch _ r | .renPosQueue _ r
  | .renFootprintRead _ r | .spkBankLoad _ r | .spkBankRead _ r | .spkBankClear _ r | .capLocatorConfig _ r
  | .capLocatorRead _ r | .capAecReset _ r | .capAecStatus _ r | .ethIfSet _ r | .streamKeySet _ r | .streamStats _ r
  | .ethCounters _ r | .voiceDigitSend _ r | .voiceDigitCancel _ r | .voiceLecReset _ r | .krnImageLoad _ r
  | .krnImageClear _ r | .krnImageInfo _ r | .queueConfig _ r | .queueStatus _ r | .haulSubmit _ r | .memInfo _ r
  | .ashJob _ r | .ashCtxSave _ r | .ashCtxRestore _ r | .linkPower _ r | .linkTest _ r | .linkCounters _ r
  | .pairStatus _ r | .pairConfig _ r | .pairSwitch _ r | .pwrState _ r | .pwrThrottle _ r | .faultStatus _ r
  | .faultRestore _ r | .faultInject _ r | .keyWrite _ r | .keyLock _ r | .keyFuse _ r | .keyInfo _ r | .fwStage _ r
  | .fwActivate _ r => r.wf
  | .deferredCommandApply | .rstCtrlWarm _ | .rstCtrlFull _ | .rstLogClear _ | .bootDlGo _ | .bootDlFinal _
  | .bootKeyWrite _ | .bootKeyLock _ | .pmuWake _ _ | .hqFlush _ _ | .hqSpoil _ _ | .hqDataWrite _ _
  | .hqDataLast _ _ | .hqDataRead _ _ | .hqWinHeadWrite _ _ | .hqWinTailWrite _ _ | .evqEnable _ | .evqDisable _
  | .evqTailWrite _ | .qspiReadStatus | .qspiInvalidInstruction _ | .sessionIdleClosed _ | .openLapse _
  | .slotUnlock _ | .ringRecordWrite | .eventsLost | .ringCoalesceTimer | .ptpMessageTx _ _ | .timeStep
  | .holdoverEntry | .ppsInEdge _ | .ppsInLost | .mediaAligned | .mediaSourceSlewEnd _ | .portCalibrated _ _
  | .tdmClockLost _ | .pdmValid _ | .handOverComplete _ | .responseSwap _ | .rampQueueStart | .posPacketApply
  | .locatorChange _ | .ethLink _ _ | .gratuitousArp _ _ | .hostFrameTx _ | .haulComplete _ | .haulTimeout _ _
  | .windowCopyToHost _ | .windowMoveFromHost _ | .lpddrRetrain _ _ | .gallerySliceLost _ | .unitSelfTestDone _
  | .blockLock _ | .laneLost _ | .prbsTest _ | .linkTrainFail _ | .linkAbsentRetry | .linkPacketTx _ | .creditTx
  | .laneMarkerTx | .linkClockLost | .linkQuiet | .ctleTrack _ _ | .linkErrors _ _ | .heartbeatInstant
  | .pairAliveEdge | .tokenAcquire | .pairDeclareFailure | .pairTakeover | .joinComplete | .decisionRecordClose
  | .recordAck _ | .ackTimeout | .tokenHandover | .porstN _ | .rstN | .pcieHotReset | .perst | .cpWatchdogReset
  | .pmuPowerUp | .pmuPgRise | .sequencingFailure | .sequencingRetry | .railWarning _ _ | .pwrWarn _ _ _ _
  | .brownOut _ | .throttleRelease | .thermalWarn _ _ | .thermalWarnEnd _ | .thermalShutdown _ | .thermalRecovery _
  | .pmbusAlert _ _ | .avsStep _ | .powerState | .sleepEntry | .wakeN | .wakeGpio _ | .wakeTimer | .downloadReturn
  | .fwStaged _ | .fwActivateReset => true
  | .registerWrite a => a.wf
  | .blockStrobe io => io.wf
  | .slabApplied slab => slab < 16777216
  | .actionFired action => action < 256
  | .ptpMessageRx p => p.wf
  | .linkPacketRx p => p.wf
  | .tdmFrame _ _ edge => edge.phase < 20834
  | .rampEnd out inp => out < 4096 && inp < 4096
  | .geometryRecordStart obj => obj < 1024
  | .fadingSlotFree obj spk => obj < 1024 && spk < 1024
  | .spkBankSwap spk | .delayXfadeEnd spk => spk < 1024
  | .micFilterFadeEnd beam | .adaptationPeriod beam | .aecDiverged beam | .doubleTalkEnd beam => beam < 256
  | .aecRefIdle beam ref | .reconvergenceEnd beam ref | .aecReconverge beam ref => beam < 256 && ref < 8
  | .ethFrameRx f => f.wf
  | .streamNoRoute stream | .streamTimeout stream | .rtcpSend stream | .jbResync stream | .aes67PacketSend stream =>
    isStream stream
  | .callReceiveFrame ch | .callSendFrame ch | .voiceDigitDone ch | .eventTimeout ch => ch < 8192
  | .voiceDigit det d => det < 9216 && d.wf
  | .voiceCpTone det d => det < 9216 && d.wf
  | .voiceFaxTone det kind _ => det < 9216 && kind < 256
  | .voiceLec ch change => ch < 8192 && change < 256
  | .nop inst _ | .endInvocation inst _ | .br inst _ | .brz inst _ | .brnz inst _ | .loop inst _ | .trap inst _
  | .add inst _ | .sub inst _ | .addi inst _ | .andS inst _ | .orS inst _ | .xorS inst _ | .shl inst _ | .shr inst _
  | .sar inst _ | .mul inst _ | .slt inst _ | .shli inst _ | .lds inst _ | .sts inst _ | .vld inst _ | .vst inst _
  | .vldb inst _ | .vlds inst _ | .vsts inst _ | .vadd inst _ | .vsub inst _ | .vmul inst _ | .vand inst _
  | .vor inst _ | .vxor inst _ | .vshl inst _ | .vsar inst _ | .vmov inst _ | .vbc inst _ | .vcmplt inst _
  | .vsel inst _ | .vlane inst _ | .mac inst _ | .msu inst _ | .macs inst _ | .macm inst _ | .macmm inst _
  | .aclr inst _ | .ext inst _ | .extw inst _ | .ald inst _ | .ovfm inst _ | .satm inst _ | .smax inst _
  | .smin inst _ | .rmax inst _ | .rmin inst _ | .psetb inst _ | .psetl inst _ | .pseti inst _ | .pgeti inst _
  | .padd inst _ | .budgetTrap inst => inst < 131072
  | .ashJobComplete ctx => ctx < 64
  | .scrubPass found => found.all ScrubFinding.wf
  | .clusterRetired _ cause => 1 ≤ cause && cause ≤ 5
  | .trainMessageRx m => m.wf
  | .ctleSweep codes => codes.length == 8 && codes.all (· < 65536)
  | .creditRx c => c.wf
  | .rewidthRx _ width => (width == 1 || width == 2 || width == 4 || width == 8)
  | .heartbeatRx h => h.wf
  | .daluoReady b | .trialFallback b => b.wf
  | .gpioEdge _ _ further => further < 8192
  | .mbxDoorbell _ length _ hdrLength r => length < 65536 && hdrLength < 65536 && r.wf
  | .bootStop code unit => unit < if code = 0x82 then 65536 else 256
  | .announceReceiptTimeout next => announceWf next

end Sys2Proof
end

