-- ==== Sys2Proof/Certificates/Slice0/Obligations.lean ====
section
/-! DEFINITION. The statements for the provers. Each docstring names the rules of spec/ that a statement formalises; a value
that is the model's own choice is named with its log entry.

A mailbox command is stated as `Completes`: on a request that `Passes` the checks of R55 and meets the conditions given, its
response and its whole effect. -/

open Sys2Proof Sys2Proof.Machine

/-! ### Sessions, identity and capacity (02) -/

/-- Identity and capacity (R65, R66): the two records, and no effect on the state. The pair role of a candidate is the
model's choice (log 20); `Passes` speaks of a device that runs alone. -/
def Obligations.IdentityAndCapacity : Prop :=
  (∀ s mb r, Passes sysGetId s mb r →
    Completes sysGetId (.sysGetId mb r) s mb r
      { payload :=
          leBytes 4 0x88004556 ++ [0x42, 0x01] ++ leBytes 1 s.boot.running.major ++ leBytes 1 s.boot.running.minor
            ++ leBytes 2 s.boot.running.build ++ zeros 2
            ++ padTo 16 [0x45, 0x56, 0x48, 0x2D, 0x38, 0x38, 0x30, 0x30, 0x2D, 0x42, 0x31, 0x49]
            ++ leBytes 8 Config.dieUid ++ leBytes 1 0 ++ leBytes 1 s.openMask ++ zeros 2 }
      id) ∧
  (∀ s mb r, Passes sysCapacity s mb r →
    Completes sysCapacity (.sysCapacity mb r) s mb r
      { payload :=
          leBytes 1 s.clusterCount ++ leBytes 1 s.sliceCount ++ leBytes 2 (if s.time.rate96 then 96 else 48)
            ++ leBytes 4 (s.clusterCount * 204800) ++ leBytes 4 (s.clusterCount * 143360) ++ leBytes 4 s.committed
            ++ leBytes 4 (s.clusterCount * 143360 - s.committed) ++ leBytes 4 s.largestRemainder
            ++ leBytes 4 s.liveCount ++ leBytes 4 131072 ++ leBytes 2 s.carried
            ++ leBytes 2 (256 - s.time.actions.length) ++ zeros 4 }
      id)

/-- A session opens in two commands and closes in one (R59, R61, R63). The nonce is whatever the random source gives (log 3);
the proofs are HMAC-SHA-256 of R60. -/
def Obligations.SessionLifecycle : Prop :=
  (∀ s mb r k key, Passes sessionOpen s mb r → field r.payload 0 1 = k → (s.slot k).key = some key →
    (s.box mb).sess = .closed → (s.slot k).lockUntil = none →
    ∃ nonce : Bytes, nonce.length = 16 ∧
      Completes sessionOpen (.sessionOpen mb r) s mb r { payload := nonce ++ leBytes 4 mb } fun a =>
        { a.setBox mb { a.box mb with
            sess := .awaiting, keySlot := k, nonce := nonce, openKey := key, lapseAt := a.time.ticks + 480000
            idleTimeout := if field r.payload 4 4 = 0 then 600 else field r.payload 4 4 } with free := a.free + 16 }) ∧
  (∀ s mb r, Passes sessionProve s mb r → (s.box mb).sess = .awaiting → (s.box mb).lockedOpen = none →
    slice r.payload 16 32 =
      hmacSha256 (s.box mb).openKey ((s.box mb).nonce ++ slice r.payload 0 16 ++ leBytes 4 mb) →
    Completes sessionProve (.sessionProve mb r) s mb r
      { payload := hmacSha256 (s.box mb).openKey (slice r.payload 0 16 ++ (s.box mb).nonce ++ leBytes 4 mb)
          ++ leBytes 4 (s.box mb).idleTimeout } fun a =>
        (a.setBox mb { a.box mb with sess := .opened, tags := [], count := 0 }).setSlot (s.box mb).keySlot
          { s.slot (s.box mb).keySlot with failures := 0 }) ∧
  (∀ s mb r, Passes sessionClose s mb r →
    Completes sessionClose (.sessionClose mb r) s mb r {} (State.closeSession mb 1)) ∧
  (∀ s : State, ∀ mb : Fin 8, (s.box mb).sess ≠ .opened →
    s.closeSession mb 1
      = s.setBox mb { s.box mb with sess := .closed, keySlot := 0, nonce := [], openKey := [] }) ∧
  (∀ s : State, ∀ mb : Fin 8, (s.box mb).sess = .opened → s.slabs = [] →
    ((s.closeSession mb 1).box mb).sess = .closed ∧ ((s.closeSession mb 1).box mb).tags = [])

/-- A wrong proof is counted on the slot, and the fifth locks it for 60 s (R61, R62); an idle session closes as SESSION_CLOSE
closes it (R64), an open lapses after 10 s (R59, R62), a locked slot unlocks after 60 s (R62). -/
def Obligations.SessionTimersAndLocks : Prop :=
  (∀ s mb r, Passes sessionProve s mb r → (s.box mb).sess = .awaiting → (s.box mb).lockedOpen = none →
    slice r.payload 16 32 ≠
      hmacSha256 (s.box mb).openKey ((s.box mb).nonce ++ slice r.payload 0 16 ++ leBytes 4 mb) →
    (s.box mb).keySlot < 16 →
    ∃ t, exec (.sessionProve mb r) s = .next t ∧ (t.box mb).sess = .closed ∧ (t.box mb).resp.status = Err.auth ∧
      (t.slot (s.box mb).keySlot).failures = min 5 ((s.slot (s.box mb).keySlot).failures + 1) ∧
      (4 ≤ (s.slot (s.box mb).keySlot).failures →
        (t.slot (s.box mb).keySlot).lockUntil = some (s.time.ticks + 60 * 48000))) ∧
  (∀ s : State, ∀ mb : Fin 8, (s.box mb).sess = .opened →
    (s.box mb).lastDoorbell + (s.box mb).idleTimeout * 48000 ≤ s.time.ticks → s.following = false →
    exec (.sessionIdleClosed mb) s =
      .next (((s.note (.expired (.idle mb))).closeSession mb 2).raise 1 0x0001 (mkNode Ty.session mb) (evData [(0, leBytes 1 mb)]))) ∧
  (∀ s : State, ∀ mb : Fin 8, (s.box mb).sess = .awaiting → (s.box mb).lapseAt ≤ s.time.ticks →
    s.following = false →
    exec (.openLapse mb) s =
      .next ((s.note (.expired (.pendingOpen mb))).setBox mb { s.box mb with sess := .closed, keySlot := 0, nonce := [], openKey := [], lockedOpen := none })) ∧
  (∀ s : State, ∀ k : Fin 16, ∀ t, (s.slot k).lockUntil = some t → t ≤ s.time.ticks → s.following = false →
    exec (.slotUnlock k) s = .next ((s.note (.expired (.lock k))).setSlot k { s.slot k with failures := 0, lockUntil := none })) ∧
  (∀ s : State, ∀ k : Fin 16, ∀ x, (s.setSlot k x).slot k = x) ∧
  (∀ s : State, ∀ k : Fin 8, ∀ b, (s.setBox k b).box k = b)

/-- Doorbells: a request of an illegal length or an undefined opcode is answered with the error and has no other effect
(R55 checks 1 and 2); in Sleep or powered down none arrives, before Daluo is ready one only sets the ID_ACCESS_ERR flag (R538),
and one while BUSY only sets DB_OVERRUN (R47). -/
def Obligations.DoorbellChecks : Prop :=
  (∀ (s : State) (mb : Fin 8) (length hdr : Nat) (opcode : BitVec 16) (r : Req), s.awake = true → s.ready = true →
    (s.box mb).busy = false → s.pairEn = false →
    doorbellCheck (length % 0x4000) hdr opcode.toNat ≠ 0 →
    ∃ t, exec (.mbxDoorbell mb length opcode hdr r) s = .next t ∧
      Answered (s.accept opcode.toNat mb) mb r
        { status := if length % 0x4000 < 16 ∨ 8192 < length % 0x4000 ∨ hdr + 16 ≠ length % 0x4000 then Err.length
            else Err.opcode } t) ∧
  (∀ (c : Contract) (s : State) (mb : Fin 8) (r : Req),
    (s.awake = false → runCommand c mb r s = .next s) ∧
    (s.awake = true → s.ready = false → ∃ off,
      runCommand c mb r s = .next { s with id := { s.id with errNotReady := true, errOffset := off } }) ∧
    (s.awake = true → s.ready = true → (s.box mb).busy = true →
      runCommand c mb r s = .next (s.setBox mb { s.box mb with dbOverrun := true })))

/-- A failed command changes nothing but its mailbox and that mailbox's interrupt (R72), for every mailbox command, given by its
contract: whichever of checks 5 to 9 fails, the response carries that check's code. -/
def Obligations.FailuresChangeNothing : Prop :=
  ∀ (c : Contract) (s : State) (mb : Fin 8) (r : Req), s.awake = true → s.ready = true → (s.box mb).busy = false →
    r.payload.length ≤ 8176 → s.pairEn = false → s.pair.role = 0 →
    ((s.box mb).sess = .opened ∨ c.closedOk = true) → (s.box mb).tagOf r.tag = none →
    (c.early (s.accept c.opcode mb) mb r ≠ 0 →
      ∃ t, runCommand c mb r s = .next t ∧
        Answered (s.accept c.opcode mb) mb r { status := c.early (s.accept c.opcode mb) mb r } t) ∧
    (∀ k p, c.early (s.accept c.opcode mb) mb r = 0 → (s.accept c.opcode mb).mustWait c.opcode r = false →
      c.apply (s.accept c.opcode mb) mb r = .fail k p →
      ∃ t, runCommand c mb r s = .next t ∧ Answered (s.accept c.opcode mb) mb r { status := k, payload := p } t)

/-- A replayed tag: the stored response is written again, marked REPLAYED, and nothing else happens; the same tag with other
contents fails with ERR_TAG (R67, R68). -/
def Obligations.ReplayedTags : Prop :=
  ∀ (c : Contract) (s : State) (mb : Fin 8) (r : Req) (e : TagEntry), s.awake = true → s.ready = true →
    (s.box mb).busy = false → r.payload.length ≤ 8176 → s.pairEn = false → s.pair.role = 0 →
    (s.box mb).sess = .opened → c.opcode ≠ 4 → (s.box mb).tagOf r.tag = some e →
    (e.crc = reqCrc c.opcode r → ∃ t, runCommand c mb r s = .next t ∧ (t.box mb).resp = { e.resp with replayed := true } ∧
      (t.box mb).busy = false ∧ (t.box mb).respReady = true ∧ (t.box mb).count = (s.box mb).count ∧
      t = { s with mbx := t.mbx, evq := { s.evq with intStatus := t.evq.intStatus, pba := t.evq.pba }, sent := t.sent }) ∧
    (e.crc ≠ reqCrc c.opcode r → ∃ t, runCommand c mb r s = .next t ∧
      Answered (s.accept c.opcode mb) mb r { status := Err.tag } t)

/-! ### Events (04) -/

/-- The event commands (R115, R121 to R123): sources masked and marked urgent (a masked source raises nothing, source 2 is never
masked), a latch's record read, a latch cleared. -/
def Obligations.EventCommands : Prop :=
  (∀ s mb r, Passes evtSourceSet s mb r →
    Completes evtSourceSet (.evtSourceSet mb r) s mb r {} fun a =>
      ((List.range (field r.payload 2 2)).map (field r.payload 0 2 + ·)).foldl
        (State.setSource (bit (field r.payload 4 1) 0) (bit (field r.payload 4 1) 1)) a) ∧
  (∀ (s : State) (src code node : Nat) (d : Bytes), s.evq.masked.contains src = true → s.raise src code node d = s) ∧
  (∀ (s : State) (mask urgent : Bool) (src k : Nat),
    ((s.setSource mask urgent src).evq.masked.contains k
      = if k = src then mask && k != 2 else s.evq.masked.contains k) ∧
    ((s.setSource mask urgent src).evq.urgent.contains k = if k = src then urgent else s.evq.urgent.contains k)) ∧
  (∀ s mb r l, Passes evtLatchRead s mb r → hasLatch (field r.payload 0 2) (field r.payload 2 1) = true →
    s.latchNow (field r.payload 0 2) (field r.payload 2 1) = l →
    Completes evtLatchRead (.evtLatchRead mb r) s mb r
      { payload := leBytes 2 l.count ++ leBytes 2 l.code ++ leBytes 4 l.node ++ leSigned 4 l.extreme ++ leSigned 4 l.level
          ++ leBytes 8 (if l.count = 0 then 0 else l.sec) ++ leBytes 4 (if l.count = 0 then 0 else l.ns)
          ++ leBytes 4 (ofBool l.holds + 2 * ofBool (s.evq.masked.contains (field r.payload 0 2))) } id) ∧
  (∀ s mb r, Passes evtLatchClear s mb r → hasLatch (field r.payload 0 2) (field r.payload 2 1) = true →
    Completes evtLatchClear (.evtLatchClear mb r) s mb r {} (State.clearLatch (field r.payload 0 2) (field r.payload 2 1))) ∧
  (∀ (s : State) (src no : Nat) (l : Latch), s.latchNow src no = l → l.holds = false → l.inBlock = 0 →
    s.clearLatch src no = s.putLatch { l with count := 0, extreme := l.level }) ∧
  (∀ (s : State) (src no : Nat) (l : Latch), s.latchNow src no = l → l.holds = true → l.inBlock = 0 → s.ready = true →
    (s.clearLatch src no).evq.latches.find? (fun x => x.key == l.key) =
      some { l with count := 1, extreme := l.level, sec := s.secs, ns := s.nanos, data := s.clearData l
                    inBlock := 1, block := s.time.block, blockLevel := l.level, latest := s.clearData l })

/-- An event that arises is numbered without a gap, stored, and kept in order; with no store slot free the number opens a gap
(R111, R113). -/
def Obligations.EventsAreNumbered : Prop :=
  (∀ (s : State) (src code node : Nat) (d : Bytes), s.ready = true → s.evq.masked.contains src = false →
    s.following = false → s.evq.gap = none → s.evq.store.length < 8192 →
    (s.raise src code node d).evq.nextSeq = s.evq.nextSeq + 1 ∧
    (s.raise src code node d).evq.store = s.evq.store ++
      [{ seq := s.evq.nextSeq, sec := s.secs, ns := s.nanos, source := src, code := code, node := node, data := d }]) ∧
  (∀ (s : State) (src code node : Nat) (d : Bytes), s.ready = true → s.evq.masked.contains src = false →
    s.following = false → s.evq.gap = none → 8192 ≤ s.evq.store.length →
    (s.raise src code node d).evq.store = s.evq.store ∧ (s.raise src code node d).evq.nextSeq = s.evq.nextSeq + 1 ∧
    (s.raise src code node d).evq.gap = some (s.evq.nextSeq, 1, s.secs, s.nanos))

/-- The ring: a legal ENABLE starts it, DISABLE stops it, a legal tail write frees what it passes, a stored record goes into a
free slot, a gap closes with EVENTS_LOST, and the coalescing timer sets cause 8 (R113, R117 to R120, R126). -/
def Obligations.RingOperations : Prop :=
  (∀ (s : State) (v : Word) (size : Nat), s.awake = true → s.ready = true → s.evq.active = false →
    size = (if v.getLsbD 1 then 6 else v.toNat / 4 % 16) →
    ({ s.evq with internal := v.getLsbD 1, sizeLog2 := size, enable := true } : Evq).configOk = true →
    ∃ t, exec (.evqEnable v) s = .next t ∧ t.evq.active = true ∧ t.evq.enable = true ∧ t.evq.head = 0 ∧
      t.evq.tail = 0 ∧ t.evq.internal = v.getLsbD 1 ∧ t.evq.sizeLog2 = size ∧
      t.evq.store = s.evq.store.filter (fun e => s.evq.resume ≤ e.seq) ∧ t = { s with evq := t.evq, sent := t.sent }) ∧
  (∀ (s : State) (v : Word), s.awake = true → s.ready = true → s.evq.active = true →
    v.getLsbD 1 = s.evq.internal → (if v.getLsbD 1 then 6 else v.toNat / 4 % 16) = s.evq.sizeLog2 →
    exec (.evqDisable v) s = .next { s with evq := { s.evq with enable := false, active := false } }) ∧
  (∀ (s : State) (v : Word), s.awake = true → s.ready = true → (v - s.evq.tail).toNat ≤ (s.evq.head - s.evq.tail).toNat →
    s.evq.owedSlot = false →
    ∃ t, exec (.evqTailWrite v) s = .next t ∧ t.evq.tail = v ∧
      t.evq.store = s.evq.store.drop (v - s.evq.tail).toNat ∧ t.evq.tailErr = s.evq.tailErr ∧ t.evq.head = s.evq.head ∧
      t = { s with evq := t.evq, sent := t.sent }) ∧
  (∀ (s : State) (v : Word), s.awake = true → s.ready = true → (s.evq.head - s.evq.tail).toNat < (v - s.evq.tail).toNat →
    ∃ t, exec (.evqTailWrite v) s = .next t ∧ t.evq.tail = s.evq.tail ∧ t.evq.store = s.evq.store ∧
      t.evq.tailErr = true ∧ t = { s with evq := t.evq, sent := t.sent }) ∧
  (∀ (s : State) (e : EvRec), s.evq.nextRecord = some e → s.evq.active = true → s.evq.waitingInRing < s.evq.size →
    s.mayDeliver e = true →
    ∃ t, exec .ringRecordWrite s = .next t ∧ t.evq.head = s.evq.head + 1 ∧ t.evq.tail = s.evq.tail ∧
      t.evq.store = s.evq.store ∧ t = { s with evq := t.evq, sent := t.sent, mem := { s.mem with host := t.mem.host } } ∧
      (s.evq.internal = true → t.mem = s.mem ∧
        getA (s.evq.head.toNat % 64) t.evq.ring = some { e with redelivered := e.redelivered || e.seq ≤ s.evq.everWritten })) ∧
  (∀ (s : State) (f n sec ns : Nat), s.evq.gap = some (f, n, sec, ns) → s.evq.store.length + 2 ≤ 8192 →
    ∃ t, exec .eventsLost s = .next t ∧ t.evq.gap = none ∧ t.evq.nextSeq = s.evq.nextSeq ∧
      t.evq.store = s.evq.store ++ [lostRecord f n sec ns] ∧ t = { s with evq := t.evq, sent := t.sent }) ∧
  (∀ (s : State) (m : Nat), s.evq.first8 = some m → s.evq.modTime ≠ 0 → 48 * s.evq.modTime ≤ 1000 * (s.m + 1 - m) →
    exec .ringCoalesceTimer s = .next (State.setCause 8 { s with evq := { s.evq with since8 := 0, first8 := none } }))

/-- A cause that rises sets its bit of INT_STATUS, and on PCIe, with MSI-X enabled, its enabled vector sends a message, or holds
it pending while the vector or the function is masked (R124, R125). -/
def Obligations.InterruptCauses : Prop :=
  ∀ (s : State) (v : Nat), v < 32 →
    (s.setCause v).evq.intStatus = s.evq.intStatus ||| (1#32 <<< v) ∧
    (s.evq.intStatus.getLsbD v = false → s.evq.intEnable.getLsbD v = true → s.id.straps.hostQspi = false →
      s.evq.msixEnable = true → s.evq.msixMask = false → s.evq.masksVector v = false → (s.setCause v).sent = .msix v :: s.sent ∧ (s.setCause v).evq.pba = s.evq.pba) ∧
    (s.evq.intStatus.getLsbD v = false → s.evq.intEnable.getLsbD v = true → s.id.straps.hostQspi = false →
      s.evq.msixEnable = true → s.evq.msixMask = true ∨ s.evq.masksVector v = true → (s.setCause v).sent = s.sent ∧ (s.setCause v).evq.pba = s.evq.pba ||| (1#32 <<< v)) ∧
    ((s.evq.intStatus.getLsbD v = true ∨ s.evq.intEnable.getLsbD v = false ∨ s.evq.msixEnable = false) →
      (s.setCause v).sent = s.sent ∧ (s.setCause v).evq.pba = s.evq.pba)

/-! ### Boot, keys and image update (20) -/

/-- The key commands (R527, R529): a key written into a slot that takes one, a volatile slot locked, cleared, an OTP slot
revoked, an image-key row programmed or revoked and the security minimum raised, with KEY_CHANGED; and KEY_INFO's record.
A pending open on a written, cleared or revoked slot ends (R529). -/
def Obligations.KeyCommands : Prop :=
  (∀ s mb r k, Passes keyWrite s mb r → field r.payload 0 1 = k →
    (if k ≤ 7 then s.otpAllowed mb = true ∧ (s.slot k).blank = true else (s.slot k).locked = false) →
    Completes keyWrite (.keyWrite mb r) s mb r {} fun a =>
      ((a.setSlot k { s.slot k with key := some (r.payload.drop 4) }).endOpens k false).raise 6 0x1102 0
        (evData [(0, leBytes 1 k), (1, leBytes 1 1), (2, leBytes 1 0)])) ∧
  (∀ s mb r k, Passes keyLock s mb r → field r.payload 0 1 = k → field r.payload 1 1 = 1 → 8 ≤ k →
    (s.slot k).locked = false →
    Completes keyLock (.keyLock mb r) s mb r {} fun a =>
      (a.setSlot k { s.slot k with locked := true }).raise 6 0x1102 0
        (evData [(0, leBytes 1 k), (1, leBytes 1 2), (2, leBytes 1 0)])) ∧
  (∀ s mb r k, Passes keyLock s mb r → field r.payload 0 1 = k → field r.payload 1 1 = 2 → 8 ≤ k →
    (s.slot k).locked = false → (s.slot k).key.isSome = true →
    Completes keyLock (.keyLock mb r) s mb r {} fun a =>
      ((a.setSlot k { s.slot k with key := none }).endOpens k false).raise 6 0x1102 0
        (evData [(0, leBytes 1 k), (1, leBytes 1 3), (2, leBytes 1 0)])) ∧
  (∀ s mb r k, Passes keyLock s mb r → field r.payload 0 1 = k → field r.payload 1 1 = 3 → k ≤ 7 →
    s.otpAllowed mb = true → (s.slot k).revoked = false →
    Completes keyLock (.keyLock mb r) s mb r {} fun a =>
      ((a.setSlot k { s.slot k with key := none, revoked := true }).endOpens k false).raise 6 0x1102 0
        (evData [(0, leBytes 1 k), (1, leBytes 1 4), (2, leBytes 1 0)])) ∧
  (∀ s mb r x, Passes keyFuse s mb r → field r.payload 1 1 = x → 1 ≤ x → x ≤ 3 → s.otpAllowed mb = true →
    (field r.payload 0 1 = 1 → (r.payload.drop 4).all (· == 0) = false → s.boot.rows.getD x 0 = 0 →
      Completes keyFuse (.keyFuse mb r) s mb r {} fun a =>
        State.raise 6 0x1102 0 (evData [(0, leBytes 1 x), (1, leBytes 1 5), (2, leBytes 1 0)])
          { a with boot := { a.boot with
              rows := a.boot.rows.set x 1, rowHashes := a.boot.rowHashes.set (x - 1) (r.payload.drop 4) } }) ∧
    (field r.payload 0 1 = 2 → (r.payload.drop 4).all (· == 0) = true → s.boot.rows.getD x 0 = 1 →
      Completes keyFuse (.keyFuse mb r) s mb r {} fun a =>
        State.raise 6 0x1102 0 (evData [(0, leBytes 1 x), (1, leBytes 1 6), (2, leBytes 1 0)])
          { a with boot := { a.boot with rows := a.boot.rows.set x 2 } })) ∧
  (∀ s mb r x, Passes keyFuse s mb r → field r.payload 0 1 = 3 → field r.payload 1 1 = x → 1 ≤ x → x ≤ 63 →
    (r.payload.drop 4).all (· == 0) = true → s.otpAllowed mb = true → s.boot.secMin < x →
    x ≤ s.boot.running.secVersion → s.boot.updState ≠ 3 →
    Completes keyFuse (.keyFuse mb r) s mb r {} fun a =>
      State.raise 6 0x1102 0 (evData [(0, leBytes 1 0), (1, leBytes 1 7), (2, leBytes 1 x)])
        { a with boot := { a.boot with secMin := x } }) ∧
  (∀ s mb r, Passes keyInfo s mb r →
    Completes keyInfo (.keyInfo mb r) s mb r
      { payload := s.boot.slots.toList.flatMap (fun x => leBytes 1 x.infoByte) ++ s.boot.rows.flatMap (leBytes 1)
          ++ leBytes 1 s.boot.secMin ++ zeros 3 } id)

/-- The registers of the key path (R528): BOOT_KEY_CTRL.WRITE puts BOOT_KEY_DATA into an empty volatile slot and clears it,
LOCK ends the path until a PORST; what WRITE may not do it refuses. -/
def Obligations.KeyRegisters : Prop :=
  (∀ (s : State) (v : Word) (k : Nat), s.awake = true → v.getLsbD 5 = false → v.toNat % 16 = k → 8 ≤ k →
    (s.slot k).key = none → (s.slot k).locked = false → s.boot.keyLocked = false →
    s.boot.keyWord.any (· != 0) = true →
    ∃ t u : State, exec (.bootKeyWrite v) s = .next t ∧ t = u.raise 6 0x1102 0
        (evData [(0, leBytes 1 k), (1, leBytes 1 1), (2, leBytes 1 0)]) ∧
      (u.slot k).key = some s.boot.keyWord ∧ u.boot.keyData = List.replicate 8 0 ∧ u.boot.keyRefused = false ∧
      (∀ j : Fin 16, j.val ≠ k → u.slot j = s.slot j) ∧
      u = { s with boot := { s.boot with slots := u.boot.slots, keyData := u.boot.keyData, keyRefused := false },
                   mbx := u.mbx }) ∧
  (∀ (s : State) (v : Word), s.awake = true → v.getLsbD 5 = false →
    (v.toNat % 16 < 8 ∨ s.boot.keyLocked = true ∨ (s.slot (v.toNat % 16)).key.isSome = true) →
    exec (.bootKeyWrite v) s =
      .next { s with boot := { s.boot with keyData := List.replicate 8 0, keyRefused := true } }) ∧
  (∀ (s : State) (v : Word), s.awake = true → v.getLsbD 4 = false →
    exec (.bootKeyLock v) s = .next { s with boot := { s.boot with keyLocked := true } })

/-- Download and stop codes of the boot ROM (R519, R522, R526): GO takes a chunk, FINAL an image that verifies or rejects it
with its reason for 10 ms, and a stop code stands in BOOT_STATUS. Only the first of a run of chunks raises CODE to 3. -/
def Obligations.BootRom : Prop :=
  (∀ (s : State) (v : Word), s.downloading = true → s.boot.code = 3 → v.getLsbD 1 = false → 4 ≤ s.boot.dlLength →
    s.boot.dlLength ≤ 917504 → s.boot.dlLength % 4 = 0 →
    exec (.bootDlGo v) s = .next { s with boot := { s.boot with
      dlImage := s.boot.dlImage.writeBytes s.boot.dlOffset (s.mem.bar2.readBytes 0x20000 s.boot.dlLength) } }) ∧
  (∀ (s : State) (v : Word), s.downloading = true → s.boot.code = 3 → v.getLsbD 0 = false →
    verifyImage s.boot s.boot.dlImage 8388608 ≠ 0 →
    ∃ t, exec (.bootDlFinal v) s = .next t ∧ t.boot.code = 0x83 ∧ t.boot.dlReturnAt = some (s.time.ticks + 480) ∧
      t.boot.detail = BitVec.ofNat 32 (verifyImage s.boot s.boot.dlImage 8388608) ∧ OnlyEvents { s with boot := t.boot } t) ∧
  (∀ (s : State) (v : Word), s.downloading = true → s.boot.code = 3 → v.getLsbD 0 = false →
    verifyImage s.boot s.boot.dlImage 8388608 = 0 →
    ∃ t, exec (.bootDlFinal v) s = .next t ∧ t.boot.code = 5 ∧ t.boot.source = 2 ∧
      t.boot.running = imageInfo (s.boot.dlImage.readBytes 0 256) ∧ OnlyEvents { s with boot := t.boot } t) ∧
  (∀ (s : State) (at_ : Nat), s.boot.dlReturnAt = some at_ → at_ ≤ s.time.ticks → s.boot.code = 0x83 →
    ∃ t, exec .downloadReturn s = .next t ∧ t.boot = { s.boot with code := 3, dlImage := [], dlReturnAt := none } ∧
      OnlyEvents { s with boot := t.boot } t) ∧
  (∀ (s : State) (code : Byte) (unit : Nat), s.awake = true → s.boot.code < 7 →
    (code = 0x86 ∧ s.id.straps.download = true ∧ s.id.straps.hostQspi = true) ∨
      ((code = 0x81 ∨ code = 0x82) ∧ s.id.straps.download = false ∧ s.boot.warm = false) ∨
      ((code = 0x84 ∨ code = 0x85) ∧ s.boot.warm = false) →
    ∃ t, exec (.bootStop code unit) s = .next t ∧ t.boot.code = code.toNat ∧
      t.boot.detail = BitVec.ofNat 32
        (if code = 0x82 then unit % 0x10000 else if code = 0x84 ∨ code = 0x85 then 0x10000 * (unit % 256) else 0) ∧
      OnlyEvents { s with boot := t.boot } t)

/-- The update of the image (R530, R531): staging writes the chunk, the verification's end tells its result, activation puts the
staged image on trial and resets at the block boundary. -/
def Obligations.ImageUpdate : Prop :=
  (∀ s mb r off n, Passes fwStage s mb r → bit (field r.payload 0 1) 0 = false → field r.payload 4 4 = off →
    field r.payload 8 4 = n → s.boot.source ≠ 2 → s.boot.updState = 1 →
    s.hitsAttachment mb (field r.payload 12 4) n = false →
    Completes fwStage (.fwStage mb r) s mb r {} fun a =>
      { a with boot := { a.boot with
          staging := a.boot.staging.writeBytes off (s.readBulk mb (field r.payload 12 4) n)
          stagedLen := max a.boot.stagedLen (off + n)
          updState := if bit (field r.payload 0 1) 1 then 2 else 1 } }) ∧
  (∀ (s : State) (ok : Bool), s.boot.updState = 2 → s.ready = true →
    ∃ t, exec (.fwStaged ok) s = .next t ∧
      t.boot = { s.boot with
        updState := t.boot.updState, updReason := t.boot.updReason
        staged := imageInfo (s.boot.staging.readBytes 0 256) } ∧
      t.boot.updReason = (if verifyImage s.boot s.boot.staging s.boot.stagedLen ≠ 0
        then verifyImage s.boot s.boot.staging s.boot.stagedLen else if ok then 0 else 8) ∧
      (t.boot.updState = 3 ↔ t.boot.updReason = 0) ∧ (t.boot.updState = 4 ↔ t.boot.updReason ≠ 0) ∧ OnlyEvents { s with boot := t.boot } t) ∧
  (∀ s mb r, Passes fwActivate s mb r → (field r.payload 0 1 = 0 ∨ field r.payload 0 1 = s.ownSide) → s.pair.state ≠ 3 →
    s.boot.updState = 3 →
    Completes fwActivate (.fwActivate mb r) s mb r {} fun a =>
      { a with boot := { a.boot with
          active := 1 - a.boot.active, trial := true, descSeq := a.boot.descSeq + 1, kept := a.boot.staged
          keptTrial := true, activateAt := some (a.time.block + 1) } })

/-! ### Nodes (03) -/

/-- A node is created at the index named or the lowest free one, disabled, with its record's parameters (R82 to R87), and a
destroyed node leaves the tables with its connections and its waiting changes (R88). INIT_SEQ and INIT_TS of an RTP stream
that asks for it come from the random source (R304, log 3). -/
def Obligations.CreateAndDestroy : Prop :=
  (∀ s mb r t k, Passes nodeCreate s mb r → nodeType r.node.toNat = t → r.payload.length = (recordOf t).len →
    (if nodeIdx r.node.toNat ≠ 0xFFFFFF then
      k = nodeIdx r.node.toNat ∧ (s.indexRange t r.payload).1 ≤ k ∧
        k < (s.indexRange t r.payload).1 + (s.indexRange t r.payload).2 ∧ s.live (mkNode t k) = false
      else s.freeIndex t (s.indexRange t r.payload) = some k) →
    s.liveCount < 131072 → s.recordCheck t r.payload = 0 →
    Completes nodeCreate (.nodeCreate mb r) s mb r { node := some (BitVec.ofNat 32 (mkNode t k)) } fun a =>
      (a.drawInit t (recordItems t r.payload)).2.createNode (mkNode t k) (a.drawInit t (recordItems t r.payload)).1) ∧
  (∀ (s : State) (id : Nat) (items : List (Nat × Bytes)),
    ∃ ps, (s.createNode id items).nodes = setA id { params := ps } s.nodes ∧
      getA id (s.createNode id items).nodes = some { params := ps } ∧
      (∀ k, k ≠ id → getA k (s.createNode id items).nodes = getA k s.nodes) ∧
      (s.running id = false → getA id s.leaving = none →
        s.createNode id items = { s with nodes := setA id { params := ps } s.nodes })) ∧
  (∀ s mb r id, Passes nodeDestroy s mb r → r.node.toNat = id → s.heldBySlab id = false →
    Completes nodeDestroy (.nodeDestroy mb r) s mb r {} fun a => (a.removeNode id).destroyHook id (s.node id)) ∧
  (∀ (s : State) (id : Nat),
    getA id (s.removeNode id).nodes = none ∧
    (∀ c ∈ (s.removeNode id).conns, c ∈ s.conns ∧ c.src ≠ id ∧ c.dst ≠ id) ∧
    (∀ k, k ≠ id → getA k (s.removeNode id).nodes = getA k s.nodes) ∧
    s.removeNode id = { s with
      nodes := (s.removeNode id).nodes, conns := (s.removeNode id).conns, leaving := (s.removeNode id).leaving
      pend := (s.removeNode id).pend, pendLate := (s.removeNode id).pendLate
      ren := { s.ren with zoneWait := (s.removeNode id).ren.zoneWait } })

/-- NODE_ENABLE commits the node's cost, places it and gives it the next admission order; NODE_DISABLE releases the cost (R32,
R33, R36, R89). What either means in the node's own unit is the hook of its type. -/
def Obligations.EnableAndDisable : Prop :=
  (∀ s mb r id cost c, Passes nodeEnable s mb r → r.node.toNat = id → s.enableCheck id = 0 →
    s.admission id = some (cost, c) →
    Completes nodeEnable (.nodeEnable mb r) s mb r
      { payload := leBytes 4 cost ++ leBytes 1 (c.getD 0xFF) ++ zeros 3 } fun a =>
        (State.setNode id { a.node id with
            state := .enabled, reason := 0, cluster := c, bcu := cost, order := (a.bench.enables + 1) % 2 ^ 32 }
          { a with bench := { a.bench with enables := (a.bench.enables + 1) % 2 ^ 32 } }).enableHook id true) ∧
  (∀ s mb r id, Passes nodeDisable s mb r → r.node.toNat = id → s.disableCheck id = 0 →
    Completes nodeDisable (.nodeDisable mb r) s mb r {} fun a =>
      (a.setNode id { a.node id with state := .disabled, reason := 0, cluster := none, bcu := 0, order := 0 }).enableHook
        id false) ∧
  (∀ (s : State) (id : Nat) (n : Node), (s.setNode id n).node id = n ∨
    (isFixed (nodeType id) = true ∧ n = {} ∧ (s.setNode id n).node id = (getA id s.leaving).getD {})) ∧
  (∀ (s : State) (id : Nat) (n : Node), s.setNode id n = { s with nodes := (s.setNode id n).nodes } ∧
    ∀ k, k ≠ id → getA k (s.setNode id n).nodes = getA k s.nodes) ∧
  (∀ (s : State) (id : Nat) (on : Bool),
    nodeType id ≠ Ty.spk → nodeType id ≠ Ty.zone → nodeType id ≠ Ty.obj → nodeType id ≠ Ty.link → nodeType id ≠ Ty.ash →
    s.enableHook id on = s)

/-- NODE_SET leaves its items for the block boundary of R86, and NODE_GET returns the status record and the parameters named
(R91, R92). A set that fails a check changes nothing (`FailuresChangeNothing`). Connections are made and removed by name (R93 to
R95); the engines read them from the next block (R86). -/
def Obligations.ParametersAndConnections : Prop :=
  (∀ s mb r id items, Passes nodeSet s mb r → r.node.toNat = id → itemsOf r.payload = some items →
    s.setCheck id r.payload = 0 →
    Completes nodeSet (.nodeSet mb r) s mb r {} fun a => a.setItems id items) ∧
  (∀ (s : State) (id : Nat) (items : List (Nat × Bytes)), nodeType id ≠ Ty.obj → nodeType id ≠ Ty.spk →
    s.enabled id = false → s.closedView = none →
    s.setItems id items = { s with pend := s.pend ++ (setChanges id items).map .change }) ∧
  (∀ s mb r id ids, Passes nodeGet s mb r → r.node.toNat = id → s.namedPars id r.payload = ids →
    (∀ pid ∈ ids, (s.par? id pid).isSome = true) →
    (s.statusRecord id ++ ids.flatMap fun pid => itemBytes pid (s.getPar id pid)).length ≤ 8176 →
    Completes nodeGet (.nodeGet mb r) s mb r
      { payload := s.statusRecord id ++ ids.flatMap fun pid => itemBytes pid (s.getPar id pid) } fun a => a) ∧
  (∀ s mb r, Passes nodeConnect s mb r → s.connectCheck (connOf r) = 0 →
    Completes nodeConnect (.nodeConnect mb r) s mb r {} fun a => { a with conns := a.conns ++ [connOf r] }) ∧
  (∀ s mb r, Passes nodeDisconnect s mb r → connOf r ∈ s.conns →
    Completes nodeDisconnect (.nodeDisconnect mb r) s mb r {} fun a =>
      { a with conns := a.conns.filter (· != connOf r) }) ∧
  (∀ (s : State) (c d : Conn), s.connectCheck c = 0 → d ∈ s.conns → ¬(d.dst = c.dst ∧ d.dstIn = c.dstIn))

/-! ### Slabs and scheduled actions (03, 05) -/

/-- Slabs: opened at the lowest free index, filled, committed at a time or at once, aborted, and applied at their sample (R97 to
R104, R577). -/
def Obligations.SlabCommands : Prop :=
  (∀ s mb r i, Passes slabOpen s mb r → lowestFree (s.slabs.map Slab.index) 64 = some i →
    (s.slabs.filter fun sl => sl.session == mb.val && sl.isOpen).length < 16 →
    sumN (s.slabs.map Slab.reserveKiB) + field r.payload 0 4 ≤ 65536 → s.liveCount < 131072 →
    Completes slabOpen (.slabOpen mb r) s mb r { node := some (BitVec.ofNat 32 (slabId i)) } fun a =>
      { a with slabs := putKey Slab.index { index := i, session := mb, reserveKiB := field r.payload 0 4 } a.slabs }) ∧
  (∀ s mb r i sl cs xp par bytes, Passes slabWrite s mb r → nodeIdx r.node.toNat = i → s.slab? i = some sl →
    sl.state = .open_ → sl.session = mb.val →
    s.slabItems mb r.payload.length r.payload = some (cs, xp, par, bytes) →
    (∀ c ∈ cs, s.live c.node = true) →
    (∀ c ∈ cs, nodeType c.node = Ty.spk → s.comboCheck c.node [(c.pid, c.val)] = 0) →
    sl.bytes + bytes ≤ sl.reserveKiB * 1024 → s.slabHits mb r.payload.length r.payload = false →
    Completes slabWrite (.slabWrite mb r) s mb r {} fun a =>
      { a with slabs := putKey Slab.index { sl with
          items := sl.items ++ cs, xpCount := sl.xpCount + xp, parCount := sl.parCount + par
          bytes := sl.bytes + bytes } a.slabs }) ∧
  (∀ s mb r i sl k, Passes slabCommit s mb r → nodeIdx r.node.toNat = i → s.slab? i = some sl → sl.state = .open_ →
    sl.session = mb.val → field r.payload 0 1 = 2 → s.slabEarliest sl ≤ field r.payload 4 8 →
    s.slabConflict sl (field r.payload 4 8) = false → s.slabAdmits sl = true → s.actionIndex = some k →
    (s.slabs.filter fun x => x.state == .pending).length < 16 →
    Completes slabCommit (.slabCommit mb r) s mb r
      { payload := commitReply (actionId k) (field r.payload 4 8) 0 } fun a =>
        (a.commitSlab { sl with state := .pending, due := field r.payload 4 8 }).armAction
          { index := k, netTime := none, due := field r.payload 4 8, session := mb, body := .slab i }) ∧
  (∀ s mb r i sl, Passes slabCommit s mb r → nodeIdx r.node.toNat = i → s.slab? i = some sl → sl.state = .open_ →
    sl.session = mb.val → field r.payload 0 1 = 0 → s.slabConflict sl (s.slabEarliest sl) = false →
    s.slabAdmits sl = true →
    Waits slabCommit (.slabCommit mb r) s mb fun a =>
      a.commitSlab { sl with
        state := .applying, due := s.slabEarliest sl, late := false, lateNs := 0, waiter := some (mb.val, r) }) ∧
  (∀ s mb r sl, Passes slabAbort s mb r → s.slab? (nodeIdx r.node.toNat) = some sl →
    ((sl.isOpen = true ∧ sl.session = mb.val) ∨ (sl.state = .pending ∧ s.time.block < sl.due / 16)) →
    Completes slabAbort (.slabAbort mb r) s mb r {} fun a => a.dropSlab sl.index) ∧
  (∀ (s : State) (i : Nat), (s.dropSlab i).slab? i = none ∧ ∀ a ∈ (s.dropSlab i).time.actions, a.body ≠ .slab i)

/-- A Slab takes effect as a whole at its sample (R100, R101, R106): its changes are applied there, the costs follow, and
SLAB_APPLIED tells the sample and the lateness. -/
def Obligations.SlabTakesEffect : Prop :=
  ∀ (s : State) (i : Nat) (sl : Slab), s.slab? i = some sl → sl.waits = true → sl.due < s.blockEnd → s.awake = true →
    s.slabNext sl = true → sl.waiter = none →
    ∃ u t : State, u = s.reach sl.due ∧ exec (.slabApplied i) s = .next t ∧
      t = ((State.noteSet sl ((u.dropSlab i).applyAt sl.due ((u.dropSlab i).slabStands sl) fun g => sl.order < g.order)).settleCosts
        (sl.items.map Change.node).eraseDups).raise 16 0x0011 (slabId i)
          (evData [(0, leBytes 8 sl.due), (8, leBytes 4 (u.slabLate sl)), (12, leBytes 4 (ofBool sl.late))])

/-- Scheduled actions: armed in the table, cancelled before their due sample is frozen, fired at their due sample with
ACTION_FIRED (R144 to R149). -/
def Obligations.ScheduledActions : Prop :=
  (∀ s mb r i, Passes timeSchedule s mb r → field r.payload 0 1 = 2 →
    s.bodyCheck mb (field r.payload 1 1) (r.payload.drop 20) = 0 → s.actionIndex = some i →
    s.actionEarliest (field r.payload 1 1) ≤ field r.payload 4 8 →
    Completes timeSchedule (.timeSchedule mb r) s mb r
      { node := some (BitVec.ofNat 32 (actionId i)), payload := leBytes 8 (field r.payload 4 8) ++ leBytes 4 0 ++ zeros 4 }
      fun a => a.armAction { index := i, netTime := none, due := field r.payload 4 8, session := mb,
                             body := actionBody (field r.payload 1 1) (r.payload.drop 20) }) ∧
  (∀ s mb r a, Passes timeCancel s mb r → s.action? (nodeIdx r.node.toNat) = some a → a.isSlab = false →
    s.time.block < a.due / 16 - 2 →
    Completes timeCancel (.timeCancel mb r) s mb r {} fun u => u.dropAction a.index) ∧
  (∀ (s : State) (a : Action) (v : Bytes), s.action? a.index = some a → s.isNext a.turn = true → a.body = .marker v →
    a.due < s.blockEnd → s.awake = true → a.late = false →
    exec (.actionFired a.index) s =
      .next (((s.reach a.due).dropAction a.index).raise 131 0x0203 (actionId a.index)
        (evData [(0, v), (8, leBytes 4 0), (12, leBytes 2 0), (14, leBytes 1 0)]))) ∧
  (∀ (s : State) (a : Action) (g : Nat) (level : Bool), a.body = .gpio g level → s.enabled (mkNode Ty.gpio g) = true →
    s.parN (mkNode Ty.gpio g) 1 = 1 →
    s.fireBody a = (0, (s.storePar (mkNode Ty.gpio g) 2 [BitVec.ofNat 8 (ofBool level)]).driveGpio g)) ∧
  (∀ (s : State) (a : Action) (id : Nat), a.body = .portStart id → s.enabled id = true → s.portStarted id = false →
    s.fireBody a = (0, s.startPort id)) ∧
  (∀ (s : State) (a : Action), (s.armAction a).time.actions.length = s.time.actions.length + 1)

/-! ### Time (05) -/

/-- The time commands (R12, R134, R150): TIME_GET samples both clocks within the sample in progress, at a phase that the spec
leaves open (log 3); the settings wait for the block boundary. -/
def Obligations.TimeCommands : Prop :=
  (∀ s mb r, Passes timeGet s mb r → ∃ phase, phase < 20834 ∧
    Completes timeGet (.timeGet mb r) s mb r
      { payload :=
          leBytes 8 ((s.time.net + phase * 196608) / 196608 / 1000000000)
            ++ leBytes 4 ((s.time.net + phase * 196608) / 196608 % 1000000000)
            ++ leBytes 2 ((s.time.net + phase * 196608) % 196608 / 3) ++ zeros 2 ++ leBytes 8 (16 * s.time.block + s.time.pos)
            ++ leBytes 4 phase ++ zeros 4 ++ leSigned 8 s.time.epoch ++ leBytes 1 s.time.servo.code
            ++ leBytes 1 s.time.parentPort ++ leBytes 2 s.time.steps ++ signedNs s.time.offset ++ leSigned 4 s.time.rateAdj
            ++ leBytes 8 s.time.gm.toNat
            ++ leBytes 4 (if s.time.servo = .holdover then (s.time.ticks - s.time.holdSince) / 48000 else 0) }
      fun a => { a with free := a.free + 1 }) ∧
  (∀ s mb r, Passes timeConfig s mb r → (∀ p, p < 4 → (s.latestPort p).enable = false) →
    (field r.payload 16 1 = 1 → s.latestPins.mclkIn ≠ 0) →
    Completes timeConfig (.timeConfig mb r) s mb r {} fun a =>
      { a with time := { a.time with pendCfg := some (timeCfgOf r.payload) } }) ∧
  (∀ s mb r i n, Passes timePortSet s mb r → nodeIdx r.node.toNat = i → ptpPortOf (s.latestPort i) r.payload = n →
    profileOk s.latestCfg.profile n = true → s.latestCfg.profile ≠ 0 →
    (n.enable = false ∨ s.latestCfg.clockType ≠ 0 ∨ ∀ j, j < 4 → j ≠ i → (s.latestPort j).enable = false) →
    Completes timePortSet (.timePortSet mb r) s mb r {} fun a =>
      { a with time := { a.time with pendPorts := setA i n a.time.pendPorts } }) ∧
  (∀ s mb r, Passes timeSet s mb r → s.latestCfg.servoSource ≠ 0 →
    (s.latestCfg.servoSource = 1 → field r.payload 8 4 = 0 ∧ field r.payload 12 2 = 0) →
    Completes timeSet (.timeSet mb r) s mb r {} fun a =>
      { a with time := { a.time with
          pendSet := some (timeOf (field r.payload 0 8) (field r.payload 8 4) (field r.payload 12 2)) } }) ∧
  (∀ s mb r, Passes timePinSet s mb r → (field r.payload 6 1 ≠ 0 ∨ s.latestCfg.mediaSource ≠ 1) →
    ∃ pins : TimePins, pins.ppsOut = field r.payload 0 1 ∧ pins.ppsWidth = field r.payload 2 2 ∧
      pins.ppsIn = field r.payload 4 1 ∧ pins.mclkOut = field r.payload 5 1 ∧ pins.mclkIn = field r.payload 6 1 ∧
      pins.cableDelay = sfield r.payload 8 4 ∧
      Completes timePinSet (.timePinSet mb r) s mb r {} fun a =>
        { a with time := { a.time with pendPins := some pins } })

/-- The servo's rows (R139 to R142, R151): a step at the next sample boundary, holdover, the PPS input, the media clock pulled
onto its samples again, the end of a slew, a parent lost. The model applies a residual at once when its row arrives, never
before 10 ppm allow it (log 12). -/
def Obligations.ServoRows : Prop :=
  (∀ (s : State) (d : Int), s.time.pendStep = some d → s.awake = true →
    ∃ u : State, u = s.reach (s.m + 1) ∧ exec .timeStep s = .next u.applyStep) ∧
  (∀ (s u : State) (delta : Int), s.stepTime delta = u →
    (s.following = false → u.time.epoch = s.time.epoch + divEven delta 4096000000) ∧
    (0 ≤ s.time.net + delta → (u.time.net : Int) = s.time.net + delta) ∧ u.time.pendStep = none ∧
    u.time.pull = s.time.pull + (delta - divEven delta 4096000000 * 4096000000)) ∧
  (∀ s : State, s.time.servo = .locked → s.time.cfg.servoSource = 1 → s.time.lastPps + 3 * 48000 ≤ s.time.ticks →
    exec .holdoverEntry s = .next (s.setServo .holdover)) ∧
  (∀ s : State, s.time.servo = .acquiring ∨ s.time.servo = .locked → s.time.cfg.servoSource = 0 → s.time.parentPort = 0xFF →
    exec .holdoverEntry s = .next (s.setServo .holdover)) ∧
  (∀ (s : State) (stamp : Nat), s.time.pins.ppsIn ≠ 0 → s.time.cfg.servoSource ≠ 1 →
    ∃ t, exec (.ppsInEdge stamp) s = .next t ∧ t.time.lastPps = s.time.ticks ∧ t.time.ppsLost = false ∧
      t = { s with time := { s.time with
        lastPps := t.time.lastPps, ppsRun := t.time.ppsRun, ppsSeconds := t.time.ppsSeconds, ppsLost := false } }) ∧
  (∀ s : State, s.time.pins.ppsIn ≠ 0 → 0 < s.time.ppsRun → s.time.ppsLost = false →
    s.time.lastPps + 3 * 48000 ≤ s.time.ticks →
    exec .ppsInLost s = .next (State.raise 133 0x0205 0 (evData [(0, leBytes 8 s.time.ppsSeconds)])
      { s with time := { s.time with ppsLost := true, ppsRun := 0 } })) ∧
  (∀ (s t : State) (r : Int), s.time.residual = some r → s.awake = true →
    State.alignedAt (s.blockEnd - s.m) s = some t →
    exec .mediaAligned s = .next (State.raise 134 0x0206 0
      (evData [(0, leSigned 8 t.time.epoch), (8, signedNs r), (12, leBytes 1 1)])
      { t with time := { t.time with residual := none } })) ∧
  (∀ (s t : State) (n : Nat), State.alignedAt n s = some t → t.time.pull = 0) ∧
  (∀ (s : State) (phase : Int), s.time.slewing = true → 24 * phase.natAbs ≤ 5 * (s.m - s.time.slewFrom) →
    (s.time.cfg.mediaSource = 0 → s.time.pull = 0) →
    ∃ t, exec (.mediaSourceSlewEnd phase) s = .next t ∧ t.time = { s.time with slewing := false } ∧
      OnlyEvents { s with time := t.time } t) ∧
  (∀ (s : State), s.time.cfg.servoSource = 0 → s.time.parentPort < 4 →
    s.time.lastAnnounce + (s.time.ports.getD s.time.parentPort {}).announceTimeout
      * logInterval (s.time.ports.getD s.time.parentPort {}).logAnnounce ≤ s.time.ticks + 15 →
    (∃ t, exec (.announceReceiptTimeout none) s = .next t ∧ t.time = { s.time with parentPort := 0xFF } ∧
      OnlyEvents { s with time := t.time } t) ∧
    ∀ a : Announce, ∃ t, exec (.announceReceiptTimeout (some a)) s = .next t ∧ t.time.parentPort = a.port.val ∧
      t.time.gm = a.gm ∧ t.time.steps = a.steps ∧ t.time.lastAnnounce = s.time.ticks ∧ t.time.servo = .acquiring ∧
      OnlyEvents { s with time := t.time, free := t.free } t)

/-- PTP on a port (R135 to R138): another domain's message and an authenticated one are counted and change nothing else, an
Announce that does not win changes no parent, a message leaves with its stamp, calibration brings the port up. -/
def Obligations.PtpMessages : Prop :=
  (∀ (s : State) (p : PtpMessage) (x : PtpPort), s.time.ports[p.port.val]?.getD {} = x → x.enable = true →
    s.time.cfg.profile ≠ 0 → s.linkUp p.port.val = true → s.ready = true →
    (p.body = .authenticated →
      exec (.ptpMessageRx p) s = .next (s.setPtp p.port.val { x with authDropped := satAdd32 x.authDropped 1 })) ∧
    (∀ f, p.body = .management f → exec (.ptpMessageRx p) s =
      .next (s.toHost p.port.val (if (parseEth f).type = 0x88F7 then 3 else 10) f)) ∧
    (p.body ≠ .authenticated → (∀ f, p.body ≠ .management f) → p.domain ≠ s.time.cfg.domain →
      exec (.ptpMessageRx p) s = .next (s.setPtp p.port.val { x with otherDomain := satAdd32 x.otherDomain 1 })) ∧
    (∀ gm steps better path, p.body = .announce gm steps better path → p.domain = s.time.cfg.domain →
      exec (.ptpMessageRx p) s = .next (s.announceIn p.port.val gm steps better path)) ∧
    (∀ origin correction t2, p.body = .sync origin correction → p.domain = s.time.cfg.domain → x.calibrated = true →
      t2 = (p.stamp : Int) - x.phy + x.ingress →
      exec (.ptpMessageRx p) s = .next ((s.setPtp p.port.val { x with lastSync := some (origin + correction, t2) }).syncIn
        p.port.val (t2 - (origin + correction) - x.delay - x.asymmetry))) ∧
    (p.body = .delayReq → p.domain = s.time.cfg.domain → x.calibrated = true →
      exec (.ptpMessageRx p) s =
        .next (s.setPtp p.port.val { x with delayReqAt := some ((p.stamp : Int) - x.phy + x.ingress) })) ∧
    (p.body = .pdelayReq → p.domain = s.time.cfg.domain → x.calibrated = true →
      exec (.ptpMessageRx p) s =
        .next (s.setPtp p.port.val { x with pdelayReqAt := some ((p.stamp : Int) - x.phy + x.ingress) })) ∧
    (x.calibrated = false → p.domain = s.time.cfg.domain →
      (∃ o c, p.body = .sync o c) ∨ p.body = .delayReq ∨ p.body = .pdelayReq ∨ (∃ a b c, p.body = .pdelayResp a b c) →
      exec (.ptpMessageRx p) s = .next s)) ∧
  (∀ (s : State) (port : Fin 4) (kind : PtpKind) (x : PtpPort), s.time.ports[port.val]?.getD {} = x → x.enable = true →
    x.calibrated = true → s.time.cfg.profile ≠ 0 → s.linkUp port.val = true → s.ready = true →
    (kind = .delayResp → x.delayReqAt.isSome = true) → (kind = .pdelayResp → x.pdelayReqAt.isSome = true) →
    ∃ (t : State) (at_ : Int) (msg : PtpSent), exec (.ptpMessageTx port kind) s = .next t ∧
      (s.time.net / 768 : Nat) + x.phy + x.egress ≤ at_ ∧ at_ < (s.time.net / 768 : Nat) + 5333333 + x.phy + x.egress ∧
      t.sent = .ptp port.val msg :: s.sent ∧ msg.kind = kind ∧ msg.transport = x.transport ∧
      (msg.followUp.isSome = true ↔ x.step ≠ 1 ∧ (kind = .sync ∨ kind = .pdelayResp)) ∧
      (kind = .sync → x.step = 1 → msg.origin = some at_) ∧ (kind = .sync → x.step ≠ 1 → msg.followUp = some at_) ∧
      (kind = .delayResp → msg.origin = x.delayReqAt) ∧
      (∀ t0, kind = .pdelayResp → x.pdelayReqAt = some t0 → x.step = 1 → msg.correction = at_ - t0) ∧
      (x.transport = 2 → msg.appended = 2) ∧ (x.transport ≠ 2 → msg.appended = 0) ∧
      t = { s with time := t.time, eth := t.eth, sent := t.sent, free := s.free + 1 }) ∧
  (∀ (s : State) (port : Fin 4) (phy : Nat), (s.port port.val).link = 1 →
    ∃ t, exec (.portCalibrated port phy) s = .next t ∧ (t.port port.val).link = 2 ∧
      (t.time.ports[port.val]?.getD {}).calibrated = true ∧ (t.time.ports[port.val]?.getD {}).phy = phy ∧
      (∀ k : Fin 4, k ≠ port → t.port k.val = s.port k.val) ∧
      OnlyEvents { s with time := t.time, eth := t.eth } t)

/-! ### Audio ports and decimation (06) -/

/-- TDM slave ports (R162, R165, R166): a frame edge starts a waiting port at its start sample, brings back a lost one at the
next block, and a running port's clock that stops is lost from the next block; FE_RESYNC leaves its resets for the boundary
(R180). -/
def Obligations.AudioPorts : Prop :=
  (∀ s mb r, Passes feResync s mb r →
    Completes feResync (.feResync mb r) s mb r {} fun a =>
      a.atBoundary (.micReset (field r.payload 0 2) (field r.payload 2 2))) ∧
  (∀ (s u : State) (port : Fin 32) (bits m phase edge m0 q : Nat) (t : TdmPort), s.awake = true → s.m ≤ m →
    edge = (if phase = 0 then m else m - 1) → 16 * s.time.block ≤ edge → m ≤ s.blockEnd → s.tdmPar port 1 = 0 →
    s.reach edge = u → u.tdm? port = some t → u.frameSample m phase = q →
    (t.run = .waiting → t.start = some m0 →
      exec (.tdmFrame port bits ⟨m, phase⟩) s = .next (if m0 * u.perSmp ≤ q then
          (u.setTdm { t with
            lastFrame := q, phase := phase, run := .running, start := some (q / u.perSmp) }).tdmClocksOn t.port
        else u.setTdm { t with seen := some q, phase := phase })) ∧
    (t.run = .lost →
      exec (.tdmFrame port bits ⟨m, phase⟩) s = .next ((u.setTdm { t with
          run := .running, backAt := some (16 * (u.time.block + 1)), lastFrame := q, phase := phase }).raise 641 0x0301
        (mkNode Ty.tdmPort t.port)
        (evData [(0, leBytes 1 2), (4, leBytes 4 phase), (8, leBytes 8 u.m)]))) ∧
    (t.run = .running → q = t.lastFrame + 1 →
      exec (.tdmFrame port bits ⟨m, phase⟩) s = .next (State.tdmLength t.port q bits false
        (State.tdmSlow t.port [] (u.setTdm { t with phase := phase, lastFrame := q }))))) ∧
  (∀ (s : State) (port : Fin 32) (t : TdmPort), s.tdm? port = some t → t.run = .running → s.tdmPar port 1 = 0 →
    exec (.tdmClockLost port) s =
      .next ((s.setTdm { t with run := .lost, lostFrom := some (16 * (s.time.block + 1)), backAt := none }).raise 641 0x0301
        (mkNode Ty.tdmPort port) (evData [(0, leBytes 1 1), (4, leBytes 4 0), (8, leBytes 8 s.m)]))) ∧
  (∀ (s : State) (t : TdmPort), (s.setTdm t).tdm? t.port = some t)

/-- Microphones (R174, R175, R178): the main response becomes valid, the hand-over completes, a response swap ends, each at its
instant in the strobe period. -/
def Obligations.MicrophoneInstants : Prop :=
  (∀ (s u : State) (mic : Fin 256) (kind d : Nat) (x : Mic), s.pdmValidDue mic = some (kind, d) → s.awake = true →
    d < s.blockEnd → s.reach d = u → u.mic? mic = some x →
    exec (.pdmValid mic) s =
      .next ((u.setMic (if kind = 1 then { x with said1 := true } else { x with said2 := true })).raise 642 0x0302
        (mkNode Ty.mic mic) (evData [(0, leBytes 1 kind), (1, leBytes 1 x.now.active), (4, leBytes 8 d)]))) ∧
  (∀ (s u : State) (mic : Fin 256) (d : Nat) (x : Mic), s.handOverDue mic = some d → s.awake = true →
    d < s.blockEnd → s.reach d = u → u.mic? mic = some x →
    exec (.handOverComplete mic) s =
      .next ((u.setMic { x with now := { x.now with handed := true, valid := true }, said3 := true }).raise 642 0x0302
        (mkNode Ty.mic mic) (evData [(0, leBytes 1 3), (1, leBytes 1 x.now.active), (4, leBytes 8 d)]))) ∧
  (∀ (s u : State) (mic : Fin 256) (d : Nat) (x : Mic) (f : MicFade), s.responseFadeDue mic = some d → s.awake = true →
    d < s.blockEnd → s.reach d = u → u.mic? mic = some x → x.now.fade = some f → x.pendSwap = none →
    exec (.responseSwap mic) s =
      .next ((u.setMic { x with now := { x.now with active := f.dst, fade := none, past := f :: x.now.past } }).swapEvent
        mic 1 f.src f.dst 0 d)) ∧
  (∀ (s : State) (x : Mic), (s.setMic x).mic? x.mic = some x)

/-! ### Gallery (07) -/

/-- The crosspoint commands (R190, R206): every entry written waits for the block boundary of R86, in order; a read returns what
is stored; a profile's length waits for the boundary; the status record. -/
def Obligations.GalleryCommands : Prop :=
  (∀ s mb r n o, Passes galXpWrite s mb r → nodeIdx r.node.toNat = o → field r.payload 2 2 = n →
    r.payload.length = 8 + 4 * n → field r.payload 0 2 + n ≤ 4096 → (∀ e ∈ words32 n (r.payload.drop 8), e < 0x20000000) →
    Completes galXpWrite (.galXpWrite mb r) s mb r {} fun a =>
      a.xpRun o (field r.payload 0 2) (words32 n (r.payload.drop 8))) ∧
  (∀ s mb r on n es, Passes galXpBulk s mb r → field r.payload 2 2 = on → field r.payload 6 2 = n →
    words32 (on * n) (s.readBulk mb (field r.payload 8 4) (4 * on * n)) = es → (∀ e ∈ es, e < 0x20000000) →
    s.hitsAttachment mb (field r.payload 8 4) (4 * on * n) = false →
    Completes galXpBulk (.galXpBulk mb r) s mb r {} fun a =>
      (List.range on).foldl (fun a k =>
        a.xpRun (field r.payload 0 2 + k) (field r.payload 4 2) ((es.drop (k * n)).take n)) a) ∧
  (∀ (s : State) (o first : Nat) (es : List Nat), s.closedView = none →
    ∀ l : List Pend, l = (List.range es.length).map (fun j =>
        Pend.change ⟨mkNode Ty.galOut o, 0x1000 + first + j, leBytes 4 (es.getD j 0)⟩) →
      s.xpRun o first es = { s with pend := s.pend ++ l }) ∧
  (∀ s mb r, Passes galXpRead s mb r →
    Completes galXpRead (.galXpRead mb r) s mb r
      { payload := ((List.range (field r.payload 2 2)).map (field r.payload 0 2 + ·)).flatMap fun i =>
          leBytes 4 (s.gal.entry (nodeIdx r.node.toNat) i).toNat
            ++ if field r.payload 4 1 = 1 then leSigned 4 (s.gal.lastGain (nodeIdx r.node.toNat) i) else [] }
      fun a => a) ∧
  (∀ s mb r, Passes galProfileSet s mb r →
    Completes galProfileSet (.galProfileSet mb r) s mb r {} fun a =>
      a.atBoundary (.profile (field r.payload 0 1) (field r.payload 4 4))) ∧
  (∀ s mb r, Passes galStatus s mb r →
    Completes galStatus (.galStatus mb r) s mb r
      { payload := leBytes 1 s.slicesIn ++ zeros 1 ++ leBytes 2 s.carried
          ++ [s.gal.poolLast, s.gal.waitLast, s.gal.prof14, s.gal.prof15, s.gal.corrected, s.gal.uncorrectable, 0].flatMap
            (leBytes 4) }
      fun a => a) ∧
  (∀ (s : State) (p : Pend), (s.closedView = none → s.atBoundary p = { s with pend := s.pend ++ [p] }) ∧
    (s.closedView ≠ none → s.atBoundary p = { s with pendLate := s.pendLate ++ [p] }))

/-- The mixer's instants: waiting requests take pool entries at a strobe in request order, and a ramp ends on its target (R195,
R198, R199). -/
def Obligations.RampInstants : Prop :=
  (∀ s : State, s.time.pos = 0 →
    exec .rampQueueStart s =
      .next { s with gal := s.gal.startQueue (s.m * s.perSmp) s.perSmp s.gal.queue.length }) ∧
  (∀ (s u : State) (o i d : Nat) (x : Ramp), s.rampEndDue o i = some d → s.awake = true → d < s.blockEnd →
    (s.reach d).reach (d + 1) = u → u.gal.ramp? o i = some x →
    exec (.rampEnd o i) s = .next { u with gal := u.gal.endRamp o i x.target }) ∧
  (∀ (g : Gallery) (o i : Nat) (v : Int), (g.endRamp o i v).ramp? o i = none)

/-! ### Renderer and loudspeaker stage (08, 09) -/

/-- The renderer's commands (R217, R224, R235). -/
def Obligations.RendererCommands : Prop :=
  (∀ s mb r, Passes renConfig s mb r →
    Completes renConfig (.renConfig mb r) s mb r {} fun a =>
      (a.atBoundary (.soundSpeed (if field r.payload 0 4 = 0 then 0x43AB8000 else BitVec.ofNat 32 (field r.payload 0 4)))).recordAll) ∧
  (∀ s mb r, Passes renPosBatch s mb r → s.batchCheck r.payload = 0 →
    Completes renPosBatch (.renPosBatch mb r) s mb r {} fun a =>
      ((List.range (field r.payload 0 2)).map (batchEntry r.payload)).foldl State.placeObject a) ∧
  (∀ (s : State) (o start : Nat), s.enabled (objId o) = true →
    ((s.makeRecord o start).objDyn o).pend = some { pos := s.par (objId o) 1, start := start, order := s.commits }) ∧
  (∀ s mb r q, Passes renPosQueue s mb r → field r.payload 0 4 = mkNode Ty.queue q → 8 ≤ q → q ≤ 15 →
    s.ren.posQueue = none →
    Completes renPosQueue (.renPosQueue mb r) s mb r {} fun a =>
      { a with ren := { a.ren with posQueue := some q, unbinding := none, discarded := 0 } }) ∧
  (∀ s mb r, Passes renPosQueue s mb r → field r.payload 0 4 = 0 → s.ren.posQueue.isSome = true →
    Completes renPosQueue (.renPosQueue mb r) s mb r {} fun a =>
      { a with ren := { a.ren with unbinding := some a.packetsDue } }) ∧
  (∀ s mb r x, Passes renFootprintRead s mb r → s.objDyn (nodeIdx r.node.toNat) = x →
    Completes renFootprintRead (.renFootprintRead mb r) s mb r
      { payload := leBytes 1 x.viewMembers.length
          ++ leBytes 1 (x.viewFading.foldl (fun l y => insertSlot y l) []).length ++ leBytes 1 x.viewDeferred ++ zeros 5
          ++ leBytes 8 x.viewStart ++ x.viewMembers.flatMap (RenSlot.entry false)
          ++ (x.viewFading.foldl (fun l y => insertSlot y l) []).flatMap (RenSlot.entry true) }
      fun a => a)

/-- The renderer's instants (R225, R227, R237): a waiting record starts at its sample, a fading slot whose envelope has reached
zero is freed at a block boundary, the bound queue's packets are applied in order. A rounding is off by at most half a step (R11; the bound
of R233 comes from it). -/
def Obligations.RendererInstants : Prop :=
  (∀ (s u : State) (o d : Nat) (g : GeoRec), s.running (objId o) = true → s.recordDue o = some d → s.awake = true →
    d < s.blockEnd → s.reach d = u → (u.objDyn o).pend = some g →
    exec (.geometryRecordStart o) s = .next (u.startRecord o d g.pos fun _ => false)) ∧
  (∀ (s : State) (o k : Nat), s.power.state = .active → s.time.pos = 0 →
    ∃ t, exec (.fadingSlotFree o k) s = .next t ∧
      (t.objDyn o).fading = (s.objDyn o).fading.filter (fun y => !(y.spk == k && y.env == 0)) ∧
      (t.objDyn o).members = (s.objDyn o).members ∧ t = { s with ren := t.ren }) ∧
  (∀ (s : State) (q : Nat), s.ren.posQueue = some q → s.ren.unbinding = none → (s.queue q).packets = [] →
    exec .posPacketApply s = .next s) ∧
  (∀ (s : State) (q : Nat), s.ren.posQueue = some q → s.ren.unbinding = some 0 →
    exec .posPacketApply s = .next { s with ren := { s.ren with posQueue := none, unbinding := none } }) ∧
  (∀ (s t : State) (q n : Nat) (p : QPacket), s.popPacket q = some (p, t) → p.poisoned = false →
    (s.packetWaits p = false → s.drainPositions q (n + 1) =
      State.drainPositions q n (State.applyPacket q (packetBytes p) (t.packetDone.note (.position p)))) ∧
    (s.packetWaits p = true → s.drainPositions q (n + 1) = s)) ∧
  (∀ (v : Int) (n : Nat), 0 < n → 2 * (n * divEven v n - v).natAbs ≤ n)

/-- Coefficient banks (R257 to R259): loaded, read and cleared. -/
def Obligations.BankCommands : Prop :=
  (∀ s mb r k b data, Passes spkBankLoad s mb r → nodeIdx r.node.toNat = k → field r.payload 0 1 = b →
    field r.payload 1 1 = 0 → r.payload.length = 24 + 4 * field r.payload 6 2 → bankRangeOk r.payload = true →
    slice r.payload 24 (4 * field r.payload 6 2) = data → s.bankLocked k b = false →
    bit (field r.payload 2 1) 0 = true → bit (field r.payload 2 1) 1 = false →
    Completes spkBankLoad (.spkBankLoad mb r) s mb r {} fun a =>
      a.setSpk ((s.spkDyn k).setBank b
        (Bank.write (field r.payload 4 2) (coefsOf (field r.payload 6 2) data) { state := .loading }))) ∧
  (∀ s mb r k b data, Passes spkBankLoad s mb r → nodeIdx r.node.toNat = k → field r.payload 0 1 = b →
    field r.payload 1 1 = 0 → r.payload.length = 24 + 4 * field r.payload 6 2 → bankRangeOk r.payload = true →
    slice r.payload 24 (4 * field r.payload 6 2) = data → s.bankLocked k b = false →
    bit (field r.payload 2 1) 0 = true → bit (field r.payload 2 1) 1 = true →
    field r.payload 8 2 ≤ s.latestN (spkId k) 0x108 →
    Completes spkBankLoad (.spkBankLoad mb r) s mb r {} fun a =>
      (a.setSpk ((s.spkDyn k).setBank b
        { Bank.write (field r.payload 4 2) (coefsOf (field r.payload 6 2) data) { state := .loading } with
          state := .ready, taps := field r.payload 8 2 })).raise 582 0x0600 (spkId k)
        (evData [(0, leBytes 1 b), (2, leBytes 2 (field r.payload 8 2)), (4, leBytes 1 0),
          (8, leBytes 8 (16 * s.time.block))])) ∧
  (∀ s mb r, Passes spkBankRead s mb r → field r.payload 2 2 + field r.payload 4 2 ≤ 8192 →
    Completes spkBankRead (.spkBankRead mb r) s mb r
      { payload := (List.range (field r.payload 4 2)).flatMap fun j =>
          leSigned 4 ((getA (field r.payload 2 2 + j)
            ((s.spkDyn (nodeIdx r.node.toNat)).bank (field r.payload 0 1)).coefs).getD 0) }
      fun a => a) ∧
  (∀ s mb r k b, Passes spkBankClear s mb r → nodeIdx r.node.toNat = k → field r.payload 0 1 = b →
    s.bankLocked k b = false →
    Completes spkBankClear (.spkBankClear mb r) s mb r {} fun a => a.setSpk ((s.spkDyn k).setBank b {})) ∧
  (∀ (s : State) (x : SpkDyn), (s.setSpk x).spkDyn x.spk = x)

/-- The loudspeaker stage's instants (R247, R261): a bank fade ends and reports the swap, a delay fade ends. -/
def Obligations.StageInstants : Prop :=
  (∀ (s u : State) (k d a b f n : Nat), s.power.state = .active → s.bankFadeDue k = some d → s.awake = true →
    d < s.blockEnd → s.reach d = u → (u.spkDyn k).fade = some (a, b, f, n) → (u.spkDyn k).pendSwap = none →
    exec (.spkBankSwap k) s =
      .next ((u.setSpk { u.spkDyn k with active := b, fade := none, pendSwap := none }).bankEvent k 1 a b 0 (d - 1))) ∧
  (∀ (s u : State) (k d a b n : Nat), s.power.state = .active → s.delayFadeDue k = some d → s.awake = true →
    d < s.blockEnd → s.reach d = u → (u.spkDyn k).delayFade = some (a, b, n) → (u.spkDyn k).delayWait = none →
    exec (.delayXfadeEnd k) s =
      .next (u.setSpk { u.spkDyn k with delay := b, delayFade := none, delayWait := none }))

/-! ### Capture (10) -/

/-- The capture commands (R275, R283, R289): a group's settings and a reset of filters wait for the block boundary; the locator's
record and the canceller's status. -/
def Obligations.CaptureCommands : Prop :=
  (∀ s mb r, Passes capLocatorConfig s mb r →
    Completes capLocatorConfig (.capLocatorConfig mb r) s mb r {} fun a =>
      a.atBoundary (.locator (field r.payload 0 1) (field r.payload 1 1) (field r.payload 2 2) (field r.payload 4 2))) ∧
  (∀ s mb r g l, Passes capLocatorRead s mb r → field r.payload 0 1 = g → s.locGroup g = l →
    Completes capLocatorRead (.capLocatorRead mb r) s mb r
      { payload := leBytes 2 (l.leader.getD 0xFFFF) ++ leBytes 2 (s.locMembers g).length ++ leSigned 2 (s.leaderLevel g)
          ++ zeros 2 ++ leBytes 8 l.lastChange }
      fun a => a) ∧
  (∀ (s : State) (g b : Nat), (s.locGroup g).leader = some b → 0 < (s.beamDyn b).energy →
    s.leaderLevel g = levelOf (s.beamDyn b).energy.toNat (16 * 2 ^ 62)) ∧
  (∀ s mb r, Passes capAecReset s mb r → s.enabled r.node.toNat = true → s.latestN r.node.toNat 1 ≠ 0 →
    Completes capAecReset (.capAecReset mb r) s mb r {} fun a =>
      a.atBoundary (.aecReset (nodeIdx r.node.toNat) (field r.payload 0 1))) ∧
  (∀ s mb r, Passes capAecStatus s mb r → s.latestN r.node.toNat 1 ≠ 0 →
    Completes capAecStatus (.capAecStatus mb r) s mb r
      { payload := (s.beamDyn (nodeIdx r.node.toNat)).status } fun a => a)

/-- The canceller's and the locator's instants (R273, R275, R278 to R283): a period's end updates the filters that may adapt and
keeps the others (the update itself is opaque, log 5), a fade of microphone filters ends, divergence clears every filter,
references turn idle and re-converge, double talk ends, the leader changes. -/
def Obligations.CaptureInstants : Prop :=
  (∀ (s : State) (b : Nat), s.power.state = .active → s.periodDue b = true →
    exec (.adaptationPeriod b) s = .next (s.adapt b)) ∧
  (∀ (s : State) (b : Nat), ((s.adapt b).beamDyn b).errs = [] ∧ ((s.adapt b).beamDyn b).curY = 0 ∧
    ((s.adapt b).beamDyn b).curE = 0) ∧
  (∀ (s : State) (b r step : Nat) (x : BeamDyn), s.beamDyn b = x → r < 8 →
    step = (if x.reconverging s.m then min 4096 (2 * s.beamPar b 4) else s.beamPar b 4) →
    (s.beamPar b 3 ≠ 1 ∨ x.dtInPeriod = true ∨ x.idleInPeriod.contains r = true →
      (((s.adapt b).beamDyn b).ref r).filter = (x.ref r).filter) ∧
    (s.beamPar b 3 = 1 → x.dtInPeriod = false → x.idleInPeriod.contains r = false →
      (((s.adapt b).beamDyn b).ref r).filter = Config.aecUpdate (x.ref r).filter step x.errs (x.ref r).hist)) ∧
  (∀ (s u : State) (b d : Nat), s.power.state = .active → s.filterFadeDue b = some d → s.awake = true → d < s.blockEnd →
    s.reach d = u →
    exec (.micFilterFadeEnd b) s = .next ((u.setBeam { u.beamDyn b with fade := none }).micFilterChanged b)) ∧
  (∀ (s : State) (b : Nat) (x : BeamDyn), s.running (beamId b) = true → s.power.state ≠ .standby → s.beamDyn b = x →
    x.fade = none →
    s.micFilterChanged b = if s.storedSet b = x.inUse then s
      else s.setBeam { x with inUse := s.storedSet b, fade := some (x.inUse, s.beamPar b 13 * s.perSmp, 0) }) ∧
  (∀ (s : State) (b : Nat), s.power.state = .active → s.time.pos = 0 → s.aecOn b = true → 32 ≤ (s.beamDyn b).worse →
    exec (.aecDiverged b) s = .next (s.diverge b)) ∧
  (∀ (s : State) (b : Nat), ((s.diverge b).beamDyn b).worse = 0 ∧
    ((s.diverge b).beamDyn b).clears = ((s.beamDyn b).clears + 1) % 2 ^ 32 ∧
    (∀ r, (((s.diverge b).beamDyn b).ref r).filter = 0) ∧ OnlyEvents { s with cap := (s.diverge b).cap } (s.diverge b)) ∧
  (∀ (s : State) (b r cause m : Nat) (clear : Bool), r < (s.beamDyn b).refs.length →
    ((s.reconverge b r cause m clear).beamDyn b).ref r = { (s.beamDyn b).ref r with
      due := none, awaitConv := false, reconv := some (m + 48 * s.beamPar b 8)
      filter := if clear then 0 else ((s.beamDyn b).ref r).filter } ∧
    ∀ k, k ≠ r → ((s.reconverge b r cause m clear).beamDyn b).ref k = (s.beamDyn b).ref k) ∧
  (∀ (s : State) (b k : Nat), s.power.state = .active → s.aecOn b = true → k < 8 → (s.refZone b k).isSome = true →
    600 ≤ ((s.beamDyn b).ref k).quiet → ((s.beamDyn b).ref k).idle = false →
    exec (.aecRefIdle b k) s =
      .next ((s.setBeam ((s.beamDyn b).setRef k { (s.beamDyn b).ref k with idle := true })).raise 645 0x0701 (beamId b)
        (evData [(0, leBytes 1 (64 + k)), (1, leBytes 1 1), (8, leBytes 8 (16 * s.time.block))]))) ∧
  (∀ (s u : State) (b d : Nat), s.power.state = .active → (s.beamDyn b).dtUntil = some d → s.awake = true →
    d < s.blockEnd → s.reach d = u →
    exec (.doubleTalkEnd b) s = .next (u.setBeam { u.beamDyn b with dtUntil := none })) ∧
  (∀ (s u : State) (b k d : Nat), s.power.state = .active → ((s.beamDyn b).ref k).reconv = some d → s.awake = true →
    d < s.blockEnd → s.reach d = u →
    exec (.reconvergenceEnd b k) s =
      .next (u.setBeam ((u.beamDyn b).setRef k { (u.beamDyn b).ref k with reconv := none, awaitConv := true }))) ∧
  (∀ (s u : State) (b k d cause : Nat) (clear : Bool), s.power.state = .active →
    ((s.beamDyn b).ref k).due = some (d, cause, clear) → s.awake = true → d < s.blockEnd → s.reach d = u →
    exec (.aecReconverge b k) s = .next (u.reconverge b k cause d clear)) ∧
  (∀ (s : State) (g : Fin 16) (c n : Nat), s.power.state = .active → (s.locGroup g).cand = some (c, n) →
    (s.locGroup g).blocks ≤ n →
    ∃ t, exec (.locatorChange g) s = .next t ∧ (t.locGroup g).leader = some c ∧ (t.locGroup g).cand = none ∧
      (t.locGroup g).lastChange = 16 * s.time.block ∧ OnlyEvents { s with cap := t.cap } t)

/-! ### Ethernet and streams (11) -/

/-- The Ethernet and stream commands (R299, R307, R309, R326). -/
def Obligations.EthernetCommands : Prop :=
  (∀ s mb r p i x, Passes ethIfSet s mb r → nodeIdx r.node.toNat = p → field r.payload 0 1 = i →
    ifaceOf r.payload = x → (x.shared = true → (s.latest (ethId p) 4).any (· != 0) = true) →
    (∀ j y, j < 8 → j ≠ i → s.iface p j = y → y.enable = true → y.vlan ≠ x.vlan ∧
      (x.v4 = true → y.v4 = true → x.ip4 ≠ y.ip4) ∧ (x.v6 = true → y.v6 = true → x.ip6 ≠ y.ip6)) →
    (∀ n, n ∈ s.nodes → nodeType n.1 = Ty.rtp ∨ nodeType n.1 = Ty.aes → n.2.state ≠ .enabled) →
    Completes ethIfSet (.ethIfSet mb r) s mb r {} fun a =>
      a.setPort p { a.port p with ifs := (a.port p).ifs.set i { x with announce := if x.enable then 3 else 0 } }) ∧
  (∀ s mb r n k, Passes streamKeySet s mb r → r.node.toNat = n → isRtp n = true → field r.payload 0 1 = 1 →
    k = { suite := field r.payload 1 1, key := slice r.payload 16 46 } →
    (∀ c, (s.streamDyn n).rx.suite? = some c → c = field r.payload 1 1) → bit (s.latestN n 4) 1 = true →
    bit (s.latestN n 3) 0 = true →
    Completes streamKeySet (.streamKeySet mb r) s mb r {} fun a =>
      a.setStream { a.streamDyn n with
        rx := (a.streamDyn n).rx.install k (field r.payload 4 4) (field r.payload 8 8) }) ∧
  (∀ s mb r n, Passes streamStats s mb r → r.node.toNat = n → bit (field r.payload 0 1) 0 = false →
    Completes streamStats (.streamStats mb r) s mb r { payload := s.statsBytes n } fun a => a) ∧
  (∀ s mb r n, Passes streamStats s mb r → r.node.toNat = n → bit (field r.payload 0 1) 0 = true →
    Completes streamStats (.streamStats mb r) s mb r { payload := s.statsBytes n } fun a =>
      a.setStream { a.streamDyn n with
        cnt := {}, received := 0, baseSeq := (a.streamDyn n).highest + 1, prior := (0, 0)
        jb := { (a.streamDyn n).jb with largest := (a.streamDyn n).jb.depth } }) ∧
  (∀ s mb r p c, Passes ethCounters s mb r → nodeIdx r.node.toNat = p → (s.port p).cnt = c →
    bit (field r.payload 0 1) 0 = true →
    Completes ethCounters (.ethCounters mb r) s mb r
      { payload := leBytes 4 c.rx ++ leBytes 4 c.tx ++ leBytes 4 c.errors ++ leBytes 4 c.pause ++ leBytes 4 c.discarded
          ++ leBytes 4 c.toHost ++ leBytes 4 c.hostDropped ++ leBytes 4 c.hostSent } fun a =>
      a.setPort p { a.port p with cnt := {} }) ∧
  (∀ (s : State) (p : Fin 4) (x : EthPort), (s.setPort p x).port p = x)

/-- An Ethernet port (R297 to R303): a bad frame is counted as an error and goes no further, a link change is told, an
announcement leaves, a host packet is sent unless it is too long or poisoned. Fields of an announcement frame that the spec
leaves to the protocols are the model's choice (log 25). -/
def Obligations.EthernetPort : Prop :=
  (∀ (s : State) (f : EthFrame), s.linkUp f.port = true → f.fcsOk = false ∨ f.bytes.length < 60 →
    exec (.ethFrameRx f) s =
      .next ((s.countPort f.port fun k => { k with rx := satAdd32 k.rx 1 }).rxError f.port)) ∧
  (∀ (s : State) (f : EthFrame), s.linkUp f.port = true → f.fcsOk = true → 60 ≤ f.bytes.length →
    f.bytes.length + 4 ≤ s.parN (ethId f.port) 5 →
    exec (.ethFrameRx f) s =
      .next ((s.countPort f.port fun k => { k with rx := satAdd32 k.rx 1 }).classify f.port f.bytes f.onTime)) ∧
  (∀ (s : State) (p : Nat) (b : Bytes) (m : Bool), s.accepts p (parseEth b).dst = false →
    (parseEth b).type ≠ 0x8808 → s.classify p b m = s.discardFrame p) ∧
  (∀ (s : State) (port : Fin 4), s.running (ethId port) = true → (s.port port).link = 0 →
    exec (.ethLink port true) s =
      .next ((s.setPort port { s.port port with link := 1 }).raise 192 0x0800 (ethId port)
        (evData [(0, leBytes 1 2), (1, leBytes 1 (s.parN (ethId port) 2)), (8, leBytes 8 s.m)]))) ∧
  (∀ (s : State) (port : Fin 4), s.running (ethId port) = true → (s.port port).link ≠ 0 →
    ∃ t, exec (.ethLink port false) s = .next t ∧ (t.port port).link = 0 ∧
      (t.time.ports[port.val]?.getD {}).calibrated = false ∧
      OnlyEvents { s with time := t.time, eth := t.eth, free := t.free } t) ∧
  (∀ (s : State) (port : Fin 4) (i : Fin 8) (x : Iface), s.iface port i = x → x.announce ≠ 0 → s.linkUp port = true →
    x.v4 = true → x.v6 = false →
    exec (.gratuitousArp port i) s =
      .next ((s.setPort port { s.port port with
          ifs := (s.port port).ifs.set i { x with announce := x.announce - 1 } }).sendFrame port i false
        (ethFrame broadcastMac (s.ifMac port i) x.vlan x.pcp 0x0806
          (arp 1 (s.ifMac port i) x.ip4 (zeros 6) x.ip4)))) ∧
  (∀ (s t : State) (port : Fin 4) (p : QPacket), s.parN (ethId port) 7 ≠ 0 → s.linkUp port = true →
    s.streamReady port = false →
    s.popPacket (nodeIdx (s.parN (ethId port) 7)) = some (p, t) → p.poisoned = false →
    (packetBytes p).length + 4 ≤ t.parN (ethId port) 5 →
    exec (.hostFrameTx port) s =
      .next ((t.countPort port fun k => { k with tx := satAdd32 k.tx 1, hostSent := satAdd32 k.hostSent 1 }).emit
        (.frame port (packetBytes p))))

/-- The stream rows (R310, R313, R319, R327): the next hop stays unresolved, the partner falls silent, an RTCP packet is due,
an empty jitter buffer restarts, an AES67 packet is sent with the samples gathered for it. The random part of the RTCP
interval is a free value (log 3). -/
def Obligations.StreamRows : Prop :=
  (∀ (s : State) (n : Nat) (x : StreamDyn), s.streamDyn n = x → s.running n = true → s.sends n = true → x.hop = none →
    x.noRoute = false → x.noHopSince + 3 * 48000 ≤ s.time.ticks →
    exec (.streamNoRoute n) s = .next ((s.setStream { x with noRoute := true }).raise 708 0x0808 n
      (evData [(0, leBytes 1 1), (8, leBytes 8 s.m)]))) ∧
  (∀ (s : State) (n : Nat) (x : StreamDyn), s.streamDyn n = x → isRtp n = true → s.running n = true →
    s.parN n 20 ≠ 0 → x.timedOut = false → x.lastRx + 48 * s.parN n 20 ≤ s.time.ticks → s.following = false →
    exec (.streamTimeout n) s = .next (((s.setStream { x with timedOut := true }).noteStream n 0).raise 705 0x0805 n
      (evData [(0, leBytes 1 1), (8, leBytes 8 s.m)]))) ∧
  (∀ (s : State) (n : Nat), isRtp n = true → s.running n = true → bit (s.parN n 4) 3 = true → s.power.state = .active →
    (s.streamDyn n).rtcpAt ≤ s.time.ticks → s.following = false →
    exec (.rtcpSend n) s = .next (((s.sendRtcp n false).drawRtcp n).noteStream n 0)) ∧
  (∀ (s : State) (n : Nat), s.time.ticks + s.parN n 19 * 48000 / 2 ≤ ((s.drawRtcp n).streamDyn n).rtcpAt ∧
    ((s.drawRtcp n).streamDyn n).rtcpAt ≤ s.time.ticks + s.parN n 19 * 48000 / 2 + s.parN n 19 * 48000) ∧
  (∀ (s : State) (n t : Nat) (x : StreamDyn), s.streamDyn n = x → x.jb.emptySince = some t → s.running n = true →
    t + 9600 ≤ s.time.ticks → s.following = false →
    exec (.jbResync n) s = .next (((s.setStream { x with
        jb := { largest := x.jb.largest, before := some (x.jb.depth, 1) } }).raise 711 0x080B n
      (evData [(0, leBytes 1 1), (8, leBytes 8 s.m)])).noteStream n 0)) ∧
  (∀ (s : State) (n count p : Nat) (x : StreamDyn), s.streamDyn n = x → nodeType n = Ty.aes → s.running n = true →
    s.sends n = true → s.power.state = .active → ptimeSmp (s.parN n 6) = p → p * s.perSmp = count →
    x.txSamples.length = s.parN n 4 → (∀ c ∈ x.txSamples, count ≤ c.2.length) →
    ∃ ts, exec (.aes67PacketSend n) s = .next ((s.setStream { x with
          txSamples := x.txSamples.map fun c => (c.1, c.2.drop count), nextPacketAt := x.nextPacketAt + p }).sendRtp n
        false (s.parN n 7) ts ((List.range count).flatMap fun j =>
          x.txSamples.flatMap fun c => aesOut (s.parN n 5) (c.2.getD j 0))) ∧
      (ts : Int) = (s.perSmp * ((x.nextPacketAt + p : Nat) + s.time.epoch) + s.parN n 16) % (2 ^ 32 : Nat))

/-! ### Voice (12) -/

/-- The voice commands (R341, R348). -/
def Obligations.VoiceCommands : Prop :=
  (∀ s mb r c n f, Passes voiceDigitSend s mb r → nodeIdx r.node.toNat = c → field r.payload 0 1 = n →
    s.callPar c 2 = f → r.payload.length = 8 + n → (∀ b ∈ r.payload.drop 8, b.toNat ≤ 15) →
    s.enabled r.node.toNat = true → s.latestN r.node.toNat 13 = 2 → (s.callDyn c).digits.length + n ≤ 32 →
    Completes voiceDigitSend (.voiceDigitSend mb r) s mb r {} fun a =>
      a.setCall { a.callDyn c with digits := (a.callDyn c).digits ++ (r.payload.drop 8).map fun b =>
        { code := b.toNat, volume := field r.payload 1 1, on := ceilDiv (field r.payload 2 2) f
          off := ceilDiv (field r.payload 4 2) f, from_ := a.nextBlock } }) ∧
  (∀ s mb r, Passes voiceDigitCancel s mb r → s.enabled r.node.toNat = true →
    Completes voiceDigitCancel (.voiceDigitCancel mb r) s mb r {} (State.cancelDigits (nodeIdx r.node.toNat))) ∧
  (∀ (s : State) (c : Nat) (d : Sending), (s.callDyn c).digits = [] → (s.callDyn c).sending = some d →
    d.begun < d.digit.on → ((s.cancelDigits c).callDyn c).sending = some { d with cut := true }) ∧
  (∀ s mb r, Passes voiceLecReset s mb r → s.enabled r.node.toNat = true → s.latestN r.node.toNat 7 ≠ 0 →
    Completes voiceLecReset (.voiceLecReset mb r) s mb r {} fun a => a.atBoundary (.lecReset (nodeIdx r.node.toNat)))

/-- Tones, digits and the tone disabler (R343 to R348): what a detector decides is counted and told. -/
def Obligations.ToneRows : Prop :=
  (∀ (s : State) (det : Nat) (d : ToneDecision), s.detects det 1 = true →
    (s.toneDyn det).mayTell (s.parI (toneId det) 2) s.m d = true →
    exec (.voiceDigit det d) s = .next ((s.setTone ((s.toneDyn det).told d)).raise 712 0x0900 (toneId det)
      (evData [(0, leBytes 1 d.digit), (1, leBytes 1 (if d.begins then 1 else 2)), (2, leBytes 2 d.durationMs),
        (4, leSigned 2 d.low), (6, leSigned 2 d.high), (8, leBytes 8 d.onset)]))) ∧
  (∀ (s : State) (det : Nat) (d : CpDecision) (x : ToneDyn), s.detects det 1 = true → s.parN (toneId det) 3 = 1 →
    s.toneDyn det = x → x.cp ≠ d.on → 295 ≤ d.f1 → d.f1 ≤ 2005 → d.f2 = 0 ∨ (295 ≤ d.f2 ∧ d.f2 ≤ 2005) →
    s.parI (toneId det) 2 ≤ d.level →
    exec (.voiceCpTone det d) s = .next ((s.setTone { x with
        count := (x.count + ofBool d.on) % 2 ^ 32, cp := d.on }).raise 713 0x0901 (toneId det)
      (evData [(0, leBytes 2 d.f1), (2, leBytes 2 d.f2), (4, leBytes 1 (if d.on then 1 else 2)), (6, leSigned 2 d.level),
        (8, leBytes 8 s.m)]))) ∧
  (∀ (s : State) (det kind : Nat) (begins : Bool) (x : ToneDyn), s.detects det 2 = true → s.toneDyn det = x →
    x.mayFax kind begins = true →
    exec (.voiceFaxTone det kind begins) s = .next ((s.setTone { x with
        count := (x.count + ofBool begins) % 2 ^ 32, fax := if begins then some kind else none }).raise 714 0x0902 (toneId det)
      (evData [(0, leBytes 1 kind), (1, leBytes 1 (if begins then 1 else 2)), (8, leBytes 8 s.m)]))) ∧
  (∀ (s : State) (ch : Nat) (x : CallDyn), s.callDyn ch = x → s.running (callId ch) = true → s.callPar ch 7 ≠ 0 →
    (x.bypassed = false →
      exec (.voiceLec ch 1) s = .next (State.lecEvent ch 1 (s.setCall { x with bypassed := true }))) ∧
    (x.nlpOff = false → exec (.voiceLec ch 2) s = .next (State.lecEvent ch 2 (s.setCall { x with nlpOff := true }))) ∧
    (x.bypassed = true →
      exec (.voiceLec ch 3) s = .next (State.lecEvent ch 3 (s.setCall { x with bypassed := false, nlpOff := false })))) ∧
  (∀ (s : State) (ch : Nat) (x : CallDyn) (e : RxEvent), s.callDyn ch = x → x.event = some e → e.ended = false →
    e.at_ + 12000 ≤ s.time.ticks →
    exec (.eventTimeout ch) s =
      .next ((s.setCall { x with event := some { e with ended := true } }).raise 715 0x0903 (callId ch)
        (evData [(0, leBytes 1 e.code), (1, leBytes 1 3), (2, leBytes 2 e.duration), (4, leBytes 1 e.volume),
          (8, leBytes 8 s.m)]))) ∧
  (∀ (s u : State) (ch d : Nat) (x : Sending), s.power.state = .active → s.running (callId ch) = true →
    s.digitDoneDue ch = some d → s.awake = true → d < s.blockEnd → s.reach d = u → (u.callDyn ch).sending = some x →
    exec (.voiceDigitDone ch) s = .next ((u.setCall { u.callDyn ch with sending := none }).raise 718 0x0906 (callId ch)
      (evData [(0, leBytes 1 x.digit.code), (1, leBytes 1 1), (8, leBytes 8 d)])))

/-- The frames of a call (R330, R333 to R335): a channel whose input is not connected receives silence; a gathered frame leaves
at its hand-over. Codecs other than L16 and L24, and the resampler, are opaque (log 5). -/
def Obligations.CallFrames : Prop :=
  (∀ (s : State) (ch : Nat), s.running (callId ch) = true → s.power.state = .active → s.time.pos = 0 →
    s.m % s.frameSmp ch = 0 → (s.callDyn ch).rxAt ≠ some s.m → s.following = false → s.sourceOf (callId ch) 0 = none →
    exec (.callReceiveFrame ch) s = .next (s.setCall { s.callDyn ch with rxAt := some s.m })) ∧
  (∀ (s : State) (ch n o : Nat) (t : State) (rel : Release) (depth : DepthChange), s.running (callId ch) = true →
    s.power.state = .active → s.time.pos = 0 → s.m % s.frameSmp ch = 0 → (s.callDyn ch).rxAt ≠ some s.m →
    s.following = false → s.sourceOf (callId ch) 0 = some (n, o) → (s.rxFresh ch).jbRelease n = (rel, depth, t) →
    exec (.callReceiveFrame ch) s =
      .next (((t.noteStream n 0).note (.callFrame ch t.m rel depth)).receiveWith ch t.m rel depth)) ∧
  (∀ (s u : State) (ch m n o : Nat) (depth : DepthChange), s.sourceOf (callId ch) 0 = some (n, o) →
    (s.rxFresh ch).lecDepth ch depth = u →
    s.receiveWith ch m .none depth = u.setCall { u.callDyn ch with rxAt := some m }) ∧
  (∀ (s u : State) (ch d n : Nat) (f : SendFrame) (rest : List SendFrame), s.power.state = .active →
    s.running (callId ch) = true → s.callSendDue ch = some d → s.awake = true → d < s.blockEnd → s.reach d = u →
    (u.callDyn ch).frames = f :: rest → u.sendStream ch = some n → u.running n = true → u.sends n = true →
    f.event = none → f.again = none →
    ∃ (t : State) (bytes : Bytes), t = { u with voice := t.voice } ∧ (t.callDyn ch).frames = rest ∧
      exec (.callSendFrame ch) s = .next (if bytes = [] then t
        else t.sendRtp n false f.pt (t.rtpTime n f.now.clock f.start) bytes)) ∧
  (∀ (s u : State) (ch d : Nat) (f : SendFrame) (rest : List SendFrame), s.power.state = .active →
    s.running (callId ch) = true → s.callSendDue ch = some d → s.awake = true → d < s.blockEnd → s.reach d = u →
    (u.callDyn ch).frames = f :: rest → u.sendStream ch = none →
    ∃ t, exec (.callSendFrame ch) s = .next t ∧ (t.callDyn ch).frames = rest ∧
      t = { u with voice := t.voice })


/-! ### The Bench fabric (13) -/

/-- Control instructions, traps and the budget (R361, R367 to R370, R376): NOP, END, branches, LOOP, TRAP, an instruction whose
fields are illegal, and an invocation whose count reaches its budget. A branch counts from its own PC (log 26). -/
def Obligations.BenchControl : Prop :=
  (∀ s inst w r, Issues s inst 0 0 w r → exec (.nop inst w) s = .next (Ran s inst (r.puts [] 1 [] fun c => c))) ∧
  (∀ s inst w r, Issues s inst 0 1 w r →
    ∃ t, t = { r.puts [] 1 [] (fun c => c) with ended := true } ∧
      exec (.endInvocation inst w) s = .next (State.krnEndRun t (s.setKrn { t.k with ctx := some t.c }))) ∧
  (∀ s inst w r op taken i a, Issues s inst 0 op w r → r.c.loops = [] → r.c.sr w.a.toNat = a →
    (i, op, taken) = (.br inst w, 2, true) ∨ (i, op, taken) = (.brz inst w, 3, decide (a = 0)) ∨
      (i, op, taken) = (.brnz inst w, 4, decide (a ≠ 0)) →
    ∃ c, exec i s = .next (s.setKrn { s.krn inst with ctx := some c }) ∧
      c.pc = (if taken then (BitVec.ofNat 32 r.c.pc + 8 * w.imm).toNat else r.c.pc + 8) ∧
      (op = 2 → c.cycles = r.c.cycles + 3) ∧
      c = { r.c with pc := c.pc, cycles := c.cycles, last := r.c.pc }) ∧
  (∀ s inst w r op i, Issues s inst 0 op w r → r.c.loops ≠ [] →
    (i, op) = (.br inst w, 2) ∨ (i, op) = (.brz inst w, 3) ∨ (i, op) = (.brnz inst w, 4) →
    exec i s = .next (s.krnTrap inst Trap.illegal 0 r.c.pc)) ∧
  (∀ s inst w r n, Issues s inst 0 5 w r → (r.c.sr w.a.toNat).toNat = n → r.c.loops.length < 4 → n ≠ 0 →
    w.imm.toNat % 65536 ≠ 0 →
    exec (.loop inst w) s = .next (Ran s inst (r.puts [keyS w.a.toNat] 1 [] fun c =>
      { c with loops := (r.c.pc + 8, r.c.pc + 8 + 8 * (w.imm.toNat % 65536), n) :: c.loops }))) ∧
  (∀ s inst w r, Issues s inst 0 5 w r → r.c.loops.length < 4 → r.c.sr w.a.toNat = 0 →
    exec (.loop inst w) s = .next (Ran s inst { r.puts [keyS w.a.toNat] 1 [] (fun c => c) with
      next := r.c.pc + 8 + 8 * (w.imm.toNat % 65536) })) ∧
  (∀ s inst w r, Issues s inst 0 5 w r → r.c.loops.length = 4 →
    exec (.loop inst w) s = .next (s.krnTrap inst Trap.illegal 0 r.c.pc)) ∧
  (∀ s inst w r, Issues s inst 0 6 w r →
    exec (.trap inst w) s = .next (s.krnTrap inst Trap.user (w.imm.toNat % 65536) r.c.pc)) ∧
  (∀ (f l n : Nat) (rest : List (Nat × Nat × Nat)), 1 < n → closeLoops ((f, l, n) :: rest) l = ((f, l, n - 1) :: rest, f)) ∧
  (∀ (f l : Nat), closeLoops [(f, l, 1)] l = ([], l)) ∧
  (∀ s inst c, (s.krn inst).ctx = some c → s.krnBudget inst ≤ c.cycles →
    exec (.budgetTrap inst) s = .next (s.krnTrap inst Trap.budget 0 c.last)) ∧
  (∀ (s : State) (inst cause user off : Nat), s.enabled (krnId inst) = true →
    ((s.krnTrap inst cause user off).node (krnId inst)).state = .byDevice ∧
    ((s.krnTrap inst cause user off).node (krnId inst)).reason = 2 ∧ ((s.krnTrap inst cause user off).krn inst).ctx = none)

/-- The scalar instructions (R363, R368): arithmetic modulo 2^32 on S registers, of which S0 reads 0 and takes no write
(R359). -/
def Obligations.BenchScalars : Prop :=
  (∀ s inst w r op i v x y, Issues s inst 1 op w r → r.c.sr w.a.toNat = x → r.c.sr w.b.toNat = y →
    (i, op, v) ∈ [(Instr.add inst w, 0, x + y), (.sub inst w, 1, x - y), (.andS inst w, 3, x &&& y),
      (.orS inst w, 4, x ||| y), (.xorS inst w, 5, x ^^^ y), (.shl inst w, 6, x <<< (y.toNat % 32)),
      (.shr inst w, 7, x >>> (y.toNat % 32)), (.sar inst w, 8, x.sshiftRight (y.toNat % 32)), (.mul inst w, 9, x * y),
      (.slt inst w, 10, if x.toInt < y.toInt then 1 else 0)] →
    exec i s = .next (Ran s inst (r.puts [keyS w.a.toNat, keyS w.b.toNat] 1 [(keyS w.d.toNat, 1)]
      (Ctx.setS w.d.toNat v)))) ∧
  (∀ s inst w r op i v x, Issues s inst 1 op w r → r.c.sr w.a.toNat = x →
    (i, op, v) ∈ [(Instr.addi inst w, 2, x + w.imm), (.shli inst w, 11, x <<< (w.imm.toNat % 32))] →
    exec i s = .next (Ran s inst (r.puts [keyS w.a.toNat] 1 [(keyS w.d.toNat, 1)] (Ctx.setS w.d.toNat v)))) ∧
  (∀ (c : Ctx) (d j : Nat) (v : Word), (c.setS d v).sr j = if j = 0 then 0 else if j = d then v else c.sr j) ∧
  (∀ (c : Ctx) (d : Nat) (v : Word), c.setS d v = { c with sreg := (c.setS d v).sreg })

/-- Loads and stores (R360, R364, R365, R368): what a load reads, what a store writes and where, the traps of an address that is
odd or outside, the lanes of a vector access, and the step of a P register. -/
def Obligations.BenchMemory : Prop :=
  (∀ s inst w r v, Issues s inst 2 0 w r → r.load (r.c.sr w.a.toNat + w.imm).toNat = .ok v →
    exec (.lds inst w) s = .next (Ran s inst (r.puts [keyS w.a.toNat] 1 [(keyS w.d.toNat, 3)] (Ctx.setS w.d.toNat v)))) ∧
  (∀ s inst w r cause, Issues s inst 2 0 w r → r.load (r.c.sr w.a.toNat + w.imm).toNat = .error (cause, 0) →
    exec (.lds inst w) s = .next (s.krnTrap inst cause 0 r.c.pc)) ∧
  (∀ s inst w r t, Issues s inst 2 1 w r →
    (r.puts [keyS w.a.toNat, keyS w.d.toNat] 1 [] fun c => c).store (r.c.sr w.a.toNat + w.imm).toNat (r.c.sr w.d.toNat)
      = .ok t →
    exec (.sts inst w) s = .next (Ran s inst t)) ∧
  (∀ (h : KrnHeader) (n : Nat), (h.areas n).const ≤ (h.areas n).par ∧ (h.areas n).par ≤ (h.areas n).state) ∧
  (∀ (r t : Run) (a : Nat) (v : Word), r.areas.const ≤ r.areas.par → r.areas.par ≤ r.areas.state → r.store a v = .ok t →
    t.load a = .ok v ∧ (∀ b, b ≠ a → t.load b = r.load b) ∧
    t = { r with c := { r.c with data := t.c.data, stateW := t.c.stateW, lines := t.c.lines } }) ∧
  (∀ (r : Run) (a : Nat) (v : Word), a % 4 ≠ 0 → r.load a = .error (Trap.align, 0) ∧ r.store a v = .error (Trap.align, 0)) ∧
  (∀ (r : Run) (a : Nat) (v : Word), a % 4 = 0 → r.areas.stop ≤ a →
    r.load a = .error (Trap.address, 0) ∧ r.store a v = .error (Trap.address, 0)) ∧
  (∀ (r : Run) (a : Nat) (v : Word), a % 4 = 0 → a < r.areas.state → r.store a v = .error (Trap.address, 0)) ∧
  (∀ s inst w r v, Issues s inst 3 0 w r → r.gather (r.c.mr w.m.toNat) (r.c.vr w.d.toNat) (r.vAddr w) = .ok v →
    ∃ t : Run, t = (r.puts (vReads w) 1 ((keyV w.d.toNat, 3) :: vWrites w) fun c => c).vStep w ∧
      exec (.vld inst w) s = .next (Ran s inst { t with c := t.c.setV w.d.toNat v })) ∧
  (∀ s inst w r t, Issues s inst 3 1 w r →
    (r.puts (keyV w.d.toNat :: vReads w) 1 (vWrites w) fun c => c).scatter (r.c.mr w.m.toNat) (r.c.vr w.d.toNat) (r.vAddr w)
      = .ok t →
    exec (.vst inst w) s = .next (Ran s inst (t.vStep w))) ∧
  (∀ s inst w r v, Issues s inst 3 2 w r → r.load (r.vAddr w 0) = .ok v →
    ∃ t : Run, t = (r.puts (vReads w) 1 ((keyV w.d.toNat, 3) :: vWrites w) fun c => c).vStep w ∧
      exec (.vldb inst w) s = .next (Ran s inst { t with
        c := t.c.setV w.d.toNat (laneMap (r.c.mr w.m.toNat) (fun _ _ _ => v) 0 (r.c.vr w.d.toNat) zeroLanes zeroLanes) })) ∧
  (∀ s inst w r v, Issues s inst 3 3 w r → r.gather (r.c.mr w.m.toNat) (r.c.vr w.d.toNat) (r.sAddr w) = .ok v →
    exec (.vlds inst w) s = .next (Ran s inst (r.puts (strideReads w) 4 [(keyV w.d.toNat, 3)] (Ctx.setV w.d.toNat v)))) ∧
  (∀ s inst w r t, Issues s inst 3 4 w r →
    (r.puts (keyV w.d.toNat :: strideReads w) 4 [] fun c => c).scatter (r.c.mr w.m.toNat) (r.c.vr w.d.toNat) (r.sAddr w)
      = .ok t →
    exec (.vsts inst w) s = .next (Ran s inst t)) ∧
  (∀ (r : Run) (mask : BitVec 128) (old v : List Word) (addr : Nat → Nat), r.gather mask old addr = .ok v →
    v.length = old.length ∧ ∀ (l : Nat) (x : Word), old[l]? = some x →
      if mask.getLsbD l then ∃ y, r.load (addr l) = .ok y ∧ v[l]? = some y else v[l]? = some x) ∧
  (∀ (r : Run) (n : Nat) (inc : Int), (n < 8 ∨ getA (n - 8) r.k.linePend = none) →
    r.stepP n inc = { r with c := r.c.setP n ((r.c.pr n).norm.bump inc) })

/-- The vector instructions (R363, R368): the lanes of the mask take the result, the others keep theirs; VADD, VSUB, VMUL and
VSHL saturate and mark their lanes in SAT. -/
def Obligations.BenchVectors : Prop :=
  (∀ s inst w r op i f, Issues s inst 4 op w r →
    (i, op, f) ∈ [(Instr.vadd inst w, 0, fun x y : Int => x + y), (.vsub inst w, 1, fun x y => x - y),
      (.vmul inst w, 2, fun x y => divEven (x * y) (2 ^ 31))] →
    exec i s = .next (Ran s inst (r.puts [keyV w.a.toNat, keyV w.b.toNat, keyM w.m.toNat] 1
      [(keyV w.d.toNat, 1), (keySat, 1)] fun c =>
        { c.setV w.d.toNat (laneMap (r.c.mr w.m.toNat) (fun _ x y => lane31 (f x.toInt y.toInt)) 0 (r.c.vr w.d.toNat)
            (r.c.vr w.a.toNat) (r.c.vr w.b.toNat)) with
          sat := r.c.sat ||| laneTest (r.c.mr w.m.toNat) 0 (fun x y => overflows31 (f x.toInt y.toInt)) (r.c.vr w.a.toNat)
            (r.c.vr w.b.toNat) }))) ∧
  (∀ s inst w r, Issues s inst 4 6 w r →
    exec (.vshl inst w) s = .next (Ran s inst (r.puts [keyV w.a.toNat, keyM w.m.toNat] 1
      [(keyV w.d.toNat, 1), (keySat, 1)] fun c =>
        { c.setV w.d.toNat (laneMap (r.c.mr w.m.toNat) (fun _ x _ => lane31 (x.toInt * 2 ^ (w.imm.toNat % 32))) 0
            (r.c.vr w.d.toNat) (r.c.vr w.a.toNat) (r.c.vr w.b.toNat)) with
          sat := r.c.sat ||| laneTest (r.c.mr w.m.toNat) 0 (fun x _ => overflows31 (x.toInt * 2 ^ (w.imm.toNat % 32)))
            (r.c.vr w.a.toNat) (r.c.vr w.b.toNat) }))) ∧
  (∀ s inst w r op i f, Issues s inst 4 op w r →
    (i, op, f) ∈ [(Instr.vand inst w, 3, fun x y : Word => x &&& y), (.vor inst w, 4, fun x y => x ||| y),
      (.vxor inst w, 5, fun x y => x ^^^ y), (.vsar inst w, 7, fun x _ => x.sshiftRight (w.imm.toNat % 32)),
      (.vmov inst w, 8, fun x _ => x)] →
    ∃ c : Ctx, exec i s = .next (Ran s inst { r with c := c }) ∧
      c.vr w.d.toNat = laneMap (r.c.mr w.m.toNat) (fun _ => f) 0 (r.c.vr w.d.toNat) (r.c.vr w.a.toNat)
        (r.c.vr w.b.toNat) ∧
      (∀ j, j ≠ w.d.toNat → c.vr j = r.c.vr j) ∧
      (∀ l, l < 128 → c.sat.getLsbD l = r.c.sat.getLsbD l) ∧
      c = { r.c with v := c.v, sat := c.sat, cycles := c.cycles, ready := c.ready, last := c.last }) ∧
  (∀ s inst w r, Issues s inst 4 9 w r →
    exec (.vbc inst w) s = .next (Ran s inst (r.puts [keyS w.a.toNat, keyM w.m.toNat] 1 [(keyV w.d.toNat, 1)]
      (Ctx.setV w.d.toNat (laneMap (r.c.mr w.m.toNat) (fun _ _ _ => r.c.sr w.a.toNat) 0 (r.c.vr w.d.toNat) zeroLanes
        zeroLanes))))) ∧
  (∀ s inst w r, Issues s inst 4 10 w r →
    exec (.vcmplt inst w) s = .next (Ran s inst (r.puts [keyV w.a.toNat, keyV w.b.toNat, keyM w.m.toNat] 1
      [(keyM w.d.toNat, 1)] (Ctx.setM w.d.toNat (laneTest (r.c.mr w.m.toNat) (r.c.mr w.d.toNat) BitVec.slt
        (r.c.vr w.a.toNat) (r.c.vr w.b.toNat)))))) ∧
  (∀ s inst w r, Issues s inst 4 11 w r →
    exec (.vsel inst w) s = .next (Ran s inst (r.puts [keyV w.a.toNat, keyV w.b.toNat, keyM w.m.toNat, keyM w.x.toNat] 1
      [(keyV w.d.toNat, 1)] (Ctx.setV w.d.toNat (laneMap (r.c.mr w.m.toNat)
        (fun l x y => if (r.c.mr w.x.toNat).getLsbD l then x else y) 0 (r.c.vr w.d.toNat) (r.c.vr w.a.toNat)
        (r.c.vr w.b.toNat)))))) ∧
  (∀ s inst w r, Issues s inst 4 12 w r →
    exec (.vlane inst w) s = .next (Ran s inst (r.puts [keyM w.m.toNat] 1 [(keyV w.d.toNat, 1)]
      (Ctx.setV w.d.toNat (laneMap (r.c.mr w.m.toNat) (fun l _ _ => BitVec.ofNat 32 l) 0 (r.c.vr w.d.toNat) zeroLanes
        zeroLanes))))) ∧
  (∀ (m : BitVec 128) (f : Nat → Word → Word → Word) (o x y : List Word) (l : Nat), o.length = 128 → x.length = 128 →
    y.length = 128 → l < 128 →
    (laneMap m f 0 o x y).getD l 0 = if m.getLsbD l then f l (x.getD l 0) (y.getD l 0) else o.getD l 0) ∧
  (∀ (m old : BitVec 128) (t : Word → Word → Bool) (x y : List Word) (l : Nat), x.length = 128 → y.length = 128 → l < 128 →
    (laneTest m old t x y).getLsbD l = if m.getLsbD l then t (x.getD l 0) (y.getD l 0) else old.getLsbD l)

/-- The accumulators (R361, R362, R368): the MAC class adds exact products, beyond the range a lane takes the extreme and stays
there, and EXT, EXTW, ALD, ACLR, OVFM and SATM move them. P[A] of MACMM steps before P[B] (log 26). -/
def Obligations.BenchAccumulators : Prop :=
  (∀ s inst w r op i (sign : Int) y key, Issues s inst 5 op w r →
    (i, op, sign, y, key) ∈ [(Instr.mac inst w, 0, 1, r.c.vr w.b.toNat, keyV w.b.toNat),
      (.msu inst w, 1, -1, r.c.vr w.b.toNat, keyV w.b.toNat),
      (.macs inst w, 2, 1, List.replicate 128 (r.c.sr w.b.toNat), keyS w.b.toNat)] →
    exec i s = .next (Ran s inst (r.puts [keyM w.m.toNat, keyV w.a.toNat, key] 1 [(keyA w.d.toNat, 4)]
      (Ctx.setAcc w.d.toNat (accLanes (r.c.mr w.m.toNat) sign 0 (r.c.ar w.d.toNat) (r.c.vr w.a.toNat) y))))) ∧
  (∀ s inst w r y, Issues s inst 5 3 w r → r.gather (r.c.mr w.m.toNat) zeroLanes (r.pAddr w.b.toNat) = .ok y →
    exec (.macm inst w) s = .next (Ran s inst (Run.stepP w.b.toNat w.imm.toInt
      (r.puts [keyM w.m.toNat, keyV w.a.toNat, keyP w.b.toNat] 1 [(keyA w.d.toNat, 4), (keyP w.b.toNat, 1)]
        (Ctx.setAcc w.d.toNat (accLanes (r.c.mr w.m.toNat) 1 0 (r.c.ar w.d.toNat) (r.c.vr w.a.toNat) y)))))) ∧
  (∀ s inst w r t x y, Issues s inst 5 4 w r → r.gather (r.c.mr w.m.toNat) zeroLanes (r.pAddr w.a.toNat) = .ok x →
    t = Run.stepP w.a.toNat (w.imm.extractLsb' 0 16).toInt r →
    t.gather (t.c.mr w.m.toNat) zeroLanes (t.pAddr w.b.toNat) = .ok y →
    exec (.macmm inst w) s = .next (Ran s inst (Run.stepP w.b.toNat (w.imm.extractLsb' 16 16).toInt
      (t.puts [keyM w.m.toNat, keyP w.a.toNat, keyP w.b.toNat] 1
        [(keyA w.d.toNat, 4), (keyP w.a.toNat, 1), (keyP w.b.toNat, 1)]
        (Ctx.setAcc w.d.toNat (accLanes (t.c.mr w.m.toNat) 1 0 (t.c.ar w.d.toNat) x y)))))) ∧
  (∀ s inst w r, Issues s inst 6 0 w r →
    exec (.aclr inst w) s = .next (Ran s inst (r.puts [keyM w.m.toNat] 1 [(keyA w.d.toNat, 1)]
      (Ctx.setAcc w.d.toNat (accSet (r.c.mr w.m.toNat) (fun _ => {}) 0 (r.c.ar w.d.toNat) zeroLanes))))) ∧
  (∀ s inst w r, Issues s inst 6 1 w r →
    exec (.ext inst w) s = .next (Ran s inst (r.puts [keyA w.a.toNat, keyM w.m.toNat] 1 [(keyV w.d.toNat, 3), (keySat, 3)]
      fun c => { c.setV w.d.toNat (accOut (r.c.mr w.m.toNat)
          (fun a => BitVec.ofInt 32 (sat31 (divEven (a * 2 ^ w.x.toNat) (2 ^ 31)))) 0 (r.c.vr w.d.toNat) (r.c.ar w.a.toNat))
        with sat := r.c.sat ||| (r.c.mr w.m.toNat &&& accTest (fun a => overflows31 (extVal w.x.toNat a.val))
          (r.c.ar w.a.toNat)) }))) ∧
  (∀ s inst w r, Issues s inst 6 2 w r →
    ∃ c : Ctx, exec (.extw inst w) s = .next (Ran s inst { r with c := c }) ∧
      c.vr w.d.toNat = accOut (r.c.mr w.m.toNat) (fun a => (extwVal a).extractLsb' 0 32) 0 (r.c.vr w.d.toNat)
        (r.c.ar w.a.toNat) ∧
      c.vr (w.d.toNat + 1) = accOut (r.c.mr w.m.toNat) (fun a => (extwVal a).extractLsb' 32 32) 0
        (r.c.vr (w.d.toNat + 1)) (r.c.ar w.a.toNat) ∧
      (∀ j, j ≠ w.d.toNat → j ≠ w.d.toNat + 1 → c.vr j = r.c.vr j) ∧
      c = { r.c with v := c.v, cycles := c.cycles, ready := c.ready, last := c.last }) ∧
  (∀ s inst w r, Issues s inst 6 3 w r →
    exec (.ald inst w) s = .next (Ran s inst (r.puts [keyV w.a.toNat, keyM w.m.toNat] 1 [(keyA w.d.toNat, 1)]
      (Ctx.setAcc w.d.toNat (accSet (r.c.mr w.m.toNat) (fun x => { val := x.toInt * 2 ^ 31 }) 0 (r.c.ar w.d.toNat)
        (r.c.vr w.a.toNat)))))) ∧
  (∀ s inst w r, Issues s inst 6 4 w r →
    exec (.ovfm inst w) s = .next (Ran s inst (r.puts [keyA w.a.toNat, keyM w.m.toNat] 1 [(keyM w.d.toNat, 1)]
      (Ctx.setM w.d.toNat (maskWrite (r.c.mr w.m.toNat) (r.c.mr w.d.toNat) (accTest (fun a => a.ovf)
        (r.c.ar w.a.toNat)))))) ) ∧
  (∀ s inst w r, Issues s inst 6 5 w r →
    exec (.satm inst w) s = .next (Ran s inst (r.puts [keySat, keyM w.m.toNat] 1 [(keyM w.d.toNat, 1), (keySat, 1)]
      fun c => { c.setM w.d.toNat (maskWrite (r.c.mr w.m.toNat) (r.c.mr w.d.toNat) r.c.sat) with sat := 0 }))) ∧
  (∀ (p : Int) (a : Acc), a.ovf = true → a.add p = a) ∧
  (∀ (p : Int) (a : Acc), a.ovf = false → -(2 ^ 71) ≤ a.val + p → a.val + p < 2 ^ 71 → a.add p = { val := a.val + p }) ∧
  (∀ (p : Int) (a : Acc), a.ovf = false → 2 ^ 71 ≤ a.val + p → a.add p = { val := 2 ^ 71 - 1, ovf := true }) ∧
  (∀ (p : Int) (a : Acc), a.ovf = false → a.val + p < -(2 ^ 71) → a.add p = { val := -(2 ^ 71), ovf := true })

/-- Search and P registers (R364 to R366, R368): SMAX and SMIN take better lanes with an index, RMAX and RMIN the best lane of
the mask, the lowest of equals; PSETB, PSETL and PSETI write a part of P0 to P7 and trap on a managed register; how an access
through a P register finds its address and leaves the index. P registers are 22 bits wide (log 26). -/
def Obligations.BenchSearchAndPointers : Prop :=
  (∀ s inst w r op i (better : Int → Int → Bool) takes, Issues s inst 7 op w r →
    (i, op, better) ∈ [(Instr.smax inst w, 0, fun n o : Int => decide (o < n)), (.smin inst w, 1, fun n o => decide (n < o))] →
    takes = laneTest (r.c.mr w.m.toNat) 0 (fun n o => better (searchKey w n) (searchKey w o)) (r.c.vr w.a.toNat)
      (r.c.vr w.d.toNat) →
    ∃ c : Ctx, exec i s = .next (Ran s inst { r with c := c }) ∧
      c.vr w.d.toNat = laneMap takes (fun _ n _ => n) 0 (r.c.vr w.d.toNat) (r.c.vr w.a.toNat) zeroLanes ∧
      c.vr (w.d.toNat + 1) = laneMap takes (fun _ _ _ => r.c.sr w.b.toNat) 0 (r.c.vr (w.d.toNat + 1)) zeroLanes zeroLanes ∧
      (∀ j, j ≠ w.d.toNat → j ≠ w.d.toNat + 1 → c.vr j = r.c.vr j) ∧
      c = { r.c with v := c.v, cycles := c.cycles, ready := c.ready, last := c.last }) ∧
  (∀ s inst w r op i (better : Int → Int → Bool) v l, Issues s inst 7 op w r →
    (i, op, better) ∈ [(Instr.rmax inst w, 2, fun n o : Int => decide (o < n)), (.rmin inst w, 3, fun n o => decide (n < o))] →
    (match bestLane better w (r.c.mr w.m.toNat) (r.c.vr w.a.toNat) with
      | some b => v = b.1 ∧ l = BitVec.ofNat 32 b.2
      | none => v = 0x80000000 ∧ l = 0xFFFFFFFF) →
    exec i s = .next (Ran s inst (r.puts [keyV w.a.toNat, keyM w.m.toNat] 1 [(keyS w.d.toNat, 1), (keyS (w.d.toNat + 1), 1)]
      fun c => (c.setS w.d.toNat v).setS (w.d.toNat + 1) l))) ∧
  (∀ (w : IWord) (m : BitVec 128) (x : List Word) (v : Word) (l : Nat),
    bestLane (fun n o => decide (o < n)) w m x = some (v, l) →
    x[l]? = some v ∧ m.getLsbD l = true ∧ ∀ k u, x[k]? = some u → m.getLsbD k = true →
      searchKey w u ≤ searchKey w v ∧ (k < l → searchKey w u < searchKey w v)) ∧
  (∀ (w : IWord) (m : BitVec 128) (x : List Word) (v : Word) (l : Nat),
    bestLane (fun n o => decide (n < o)) w m x = some (v, l) →
    x[l]? = some v ∧ m.getLsbD l = true ∧ ∀ k u, x[k]? = some u → m.getLsbD k = true →
      searchKey w v ≤ searchKey w u ∧ (k < l → searchKey w v < searchKey w u)) ∧
  (∀ (better : Int → Int → Bool) (w : IWord) (x : List Word), bestLane better w 0 x = none) ∧
  (∀ (w : IWord) (v : Word), (w.x = 1 → searchKey w v = v.toInt.natAbs) ∧ (w.x = 0 → searchKey w v = v.toInt)) ∧
  (∀ p : PReg, (p.len = 0 → p.norm = p) ∧ (p.len ≠ 0 → p.norm = { p with idx := p.idx % p.len })) ∧
  (∀ (p : PReg) (k : Nat), (p.len = 0 → p.addr k = (p.base + (p.idx + 4 * k)) % 2 ^ 22) ∧
    (p.len ≠ 0 → p.addr k = (p.base + (p.idx + 4 * k) % p.len) % 2 ^ 22)) ∧
  (∀ (p : PReg) (inc : Int), (p.bump inc).base = p.base ∧ (p.bump inc).len = p.len ∧
    (p.len = 0 → ((p.bump inc).idx : Int) = (p.idx + inc) % 2 ^ 22) ∧
    (p.len ≠ 0 → ((p.bump inc).idx : Int) = (p.idx + inc) % p.len)) ∧
  (∀ s inst w r op i v (f : PReg → PReg), Issues s inst 8 op w r → w.d.toNat < 8 →
    v = (r.c.sr w.a.toNat + w.imm).toNat % 4194304 →
    (i, op, f) ∈ [(Instr.psetb inst w, 0, fun p : PReg => { p with base := v }), (.psetl inst w, 1, fun p => { p with len := v }),
      (.pseti inst w, 2, fun p => { p with idx := v })] →
    exec i s = .next (Ran s inst (r.puts [keyS w.a.toNat, keyP w.d.toNat] 1 [(keyP w.d.toNat, 1)]
      (Ctx.setP w.d.toNat (f (r.c.pr w.d.toNat)))))) ∧
  (∀ s inst w r op i, Issues s inst 8 op w r → 8 ≤ w.d.toNat →
    (i, op) ∈ [(Instr.psetb inst w, 0), (.psetl inst w, 1), (.pseti inst w, 2)] →
    exec i s = .next (s.krnTrap inst Trap.illegal 0 r.c.pc)) ∧
  (∀ s inst w r, Issues s inst 8 3 w r →
    exec (.pgeti inst w) s = .next (Ran s inst (r.puts [keyP w.a.toNat] 1 [(keyS w.d.toNat, 1)]
      (Ctx.setS w.d.toNat (BitVec.ofNat 32 (r.c.pr w.a.toNat).idx))))) ∧
  (∀ s inst w r, Issues s inst 8 4 w r →
    exec (.padd inst w) s = .next (Ran s inst (r.puts [keyS w.a.toNat, keyP w.d.toNat] 1 [(keyP w.d.toNat, 1)]
      (Ctx.setP w.d.toNat (((r.c.pr w.d.toNat).norm).bump (r.c.sr w.a.toNat + w.imm).toInt)))))

/-- Image slots (R371, R372): FIRST begins a slot, a chunk is written at its offset, FINAL makes a good image READY and answers
ERR_IMAGE for a bad one; CLEAR empties an unused slot; INFO tells a slot. -/
def Obligations.KernelImages : Prop :=
  (∀ s mb r n first final old base im, Passes krnImageLoad s mb r → field r.payload 0 1 = n → s.slotUsers n = 0 →
    bit (field r.payload 1 1) 0 = first → bit (field r.payload 1 1) 1 = final → old = ImageSlot.of s.bench.slots n →
    (first = true ∨ old.state = .loading) → s.hitsAttachment mb (field r.payload 12 4) (field r.payload 8 4) = false →
    base = (if first then ({ slot := n, state := .loading } : ImageSlot) else old) →
    im = { base with
      bytes := base.bytes.writeBytes (field r.payload 4 4) (s.readBulk mb (field r.payload 12 4) (field r.payload 8 4))
      top := max base.top (field r.payload 4 4 + field r.payload 8 4) } →
    Completes krnImageLoad (.krnImageLoad mb r) s mb r
      { status := if final = true ∧ im.imageOk = false then Err.image else 0 } fun a =>
        a.setSlotImage (if final = true ∧ im.imageOk = true then { im with state := .ready } else im)) ∧
  (∀ s mb r n, Passes krnImageClear s mb r → field r.payload 0 1 = n → s.slotUsers n = 0 →
    Completes krnImageClear (.krnImageClear mb r) s mb r {} fun a =>
      { a with bench := { a.bench with slots := dropKey ImageSlot.slot n a.bench.slots } }) ∧
  (∀ s mb r n im, Passes krnImageInfo s mb r → field r.payload 0 1 = n → im = ImageSlot.of s.bench.slots n →
    Completes krnImageInfo (.krnImageInfo mb r) s mb r
      { payload := leBytes 4 im.state.code ++ leBytes 4 (s.slotUsers n) ++ leBytes 4 im.top ++ zeros 4
          ++ if im.state = .ready then im.bytes.readBytes 0 64 else zeros 64 } fun a => a) ∧
  (∀ (s : State) (im : ImageSlot), ImageSlot.of (s.setSlotImage im).bench.slots im.slot = im) ∧
  (∀ (s : State) (n : Nat), ImageSlot.of (dropKey ImageSlot.slot n s.bench.slots) n = { slot := n })

/-! ### Memory, Haul and the packet queues (14) -/

/-- QUEUE_CONFIG, QUEUE_STATUS, HAUL_SUBMIT and MEM_INFO (R383, R389, R390, R400), and the end of a Haul job: every byte is moved
and the response tells how many; a transfer that stops answers ERR_FAULT with what moved. The counters of internal queues and
destination bytes beyond what moved are free (log 3); QUEUE_CONFIG flushes and starts both ring counters at 0 (the model's
choice, log 45). -/
def Obligations.MemoryAndHaul : Prop :=
  (∀ s mb r q w h, Passes queueConfig s mb r → nodeIdx r.node.toNat = q → q ≤ 15 → queueWords (field r.payload 0 1) = w →
    s.queueBound q = false →
    (∀ i m o l, i < 16 → i ≠ q → (s.queue i).window = some (m, o, l) →
      ¬(m = mb.val ∧ overlaps (field r.payload 4 4) (field r.payload 8 4) o l = true)) →
    s.queueShareOk q w = true → h = (s.queue q).flush →
    Completes queueConfig (.queueConfig mb r) s mb r {} fun a => a.putQueue q { h with
      cap := w, high := min h.high w, winHead := 0, winTail := 0
      window := if field r.payload 1 1 = 1 then some (mb.val, field r.payload 4 4, field r.payload 8 4) else none }) ∧
  (∀ s mb r q h, Passes queueStatus s mb r → nodeIdx r.node.toNat = q → q < 16 → s.queue q = h →
    Completes queueStatus (.queueStatus mb r) s mb r
      { payload := leBytes 4 h.cap ++ leBytes 4 h.level ++ leBytes 4 h.packets.length ++ leBytes 4 h.spoil
          ++ leBytes 4 h.flushed ++ leBytes 4 h.ignored ++ leBytes 4 h.corrected ++ leBytes 4 h.poisoned
          ++ leBytes 4 (h.status q) ++ leBytes 4 0 } fun a =>
      if bit (field r.payload 0 1) 0 then
        a.setQueueRaw q { h with spoil := 0, flushed := 0, ignored := 0, corrected := 0, poisoned := 0 }
      else a) ∧
  (∀ s mb r q, Passes queueStatus s mb r → nodeIdx r.node.toNat = q → 16 ≤ q →
    ∃ b : Bytes, b.length = 40 ∧
      Completes queueStatus (.queueStatus mb r) s mb r { payload := b } fun a => { a with free := a.free + 8 }) ∧
  (∀ s mb r n ds, Passes haulSubmit s mb r → field r.payload 0 2 = n → r.payload.length = 8 + 32 * n →
    (∀ j, j < n → s.haulDescOk r.payload j = true) → ds = (List.range n).map (haulDesc r.payload) →
    (∀ d ∈ ds, s.id.straps.hostQspi = true → d.src ≠ 2 ∧ d.dst ≠ 2) →
    (∀ d ∈ ds, (d.src = 3 → s.hitsAttachment mb d.srcAddr d.len = false) ∧
      (d.dst = 3 → s.hitsAttachment mb d.dstAddr d.len = false)) →
    Waits haulSubmit (.haulSubmit mb r) s mb fun a =>
      { a with mem := { a.mem with jobs := a.mem.jobs ++ [{ mb := mb, req := r, descs := ds }] } }) ∧
  (∀ s mb r, Passes memInfo s mb r →
    Completes memInfo (.memInfo mb r) s mb r
      { payload := leBytes 1 8 ++ leBytes 1 s.mem.density ++ leBytes 2 s.mem.rate ++ leBytes 4 ((s.mem.density - 2) * 1024)
          ++ leBytes 4 s.mem.linkEcc ++ padTo 8 s.mem.margins ++ zeros 12 } fun a => a) ∧
  (∀ (s u t : State) (mb : Fin 8) (j : HaulJob) (n moved : Nat), s.job? mb = some j → sumN (j.descs.map (·.len)) = n →
    u = { s with mem := { s.mem with jobs := s.mem.jobs.filter fun x => x.mb != mb.val } } →
    u.haulRun mb n j.descs 0 = (moved, none, t) →
    exec (.haulComplete mb) s = .next (t.finish 0x0B10 mb j.req ((s.box mb).sess == .opened) true 0
      { payload := leBytes 8 moved })) ∧
  (∀ (s u t : State) (mb : Fin 8) (j : HaulJob) (n k moved : Nat) (d : HaulDesc), s.job? mb = some j → n < sumN (j.descs.map (·.len)) →
    u = { s with mem := { s.mem with jobs := s.mem.jobs.filter fun x => x.mb != mb.val } } →
    u.haulRun mb n j.descs 0 = (moved, some (d, k), t) →
    exec (.haulTimeout mb n) s = .next ((t.haulSmear mb d k).finish 0x0B10 mb j.req ((s.box mb).sess == .opened) true
      Err.fault { payload := leBytes 8 moved })) ∧
  (∀ (s : State) (mb limit moved : Nat) (d : HaulDesc) (rest : List HaulDesc), s.badAt d.src d.srcAddr d.len = none →
    moved + d.len ≤ limit →
    s.haulRun mb limit (d :: rest) moved =
      State.haulRun mb limit rest (moved + d.len) (s.haulWrite mb d.dst d.dstAddr (s.haulRead mb d.src d.srcAddr d.len))) ∧
  (∀ (s : State) (mb limit moved : Nat) (d : HaulDesc) (rest : List HaulDesc), s.badAt d.src d.srcAddr d.len = none →
    limit < moved + d.len → moved ≤ limit →
    s.haulRun mb limit (d :: rest) moved = (limit, some (d, limit - moved),
      s.haulWrite mb d.dst d.dstAddr (s.haulRead mb d.src d.srcAddr (limit - moved)))) ∧
  (∀ (s : State) (mb space addr : Nat) (b : Bytes), s.mem.user.wf = true → s.mem.host.wf = true → s.mem.bar2.wf = true →
    1 ≤ space → space ≤ 3 → (s.haulWrite mb space addr b).haulRead mb space addr b.length = b) ∧
  (∀ (s : State) (mb space addr at_ k n : Nat) (b : Bytes), s.mem.user.wf = true → s.mem.host.wf = true →
    s.mem.bar2.wf = true → 1 ≤ space → space ≤ 3 → 1 ≤ k → k ≤ 3 →
    (k ≠ space ∨ at_ + n ≤ addr ∨ addr + b.length ≤ at_) →
    (s.haulWrite mb space addr b).haulRead mb k at_ n = s.haulRead mb k at_ n)

/-- What the operations of a packet queue do (R391 to R394). -/
def Obligations.QueueOperations : Prop :=
  (∀ (h : HostQueue) (w : BitVec 64 × Bool), h.discarding = false → h.isFull = false → h.bad = false →
    h.push w false = { h with partial_ := h.partial_ ++ [w], inProgress := true } ∧
    h.push w true = { h with packets := h.packets ++ [h.partial_ ++ [w]], partial_ := [], inProgress := false }) ∧
  (∀ (h : HostQueue) (w : BitVec 64 × Bool) (last : Bool), h.discarding = false → h.isFull = true →
    (h.push w last).overrun = true ∧ (h.push w last).packets = h.packets ∧
    (h.push w last).ignored = satAdd32 h.ignored 1 ∧ (last = false → (h.push w last).bad = true) ∧
    (last = true → (h.push w last).partial_ = [] ∧ (h.push w last).spoil = satAdd32 h.spoil 1)) ∧
  (∀ (h : HostQueue) (w : BitVec 64 × Bool) (last : Bool), h.discarding = true →
    h.push w last = { h with flushed := satAdd32 h.flushed 1, discarding := !last }) ∧
  (∀ h : HostQueue, h.flush.level = 0 ∧ h.flush.flushed = satAdd32 h.flushed h.level ∧
    h.flush.discarding = (h.discarding || h.inProgress) ∧ h.flush.partial_ = [] ∧ h.flush.bad = false ∧
    h.flush.spoil = h.spoil) ∧
  (∀ h : HostQueue, h.discarding = true → h.spoilNow = { h with discarding := false }) ∧
  (∀ h : HostQueue, h.discarding = false → h.inProgress = true →
    h.spoilNow.packets = h.packets ∧ h.spoilNow.partial_ = [] ∧ h.spoilNow.spoil = satAdd32 h.spoil 1) ∧
  (∀ (h g : HostQueue) (w : BitVec 64 × Bool), h.popWord = some (w, g) → h.packets.flatten ≠ [] →
    (∀ p ∈ h.packets, p ≠ []) → h.packets.flatten = w :: g.packets.flatten) ∧
  (∀ (s : State) (q : Nat) (h : HostQueue), q < 16 →
    (s.putQueue q h).queue q = h ∧ (∀ k, k ≠ q → (s.putQueue q h).queue k = s.queue k) ∧
    (s.putQueue q h).mem = { s.mem with queues := (s.putQueue q h).mem.queues } ∧
    (q < 8 → (s.queue q).packets = [] → h.packets ≠ [] →
      (s.putQueue q h).evq.intStatus.getLsbD (16 + q) = true))

/-- The host's side of the packet queues (R391 to R399): flush, spoil, words and half words in and out, the window rings, and a
channel's retraining (R384). -/
def Obligations.HostQueueRows : Prop :=
  (∀ (s : State) (q : Fin 16) (v : Word), s.awake = true → s.ready = true → v.getLsbD 1 = false →
    exec (.hqFlush q v) s = .next (s.putQueue q (s.queue q).flush)) ∧
  (∀ (s : State) (q : Fin 16) (v : Word), s.awake = true → s.ready = true → v.getLsbD 0 = false →
    exec (.hqSpoil q v) s = .next (if 8 ≤ q.val then s.putQueue q (s.queue q).spoilNow else s)) ∧
  (∀ (s : State) (q : Fin 16) (w : BitVec 64), s.awake = true → s.ready = true → 8 ≤ q.val → (s.queue q).window = none →
    exec (.hqDataWrite q (.whole w)) s = .next (s.putQueue q ((s.queue q).push (w, false) false)) ∧
    exec (.hqDataLast q (.whole w)) s = .next (s.putQueue q ((s.queue q).push (w, false) true))) ∧
  (∀ (s : State) (q : Fin 16) (lo hi : Word), s.awake = true → s.ready = true → 8 ≤ q.val → (s.queue q).window = none →
    (s.queue q).heldWrite = some lo →
    ∃ h, h = { s.queue q with heldWrite := none } ∧ exec (.hqDataWrite q (.high hi)) s =
      .next ((s.setQueueRaw q h).putQueue q (h.push (BitVec.ofNat 64 (lo.toNat + 2 ^ 32 * hi.toNat), false) false))) ∧
  (∀ (s : State) (q : Fin 16) (lo : Word), s.awake = true → s.ready = true →
    exec (.hqDataWrite q (.low lo)) s = .next (s.setQueueRaw q { s.queue q with heldWrite := some lo })) ∧
  (∀ (s : State) (q : Fin 16) (d : DataAccess), s.awake = true → s.ready = true → q.val < 8 ∨ (s.queue q).window ≠ none →
    ∀ w, d = .whole w → exec (.hqDataWrite q d) s = .next s ∧ exec (.hqDataLast q d) s = .next s) ∧
  (∀ (s : State) (q : Fin 16) (w v : BitVec 64) (p : Bool) (g : HostQueue), s.awake = true → s.ready = true → q.val < 8 →
    (s.queue q).window = none → (s.queue q).popWord = some ((v, p), g) →
    ∃ t, exec (.hqDataRead q (.whole w)) s = .next t ∧
      t.queue q = { g with poisonLast := p, poisonSeen := g.poisonSeen || p, readValue := v }) ∧
  (∀ (s : State) (q : Fin 16) (w : BitVec 64), s.awake = true → s.ready = true → q.val < 8 → (s.queue q).window = none →
    (s.queue q).packets = [] →
    ∃ t, exec (.hqDataRead q (.whole w)) s = .next t ∧
      t.queue q = { s.queue q with underrun := true, readValue := 0 } ∧
      t = { s with mem := { s.mem with queues := t.mem.queues } }) ∧
  (∀ (s : State) (q : Fin 16) (v : Word), s.awake = true → s.ready = true →
    exec (.hqWinHeadWrite q v) s = .next (if q.val < 8 then s else s.setQueueRaw q { s.queue q with winHead := v }) ∧
    exec (.hqWinTailWrite q v) s = .next (if 8 ≤ q.val then s else s.setQueueRaw q { s.queue q with winTail := v })) ∧
  (∀ (s : State) (q : Fin 16) (m o len need : Nat) (p : QPacket) (rest : List QPacket), s.mem.bar2.wf = true →
    q.val < 8 → (s.queue q).window = some (m, o, len) → (s.queue q).packets = p :: rest → need = 8 + 8 * p.length →
    need ≤ len - ((s.queue q).winHead - (s.queue q).winTail).toNat →
    ∃ t, exec (.windowCopyToHost q) s = .next t ∧ (t.queue q).packets = rest ∧
      (t.queue q).winHead = (s.queue q).winHead + BitVec.ofNat 32 need ∧
      t.ringGet m o len (s.queue q).winHead.toNat need
        = leBytes 8 (8 * p.length + 2 ^ 32 * ofBool p.poisoned) ++ packetBytes p) ∧
  (∀ (s : State) (q : Fin 16) (m o len n : Nat), 8 ≤ q.val → (s.queue q).window = some (m, o, len) →
    leNat (s.ringGet m o len (s.queue q).winTail.toNat 8) = 8 * n → 8 * n < 2 ^ 32 →
    8 + 8 * n ≤ ((s.queue q).winHead - (s.queue q).winTail).toNat → (s.queue q).level + n ≤ (s.queue q).cap →
    exec (.windowMoveFromHost q) s = .next (State.pushPacket q
      (wordsOfBytes n (s.ringGet m o len ((s.queue q).winTail.toNat + 8) (8 * n)))
      (s.setQueueRaw q { s.queue q with winTail := (s.queue q).winTail + BitVec.ofNat 32 (8 + 8 * n) }))) ∧
  (∀ (s : State) (c : Fin 8) (margin : Byte), s.ready = true →
    exec (.lpddrRetrain c margin) s = .next { s with mem := { s.mem with margins := s.mem.margins.set c margin } })

/-! ### Ashlar (15) -/

/-- Ashlar (R414 to R418): a job waits for its end, which writes the output, the record and the context's new state; a context
is saved and restored. The compressor's choice among encodings is opaque (log 7). -/
def Obligations.AshlarCommands : Prop :=
  (∀ s mb r i j c x, Passes ashJob s mb r → nodeIdx r.node.toNat = i → ashJobOf r.payload = j → s.ashCfg i = c →
    s.ashDyn i = x → s.enabled (ashId i) = true →
    (c.dir = 1 → c.mode = 1 → j.finish = true → j.inLen % 4096 % c.frame = 0) →
    (j.start = true ∨ x.inStream = true ∨ (c.dir ≠ 1 ∧ c.framing ≠ 1)) → (j.start = true → x.pending = 0) →
    (s.id.straps.hostQspi = true → j.inSpace ≠ 2 ∧ j.outSpace ≠ 2) →
    (j.inSpace = 3 → s.hitsAttachment mb j.inAddr j.inLen = false) →
    (j.outSpace = 3 → s.hitsAttachment mb j.outAddr j.outLen = false) →
    Waits ashJob (.ashJob mb r) s mb fun a => a.setAsh { x with job := some (mb.val, r) }) ∧
  (∀ (s : State) (i : Nat) (mb : Fin 8) (r : Req) (j : AshJob) (x : AshDyn) (run : AshRun) (out : Bytes),
    s.ashDyn i = x → x.job = some (mb.val, r) → ashJobOf r.payload = j → s.badAt j.inSpace j.inAddr j.inLen = none →
    run = AshRun.run (s.ashCfg i) j.start j.finish j.user
      { dyn := { x with job := none }, input := s.haulRead mb j.inSpace j.inAddr j.inLen, room := j.outLen } →
    run.fault = none → out = run.out.reverse.flatten →
    exec (.ashJobComplete i) s = .next (((s.haulWrite mb j.outSpace j.outAddr out).setAsh run.dyn).finish 0x0C01 mb r
      ((s.box mb).sess == .opened) true 0 { payload := run.record })) ∧
  (∀ s mb r, Passes ashCtxSave s mb r → ctxSpace s mb r.payload = 0 →
    Completes ashCtxSave (.ashCtxSave mb r) s mb r {} fun a =>
      a.haulWrite mb (field r.payload 0 1) (field r.payload 8 8)
        (ashImage (s.ashCfg (nodeIdx r.node.toNat)) (s.ashDyn (nodeIdx r.node.toNat)))) ∧
  (∀ s mb r i b, Passes ashCtxRestore s mb r → nodeIdx r.node.toNat = i → s.enabled (ashId i) = true →
    ctxSpace s mb r.payload = 0 → (s.badAt (field r.payload 0 1) (field r.payload 8 8) 40960).isSome = false →
    b = s.haulRead mb (field r.payload 0 1) (field r.payload 8 8) 40960 → field b 0 4 = 0x58435341 →
    field b 4 4 = (crc32c (b.drop 8)).toNat → slice b 8 8 = (s.ashCfg i).bytes →
    Completes ashCtxRestore (.ashCtxRestore mb r) s mb r {} fun a => a.setAsh (ashOfImage (s.ashCfg i) i b)) ∧
  (∀ (s : State) (x : AshDyn), (s.setAsh x).ashDyn x.ctx = x)

/-! ### The Farxis link (16) -/

/-- LINK_POWER, LINK_TEST, LINK_COUNTERS and the bring-up rows (R434 to R438, R442, R445, R446): each message and result moves
bring-up one step, GO brings the link up with its credits, and three failures in a row leave it ABSENT. A lane without an
error-free code takes a free one, and PRBS counts are free beyond their being at least 1 (log 28). -/
def Obligations.LinkBringUp : Prop :=
  (∀ s mb r (want : LinkState), Passes linkPower s mb r →
    (field r.payload 0 1, want) ∈ [(0, LinkState.active), (1, .quiet), (2, .deep)] → s.link.up = true →
    (s.link.state = want → Completes linkPower (.linkPower mb r) s mb r {} fun a => a) ∧
    (s.link.state ≠ want → s.link.state ≠ .deep →
      Completes linkPower (.linkPower mb r) s mb r {} fun a =>
        (a.setLink { s.link with state := want }).farxisEvent 7) ∧
    (s.link.state ≠ want → s.link.state = .deep →
      Completes linkPower (.linkPower mb r) s mb r {} fun a =>
        (if s.link.rung = 0 then (a.setLink { s.link with leavingDeep := some want }).linkSweep
        else (a.setLink { s.link with leavingDeep := some want }).linkRate s.link.rung))) ∧
  (∀ s mb r, Passes linkTest s mb r → field r.payload 0 1 = 1 → s.enabled linkNode = false → s.link.test = none →
    Completes linkTest (.linkTest mb r) s mb r {} fun a => a.setLink { s.link with
      test := some (field r.payload 1 1, field r.payload 2 1, field r.payload 3 1, field r.payload 4 1)
      state := .test, rung := field r.payload 2 1, prbsErr := List.replicate 8 0, checkerLock := 0
      ctle := (List.range 8).map fun x => if bit (field r.payload 3 1) x then 8 else s.link.ctle.getD x 0 }) ∧
  (∀ s mb r, Passes linkTest s mb r → field r.payload 0 1 = 0 → s.link.test.isSome = true →
    Completes linkTest (.linkTest mb r) s mb r {} fun a => a.setLink { s.link with test := none, state := .disabled }) ∧
  (∀ s mb r l, Passes linkCounters s mb r → l = s.link →
    Completes linkCounters (.linkCounters mb r) s mb r
      { payload := l.syncErr.flatMap (leBytes 4) ++ l.prbsErr.flatMap (leBytes 4) ++ leBytes 4 l.crcErr ++ leBytes 4 l.resent
          ++ leBytes 4 l.waited ++ leBytes 4 l.rewidths ++ leBytes 4 l.resets ++ leBytes 1 l.checkerLock ++ zeros 11 }
      fun a => if field r.payload 0 1 = 1 then
          a.setLink { l with
            syncErr := List.replicate 8 0, prbsErr := List.replicate 8 0, crcErr := 0, resent := 0, waited := 0
            rewidths := 0, resets := 0 }
        else a) ∧
  (∀ (s : State) (lane : Fin 8), s.link.state = .detect → s.link.step = 1 → bit s.laneMask lane = true →
    exec (.blockLock lane) s = .next ((s.setLink { s.link with
      lock := (List.range 8).filter fun x => s.link.lock.contains x || x == lane.val
      state := .wake, step := 2, since := s.time.ticks }).emitLink (.train 1 0))) ∧
  (∀ (s : State) (m : TrainMessage), s.link.step = 2 → m.message = 1 → m.f2.getLsbD 0 = true → s.link.wakes + 1 ≠ 64 →
    exec (.trainMessageRx m) s = .next ((s.setLink { s.link with
      wakes := s.link.wakes + 1, state := .caps, step := 3, since := s.time.ticks }).emitLink
        (.train 2 (s.maxRung + 256 * s.laneMask + 65536 * ofBool s.id.straps.pairSideB + 16777216)))) ∧
  (∀ (s : State) (m : TrainMessage), s.link.step = 4 → m.message = 4 → m.f2.toNat = s.link.rung →
    exec (.trainMessageRx m) s = .next (s.emitLink (.train 5 s.link.rung))) ∧
  (∀ (s : State) (m : TrainMessage), s.link.step = 7 → m.message = 8 →
    exec (.trainMessageRx m) s = .next (s.setLink { s.link with goSeen := true }).linkUpNow) ∧
  (∀ (s : State) (codes cs : List Nat) (t : State), s.link.step = 5 → s.link.swept = false → s.pickCodes codes = (cs, t) →
    exec (.ctleSweep codes) s = .next (((t.setLink { t.link with
      ctle := cs, ctleTrained := cs, stored := setA t.link.rung cs t.link.stored, swept := true
      since := t.time.ticks }).emitLink (.train 6 0)).linkSwept)) ∧
  (∀ (mask c : Nat), middleCode mask = some c → c < 16 ∧ bit mask c = true) ∧
  (∀ (s u : State) (mask : Byte), s.link.state = .rungTest → s.link.step = 6 → s.link.ownMask = none →
    s.countPrbs s.link.laneSet mask.toNat = u →
    exec (.prbsTest mask) s =
      .next ((u.setLink { u.link with ownMask := some mask.toNat, since := u.time.ticks }).emitLink (.train 7 mask.toNat)).linkDecide) ∧
  (∀ s : State, s.link.step ≠ 0 → s.link.since + 480 ≤ s.time.ticks → s.link.leavingDeep = none →
    exec (.linkTrainFail false) s = .next (s.linkFail 1)) ∧
  (∀ s : State, s.link.step ≠ 0 → s.link.leavingDeep = none → exec (.linkTrainFail true) s = .next (s.linkFail 3)) ∧
  (∀ s : State, s.link.step ≠ 0 → s.link.leavingDeep ≠ none →
    exec (.linkTrainFail true) s = .next s.pairLinkDown.linkDetect) ∧
  (∀ (s : State) (reason : Nat), 2 ≤ s.link.attempts → (s.linkFail reason).link.state = .absent) ∧
  (∀ (s : State) (reason : Nat), s.link.attempts < 2 → s.link.absent = false →
    (s.linkFail reason).link.state = .detect ∧ (s.linkFail reason).link.attempts = s.link.attempts + 1) ∧
  (∀ s : State, s.link.state = .absent → s.link.since + 48000 ≤ s.time.ticks →
    exec .linkAbsentRetry s = .next s.linkDetect) ∧
  (∀ s : State, s.pairEn = false → s.linkUpNow.link.state = .active ∧ s.linkUpNow.link.vc0.credits = 256 ∧
    s.linkUpNow.link.vc1.credits = 512 ∧ s.linkUpNow.link.attempts = 0)

/-- The link in use (R427, R429 to R431, R439 to R443, R447): packets, credits, lost lanes, lane power, tracking and errors. -/
def Obligations.LinkTraffic : Prop :=
  (∀ (s : State) (p : VcPacket) (x : Vc), s.link.moves = true → p.headerCrcOk = true → p.payloadCrcOk = true →
    s.link.vc p.vc = x → p.seq = x.rxSeq →
    exec (.linkPacketRx p) s = .next ((s.setLink (s.link.setVc p.vc { x with
      rxSeq := (x.rxSeq + 1) % 4096, lastGood := p.seq
      freed := (x.freed + (16 + p.length + 63) / 64) % 65536 })).pairReceive p.payload)) ∧
  (∀ (s : State) (p : VcPacket), s.link.moves = true → p.headerCrcOk = true → p.payloadCrcOk = true →
    p.seq ≠ (s.link.vc p.vc).rxSeq →
    exec (.linkPacketRx p) s = .next (s.setLink (s.link.setVc p.vc { s.link.vc p.vc with nak := true }))) ∧
  (∀ (s : State) (p : VcPacket), s.link.moves = true → p.headerCrcOk = false ∨ p.payloadCrcOk = false →
    exec (.linkPacketRx p) s = .next (s.setLink { s.link.setVc p.vc { s.link.vc p.vc with nak := true } with
      crcErr := satN u32max (s.link.crcErr + 1) })) ∧
  (∀ (s : State) (v : Fin 2) (x : Vc) (len : Nat) (p : PairPayload) (rest : List (Nat × PairPayload)),
    s.link.state = .active → s.link.vc v = x → x.unacked.length ≤ x.sent → x.ready = (len, p) :: rest →
    creditsFor len ≤ x.credits →
    exec (.linkPacketTx v) s = .next ((s.setLink { s.link.setVc v { x with
        ready := rest, waited := false, credits := x.credits - creditsFor len, txSeq := (x.txSeq + 1) % 4096
        unacked := x.unacked ++ [⟨x.txSeq, len, p, 1⟩], sent := x.sent + 1 } with
      lastPacket := s.time.ticks }).emitLink (.packet v x.txSeq len p))) ∧
  (∀ (s : State) (c : CreditBlock), s.link.moves = true → c.nak0 = false → c.nak1 = false →
    exec (.creditRx c) s = .next (s.setLink { s.link with
      vc0 := s.link.vc0.credit c.credits0 c.last0, vc1 := s.link.vc1.credit c.credits1 c.last1 })) ∧
  (∀ (x : Vc) (credits : Nat) (p : SentPacket) (rest : List SentPacket), x.unacked = p :: rest → x.returned ≤ credits →
    credits < 65536 →
    (x.credit credits p.seq).unacked = rest ∧ (x.credit credits p.seq).credits = x.credits + (credits - x.returned) ∧
    (x.credit credits p.seq).returned = credits) ∧
  (∀ s : State, s.link.state = .active →
    exec .creditTx s = .next ((s.setLink { s.link with
      vc0 := { s.link.vc0 with nak := false }, vc1 := { s.link.vc1 with nak := false } }).emitLink (.credit
        { nak0 := s.link.vc0.nak, nak1 := s.link.vc1.nak, credits0 := s.link.vc0.freed, credits1 := s.link.vc1.freed
          last0 := s.link.vc0.lastGood, last1 := s.link.vc1.lastGood }))) ∧
  (∀ s : State, s.link.state = .active →
    exec .laneMarkerTx s =
      .next ((s.setLink { s.link with markers := s.link.markers + 1 }).emitLink (.marker (s.link.markers + 1)))) ∧
  (∀ (s : State) (lane : Fin 8) (good : List Nat) (w : Nat), s.link.up = true → lane.val ∈ s.link.laneSet →
    lane.val ∈ s.link.laneMap → (∀ x ∈ s.link.laneSet, x ∈ s.link.lock) → good = s.link.laneSet.filter (fun x => x ≠ lane.val) → w = widthFor good.length → w ≠ 0 →
    exec (.laneLost lane) s = .next (((s.setLink { s.link with
      laneSet := good, lost := s.link.lost ++ [lane.val], lock := s.link.lock.filter fun x => x ≠ lane.val, width := w
      laneMap := good.take w, rewidths := satN u32max (s.link.rewidths + 1)
      vc0 := s.link.vc0.again, vc1 := s.link.vc1.again }).emitLink (.rewidth (maskOf good) w)).farxisEvent 2)) ∧
  (∀ (s : State) (mask : Byte) (w : Nat),
    exec (.rewidthRx mask w) s = .next (s.loseLanes (s.link.laneSet.filter fun x => !bit mask.toNat x))) ∧
  (∀ s : State, s.link.state = .active ∨ s.link.state = .quiet → exec .linkClockLost s = .next (s.linkDown 3)) ∧
  (∀ (s : State) (cause : Nat), s.pairEn = false → s.pair.role ≠ 2 → (s.linkDown cause).link.state = .detect ∧
    (s.linkDown cause).link.vc0 = {} ∧ (s.linkDown cause).link.vc1 = {} ∧
    (s.linkDown cause).link.resets = satN u32max (s.link.resets + 1)) ∧
  (∀ s : State, s.link.state = .active → s.quietIdle ≠ 0 → s.link.lastPacket + s.quietIdle ≤ s.time.ticks →
    exec .linkQuiet s = .next ((s.setLink { s.link with state := .quiet }).farxisEvent 7)) ∧
  (∀ (s : State) (lane : Fin 8) (c t : Nat), s.link.state = .active → lane.val ∈ s.link.laneSet →
    s.link.ctle.getD lane 0 = c → s.link.ctleTrained.getD lane 0 = t → c ≤ 15 → c < t + 2 → t ≤ c + 2 → c < 15 →
    exec (.ctleTrack lane true) s = .next (s.setLink { s.link with ctle := s.link.ctle.set lane (c + 1) })) ∧
  (∀ (s : State) (lane : Fin 8) (count : Nat), s.link.moves = true → s.parN linkNode 4 ≤ count →
    ∃ u : State, u = s.setLink { s.link with
        syncErr := s.link.syncErr.set lane (satN u32max (s.link.syncErr.getD lane 0 + count))
        errInterval := some (s.errIntervals, s.mostErrors count) } ∧
      exec (.linkErrors lane count) s = .next (u.cross 867 0 linkNode (s.mostErrors count) false
        (evData [(0, leBytes 1 lane), (4, leBytes 4 count), (8, leBytes 8 s.m)]))) ∧
  (∀ (s : State) (count : Nat), count ≤ s.mostErrors count ∧ (s.link.errInterval = none → s.mostErrors count = count)) ∧
  (∀ (t : Scrambler) (d : Bool) (rest : List Bool), (scramble t (d :: rest)).1.head? =
    some (d.xor ((t.getLsbD 38).xor (t.getLsbD 57)))) ∧
  (∀ (t : Scrambler) (bits : List Bool), (scramble t bits).1.length = bits.length ∧
    descramble t (scramble t bits).1 = (bits, (scramble t bits).2))

/-! ### The redundant pair (17) -/

/-- The pair (R450 to R476): its commands on a device that runs alone, heartbeats on both paths, the token, the declaration of a
failure and the takeover, the join, records and their acknowledgment, and the planned hand-over. -/
def Obligations.PairRows : Prop :=
  (∀ s mb r p, Passes pairStatus s mb r → p = s.pair →
    Completes pairStatus (.pairStatus mb r) s mb r
      { payload := leBytes 1 p.role ++ leBytes 1 p.state ++ leBytes 1 p.holder
          ++ leBytes 1 (ofBool p.linkHb + 2 * ofBool p.pinHb) ++ leBytes 4 s.linkMbps ++ leBytes 8 p.recordGot
          ++ leBytes 4 p.mismatches ++ leBytes 4 (p.joinBytes / 1048576) ++ leBytes 8 p.lastTakeover } fun a => a) ∧
  (∀ s mb r, Passes pairConfig s mb r → s.pair.state ≠ 4 →
    Completes pairConfig (.pairConfig mb r) s mb r {} fun a => { a with pair := { a.pair with
      compareMode := field r.payload 0 1, autoRejoin := field r.payload 1 1 = 1 } }) ∧
  (∀ (s a : State) (mb : Fin 8) (r : Req) (at_ : Nat), s.awake = true → s.ready = true → (s.box mb).busy = false →
    (s.box mb).sess = .opened → (s.box mb).tagOf r.tag = none → r.payload.length ≤ 8176 →
    State.accept 0x0E03 mb (s.note (.bell mb)) = a →
    pairSwitch.early a mb r = 0 → a.mustWait 0x0E03 r = false → field r.payload 8 8 % 16 = 0 → r.node = 0 → s.power.state = .active → s.pair.role = 1 →
    s.pair.state = 3 → field r.payload 0 1 = 2 → field r.payload 8 8 = at_ → 16 * (s.time.block + 4) ≤ at_ →
    exec (.pairSwitch mb r) s =
      .next (State.recordCommand { a with pair := { a.pair with switchAt := some (at_, mb.val, r) } } 0x0E03 mb r a)) ∧
  (∀ s mb r, pairSwitch.body s mb r = .fail Err.peer [] ↔ s.pair.state ≠ 3) ∧
  (∀ s : State, s.beating = true → s.pair.nextBeat ≤ s.blockEnd →
    ∃ t u, exec .heartbeatInstant s = .next t ∧ u = (s.reach s.pair.nextBeat).beat false ∧
      t = { u with pair := { u.pair with nextBeat := s.pair.nextBeat + 4 } }) ∧
  (∀ (s : State) (h : Heartbeat), s.beating = true → s.link.up = true → exec (.heartbeatRx h) s = .next (s.pairHeard h)) ∧
  (∀ s : State, s.beating = true → s.pair.missPin < 3 → s.pair.deciding = false →
    exec .pairAliveEdge s = .next { s with pair := { s.pair with
      gotPin := true, pinHb := true, missPin := 0, lastEdge := s.time.ticks } }) ∧
  (∀ s : State, s.beating = true → s.pair.role = 3 → s.pair.token = false → s.pair.partnerToken = false →
    (s.id.straps.pairSideB = true → s.pair.highSince + 960 ≤ s.time.ticks ∧ s.pair.lastEdge + 960 ≤ s.time.ticks) →
    exec .tokenAcquire s = .next s.takeToken) ∧
  (∀ s : State, s.beating = true → s.pair.role = 2 → s.pair.takeover = false → s.pair.averted = false →
    3 ≤ s.pair.missLink → 3 ≤ s.pair.missPin → s.pair.partnerToken = false →
    ∃ t, exec .pairDeclareFailure s = .next t ∧ t.pair.takeover = true ∧ t.pair.token = true ∧ t.pair.linkHb = false ∧
      t.pair.pinHb = false ∧ t.evq.intStatus.getLsbD 11 = true ∧
      OnlyEvents { s with pair := t.pair, mbx := t.mbx, link := { s.link with hadPair := t.link.hadPair } } t) ∧
  (∀ s : State, s.beating = true → s.time.pos = 0 → s.pair.takeover = true → s.evq.enable = false →
    ∃ t, exec .pairTakeover s = .next t ∧ t.pair.role = 1 ∧ t.pair.state = 1 ∧ t.pair.token = true ∧
      t.pair.takeover = false ∧ t.pair.lastTakeover = s.m ∧
      OnlyEvents { s with pair := t.pair, mbx := t.mbx, eth := t.eth } t) ∧
  (∀ s : State, s.beating = true → s.pair.state = 2 → s.link.up = true → s.pair.cutDone = true → s.pair.stored = [] →
    ∃ t, exec .joinComplete s = .next t ∧ t.pair.state = 3 ∧ t.pair.role = s.pair.role ∧ t.pair.alertState = true ∧
      t.pair.changes = s.pair.changes + 1 ∧ t.link.hadPair = true ∧
      OnlyEvents { s with pair := t.pair, link := { s.link with hadPair := true } } t) ∧
  (∀ s : State, s.beating = true → s.recording = true → s.closedView = none →
    ∃ t, exec .decisionRecordClose s = .next t ∧ t.pair.recordClosed = s.time.block + 1 ∧ t.pair.log = [] ∧
      t.link.vc0.ready = s.link.vc0.ready ++
        [(recordLength s.pair.log, .record (s.time.block + 1) s.pair.log s.oldestEvent)] ∧
      t.pair.closes = s.pair.closes ++ [(s.time.block + 1, s.evq.nextSeq)] ∧
      OnlyEvents { s with pair := t.pair, closedView := t.closedView, link := t.link } t) ∧
  (∀ (s : State) (n : Nat), s.pair.role = 1 → s.pair.state = 3 → n ≤ s.pair.recordClosed →
    ∃ t, exec (.recordAck n) s = .next t ∧ t.pair.recordAcked = max s.pair.recordAcked n ∧
      OnlyEvents { s with pair := t.pair, mbx := t.mbx } t ∧
      ∀ (mb : Fin 8) h, (s.box mb).held = some h → h.block ≤ n → (t.box mb).held = none ∧ (t.box mb).busy = false ∧
        (t.box mb).resp = { h.resp with degraded := false }) ∧
  (∀ (s : State) (mb : Fin 8) (h : Held), s.pair.role = 1 → s.pair.state = 3 → (s.box mb).held = some h →
    h.block + 4 ≤ s.time.block →
    ∃ t, exec .ackTimeout s = .next t ∧ t.pair.state = 4 ∧ t.pair.cause = 3 ∧
      OnlyEvents { s with pair := t.pair, mbx := t.mbx } t) ∧
  (∀ (s : State) (at_ : Nat) (mb : Fin 8) (r : Req), s.pair.switchAt = some (at_, mb.val, r) → s.time.pos = 0 → at_ ≤ s.m →
    s.pair.role = 1 →
    ∃ t, exec .tokenHandover s = .next t ∧ t.pair.role = 2 ∧ t.pair.token = false ∧ t.pair.partnerToken = true ∧
      t.pair.switchAt = none ∧ (t.box mb).busy = false ∧
      OnlyEvents { s with pair := t.pair, mbx := t.mbx, link := { s.link with hadPair := t.link.hadPair } } t)

/-! ### Faults and units (18) -/

/-- Faults (R477 to R489): the counters, self tests and injections, a retired cluster, a lost slice, a scrubbing pass. The
length of a slice's hold is free within 3 blk (log 29). -/
def Obligations.FaultsAndUnits : Prop :=
  (∀ s mb r f, Passes faultStatus s mb r → f = s.faults →
    Completes faultStatus (.faultStatus mb r) s mb r
      { payload := leBytes 2 (maskIn 16 s.bench.clustersOut) ++ leBytes 2 (maskIn 12 s.gal.slicesOut) ++ leBytes 4 f.sramCorr
          ++ leBytes 4 f.sramUnc ++ leBytes 4 f.localCorr ++ leBytes 4 f.localUnc ++ leBytes 4 f.lpddrUnc
          ++ leBytes 4 f.poison ++ leBytes 4 f.scrubs ++ leBytes 4 f.retirements ++ leBytes 4 f.sliceLosses ++ zeros 8 }
      fun a => if field r.payload 0 1 = 1 then
          a.setFaults { f with
            sramCorr := 0, sramUnc := 0, localCorr := 0, localUnc := 0, lpddrUnc := 0, poison := 0, scrubs := 0
            retirements := 0, sliceLosses := 0 }
        else a) ∧
  (∀ s mb r kind i, Passes faultRestore s mb r → field r.payload 0 1 = kind → field r.payload 1 1 = i →
    s.unitOut kind i = true → (∀ t ∈ s.faults.tests, ¬(t.kind = kind ∧ t.index = i)) → (kind, i) ∉ s.faults.restoring →
    Waits faultRestore (.faultRestore mb r) s mb fun a => a.setFaults { a.faults with
      tests := a.faults.tests ++ [⟨kind, i, mb, r, s.time.ticks + if kind = 1 then 960 else 480⟩] }) ∧
  (∀ s mb r t i, Passes faultInject s mb r → field r.payload 0 1 = t → field r.payload 1 1 = i →
    (t = 3 → s.bench.clustersOut.contains i = false) → (t = 4 → s.gal.slicesOut.contains i = false) →
    Completes faultInject (.faultInject mb r) s mb r {} fun a => a.atBoundary (.inject t i)) ∧
  (∀ (s : State) (c : Fin 16) (cause : Nat), s.awake = true → 1 ≤ cause → cause ≤ 5 → c.val ∉ s.bench.clustersOut →
    ∃ t, exec (.clusterRetired c cause) s = .next t ∧ t.bench.clustersOut = s.bench.clustersOut ++ [c.val] ∧
      t.faults.retirements = satAdd32 s.faults.retirements 1 ∧ (∃ r, t.faults.retire = some r ∧ c.val ∈ r.clusters) ∧
      OnlyEvents { s with bench := t.bench, faults := t.faults } t) ∧
  (∀ (s : State) (c : Fin 16) (cause : Nat), c.val ∈ s.bench.clustersOut →
    exec (.clusterRetired c cause) s = .next s) ∧
  (∀ (s : State) (k : Fin 12), s.awake = true → k.val ∉ s.gal.slicesOut → k.val ∉ s.faults.sliceLost →
    ∃ t b, exec (.gallerySliceLost k) s = .next t ∧ t.faults.sliceLost = s.faults.sliceLost ++ [k.val] ∧
      t.faults.sliceLosses = satAdd32 s.faults.sliceLosses 1 ∧ t.faults.sliceHold = some b ∧ s.time.block < b ∧
      b ≤ s.time.block + 3 ∧ OnlyEvents { s with gal := t.gal, faults := t.faults, wr := t.wr, free := s.free + 1 } t) ∧
  (∀ (s : State) (found : List ScrubFinding), s.awake = true →
    exec (.scrubPass found) s = .next (found.foldl State.contain
      (s.setFaults { s.faults with scrubs := satAdd32 s.faults.scrubs 1 }))) ∧
  (∀ s : State, s.contain .sramCorrected =
    s.setFaults { s.faults with sramCorr := satAdd32 s.faults.sramCorr 1, sramBlock := s.faults.sramBlock + 1 }) ∧
  (∀ (s : State) (c : Fin 16), (s.contain (.localUncorrectable c)).bench.clustersOut.contains c.val = true ∧
    (s.contain (.localUncorrectable c)).faults.localUnc = satAdd32 s.faults.localUnc 1) ∧
  (∀ (s u : State) (x : SelfTest), s.faults.tests.find? (fun t => decide (t.doneAt ≤ s.time.ticks)) = some x →
    u = s.setFaults { s.faults with tests := s.faults.tests.erase x } →
    (∃ v : State, v = u.restoredEvent x.kind x.index ∧ exec (.unitSelfTestDone true) s = .next
      ((v.setFaults { v.faults with restoring := v.faults.restoring ++ [(x.kind, x.index)] }).finish 0x1002 x.mb x.req
        ((s.box x.mb).sess == .opened) true 0 {})) ∧
    exec (.unitSelfTestDone false) s = .next
      ((u.raise 966 0x1016 0 (evData [(0, leBytes 1 x.kind), (1, leBytes 1 x.index), (2, leBytes 1 1)])).finish 0x1002 x.mb
        x.req ((s.box x.mb).sess == .opened) true Err.fault {}))

/-! ### Power (19) -/

/-- Power (R495, R499 to R509): the commands, dips with their throttle requests, temperature, voltage scaling, the change of
power state, Sleep, and the wakes from it. A rail's voltage after a dip is a free value not below its warning level (log 37). -/
def Obligations.PowerRows : Prop :=
  (∀ s mb r dest, Passes pwrState s mb r → powerStateOf (field r.payload 0 1) = dest → dest ≠ s.power.state →
    field r.payload 1 1 = 0 ∨ 16 * (s.time.block + 3) ≤ field r.payload 8 8 →
    Completes pwrState (.pwrState mb r) s mb r {} fun a => { a with power := { a.power with
      change := some (dest, if field r.payload 1 1 = 2 then field r.payload 8 8 else 16 * (s.time.block + 3))
      wakeSources := field r.payload 2 1, wakeGpios := field r.payload 3 1, wakeSeconds := field r.payload 4 4 } }) ∧
  (∀ s mb r, Passes pwrThrottle s mb r →
    Completes pwrThrottle (.pwrThrottle mb r) s mb r {} fun a =>
      State.followThrottle { a with power := { a.power with hostReq := field r.payload 0 1 = 1 } }) ∧
  (∀ s : State, s.power.throttled = none → s.power.requests ≠ 0 → s.awake = true →
    ∃ u : State, u = { s with power := { s.power with throttled := some (s.time.ticks, s.power.requests) } } ∧
      s.followThrottle = u.throttleEvent 1 s.power.requests 0) ∧
  (∀ (s : State) (i : Fin 16) (mv : Nat), s.railUp i = true → (s.rail i).dip = none →
    mv < (s.rail i).warnLevel s.time.ticks →
    ∃ t owes, exec (.railWarning i mv) s = .next t ∧
      t.rail i = { s.rail i with voltage := mv, state := 3, dip := some (mv, s.m, owes), throttle := true } ∧
      (∀ j : Fin 16, j ≠ i → t.rail j = s.rail j) ∧
      ((s.rail i).lastDipEnd = none → (t.latch (64 + i) 0).count = satN 65535 ((s.latch (64 + i) 0).count + 1)) ∧
      OnlyEvents { s with power := t.power, free := t.free } t) ∧
  (∀ (s : State) (i : Fin 16) (low start min_ us : Nat) (owes : Bool), (s.rail i).dip = some (low, start, owes) →
    (∃ t, exec (.pwrWarn i min_ us true) s = .next t ∧ (t.rail i).dip = none ∧ (t.rail i).state = 2 ∧
      (t.rail i).lastDipEnd = some s.time.ticks ∧ (s.rail i).warnLevel s.time.ticks ≤ (t.rail i).voltage ∧
      OnlyEvents { s with power := t.power, free := t.free } t) ∧
    (∃ t, exec (.pwrWarn i min_ us false) s = .next t ∧ (t.rail i).dip = some (min low min_, start, false) ∧
      OnlyEvents { s with power := t.power, free := t.free } t)) ∧
  (∀ (s : State) (i : Fin 16), (s.rail i).throttle = true → (s.rail i).dip = none →
    ∃ t, exec .throttleRelease s = .next t ∧ OnlyEvents { s with power := t.power, free := t.free } t ∧ ∀ j : Fin 16,
      (t.rail j).throttle = ((s.rail j).throttle && (s.rail j).dip.isSome)) ∧
  (∀ (s : State) (tj : Int) (k : Fin 16), s.awake = true → s.power.thermWarn = false → 10000 ≤ tj →
    ∃ t, exec (.thermalWarn tj k) s = .next t ∧ t.power.thermWarn = true ∧ t.power.thermReq = true ∧ t.power.tj = tj ∧
      OnlyEvents { s with power := t.power, free := t.free } t) ∧
  (∀ (s : State) (tj : Int), s.power.thermWarn = true → tj < 9500 →
    ∃ t, exec (.thermalWarnEnd tj) s = .next t ∧ t.power.thermWarn = false ∧ t.power.thermReq = false ∧ t.power.tj = tj ∧
      OnlyEvents { s with power := t.power, free := t.free } t) ∧
  (∀ (s : State) (i : Fin 16) (w : BitVec 16), w ≠ 0 →
    exec (.pmbusAlert i ⟨w, 0⟩) s = .next (s.raise 82 0x0F03 (mkNode Ty.rail i)
      (evData [(0, leBytes 1 3), (2, leBytes 2 w.toNat), (8, leBytes 8 s.m)]))) ∧
  (∀ (s : State) (i : Fin 16) (w : BitVec 16) (f : Fin 3), f ≠ 0 →
    exec (.pmbusAlert i ⟨w, f⟩) s = .next (s.raise 82 0x0F03 (mkNode Ty.rail i)
      (evData [(0, leBytes 1 f.val), (2, leBytes 2 0), (8, leBytes 8 s.m)]))) ∧
  (∀ (s : State) (up : Bool) (mv : Nat), s.awake = true → s.power.requests = 0 →
    (∀ t0, (s.rail 0).stepAt = some t0 → t0 + 48 ≤ s.time.ticks) →
    mv = (if up then (s.rail 0).setpoint + 5 else (s.rail 0).setpoint - 5) → 680 ≤ mv → mv ≤ 840 →
    ∃ t, exec (.avsStep up) s = .next t ∧ (t.rail 0).setpoint = mv ∧ (∀ j : Fin 16, j ≠ 0 → t.rail j = s.rail j) ∧
      t = { s with power := t.power, free := s.free + 1 }) ∧
  (∀ (s u : State) (dest : PowerState) (due : Nat), s.power.change = some (dest, due) → s.awake = true → dest ≠ .sleep →
    s.time.pos = 0 → due ≤ s.m → u = { s with power := { s.power with change := none, state := dest } } →
    exec .powerState s = .next ((if dest = .standby then u.standbyEntry else u.standbyExit).raise 83 0x0F04 0
      (evData [(0, leBytes 1 s.power.state.code), (1, leBytes 1 dest.code),
        (if dest = .standby then u.standbyEntry else u.standbyExit).mBytes]))) ∧
  (∀ (s : State) (due : Nat), s.power.change = some (.sleep, due) → s.awake = true → s.time.pos = 0 → due ≤ s.m →
    exec .sleepEntry s = .next s.enterSleep) ∧
  (∀ s : State, s.enterSleep.power.state = .sleep ∧ s.enterSleep.boot.slots = s.boot.slots ∧ s.enterSleep.nodes = [] ∧
    s.enterSleep.conns = [] ∧ s.enterSleep.pair.token = false ∧ s.enterSleep.power.scratch = s.power.scratch ∧
    s.enterSleep.boot.code = 0) ∧
  (∀ (s : State) (src : Nat) (i : Instr), s.power.state = .sleep → bit s.power.wakeSources src = true →
    (i, src) ∈ [(Instr.wakeN, 0), (.pmuWake 0x574B0001 true, 2), (.wakeTimer, 3)] ∨
      (∃ g : Fin 8, bit s.power.wakeGpios g = true ∧ (i, src) = (.wakeGpio g, 1)) →
    ∃ t secs, exec i s = .next t ∧ t.power.state = .down ∧ t.power.seqPair = 0 ∧
      t.power.log.head? = some (0x0B, 2 ^ src, secs) ∧ t.power.lastCause = 0x0B ∧
      t = { s with power := t.power, sent := t.sent, time := { s.time with ticks := t.time.ticks } })

/-- Resets and sequencing (R491 to R493, R500, R502, R510 to R516, R519, R521, R531): what starts each, what it clears and what it
keeps, the log, and the rails' order. Values the spec gives no reset for are the model's choice (log 2). -/
def Obligations.ResetRows : Prop :=
  (∀ (s : State) (straps : Straps), ∃ t secs, exec (.porstN straps) s = .next t ∧ t.id = { straps := straps } ∧
    t.boot.rows = s.boot.rows ∧ t.boot.secMin = s.boot.secMin ∧ t.boot.code = 0 ∧ t.nodes = [] ∧ t.conns = [] ∧
    t.evq = {} ∧ t.mem.user = [] ∧ t.pair.token = false ∧ t.power.log.head? = some (2, 0, secs) ∧
    (∀ k : Fin 16, t.slot k = if k.val < 8 then { s.slot k with failures := 0, lockUntil := none } else {})) ∧
  (∀ (s : State), s.awake = true → ∃ t secs, exec .rstN s = .next t ∧ t.power.log.head? = some (7, 0, secs) ∧
    t.evq.nextSeq = s.evq.nextSeq ∧ t.power.scratch = s.power.scratch ∧ t.power.hostReq = false ∧ t.nodes = [] ∧
    (∀ k : Fin 16, k.val < 8 → t.slot k = s.slot k) ∧ (∀ k : Fin 16, 8 ≤ k.val → (t.slot k).key = none)) ∧
  (∀ (s : State) (v : Word), v.toNat / 65536 = 0x5253 → exec (.rstCtrlFull v) s = .next (s.porst 6 0)) ∧
  (∀ (s : State) (v : Word), v.toNat / 65536 = 0x5253 → v.getLsbD 1 = false → s.awake = true →
    exec (.rstCtrlWarm v) s = .next (s.warmReset 8 0)) ∧
  (∀ (s : State) (v : Word), v.toNat / 65536 ≠ 0x5253 → exec (.rstCtrlWarm v) s = .next s ∧ exec (.rstCtrlFull v) s = .next s) ∧
  (∀ (s : State) (v : Word), exec (.rstLogClear v) s = .next { s with power := { s.power with log := [] } }) ∧
  (∀ s : State, s.awake = true → s.id.straps.hostQspi = false →
    exec .pcieHotReset s = .next (s.warmReset 9 1) ∧ exec .perst s = .next (s.warmReset 9 2)) ∧
  (∀ s : State, s.awake = true → exec .cpWatchdogReset s = .next (s.warmReset 10 0)) ∧
  (∀ (s : State) (b : Nat), s.boot.activateAt = some b → s.awake = true → b ≤ s.time.block →
    exec .fwActivateReset s = .next (s.warmReset 8 0)) ∧
  (∀ (s : State) (cause detail : Nat), (s.warmReset cause detail).boot.slots = s.boot.slots ∧
    (s.warmReset cause detail).boot.rows = s.boot.rows ∧ (s.warmReset cause detail).boot.code = 0 ∧
    (s.warmReset cause detail).mem.user = s.mem.user ∧ (s.warmReset cause detail).time.actions = [] ∧
    (s.warmReset cause detail).slabs = [] ∧ (s.warmReset cause detail).pair.token = false ∧
    (∃ secs, (s.warmReset cause detail).power.log = ((cause, detail, secs) :: s.power.log).take 8) ∧
    ∀ n ∈ (s.warmReset cause detail).nodes, n.2.state = .disabled ∧ n.2.bcu = 0 ∧ n.2.cluster = none) ∧
  (∀ s : State, s.isDown = true → s.power.retryAt ≤ s.time.ticks → s.power.hot = false →
    (s.power.seqFails = 0 → exec .pmuPowerUp s = .next (s.startPair 0)) ∧
    (1 ≤ s.power.seqFails → s.power.seqFails < 3 → exec .sequencingRetry s = .next (s.startPair 0))) ∧
  (∀ (s : State) (k : Nat), s.power.state = .down → s.power.seqPair = k →
    (k < 7 → exec .pmuPgRise s = .next ((s.setRails (railsOfPair k) 2).startPair (k + 1))) ∧
    (k = 7 → ∃ t, exec .pmuPgRise s = .next t ∧ t.power.state = .active ∧ t.power.seqFails = 0 ∧
      t = { s with power := t.power, boot := { s.boot with startedAt := s.time.ticks } })) ∧
  (∀ (s : State) (k : Nat), s.power.state = .down → s.power.seqPair = k → k < 8 →
    ∃ t secs, exec .sequencingFailure s = .next t ∧ t.power.seqFails = s.power.seqFails + 1 ∧ t.power.state = .down ∧
      t.power.retryAt = s.time.ticks + 48000 ∧ t.power.log.head? = some (5, k, secs)) ∧
  (∀ (s : State) (d : Byte), s.awake = true → d.toNat < 16 ∨ (0x80 ≤ d.toNat ∧ d.toNat < 0x88) →
    ∃ t secs, exec (.brownOut d) s = .next t ∧ t.power.state = .down ∧ t.power.retryAt = s.time.ticks + 4800 ∧
      t.power.log.head? = some (3, d.toNat, secs)) ∧
  (∀ (s : State) (k : Fin 16), s.awake = true →
    ∃ t secs, exec (.thermalShutdown k) s = .next t ∧ t.power.state = .down ∧ t.power.hot = true ∧ 11500 ≤ t.power.tj ∧
      t.power.log.head? = some (4, k.val, secs)) ∧
  (∀ (s : State) (tj : Int), s.power.hot = true → s.isDown = true → tj < 8500 →
    ∃ t, exec (.thermalRecovery tj) s = .next t ∧ t.power.hot = false ∧ t.power.seqPair = 0 ∧ t.power.tj = tj ∧
      t = { s with power := t.power, sent := t.sent }) ∧
  (∀ (s : State) (b : BootReport), s.canBoot = true → ∃ u : State, u = (s.bootFound b).setCode 7 ∧ u.boot.code = 7 ∧
    (s.mem.density = 0 → s.boot.source ≠ 2 → u.mem.density = b.density) ∧
    (s.mem.density = 0 → u.time.rate96 = b.rate96) ∧
    (s.boot.warm = false → s.boot.source ≠ 2 → u.boot.running = bootInfo b) ∧
    exec (.daluoReady b) s = .next ((u.raise 84 0x0F05 0 (evData [(0, leBytes 1 u.power.lastCause),
      (1, leBytes 1 u.power.lastDetail),
      (4, leBytes 4 (match u.power.log with | e :: _ => e.2.2 | [] => u.pmuSeconds))])).numberHeld.pairBoot)) ∧
  (∀ (s : State) (b : BootReport), s.awake = true → s.boot.code < 7 → s.boot.trial = true →
    s.boot.startedAt + 96000 ≤ s.time.ticks →
    ∃ t, exec (.trialFallback b) s = .next t ∧ t.boot.active = 1 - s.boot.active ∧ t.boot.trial = false ∧
      t.boot.fallback = true ∧ t.boot.running = bootInfo b ∧ t.boot.code = 6 ∧ OnlyEvents { s with boot := t.boot } t)

/-! ### The host's accesses and the strobe (20, 21) -/

/-- Host accesses (R44, R534, R537 to R541, R547 to R551), waiting commands (R71) and the block strobe (R14, R16). The first
clauses are the reads: the identity registers (R1), write-only registers that read 0 (R13), an absent register and one of a
block that does not answer yet (R10, R538), and the response area, whose bytes are the header of R51 and the payload. -/
def Obligations.HostAccess : Prop :=
  (∀ (s : State) (q : Bool), s.readReg q 0 = (0x88004556, s) ∧ s.readReg q 4 = (0x0142, s) ∧
    (s.ready = true → s.readReg q 8 =
      (word (s.boot.running.major + 0x100 * s.boot.running.minor + 0x10000 * s.boot.running.build), s))) ∧
  (∀ (s : State) (q : Bool) (off : Nat), off = 0x100 ∨ off = 0x108 ∨ off = 0x410 → s.readReg q off = (0, s)) ∧
  (∀ (s : State) (q : Bool) (n : Fin 8), s.ready = true → s.readReg q (0x1000 + 0x100 * n.val) = (0, s)) ∧
  (∀ (s : State) (q : Bool), s.ready = true →
    s.readReg q 0x2040 = (s.evq.intStatus, s) ∧ s.readReg q 0x2044 = (s.evq.intEnable, s)) ∧
  (∀ (s : State) (q : Bool) (off : Nat), regBlock off = .unmapped →
    (s.readReg q off).1 = 0 ∧ (s.readReg q off).2.id.errUnmapped = true) ∧
  (∀ (s : State) (q : Bool) (off : Nat), (regBlock off).needsReady = true → s.ready = false →
    (s.readReg q off).1 = 0 ∧ (s.readReg q off).2.id.errNotReady = true) ∧
  (∀ (s : State) (n : Fin 8) (i : Nat), s.ready = true → i < 0x2000 →
    s.readBar2 (0x4000 * n.val + 0x2000 + i) = ((s.box n).area.getD i 0, s)) ∧
  (∀ p : Resp, p.status < 0x10000 → p.count < 0x10000 → p.payload.length < 0x10000 →
    field p.bytes 0 2 = p.status ∧
    field p.bytes 2 2 = ofBool p.degraded + 2 * ofBool p.replayed + 4 * ofBool p.late ∧
    field p.bytes 4 4 = p.tag.toNat ∧ field p.bytes 8 4 = p.node.toNat ∧
    field p.bytes 12 2 = p.payload.length ∧ field p.bytes 14 2 = p.count ∧ p.bytes.drop 16 = p.payload) ∧
  (∀ (s : State) (off : Nat) (v : Word), s.awake = true → s.id.straps.hostQspi = false → off % 4 = 0 → off < 0x10000 →
    exec (.registerWrite { space := .bar0, offset := off, data := leBytes 4 v.toNat, enables := List.replicate 4 true }) s =
      .next (s.writeReg false off v)) ∧
  (∀ (s : State) (v : Word), s.writeReg false 0x18 v = { s with power := { s.power with scratch := v } }) ∧
  (∀ (s : State) (v : Word), s.ready = true →
    s.writeReg false 0x2044 v = { s with evq := { s.evq with intEnable := v } } ∧
    s.writeReg false 0x2040 v = State.holdCauses { s with evq := { s.evq with intStatus := s.evq.intStatus &&& ~~~ v } }) ∧
  (∀ (s : State) (off : Nat) (v : Word), (regBlock off).needsReady = true → s.ready = false →
    (s.writeReg false off v).id.errNotReady = true) ∧
  (∀ (s : State) (off : Nat) (v : Word), regBlock off = .unmapped → (s.writeReg false off v).id.errUnmapped = true) ∧
  (∀ (s : State) (off : Nat) (b : Byte), s.awake = true → s.id.straps.hostQspi = false → off < 0x10000 →
    regBlock (off / 4 * 4) ≠ .debug → regBlock (off / 4 * 4) ≠ .unmapped →
    ∃ t, exec (.registerWrite { space := .bar0, offset := off, data := [b], enables := [true] }) s = .next t ∧
      t.id.errPartial = true ∧ t = { s with id := t.id }) ∧
  (∀ (s : State) (off : Nat) (b : Byte), s.awake = true → s.ready = true → s.id.straps.hostQspi = false → off < 0x100000 →
    s.mem.bar2.wf = true → 0x20000 ≤ off ∨ off % 0x4000 < 0x2000 →
    ∃ t, exec (.registerWrite { space := .bar2, offset := off, data := [b], enables := [true] }) s = .next t ∧
      t.mem.bar2.read off = b ∧ (∀ a, a ≠ off → t.mem.bar2.read a = s.mem.bar2.read a) ∧
      t = { s with mem := { s.mem with bar2 := t.mem.bar2 } }) ∧
  (∀ s : State, s.power.state ≠ .down → exec .qspiReadStatus s = .next (s.emit (.qspiStatus s.qspiStatus))) ∧
  (∀ (s : State) (b : Byte), qspiInstructions.contains b = false → s.power.state ≠ .down →
    ∃ t, exec (.qspiInvalidInstruction b) s = .next t ∧ t.id.errQspi = true ∧ t = { s with id := t.id, free := s.free + 1 }) ∧
  (∀ (s : State) (w : Waiting) (rest : List Waiting) (c : Contract) (h : w.mb < 8), s.awake = true → s.ready = true →
    s.firstFree s.waitingNodes s.deferred = some (w, rest) → contractOf w.opcode = some c →
    exec .deferredCommandApply s =
      .next (c.settle ⟨w.mb, h⟩ w.req ((s.box w.mb).sess == .opened) { s with deferred := rest })) ∧
  (allContracts.map Contract.opcode).Nodup ∧
  (∀ (s : State) (io : BlockIn), s.awake = true → s.catchesUp = false →
    ∃ u : State, u = (s.reach s.blockEnd).applyRecords.endBlock io ∧
      exec (.blockStrobe io) s = .next (u.swapBlocks.beginBlock io).sendCut ∧
      u.swapBlocks.time.block = u.time.block + 1 ∧ u.swapBlocks.time.pos = 0 ∧ u.swapBlocks.wr = [] ∧
      u.swapBlocks.rd = u.wr.map (fun x => (x.1, x.2.1, x.2.2.reverse)) ∧ u.swapBlocks.nodes = u.nodes) ∧
  (∀ (s : State) (io : BlockIn), s.awake = true → s.catchesUp = true → s.pair.cutDone = true →
    exec (.blockStrobe io) s = .next (State.passBlock { s with pair := { s.pair with stored := s.pair.stored ++ [io] } })) ∧
  (∀ (s : State) (io : BlockIn), s.awake = false →
    exec (.blockStrobe io) s = .next { s with time := { s.time with ticks := s.time.ticks + 16 } }) ∧
  (∀ (s : State) (g : Fin 32) (level : Bool) (n : Nat), s.awake = true → s.selectsEdge g level = true →
    getA g.val s.gpio.edges = none →
    exec (.gpioEdge g level n) s = .next { s with gpio :=
      { inputs := setA g.val level s.gpio.inputs, edges := s.gpio.edges ++ [(g.val, level, s.m, n)] } }) ∧
  (∀ (s : State) (g m n : Nat) (level : Bool), s.gpio.edges = [(g, level, m, n)] →
    s.gpioBlock = State.raise 8 0x1700 (mkNode Ty.gpio g)
      (evData [(0, leBytes 1 g), (1, leBytes 1 (ofBool level)), (2, leBytes 2 (satN 0xFFFF n)), (8, leBytes 8 m)])
      { s with gpio := { s.gpio with edges := [] } })

/-! ### The block as a whole -/

/-- A step takes the command at the front of the queue and runs it with the queue's rest; on an empty queue the block idles
(the model's choice, log 1), where a joining standby may process a stored block (log 30). -/
def Obligations.StepRunsFrontCommand : Prop :=
  (∀ (c : Instr) (rest : List Instr) (s : State), s.pending = c :: rest → step s = exec c { s with pending := rest }) ∧
  (∀ s : State, s.pending = [] → step s = .next s.idle) ∧
  (∀ s : State, s.pair.stored = [] → s.idle = s)

/-- The state after reset is one that `Kept` describes, with an empty queue. -/
def Obligations.ResetIsKept : Prop := Kept State.reset ∧ State.reset.pending = []

/-- The invariant of the block: from every state that `Kept` describes, a step leaves such a state, one-time programmable
memory only moves forward (R524, R527), and exactly the front command has left the queue. -/
def Obligations.EveryStepKeepsOtp : Prop :=
  ∀ s t : State, Kept s → step s = .next t → Kept t ∧ OtpForward s t ∧ t.pending = s.pending.drop 1
end

