-- ==== Sys2Proof/Laws/Keys.lean ====
section
/-! SUPPORT. Read after write of the keyed lists, and the canonical form of the sparse byte memory. -/

namespace Sys2Proof.Machine

theorem findKey_putKey {α : Type} (key : α → Nat) (x : α) (l : List α) : findKey key (key x) (putKey key x l) = some x := by
  induction l with
  | nil => simp [putKey, findKey]
  | cons y l ih =>
    unfold putKey
    split
    · simp [findKey]
    · split
      · simp [findKey]
      · rename_i h _
        simpa [findKey, List.find?_cons, show key y ≠ key x from fun e => h e.symm] using ih

theorem findKey_putKey_other {α : Type} (key : α → Nat) (x : α) (k : Nat) (l : List α) (h : k ≠ key x) :
    findKey key k (putKey key x l) = findKey key k l := by
  induction l with
  | nil => simp [putKey, findKey, h.symm]
  | cons y l ih =>
    unfold putKey
    split
    · rename_i e
      simp [findKey, show key x ≠ k from fun e => h e.symm, show key y ≠ k from fun e' => h (by omega)]
    · split
      · simp [findKey, List.find?_cons, show key x ≠ k from fun e => h e.symm]
      · unfold findKey at *
        rw [List.find?_cons, List.find?_cons, ih]

theorem findKey_dropKey {α : Type} (key : α → Nat) (k : Nat) (l : List α) : findKey key k (dropKey key k l) = none := by
  simp [findKey, dropKey]

@[simp] theorem getA_setA {β : Type} (k : Nat) (v : β) (l : List (Nat × β)) : getA k (setA k v l) = some v := by
  have h := findKey_putKey (·.1) (k, v) l
  unfold findKey at h
  simp [getA, setA, h]

theorem getA_setA_other {β : Type} (j k : Nat) (v : β) (l : List (Nat × β)) (h : j ≠ k) :
    getA j (setA k v l) = getA j l := by
  have h := findKey_putKey_other (·.1) (k, v) j l h
  unfold findKey at h
  simp [getA, setA, h]

@[simp] theorem getA_delA {β : Type} (k : Nat) (l : List (Nat × β)) : getA k (delA k l) = none := by
  simp [getA, delA]

theorem getA_delA_other {β : Type} (j k : Nat) (l : List (Nat × β)) (h : j ≠ k) : getA j (delA k l) = getA j l := by
  simp only [getA, delA, List.find?_filter]
  congr 2
  funext x
  by_cases e : x.1 = j <;> simp [e, h]

theorem getA_setSparse {β : Type} [BEq β] [LawfulBEq β] (d : β) (k : Nat) (v : β) (l : List (Nat × β)) :
    (getA k (setSparse d k v l)).getD d = v := by
  unfold setSparse
  split <;> simp_all

theorem getA_setSparse_other {β : Type} [BEq β] [LawfulBEq β] (d : β) (j k : Nat) (v : β) (l : List (Nat × β))
    (h : j ≠ k) : getA j (setSparse d k v l) = getA j l := by
  unfold setSparse
  split <;> simp [getA_setA_other, getA_delA_other, h]

end Sys2Proof.Machine
end

