-- ==== Sys2Proof/Laws/Bench.lean ====
section
/-! SUPPORT. What one Bench instruction does to the state, in terms of what its operation does to the run; register reads
after writes. -/

namespace Sys2Proof

open Machine

/-- An instruction whose operation goes on. -/
theorem instr_ran {s : State} {inst cls op : Nat} {w : IWord} {r u : Run} {f : Op} (h : Issues s inst cls op w r)
    (hf : f w r = .ok u) (hu : u.ended = false) : s.instr inst cls op w f = Ran s inst u := by
  obtain ⟨⟨c, hc, rfl⟩, hb, hw, hl⟩ := h
  simp only [State.instr, hc]
  rw [if_pos ⟨hb, hw⟩]
  simp only [Run.exec1, hl, Bool.not_true, Bool.false_eq_true, if_false]
  erw [hf]
  simp [hu, Ran]

/-- An instruction whose operation traps. -/
theorem instr_trap {s : State} {inst cls op : Nat} {w : IWord} {r : Run} {f : Op} {e : Nat × Nat}
    (h : Issues s inst cls op w r) (hf : f w r = .error e) :
    s.instr inst cls op w f = s.krnTrap inst e.1 e.2 r.c.pc := by
  obtain ⟨⟨c, hc, rfl⟩, hb, hw, hl⟩ := h
  simp only [State.instr, hc]
  rw [if_pos ⟨hb, hw⟩]
  simp only [Run.exec1, hl, Bool.not_true, Bool.false_eq_true, if_false]
  erw [hf]
  simp [State.krnRun]

/-- The run of an instruction that issues is fresh. -/
theorem Issues.fresh {s : State} {inst cls op : Nat} {w : IWord} {r : Run} (h : Issues s inst cls op w r) :
    r.ended = false ∧ r.next = r.c.pc + 8 ∧ r.wraps = [] ∧ r.k = s.krn inst := by
  obtain ⟨⟨c, hc, rfl⟩, -, -, -⟩ := h
  simp [State.krnRun]

namespace Machine

theorem Ctx.sr_setS (c : Ctx) (d j : Nat) (v : Word) :
    (c.setS d v).sr j = if j = 0 then 0 else if j = d then v else c.sr j := by
  by_cases hj : j = 0
  · simp [Ctx.sr, hj]
  · by_cases hd : d = 0
    · simp [Ctx.setS, hd, hj, Ctx.sr]
    · by_cases e : j = d
      · subst e
        simp [Ctx.setS, Ctx.sr, hj, getA_setSparse]
      · simp [Ctx.setS, Ctx.sr, hj, hd, e, getA_setSparse_other]

@[simp] theorem Ctx.vr_setV (c : Ctx) (d : Nat) (v : List Word) : (c.setV d v).vr d = v := getA_setSparse _ _ _ _

theorem Ctx.vr_setV_other (c : Ctx) (d j : Nat) (v : List Word) (h : j ≠ d) : (c.setV d v).vr j = c.vr j := by
  simp [Ctx.setV, Ctx.vr, getA_setSparse_other, h]

end Machine

end Sys2Proof
end

