-- ==== Sys2Proof/Laws/Command.lean ====
section
/-! SUPPORT. What a mailbox command does, once for all 77 of them: `runCommand` at its accepted doorbell, its completion, and
its failures. -/

namespace Sys2Proof.Machine

theorem State.box_setBox (s : State) (k : Fin 8) (b : Mbx) : (s.setBox k b).box k = b := by
  simp [State.box, State.setBox]

theorem State.box_setBox_other (s : State) (k j : Fin 8) (b : Mbx) (h : j ≠ k) : (s.setBox k b).box j = s.box j := by
  have h' : k.val ≠ j.val := fun e => h (Fin.ext e.symm)
  simp [State.box, State.setBox, h']

/-- What setting an interrupt cause changes. -/
theorem State.setCause_eq (s : State) (v : Nat) :
    s.setCause v = { s with
      evq := { s.evq with intStatus := (s.setCause v).evq.intStatus, pba := (s.setCause v).evq.pba }
      sent := (s.setCause v).sent } := by
  unfold State.setCause
  dsimp only
  split
  · rfl
  · split
    · split <;> rfl
    · rfl

theorem State.setCause_bit (s : State) (v : Nat) (h : v < 32) :
    (s.setCause v).evq.intStatus = s.evq.intStatus ||| (1#32 <<< v) := by
  unfold State.setCause
  dsimp only
  split
  · rename_i hb
    apply BitVec.eq_of_getLsbD_eq
    intro i hi
    by_cases he : i = v
    · subst he; simp [hb]
    · simp [BitVec.getLsbD_one]; omega
  · split
    · split <;> rfl
    · rfl

@[simp] theorem State.setCause_mbx (s : State) (v : Nat) : (s.setCause v).mbx = s.mbx := by
  rw [State.setCause_eq]

@[simp] theorem State.setCause_box (s : State) (v k : Nat) : (s.setCause v).box k = s.box k := by
  simp [State.box]

theorem State.setCause_setBox (u : State) (k : Nat) (b : Mbx) (v : Nat) :
    (u.setBox k b).setCause v = { u with
      mbx := ((u.setBox k b).setCause v).mbx
      evq := { u.evq with
        intStatus := ((u.setBox k b).setCause v).evq.intStatus, pba := ((u.setBox k b).setCause v).evq.pba }
      sent := ((u.setBox k b).setCause v).sent } := by
  conv_lhs => rw [State.setCause_eq]
  rw [State.setCause_mbx]
  rfl

/-- A device that runs alone keeps no record. -/
@[simp] theorem State.note_alone {s : State} (d : Decision) (h : s.pairEn = false) : s.note d = s := by
  have h' : s.id.straps.pairEn = false := h
  simp [State.note, State.recording, h']

theorem State.recordCommand_alone {s : State} (op : Nat) (mb : Fin 8) (r : Req) (b : State) (h : s.pairEn = false) :
    s.recordCommand op mb r b = s := by
  have h' : s.id.straps.pairEn = false := h
  simp [State.recordCommand, State.recording, h']

/-- A mailbox that holds no response keeps no nodes. -/
theorem State.keepNodes_none {s : State} (mb : Fin 8) (l : List Nat) (h : (s.box mb).held = none) :
    s.keepNodes mb l = s := by
  simp [State.keepNodes, h]

/-- Completing a command on a device that runs alone: the response is written and nothing else changes. -/
theorem State.finish_answers {u : State} {mb : Fin 8} (op : Nat) (r : Req) (opened tagged : Bool) (rep : Reply)
    (h : u.pairEn = false) : Answered u mb r rep (u.finish op mb r opened tagged rep.status rep) := by
  have hn (b : Mbx) (d : Decision) : (u.setBox mb b).note d = u.setBox mb b := State.note_alone _ h
  have hh (b : Mbx) : (u.setBox mb b).holdsResponses op = false := by
    unfold State.holdsResponses
    rw [show (u.setBox mb b).pairEn = u.pairEn from rfl, h]
    simp
  unfold State.finish
  dsimp only
  simp only [hn, ite_self, hh, Bool.and_false, Bool.false_eq_true, if_false]
  unfold State.deliver
  have hs (b : Mbx) (x : Mbx) : (u.setBox mb b).setBox mb x = u.setBox mb x := by
    simp [State.setBox, Vector.setIfInBounds_setIfInBounds]
  simp only [State.box_setBox, hs]
  constructor
  case rest =>
    exact State.setCause_setBox _ _ _ _
  case others =>
    intro k hk
    rw [State.setCause_box, State.box_setBox_other _ _ _ _ hk]
  case cause =>
    rw [State.setCause_bit _ _ (by omega)]
    rfl
  case box => simp only [State.setCause_box, State.box_setBox]
  all_goals simp [State.box_setBox]

/-- What a completed command leaves, response included, on a device that runs alone. -/
theorem settle_done {c : Contract} {s u : State} {mb : Fin 8} {r : Req} {rep : Reply} (o : Bool)
    (ha : c.apply s mb r = .done u rep) (hu : u.pairEn = false) : Answered u mb r rep (c.settle mb r o s) := by
  have hf : Answered u mb r rep (u.finish c.opcode mb r o true rep.status rep) := State.finish_answers _ _ _ _ _ hu
  have hk := State.keepNodes_none mb (s.touches c.opcode r) (by rw [hf.box] : (_ : Mbx).held = none)
  unfold Contract.settle
  rw [ha]
  simp only [State.recordCommand_alone _ _ _ _ hu, hk]
  exact hf

/-- The mailbox that an accepted doorbell leaves (R46, R62). -/
theorem State.box_accept (s : State) (op : Nat) (mb : Fin 8) : (s.accept op mb).box mb = { s.box mb with
    busy := true, respReady := false, lastDoorbell := s.time.ticks
    lockedOpen := if op = 0x0003 then (s.box mb).lockedOpen else none } := by
  simp [State.accept, State.box_setBox]

theorem State.box_accept_other (s : State) (op : Nat) (mb k : Fin 8) (h : k ≠ mb) :
    (s.accept op mb).box k = s.box k := by
  simp [State.accept, State.box_setBox_other _ _ _ _ h]

/-- An accepted doorbell changes no session. -/
@[simp] theorem State.accept_sess (s : State) (op : Nat) (mb k : Fin 8) :
    ((s.accept op mb).box k).sess = (s.box k).sess := by
  by_cases h : k = mb
  · subst h; simp [State.box_accept]
  · rw [State.box_accept_other _ _ _ _ h]

/-- What a command that passes the checks comes to, whatever its body answers. -/
theorem runCommand_passes {c : Contract} {s : State} {mb : Fin 8} {r : Req} (h : Passes c s mb r) :
    ∃ o, runCommand c mb r s = .next (c.settle mb r o (s.accept c.opcode mb)) ∧
      c.apply (s.accept c.opcode mb) mb r = c.body (s.accept c.opcode mb) mb r := by
  have hg : ¬ 8176 < r.payload.length := by have := h.short; omega
  have hn : s.note (.bell mb) = s := State.note_alone _ h.single
  have hp : (s.accept c.opcode mb).pair.role = 0 := h.alone
  have hf : ((s.accept c.opcode mb).box mb).tagOf r.tag = none := by rw [State.box_accept]; exact h.fresh
  have hst : (s.accept c.opcode mb).power.state = s.power.state := rfl
  refine ⟨(s.box mb).sess == .opened, ?_, ?_⟩
  · have hr := h.ready
    simp only [runCommand, State.doorbell, h.awake, hr, h.idle, hn, Bool.not_true, Bool.false_eq_true, if_false, hg,
      Contract.checked, hp, h.early, h.free, hf, State.accept_sess, ne_eq, not_true_eq_false]
    rcases h.session with ho | ho
    · simp [ho]
    · simp [ho]
  · unfold Contract.apply
    simp only [h.node, h.fields, Bool.not_true, Bool.false_eq_true, ne_eq, not_true_eq_false, if_false, hst]
    rcases h.power with hq | hq <;> simp [hq]

/-- A command that gets through the checks, and whose effect leaves `u`, completes with its response on `u`. -/
theorem runCommand_completes {c : Contract} {s u : State} {mb : Fin 8} {r : Req} {rep : Reply} (h : Passes c s mb r)
    (hb : c.body (s.accept c.opcode mb) mb r = .done u rep) (hu : u.pairEn = false) :
    ∃ t, runCommand c mb r s = .next t ∧ Answered u mb r rep t := by
  obtain ⟨o, h1, h2⟩ := runCommand_passes h
  exact ⟨_, h1, settle_done o (h2.trans hb) hu⟩

/-- A command of contract `c` that passes the checks completes with what its body answers. -/
theorem Completes.intro {c : Contract} {i : Instr} {s : State} {mb : Fin 8} {r : Req} {rep : Reply} {f : State → State}
    (h : Passes c s mb r) (hi : exec i s = runCommand c mb r s)
    (hb : c.body (s.accept c.opcode mb) mb r = .done (f (s.accept c.opcode mb)) rep)
    (hu : (f (s.accept c.opcode mb)).pairEn = false) : Completes c i s mb r rep f := by
  unfold Completes
  rw [hi]
  exact runCommand_completes h hb hu

/-- A command whose response comes later. -/
theorem Waits.intro {c : Contract} {i : Instr} {s : State} {mb : Fin 8} {r : Req} {f : State → State}
    (h : Passes c s mb r) (hi : exec i s = runCommand c mb r s)
    (hb : c.body (s.accept c.opcode mb) mb r = .wait (f (s.accept c.opcode mb)))
    (hu : (f (s.accept c.opcode mb)).pairEn = false) : Waits c i s mb f := by
  obtain ⟨o, h1, h2⟩ := runCommand_passes h
  unfold Waits
  rw [hi, h1]
  unfold Contract.settle
  rw [h2, hb]
  exact congrArg _ (State.recordCommand_alone _ _ _ _ hu)

end Sys2Proof.Machine
end

