-- ==== Sys2Proof/Laws/Events.lean ====
section
/-! SUPPORT. Raising an event changes only the event unit, what the pair keeps of it (R467), the link's queue of packets to the
partner and, by an urgent source's interrupt (R124), what was sent. -/

namespace Sys2Proof.Machine

theorem OnlyEvents.refl (s : State) : OnlyEvents s s := rfl

theorem OnlyEvents.trans {s t u : State} (h : OnlyEvents s t) (k : OnlyEvents t u) : OnlyEvents s u := by
  unfold OnlyEvents at *
  exact k.trans (by rw [h])

/-- Folding operations that only raise events only raises events. -/
theorem OnlyEvents.foldl {α : Type} {f : State → α → State} (hf : ∀ s x, OnlyEvents s (f s x)) (l : List α) (s : State) :
    OnlyEvents s (l.foldl f s) := by
  induction l generalizing s with
  | nil => exact .refl s
  | cons x l ih => exact (hf s x).trans (ih _)

theorem State.setCause_only (v : Nat) (s : State) : OnlyEvents s (s.setCause v) := by
  unfold OnlyEvents
  conv_lhs => rw [State.setCause_eq]
  rw [show (s.setCause v).link = s.link by rw [State.setCause_eq],
    show (s.setCause v).pair = s.pair by rw [State.setCause_eq]]
  conv_rhs => rw [State.setCause_eq]

/-- What the record takes. -/
theorem State.note_only (d : Decision) (s : State) : OnlyEvents s (s.note d) := by
  unfold State.note
  split <;> rfl

/-- A change of the event unit only. -/
theorem OnlyEvents.ofEvq (s : State) (q : Evq) : OnlyEvents s { s with evq := q } := rfl

theorem State.number_only (e : EvRec) (s : State) : OnlyEvents s (s.number e) := by
  unfold State.number
  dsimp only
  refine (State.note_only (.event { e with seq := s.evq.nextSeq }) s).trans ?_
  split
  · exact .ofEvq _ _
  · split
    · split
      · exact .trans (.ofEvq _ _) (State.setCause_only 9 _)
      · exact .ofEvq _ _
    · exact .trans (.ofEvq _ _) (State.setCause_only 10 _)

theorem State.raiseRec_only (e : EvRec) (s : State) : OnlyEvents s (s.raiseRec e) := by
  unfold State.raiseRec
  dsimp only
  split
  · rfl
  · split
    · rfl
    · split
      · rfl
      · split
        · rfl
        · exact State.number_only _ _

theorem State.raise_only (src code node : Nat) (data : Bytes) (s : State) :
    OnlyEvents s (s.raise src code node data) := State.raiseRec_only _ _

theorem State.raiseLatched_only (src code node : Nat) (data : Bytes) (s : State) :
    OnlyEvents s (s.raiseLatched src code node data) := State.raiseRec_only _ _

theorem State.setLatch_only (l : Latch) (s : State) : OnlyEvents s (s.setLatch l) := rfl

theorem State.putLatch_only (l : Latch) (s : State) : OnlyEvents s (s.putLatch l) :=
  (State.setLatch_only l s).trans (State.note_only _ _)

theorem State.setLevel_only (src no : Nat) (level : Int) (holds lowest : Bool) (s : State) :
    OnlyEvents s (s.setLevel src no level holds lowest) := State.putLatch_only _ _

theorem State.crossLatch_only (l : Latch) (k : Nat) (lowest : Bool) (data : Bytes) (s : State) :
    OnlyEvents s (s.crossLatch l k lowest data) := by
  unfold State.crossLatch
  dsimp only
  split
  · exact (State.putLatch_only _ _).trans (State.raiseLatched_only _ _ _ _ _)
  · exact State.putLatch_only _ _

/-- A crossing counts in its latch and may raise its event (R122). -/
theorem State.cross_only (src no node : Nat) (level : Int) (lowest : Bool) (data : Bytes) (s : State) :
    OnlyEvents s (s.cross src no node level lowest data) := State.crossLatch_only _ _ _ _ _

theorem State.crossWithin_only (src no node : Nat) (v : Int) (data : Bytes) (s : State) :
    OnlyEvents s (s.crossWithin src no node v data) :=
  (State.crossLatch_only _ _ _ _ _).trans (State.putLatch_only _ _)

/-- The end of a block or interval for a counting latch. -/
theorem State.blockCross_only (src no node k : Nat) (level : Int) (data : Bytes) (s : State) :
    OnlyEvents s (s.blockCross src no node k level data) := by
  unfold State.blockCross
  split
  · exact State.crossLatch_only _ _ _ _ _
  · split
    · exact State.setLevel_only _ _ _ _ _ _
    · exact .refl s

theorem OnlyEvents.pairEn {s t : State} (h : OnlyEvents s t) : t.pairEn = s.pairEn := by rw [h]; rfl
theorem OnlyEvents.box {s t : State} (h : OnlyEvents s t) (k : Nat) : t.box k = s.box k := by rw [h]; rfl
theorem OnlyEvents.boot {s t : State} (h : OnlyEvents s t) : t.boot = s.boot := by rw [h]
theorem OnlyEvents.id {s t : State} (h : OnlyEvents s t) : t.id = s.id := by rw [h]
theorem OnlyEvents.pending {s t : State} (h : OnlyEvents s t) : t.pending = s.pending := by rw [h]
theorem OnlyEvents.mbx {s t : State} (h : OnlyEvents s t) : t.mbx = s.mbx := by rw [h]

end Sys2Proof.Machine
end

