-- ==== Sys2Proof/Laws/Memory.lean ====
section
/-! SUPPORT. The sparse byte memory: every operation keeps its canonical form, a read after a write gives what was written, and
a write leaves every other address alone. -/

namespace Sys2Proof.Machine

/-- Addresses rise strictly above `lo`, as a proposition. -/
theorem Mem.wfFrom_cons (lo : Option Nat) (c : Host.Cell) (m : Mem) :
    Mem.wfFrom lo (c :: m) = true ↔ (∀ l, lo = some l → l < c.1) ∧ c.2 ≠ 0 ∧ Mem.wfFrom (some c.1) m = true := by
  cases lo <;> simp [Mem.wfFrom, and_assoc]

theorem Mem.wfFrom_weaken {m : Mem} {a b : Option Nat} (h : Mem.wfFrom a m = true)
    (hab : ∀ l, b = some l → ∃ k, a = some k ∧ l ≤ k) : Mem.wfFrom b m = true := by
  cases m with
  | nil => rfl
  | cons c m =>
    rw [Mem.wfFrom_cons] at *
    refine ⟨fun l hl => ?_, h.2.1, h.2.2⟩
    obtain ⟨k, hk, hle⟩ := hab l hl
    have := h.1 k hk
    omega

theorem Mem.erase_wfFrom (m : Mem) (lo : Option Nat) (a : Nat) (h : Mem.wfFrom lo m = true) :
    Mem.wfFrom lo (m.erase a) = true := by
  induction m generalizing lo with
  | nil => exact h
  | cons c m ih =>
    have h' := (Mem.wfFrom_cons lo c m).1 h
    unfold Mem.erase
    split
    · refine Mem.wfFrom_weaken h'.2.2 fun l hl => ⟨c.1, rfl, ?_⟩
      have := h'.1 l hl
      omega
    · split
      · exact h
      · exact (Mem.wfFrom_cons _ _ _).2 ⟨h'.1, h'.2.1, ih _ h'.2.2⟩

theorem Mem.insert_wfFrom (m : Mem) (lo : Option Nat) (a : Nat) (b : Byte) (h : Mem.wfFrom lo m = true)
    (hlo : ∀ l, lo = some l → l < a) (hb : b ≠ 0) : Mem.wfFrom lo (m.insert a b) = true := by
  induction m generalizing lo with
  | nil => exact (Mem.wfFrom_cons _ _ _).2 ⟨hlo, hb, rfl⟩
  | cons c m ih =>
    have h' := (Mem.wfFrom_cons lo c m).1 h
    unfold Mem.insert
    split
    · rename_i e
      exact (Mem.wfFrom_cons _ _ _).2 ⟨hlo, hb, e ▸ h'.2.2⟩
    · split
      · rename_i hlt
        exact (Mem.wfFrom_cons _ _ _).2 ⟨hlo, hb, (Mem.wfFrom_cons _ _ _).2
          ⟨fun l hl => by cases hl; exact hlt, h'.2.1, h'.2.2⟩⟩
      · rename_i hne hlt
        exact (Mem.wfFrom_cons _ _ _).2 ⟨h'.1, h'.2.1, ih _ h'.2.2 fun l hl => by cases hl; omega⟩

/-- A write keeps the canonical form. -/
theorem Mem.write_wf {m : Mem} (h : m.wf = true) (a : Nat) (b : Byte) : (m.write a b).wf = true := by
  unfold Mem.write
  split
  · exact Mem.erase_wfFrom m none a h
  · rename_i hb
    exact Mem.insert_wfFrom m none a b h (fun _ hl => nomatch hl) hb

/-- So does a write of several bytes. -/
theorem Mem.writeBytes_wf {m : Mem} (h : m.wf = true) (a : Nat) (b : Bytes) : (m.writeBytes a b).wf = true := by
  induction b generalizing m a with
  | nil => exact h
  | cons x b ih => exact ih (Mem.write_wf h a x) (a + 1)

/-- What is written cell by cell has the canonical form. -/
theorem Mem.ofCells_wf (l : List Host.Cell) : (Mem.ofCells l).wf = true := by
  suffices h : ∀ m : Mem, m.wf = true → (l.foldl (fun m c => m.write c.1 c.2) m).wf = true from h [] rfl
  induction l with
  | nil => exact fun _ h => h
  | cons c l ih => exact fun m h => ih _ (Mem.write_wf h c.1 c.2)

theorem Mem.read_above {m : Mem} {l : Nat} (h : Mem.wfFrom (some l) m = true) {a : Nat} (ha : a ≤ l) : m.read a = 0 := by
  induction m generalizing l with
  | nil => rfl
  | cons c m ih =>
    have h' := (Mem.wfFrom_cons _ c m).1 h
    have := h'.1 l rfl
    unfold Mem.read
    rw [if_neg (by omega)]
    exact ih h'.2.2 (by omega)

theorem Mem.read_erase (m : Mem) (lo : Option Nat) (a k : Nat) (h : Mem.wfFrom lo m = true) :
    (m.erase a).read k = if k = a then 0 else m.read k := by
  induction m generalizing lo with
  | nil => simp [Mem.erase, Mem.read]
  | cons c m ih =>
    have h' := (Mem.wfFrom_cons lo c m).1 h
    unfold Mem.erase
    split
    · rename_i e
      split
      · rename_i hk
        exact Mem.read_above h'.2.2 (by omega)
      · simp [Mem.read, show c.1 ≠ k by omega]
    · split
      · split
        · rename_i hk
          unfold Mem.read
          rw [if_neg (by omega)]
          exact Mem.read_above h'.2.2 (by omega)
        · rfl
      · unfold Mem.read
        by_cases e : c.1 = k
        · rw [if_pos e, if_pos e, if_neg (by omega)]
        · rw [if_neg e, if_neg e]
          exact ih _ h'.2.2

theorem Mem.read_insert (m : Mem) (a k : Nat) (b : Byte) :
    (m.insert a b).read k = if k = a then b else m.read k := by
  induction m with
  | nil =>
    by_cases e : k = a
    · simp [Mem.insert, Mem.read, e]
    · simp [Mem.insert, Mem.read, e, show a ≠ k by omega]
  | cons c m ih =>
    unfold Mem.insert
    split
    · rename_i e
      by_cases hk : k = a
      · simp [Mem.read, hk]
      · simp [Mem.read, hk, show c.1 ≠ k by omega, show a ≠ k by omega]
    · split
      · by_cases hk : k = a
        · simp [Mem.read, hk]
        · simp [Mem.read, hk, show a ≠ k by omega]
      · rename_i hne hlt
        by_cases e : c.1 = k
        · simp [Mem.read, e, show k ≠ a by omega]
        · simp [Mem.read, e, ih]

/-- A read after a write: the byte written, or what stood there before. -/
theorem Mem.read_write {m : Mem} (h : m.wf = true) (a k : Nat) (b : Byte) :
    (m.write a b).read k = if k = a then b else m.read k := by
  unfold Mem.write
  split
  · rename_i e
    rw [Mem.read_erase m none a k h, e]
  · exact Mem.read_insert m a k b

/-- A write of several bytes leaves every other address alone. -/
theorem Mem.read_writeBytes_outside {m : Mem} (h : m.wf = true) (a k : Nat) (b : Bytes)
    (hk : k < a ∨ a + b.length ≤ k) : (m.writeBytes a b).read k = m.read k := by
  induction b generalizing m a with
  | nil => rfl
  | cons x b ih =>
    simp only [List.length_cons] at hk
    unfold Mem.writeBytes
    rw [ih (Mem.write_wf h a x) (a + 1) (by omega), Mem.read_write h, if_neg (by omega)]

/-- A read inside the bytes written gives the byte written. -/
theorem Mem.read_writeBytes_inside {m : Mem} (h : m.wf = true) (a i : Nat) (b : Bytes) (hi : i < b.length) :
    (m.writeBytes a b).read (a + i) = b.getD i 0 := by
  induction b generalizing m a i with
  | nil => simp at hi
  | cons x b ih =>
    unfold Mem.writeBytes
    cases i with
    | zero =>
      rw [Mem.read_writeBytes_outside (Mem.write_wf h a x) (a + 1) _ b (by omega), Mem.read_write h]
      simp
    | succ i =>
      have := ih (Mem.write_wf h a x) (a + 1) i (by simpa using hi)
      rw [show a + (i + 1) = a + 1 + i by omega, this]
      simp

/-- Bytes read where they were written are the bytes written. -/
theorem Mem.readBytes_writeBytes {m : Mem} (h : m.wf = true) (a : Nat) (b : Bytes) :
    (m.writeBytes a b).readBytes a b.length = b := by
  apply List.ext_getElem
  · simp [Mem.readBytes]
  · intro i h1 h2
    simp only [Mem.readBytes, List.getElem_map, List.getElem_range]
    rw [Mem.read_writeBytes_inside h _ _ _ h2, List.getD_eq_getElem _ _ h2]

end Sys2Proof.Machine
end

