-- ==== Sys2Proof/Laws/State.lean ====
section
/-! SUPPORT. What each named update of State leaves alone and what it writes, field by field, so that no proof unfolds an
update. The fields are the ones of State, in its order. -/

namespace Sys2Proof.Machine
namespace State

variable (s : State)

/-! `emit` -/

@[simp] theorem emit_pending (x : Sent) : (s.emit x).pending = s.pending := rfl
@[simp] theorem emit_free (x : Sent) : (s.emit x).free = s.free := rfl
@[simp] theorem emit_sent (x : Sent) : (s.emit x).sent = x :: s.sent := rfl
@[simp] theorem emit_id (x : Sent) : (s.emit x).id = s.id := rfl
@[simp] theorem emit_mbx (x : Sent) : (s.emit x).mbx = s.mbx := rfl
@[simp] theorem emit_deferred (x : Sent) : (s.emit x).deferred = s.deferred := rfl
@[simp] theorem emit_boot (x : Sent) : (s.emit x).boot = s.boot := rfl
@[simp] theorem emit_evq (x : Sent) : (s.emit x).evq = s.evq := rfl
@[simp] theorem emit_time (x : Sent) : (s.emit x).time = s.time := rfl
@[simp] theorem emit_nodes (x : Sent) : (s.emit x).nodes = s.nodes := rfl
@[simp] theorem emit_leaving (x : Sent) : (s.emit x).leaving = s.leaving := rfl
@[simp] theorem emit_conns (x : Sent) : (s.emit x).conns = s.conns := rfl
@[simp] theorem emit_pend (x : Sent) : (s.emit x).pend = s.pend := rfl
@[simp] theorem emit_pendLate (x : Sent) : (s.emit x).pendLate = s.pendLate := rfl
@[simp] theorem emit_setHere (x : Sent) : (s.emit x).setHere = s.setHere := rfl
@[simp] theorem emit_run (x : Sent) : (s.emit x).run = s.run := rfl
@[simp] theorem emit_wires (x : Sent) : (s.emit x).wires = s.wires := rfl
@[simp] theorem emit_midway (x : Sent) : (s.emit x).midway = s.midway := rfl
@[simp] theorem emit_closedView (x : Sent) : (s.emit x).closedView = s.closedView := rfl
@[simp] theorem emit_slabs (x : Sent) : (s.emit x).slabs = s.slabs := rfl
@[simp] theorem emit_commits (x : Sent) : (s.emit x).commits = s.commits := rfl
@[simp] theorem emit_slabSet (x : Sent) : (s.emit x).slabSet = s.slabSet := rfl
@[simp] theorem emit_rd (x : Sent) : (s.emit x).rd = s.rd := rfl
@[simp] theorem emit_wr (x : Sent) : (s.emit x).wr = s.wr := rfl
@[simp] theorem emit_front (x : Sent) : (s.emit x).front = s.front := rfl
@[simp] theorem emit_gal (x : Sent) : (s.emit x).gal = s.gal := rfl
@[simp] theorem emit_ren (x : Sent) : (s.emit x).ren = s.ren := rfl
@[simp] theorem emit_spk (x : Sent) : (s.emit x).spk = s.spk := rfl
@[simp] theorem emit_cap (x : Sent) : (s.emit x).cap = s.cap := rfl
@[simp] theorem emit_eth (x : Sent) : (s.emit x).eth = s.eth := rfl
@[simp] theorem emit_voice (x : Sent) : (s.emit x).voice = s.voice := rfl
@[simp] theorem emit_bench (x : Sent) : (s.emit x).bench = s.bench := rfl
@[simp] theorem emit_mem (x : Sent) : (s.emit x).mem = s.mem := rfl
@[simp] theorem emit_ash (x : Sent) : (s.emit x).ash = s.ash := rfl
@[simp] theorem emit_link (x : Sent) : (s.emit x).link = s.link := rfl
@[simp] theorem emit_pair (x : Sent) : (s.emit x).pair = s.pair := rfl
@[simp] theorem emit_faults (x : Sent) : (s.emit x).faults = s.faults := rfl
@[simp] theorem emit_power (x : Sent) : (s.emit x).power = s.power := rfl
@[simp] theorem emit_gpio (x : Sent) : (s.emit x).gpio = s.gpio := rfl
@[simp] theorem emit_jtag (x : Sent) : (s.emit x).jtag = s.jtag := rfl

/-! `setLatch` -/

@[simp] theorem setLatch_pending (l : Latch) : (s.setLatch l).pending = s.pending := rfl
@[simp] theorem setLatch_free (l : Latch) : (s.setLatch l).free = s.free := rfl
@[simp] theorem setLatch_sent (l : Latch) : (s.setLatch l).sent = s.sent := rfl
@[simp] theorem setLatch_id (l : Latch) : (s.setLatch l).id = s.id := rfl
@[simp] theorem setLatch_mbx (l : Latch) : (s.setLatch l).mbx = s.mbx := rfl
@[simp] theorem setLatch_deferred (l : Latch) : (s.setLatch l).deferred = s.deferred := rfl
@[simp] theorem setLatch_boot (l : Latch) : (s.setLatch l).boot = s.boot := rfl
@[simp] theorem setLatch_time (l : Latch) : (s.setLatch l).time = s.time := rfl
@[simp] theorem setLatch_nodes (l : Latch) : (s.setLatch l).nodes = s.nodes := rfl
@[simp] theorem setLatch_leaving (l : Latch) : (s.setLatch l).leaving = s.leaving := rfl
@[simp] theorem setLatch_conns (l : Latch) : (s.setLatch l).conns = s.conns := rfl
@[simp] theorem setLatch_pend (l : Latch) : (s.setLatch l).pend = s.pend := rfl
@[simp] theorem setLatch_pendLate (l : Latch) : (s.setLatch l).pendLate = s.pendLate := rfl
@[simp] theorem setLatch_setHere (l : Latch) : (s.setLatch l).setHere = s.setHere := rfl
@[simp] theorem setLatch_run (l : Latch) : (s.setLatch l).run = s.run := rfl
@[simp] theorem setLatch_wires (l : Latch) : (s.setLatch l).wires = s.wires := rfl
@[simp] theorem setLatch_midway (l : Latch) : (s.setLatch l).midway = s.midway := rfl
@[simp] theorem setLatch_closedView (l : Latch) : (s.setLatch l).closedView = s.closedView := rfl
@[simp] theorem setLatch_slabs (l : Latch) : (s.setLatch l).slabs = s.slabs := rfl
@[simp] theorem setLatch_commits (l : Latch) : (s.setLatch l).commits = s.commits := rfl
@[simp] theorem setLatch_slabSet (l : Latch) : (s.setLatch l).slabSet = s.slabSet := rfl
@[simp] theorem setLatch_rd (l : Latch) : (s.setLatch l).rd = s.rd := rfl
@[simp] theorem setLatch_wr (l : Latch) : (s.setLatch l).wr = s.wr := rfl
@[simp] theorem setLatch_front (l : Latch) : (s.setLatch l).front = s.front := rfl
@[simp] theorem setLatch_gal (l : Latch) : (s.setLatch l).gal = s.gal := rfl
@[simp] theorem setLatch_ren (l : Latch) : (s.setLatch l).ren = s.ren := rfl
@[simp] theorem setLatch_spk (l : Latch) : (s.setLatch l).spk = s.spk := rfl
@[simp] theorem setLatch_cap (l : Latch) : (s.setLatch l).cap = s.cap := rfl
@[simp] theorem setLatch_eth (l : Latch) : (s.setLatch l).eth = s.eth := rfl
@[simp] theorem setLatch_voice (l : Latch) : (s.setLatch l).voice = s.voice := rfl
@[simp] theorem setLatch_bench (l : Latch) : (s.setLatch l).bench = s.bench := rfl
@[simp] theorem setLatch_mem (l : Latch) : (s.setLatch l).mem = s.mem := rfl
@[simp] theorem setLatch_ash (l : Latch) : (s.setLatch l).ash = s.ash := rfl
@[simp] theorem setLatch_link (l : Latch) : (s.setLatch l).link = s.link := rfl
@[simp] theorem setLatch_pair (l : Latch) : (s.setLatch l).pair = s.pair := rfl
@[simp] theorem setLatch_faults (l : Latch) : (s.setLatch l).faults = s.faults := rfl
@[simp] theorem setLatch_power (l : Latch) : (s.setLatch l).power = s.power := rfl
@[simp] theorem setLatch_gpio (l : Latch) : (s.setLatch l).gpio = s.gpio := rfl
@[simp] theorem setLatch_jtag (l : Latch) : (s.setLatch l).jtag = s.jtag := rfl

/-! `setBox` -/

@[simp] theorem setBox_pending (k : Nat) (b : Mbx) : (s.setBox k b).pending = s.pending := rfl
@[simp] theorem setBox_free (k : Nat) (b : Mbx) : (s.setBox k b).free = s.free := rfl
@[simp] theorem setBox_sent (k : Nat) (b : Mbx) : (s.setBox k b).sent = s.sent := rfl
@[simp] theorem setBox_id (k : Nat) (b : Mbx) : (s.setBox k b).id = s.id := rfl
@[simp] theorem setBox_mbx (k : Nat) (b : Mbx) : (s.setBox k b).mbx = s.mbx.setIfInBounds k b := rfl
@[simp] theorem setBox_deferred (k : Nat) (b : Mbx) : (s.setBox k b).deferred = s.deferred := rfl
@[simp] theorem setBox_boot (k : Nat) (b : Mbx) : (s.setBox k b).boot = s.boot := rfl
@[simp] theorem setBox_evq (k : Nat) (b : Mbx) : (s.setBox k b).evq = s.evq := rfl
@[simp] theorem setBox_time (k : Nat) (b : Mbx) : (s.setBox k b).time = s.time := rfl
@[simp] theorem setBox_nodes (k : Nat) (b : Mbx) : (s.setBox k b).nodes = s.nodes := rfl
@[simp] theorem setBox_leaving (k : Nat) (b : Mbx) : (s.setBox k b).leaving = s.leaving := rfl
@[simp] theorem setBox_conns (k : Nat) (b : Mbx) : (s.setBox k b).conns = s.conns := rfl
@[simp] theorem setBox_pend (k : Nat) (b : Mbx) : (s.setBox k b).pend = s.pend := rfl
@[simp] theorem setBox_pendLate (k : Nat) (b : Mbx) : (s.setBox k b).pendLate = s.pendLate := rfl
@[simp] theorem setBox_setHere (k : Nat) (b : Mbx) : (s.setBox k b).setHere = s.setHere := rfl
@[simp] theorem setBox_run (k : Nat) (b : Mbx) : (s.setBox k b).run = s.run := rfl
@[simp] theorem setBox_wires (k : Nat) (b : Mbx) : (s.setBox k b).wires = s.wires := rfl
@[simp] theorem setBox_midway (k : Nat) (b : Mbx) : (s.setBox k b).midway = s.midway := rfl
@[simp] theorem setBox_closedView (k : Nat) (b : Mbx) : (s.setBox k b).closedView = s.closedView := rfl
@[simp] theorem setBox_slabs (k : Nat) (b : Mbx) : (s.setBox k b).slabs = s.slabs := rfl
@[simp] theorem setBox_commits (k : Nat) (b : Mbx) : (s.setBox k b).commits = s.commits := rfl
@[simp] theorem setBox_slabSet (k : Nat) (b : Mbx) : (s.setBox k b).slabSet = s.slabSet := rfl
@[simp] theorem setBox_rd (k : Nat) (b : Mbx) : (s.setBox k b).rd = s.rd := rfl
@[simp] theorem setBox_wr (k : Nat) (b : Mbx) : (s.setBox k b).wr = s.wr := rfl
@[simp] theorem setBox_front (k : Nat) (b : Mbx) : (s.setBox k b).front = s.front := rfl
@[simp] theorem setBox_gal (k : Nat) (b : Mbx) : (s.setBox k b).gal = s.gal := rfl
@[simp] theorem setBox_ren (k : Nat) (b : Mbx) : (s.setBox k b).ren = s.ren := rfl
@[simp] theorem setBox_spk (k : Nat) (b : Mbx) : (s.setBox k b).spk = s.spk := rfl
@[simp] theorem setBox_cap (k : Nat) (b : Mbx) : (s.setBox k b).cap = s.cap := rfl
@[simp] theorem setBox_eth (k : Nat) (b : Mbx) : (s.setBox k b).eth = s.eth := rfl
@[simp] theorem setBox_voice (k : Nat) (b : Mbx) : (s.setBox k b).voice = s.voice := rfl
@[simp] theorem setBox_bench (k : Nat) (b : Mbx) : (s.setBox k b).bench = s.bench := rfl
@[simp] theorem setBox_mem (k : Nat) (b : Mbx) : (s.setBox k b).mem = s.mem := rfl
@[simp] theorem setBox_ash (k : Nat) (b : Mbx) : (s.setBox k b).ash = s.ash := rfl
@[simp] theorem setBox_link (k : Nat) (b : Mbx) : (s.setBox k b).link = s.link := rfl
@[simp] theorem setBox_pair (k : Nat) (b : Mbx) : (s.setBox k b).pair = s.pair := rfl
@[simp] theorem setBox_faults (k : Nat) (b : Mbx) : (s.setBox k b).faults = s.faults := rfl
@[simp] theorem setBox_power (k : Nat) (b : Mbx) : (s.setBox k b).power = s.power := rfl
@[simp] theorem setBox_gpio (k : Nat) (b : Mbx) : (s.setBox k b).gpio = s.gpio := rfl
@[simp] theorem setBox_jtag (k : Nat) (b : Mbx) : (s.setBox k b).jtag = s.jtag := rfl

/-! `setNode` -/

@[simp] theorem setNode_pending (k : Nat) (n : Node) : (s.setNode k n).pending = s.pending := by unfold setNode; split <;> rfl
@[simp] theorem setNode_free (k : Nat) (n : Node) : (s.setNode k n).free = s.free := by unfold setNode; split <;> rfl
@[simp] theorem setNode_sent (k : Nat) (n : Node) : (s.setNode k n).sent = s.sent := by unfold setNode; split <;> rfl
@[simp] theorem setNode_id (k : Nat) (n : Node) : (s.setNode k n).id = s.id := by unfold setNode; split <;> rfl
@[simp] theorem setNode_mbx (k : Nat) (n : Node) : (s.setNode k n).mbx = s.mbx := by unfold setNode; split <;> rfl
@[simp] theorem setNode_deferred (k : Nat) (n : Node) : (s.setNode k n).deferred = s.deferred := by unfold setNode; split <;> rfl
@[simp] theorem setNode_boot (k : Nat) (n : Node) : (s.setNode k n).boot = s.boot := by unfold setNode; split <;> rfl
@[simp] theorem setNode_evq (k : Nat) (n : Node) : (s.setNode k n).evq = s.evq := by unfold setNode; split <;> rfl
@[simp] theorem setNode_time (k : Nat) (n : Node) : (s.setNode k n).time = s.time := by unfold setNode; split <;> rfl
@[simp] theorem setNode_leaving (k : Nat) (n : Node) : (s.setNode k n).leaving = s.leaving := by unfold setNode; split <;> rfl
@[simp] theorem setNode_conns (k : Nat) (n : Node) : (s.setNode k n).conns = s.conns := by unfold setNode; split <;> rfl
@[simp] theorem setNode_pend (k : Nat) (n : Node) : (s.setNode k n).pend = s.pend := by unfold setNode; split <;> rfl
@[simp] theorem setNode_pendLate (k : Nat) (n : Node) : (s.setNode k n).pendLate = s.pendLate := by unfold setNode; split <;> rfl
@[simp] theorem setNode_setHere (k : Nat) (n : Node) : (s.setNode k n).setHere = s.setHere := by unfold setNode; split <;> rfl
@[simp] theorem setNode_run (k : Nat) (n : Node) : (s.setNode k n).run = s.run := by unfold setNode; split <;> rfl
@[simp] theorem setNode_wires (k : Nat) (n : Node) : (s.setNode k n).wires = s.wires := by unfold setNode; split <;> rfl
@[simp] theorem setNode_midway (k : Nat) (n : Node) : (s.setNode k n).midway = s.midway := by unfold setNode; split <;> rfl
@[simp] theorem setNode_closedView (k : Nat) (n : Node) : (s.setNode k n).closedView = s.closedView := by unfold setNode; split <;> rfl
@[simp] theorem setNode_slabs (k : Nat) (n : Node) : (s.setNode k n).slabs = s.slabs := by unfold setNode; split <;> rfl
@[simp] theorem setNode_commits (k : Nat) (n : Node) : (s.setNode k n).commits = s.commits := by unfold setNode; split <;> rfl
@[simp] theorem setNode_slabSet (k : Nat) (n : Node) : (s.setNode k n).slabSet = s.slabSet := by unfold setNode; split <;> rfl
@[simp] theorem setNode_rd (k : Nat) (n : Node) : (s.setNode k n).rd = s.rd := by unfold setNode; split <;> rfl
@[simp] theorem setNode_wr (k : Nat) (n : Node) : (s.setNode k n).wr = s.wr := by unfold setNode; split <;> rfl
@[simp] theorem setNode_front (k : Nat) (n : Node) : (s.setNode k n).front = s.front := by unfold setNode; split <;> rfl
@[simp] theorem setNode_gal (k : Nat) (n : Node) : (s.setNode k n).gal = s.gal := by unfold setNode; split <;> rfl
@[simp] theorem setNode_ren (k : Nat) (n : Node) : (s.setNode k n).ren = s.ren := by unfold setNode; split <;> rfl
@[simp] theorem setNode_spk (k : Nat) (n : Node) : (s.setNode k n).spk = s.spk := by unfold setNode; split <;> rfl
@[simp] theorem setNode_cap (k : Nat) (n : Node) : (s.setNode k n).cap = s.cap := by unfold setNode; split <;> rfl
@[simp] theorem setNode_eth (k : Nat) (n : Node) : (s.setNode k n).eth = s.eth := by unfold setNode; split <;> rfl
@[simp] theorem setNode_voice (k : Nat) (n : Node) : (s.setNode k n).voice = s.voice := by unfold setNode; split <;> rfl
@[simp] theorem setNode_bench (k : Nat) (n : Node) : (s.setNode k n).bench = s.bench := by unfold setNode; split <;> rfl
@[simp] theorem setNode_mem (k : Nat) (n : Node) : (s.setNode k n).mem = s.mem := by unfold setNode; split <;> rfl
@[simp] theorem setNode_ash (k : Nat) (n : Node) : (s.setNode k n).ash = s.ash := by unfold setNode; split <;> rfl
@[simp] theorem setNode_link (k : Nat) (n : Node) : (s.setNode k n).link = s.link := by unfold setNode; split <;> rfl
@[simp] theorem setNode_pair (k : Nat) (n : Node) : (s.setNode k n).pair = s.pair := by unfold setNode; split <;> rfl
@[simp] theorem setNode_faults (k : Nat) (n : Node) : (s.setNode k n).faults = s.faults := by unfold setNode; split <;> rfl
@[simp] theorem setNode_power (k : Nat) (n : Node) : (s.setNode k n).power = s.power := by unfold setNode; split <;> rfl
@[simp] theorem setNode_gpio (k : Nat) (n : Node) : (s.setNode k n).gpio = s.gpio := by unfold setNode; split <;> rfl
@[simp] theorem setNode_jtag (k : Nat) (n : Node) : (s.setNode k n).jtag = s.jtag := by unfold setNode; split <;> rfl

/-! `storePar` -/

@[simp] theorem storePar_pending (k p : Nat) (v : Bytes) : (s.storePar k p v).pending = s.pending := by unfold storePar; split <;> simp
@[simp] theorem storePar_free (k p : Nat) (v : Bytes) : (s.storePar k p v).free = s.free := by unfold storePar; split <;> simp
@[simp] theorem storePar_sent (k p : Nat) (v : Bytes) : (s.storePar k p v).sent = s.sent := by unfold storePar; split <;> simp
@[simp] theorem storePar_id (k p : Nat) (v : Bytes) : (s.storePar k p v).id = s.id := by unfold storePar; split <;> simp
@[simp] theorem storePar_mbx (k p : Nat) (v : Bytes) : (s.storePar k p v).mbx = s.mbx := by unfold storePar; split <;> simp
@[simp] theorem storePar_deferred (k p : Nat) (v : Bytes) : (s.storePar k p v).deferred = s.deferred := by unfold storePar; split <;> simp
@[simp] theorem storePar_boot (k p : Nat) (v : Bytes) : (s.storePar k p v).boot = s.boot := by unfold storePar; split <;> simp
@[simp] theorem storePar_evq (k p : Nat) (v : Bytes) : (s.storePar k p v).evq = s.evq := by unfold storePar; split <;> simp
@[simp] theorem storePar_time (k p : Nat) (v : Bytes) : (s.storePar k p v).time = s.time := by unfold storePar; split <;> simp
@[simp] theorem storePar_leaving (k p : Nat) (v : Bytes) : (s.storePar k p v).leaving = s.leaving := by unfold storePar; split <;> simp
@[simp] theorem storePar_conns (k p : Nat) (v : Bytes) : (s.storePar k p v).conns = s.conns := by unfold storePar; split <;> simp
@[simp] theorem storePar_pend (k p : Nat) (v : Bytes) : (s.storePar k p v).pend = s.pend := by unfold storePar; split <;> simp
@[simp] theorem storePar_pendLate (k p : Nat) (v : Bytes) : (s.storePar k p v).pendLate = s.pendLate := by unfold storePar; split <;> simp
@[simp] theorem storePar_setHere (k p : Nat) (v : Bytes) : (s.storePar k p v).setHere = s.setHere := by unfold storePar; split <;> simp
@[simp] theorem storePar_run (k p : Nat) (v : Bytes) : (s.storePar k p v).run = s.run := by unfold storePar; split <;> simp
@[simp] theorem storePar_wires (k p : Nat) (v : Bytes) : (s.storePar k p v).wires = s.wires := by unfold storePar; split <;> simp
@[simp] theorem storePar_midway (k p : Nat) (v : Bytes) : (s.storePar k p v).midway = s.midway := by unfold storePar; split <;> simp
@[simp] theorem storePar_closedView (k p : Nat) (v : Bytes) : (s.storePar k p v).closedView = s.closedView := by unfold storePar; split <;> simp
@[simp] theorem storePar_slabs (k p : Nat) (v : Bytes) : (s.storePar k p v).slabs = s.slabs := by unfold storePar; split <;> simp
@[simp] theorem storePar_commits (k p : Nat) (v : Bytes) : (s.storePar k p v).commits = s.commits := by unfold storePar; split <;> simp
@[simp] theorem storePar_slabSet (k p : Nat) (v : Bytes) : (s.storePar k p v).slabSet = s.slabSet := by unfold storePar; split <;> simp
@[simp] theorem storePar_rd (k p : Nat) (v : Bytes) : (s.storePar k p v).rd = s.rd := by unfold storePar; split <;> simp
@[simp] theorem storePar_wr (k p : Nat) (v : Bytes) : (s.storePar k p v).wr = s.wr := by unfold storePar; split <;> simp
@[simp] theorem storePar_front (k p : Nat) (v : Bytes) : (s.storePar k p v).front = s.front := by unfold storePar; split <;> simp
@[simp] theorem storePar_gal (k p : Nat) (v : Bytes) : (s.storePar k p v).gal = s.gal := by unfold storePar; split <;> simp
@[simp] theorem storePar_ren (k p : Nat) (v : Bytes) : (s.storePar k p v).ren = s.ren := by unfold storePar; split <;> simp
@[simp] theorem storePar_spk (k p : Nat) (v : Bytes) : (s.storePar k p v).spk = s.spk := by unfold storePar; split <;> simp
@[simp] theorem storePar_cap (k p : Nat) (v : Bytes) : (s.storePar k p v).cap = s.cap := by unfold storePar; split <;> simp
@[simp] theorem storePar_eth (k p : Nat) (v : Bytes) : (s.storePar k p v).eth = s.eth := by unfold storePar; split <;> simp
@[simp] theorem storePar_voice (k p : Nat) (v : Bytes) : (s.storePar k p v).voice = s.voice := by unfold storePar; split <;> simp
@[simp] theorem storePar_bench (k p : Nat) (v : Bytes) : (s.storePar k p v).bench = s.bench := by unfold storePar; split <;> simp
@[simp] theorem storePar_mem (k p : Nat) (v : Bytes) : (s.storePar k p v).mem = s.mem := by unfold storePar; split <;> simp
@[simp] theorem storePar_ash (k p : Nat) (v : Bytes) : (s.storePar k p v).ash = s.ash := by unfold storePar; split <;> simp
@[simp] theorem storePar_link (k p : Nat) (v : Bytes) : (s.storePar k p v).link = s.link := by unfold storePar; split <;> simp
@[simp] theorem storePar_pair (k p : Nat) (v : Bytes) : (s.storePar k p v).pair = s.pair := by unfold storePar; split <;> simp
@[simp] theorem storePar_faults (k p : Nat) (v : Bytes) : (s.storePar k p v).faults = s.faults := by unfold storePar; split <;> simp
@[simp] theorem storePar_power (k p : Nat) (v : Bytes) : (s.storePar k p v).power = s.power := by unfold storePar; split <;> simp
@[simp] theorem storePar_gpio (k p : Nat) (v : Bytes) : (s.storePar k p v).gpio = s.gpio := by unfold storePar; split <;> simp
@[simp] theorem storePar_jtag (k p : Nat) (v : Bytes) : (s.storePar k p v).jtag = s.jtag := by unfold storePar; split <;> simp

/-! `atBoundary` -/

@[simp] theorem atBoundary_pending (p : Pend) : (s.atBoundary p).pending = s.pending := by unfold atBoundary; split <;> rfl
@[simp] theorem atBoundary_free (p : Pend) : (s.atBoundary p).free = s.free := by unfold atBoundary; split <;> rfl
@[simp] theorem atBoundary_sent (p : Pend) : (s.atBoundary p).sent = s.sent := by unfold atBoundary; split <;> rfl
@[simp] theorem atBoundary_id (p : Pend) : (s.atBoundary p).id = s.id := by unfold atBoundary; split <;> rfl
@[simp] theorem atBoundary_mbx (p : Pend) : (s.atBoundary p).mbx = s.mbx := by unfold atBoundary; split <;> rfl
@[simp] theorem atBoundary_deferred (p : Pend) : (s.atBoundary p).deferred = s.deferred := by unfold atBoundary; split <;> rfl
@[simp] theorem atBoundary_boot (p : Pend) : (s.atBoundary p).boot = s.boot := by unfold atBoundary; split <;> rfl
@[simp] theorem atBoundary_evq (p : Pend) : (s.atBoundary p).evq = s.evq := by unfold atBoundary; split <;> rfl
@[simp] theorem atBoundary_time (p : Pend) : (s.atBoundary p).time = s.time := by unfold atBoundary; split <;> rfl
@[simp] theorem atBoundary_nodes (p : Pend) : (s.atBoundary p).nodes = s.nodes := by unfold atBoundary; split <;> rfl
@[simp] theorem atBoundary_leaving (p : Pend) : (s.atBoundary p).leaving = s.leaving := by unfold atBoundary; split <;> rfl
@[simp] theorem atBoundary_conns (p : Pend) : (s.atBoundary p).conns = s.conns := by unfold atBoundary; split <;> rfl
@[simp] theorem atBoundary_setHere (p : Pend) : (s.atBoundary p).setHere = s.setHere := by unfold atBoundary; split <;> rfl
@[simp] theorem atBoundary_run (p : Pend) : (s.atBoundary p).run = s.run := by unfold atBoundary; split <;> rfl
@[simp] theorem atBoundary_wires (p : Pend) : (s.atBoundary p).wires = s.wires := by unfold atBoundary; split <;> rfl
@[simp] theorem atBoundary_midway (p : Pend) : (s.atBoundary p).midway = s.midway := by unfold atBoundary; split <;> rfl
@[simp] theorem atBoundary_closedView (p : Pend) : (s.atBoundary p).closedView = s.closedView := by unfold atBoundary; split <;> rfl
@[simp] theorem atBoundary_slabs (p : Pend) : (s.atBoundary p).slabs = s.slabs := by unfold atBoundary; split <;> rfl
@[simp] theorem atBoundary_commits (p : Pend) : (s.atBoundary p).commits = s.commits := by unfold atBoundary; split <;> rfl
@[simp] theorem atBoundary_slabSet (p : Pend) : (s.atBoundary p).slabSet = s.slabSet := by unfold atBoundary; split <;> rfl
@[simp] theorem atBoundary_rd (p : Pend) : (s.atBoundary p).rd = s.rd := by unfold atBoundary; split <;> rfl
@[simp] theorem atBoundary_wr (p : Pend) : (s.atBoundary p).wr = s.wr := by unfold atBoundary; split <;> rfl
@[simp] theorem atBoundary_front (p : Pend) : (s.atBoundary p).front = s.front := by unfold atBoundary; split <;> rfl
@[simp] theorem atBoundary_gal (p : Pend) : (s.atBoundary p).gal = s.gal := by unfold atBoundary; split <;> rfl
@[simp] theorem atBoundary_ren (p : Pend) : (s.atBoundary p).ren = s.ren := by unfold atBoundary; split <;> rfl
@[simp] theorem atBoundary_spk (p : Pend) : (s.atBoundary p).spk = s.spk := by unfold atBoundary; split <;> rfl
@[simp] theorem atBoundary_cap (p : Pend) : (s.atBoundary p).cap = s.cap := by unfold atBoundary; split <;> rfl
@[simp] theorem atBoundary_eth (p : Pend) : (s.atBoundary p).eth = s.eth := by unfold atBoundary; split <;> rfl
@[simp] theorem atBoundary_voice (p : Pend) : (s.atBoundary p).voice = s.voice := by unfold atBoundary; split <;> rfl
@[simp] theorem atBoundary_bench (p : Pend) : (s.atBoundary p).bench = s.bench := by unfold atBoundary; split <;> rfl
@[simp] theorem atBoundary_mem (p : Pend) : (s.atBoundary p).mem = s.mem := by unfold atBoundary; split <;> rfl
@[simp] theorem atBoundary_ash (p : Pend) : (s.atBoundary p).ash = s.ash := by unfold atBoundary; split <;> rfl
@[simp] theorem atBoundary_link (p : Pend) : (s.atBoundary p).link = s.link := by unfold atBoundary; split <;> rfl
@[simp] theorem atBoundary_pair (p : Pend) : (s.atBoundary p).pair = s.pair := by unfold atBoundary; split <;> rfl
@[simp] theorem atBoundary_faults (p : Pend) : (s.atBoundary p).faults = s.faults := by unfold atBoundary; split <;> rfl
@[simp] theorem atBoundary_power (p : Pend) : (s.atBoundary p).power = s.power := by unfold atBoundary; split <;> rfl
@[simp] theorem atBoundary_gpio (p : Pend) : (s.atBoundary p).gpio = s.gpio := by unfold atBoundary; split <;> rfl
@[simp] theorem atBoundary_jtag (p : Pend) : (s.atBoundary p).jtag = s.jtag := by unfold atBoundary; split <;> rfl

/-! `produce` -/

@[simp] theorem produce_pending (n o : Nat) (v : Int) : (s.produce n o v).pending = s.pending := rfl
@[simp] theorem produce_free (n o : Nat) (v : Int) : (s.produce n o v).free = s.free := rfl
@[simp] theorem produce_sent (n o : Nat) (v : Int) : (s.produce n o v).sent = s.sent := rfl
@[simp] theorem produce_id (n o : Nat) (v : Int) : (s.produce n o v).id = s.id := rfl
@[simp] theorem produce_mbx (n o : Nat) (v : Int) : (s.produce n o v).mbx = s.mbx := rfl
@[simp] theorem produce_deferred (n o : Nat) (v : Int) : (s.produce n o v).deferred = s.deferred := rfl
@[simp] theorem produce_boot (n o : Nat) (v : Int) : (s.produce n o v).boot = s.boot := rfl
@[simp] theorem produce_evq (n o : Nat) (v : Int) : (s.produce n o v).evq = s.evq := rfl
@[simp] theorem produce_time (n o : Nat) (v : Int) : (s.produce n o v).time = s.time := rfl
@[simp] theorem produce_nodes (n o : Nat) (v : Int) : (s.produce n o v).nodes = s.nodes := rfl
@[simp] theorem produce_leaving (n o : Nat) (v : Int) : (s.produce n o v).leaving = s.leaving := rfl
@[simp] theorem produce_conns (n o : Nat) (v : Int) : (s.produce n o v).conns = s.conns := rfl
@[simp] theorem produce_pend (n o : Nat) (v : Int) : (s.produce n o v).pend = s.pend := rfl
@[simp] theorem produce_pendLate (n o : Nat) (v : Int) : (s.produce n o v).pendLate = s.pendLate := rfl
@[simp] theorem produce_setHere (n o : Nat) (v : Int) : (s.produce n o v).setHere = s.setHere := rfl
@[simp] theorem produce_run (n o : Nat) (v : Int) : (s.produce n o v).run = s.run := rfl
@[simp] theorem produce_wires (n o : Nat) (v : Int) : (s.produce n o v).wires = s.wires := rfl
@[simp] theorem produce_midway (n o : Nat) (v : Int) : (s.produce n o v).midway = s.midway := rfl
@[simp] theorem produce_closedView (n o : Nat) (v : Int) : (s.produce n o v).closedView = s.closedView := rfl
@[simp] theorem produce_slabs (n o : Nat) (v : Int) : (s.produce n o v).slabs = s.slabs := rfl
@[simp] theorem produce_commits (n o : Nat) (v : Int) : (s.produce n o v).commits = s.commits := rfl
@[simp] theorem produce_slabSet (n o : Nat) (v : Int) : (s.produce n o v).slabSet = s.slabSet := rfl
@[simp] theorem produce_rd (n o : Nat) (v : Int) : (s.produce n o v).rd = s.rd := rfl
@[simp] theorem produce_wr (n o : Nat) (v : Int) : (s.produce n o v).wr = pushSample n o v s.wr := rfl
@[simp] theorem produce_front (n o : Nat) (v : Int) : (s.produce n o v).front = s.front := rfl
@[simp] theorem produce_gal (n o : Nat) (v : Int) : (s.produce n o v).gal = s.gal := rfl
@[simp] theorem produce_ren (n o : Nat) (v : Int) : (s.produce n o v).ren = s.ren := rfl
@[simp] theorem produce_spk (n o : Nat) (v : Int) : (s.produce n o v).spk = s.spk := rfl
@[simp] theorem produce_cap (n o : Nat) (v : Int) : (s.produce n o v).cap = s.cap := rfl
@[simp] theorem produce_eth (n o : Nat) (v : Int) : (s.produce n o v).eth = s.eth := rfl
@[simp] theorem produce_voice (n o : Nat) (v : Int) : (s.produce n o v).voice = s.voice := rfl
@[simp] theorem produce_bench (n o : Nat) (v : Int) : (s.produce n o v).bench = s.bench := rfl
@[simp] theorem produce_mem (n o : Nat) (v : Int) : (s.produce n o v).mem = s.mem := rfl
@[simp] theorem produce_ash (n o : Nat) (v : Int) : (s.produce n o v).ash = s.ash := rfl
@[simp] theorem produce_link (n o : Nat) (v : Int) : (s.produce n o v).link = s.link := rfl
@[simp] theorem produce_pair (n o : Nat) (v : Int) : (s.produce n o v).pair = s.pair := rfl
@[simp] theorem produce_faults (n o : Nat) (v : Int) : (s.produce n o v).faults = s.faults := rfl
@[simp] theorem produce_power (n o : Nat) (v : Int) : (s.produce n o v).power = s.power := rfl
@[simp] theorem produce_gpio (n o : Nat) (v : Int) : (s.produce n o v).gpio = s.gpio := rfl
@[simp] theorem produce_jtag (n o : Nat) (v : Int) : (s.produce n o v).jtag = s.jtag := rfl

/-! `flagAccess` -/

@[simp] theorem flagAccess_pending (k : Nat) (f : Ident → Ident) : (s.flagAccess k f).pending = s.pending := rfl
@[simp] theorem flagAccess_free (k : Nat) (f : Ident → Ident) : (s.flagAccess k f).free = s.free := rfl
@[simp] theorem flagAccess_sent (k : Nat) (f : Ident → Ident) : (s.flagAccess k f).sent = s.sent := rfl
@[simp] theorem flagAccess_mbx (k : Nat) (f : Ident → Ident) : (s.flagAccess k f).mbx = s.mbx := rfl
@[simp] theorem flagAccess_deferred (k : Nat) (f : Ident → Ident) : (s.flagAccess k f).deferred = s.deferred := rfl
@[simp] theorem flagAccess_boot (k : Nat) (f : Ident → Ident) : (s.flagAccess k f).boot = s.boot := rfl
@[simp] theorem flagAccess_evq (k : Nat) (f : Ident → Ident) : (s.flagAccess k f).evq = s.evq := rfl
@[simp] theorem flagAccess_time (k : Nat) (f : Ident → Ident) : (s.flagAccess k f).time = s.time := rfl
@[simp] theorem flagAccess_nodes (k : Nat) (f : Ident → Ident) : (s.flagAccess k f).nodes = s.nodes := rfl
@[simp] theorem flagAccess_leaving (k : Nat) (f : Ident → Ident) : (s.flagAccess k f).leaving = s.leaving := rfl
@[simp] theorem flagAccess_conns (k : Nat) (f : Ident → Ident) : (s.flagAccess k f).conns = s.conns := rfl
@[simp] theorem flagAccess_pend (k : Nat) (f : Ident → Ident) : (s.flagAccess k f).pend = s.pend := rfl
@[simp] theorem flagAccess_pendLate (k : Nat) (f : Ident → Ident) : (s.flagAccess k f).pendLate = s.pendLate := rfl
@[simp] theorem flagAccess_setHere (k : Nat) (f : Ident → Ident) : (s.flagAccess k f).setHere = s.setHere := rfl
@[simp] theorem flagAccess_run (k : Nat) (f : Ident → Ident) : (s.flagAccess k f).run = s.run := rfl
@[simp] theorem flagAccess_wires (k : Nat) (f : Ident → Ident) : (s.flagAccess k f).wires = s.wires := rfl
@[simp] theorem flagAccess_midway (k : Nat) (f : Ident → Ident) : (s.flagAccess k f).midway = s.midway := rfl
@[simp] theorem flagAccess_closedView (k : Nat) (f : Ident → Ident) : (s.flagAccess k f).closedView = s.closedView := rfl
@[simp] theorem flagAccess_slabs (k : Nat) (f : Ident → Ident) : (s.flagAccess k f).slabs = s.slabs := rfl
@[simp] theorem flagAccess_commits (k : Nat) (f : Ident → Ident) : (s.flagAccess k f).commits = s.commits := rfl
@[simp] theorem flagAccess_slabSet (k : Nat) (f : Ident → Ident) : (s.flagAccess k f).slabSet = s.slabSet := rfl
@[simp] theorem flagAccess_rd (k : Nat) (f : Ident → Ident) : (s.flagAccess k f).rd = s.rd := rfl
@[simp] theorem flagAccess_wr (k : Nat) (f : Ident → Ident) : (s.flagAccess k f).wr = s.wr := rfl
@[simp] theorem flagAccess_front (k : Nat) (f : Ident → Ident) : (s.flagAccess k f).front = s.front := rfl
@[simp] theorem flagAccess_gal (k : Nat) (f : Ident → Ident) : (s.flagAccess k f).gal = s.gal := rfl
@[simp] theorem flagAccess_ren (k : Nat) (f : Ident → Ident) : (s.flagAccess k f).ren = s.ren := rfl
@[simp] theorem flagAccess_spk (k : Nat) (f : Ident → Ident) : (s.flagAccess k f).spk = s.spk := rfl
@[simp] theorem flagAccess_cap (k : Nat) (f : Ident → Ident) : (s.flagAccess k f).cap = s.cap := rfl
@[simp] theorem flagAccess_eth (k : Nat) (f : Ident → Ident) : (s.flagAccess k f).eth = s.eth := rfl
@[simp] theorem flagAccess_voice (k : Nat) (f : Ident → Ident) : (s.flagAccess k f).voice = s.voice := rfl
@[simp] theorem flagAccess_bench (k : Nat) (f : Ident → Ident) : (s.flagAccess k f).bench = s.bench := rfl
@[simp] theorem flagAccess_mem (k : Nat) (f : Ident → Ident) : (s.flagAccess k f).mem = s.mem := rfl
@[simp] theorem flagAccess_ash (k : Nat) (f : Ident → Ident) : (s.flagAccess k f).ash = s.ash := rfl
@[simp] theorem flagAccess_link (k : Nat) (f : Ident → Ident) : (s.flagAccess k f).link = s.link := rfl
@[simp] theorem flagAccess_pair (k : Nat) (f : Ident → Ident) : (s.flagAccess k f).pair = s.pair := rfl
@[simp] theorem flagAccess_faults (k : Nat) (f : Ident → Ident) : (s.flagAccess k f).faults = s.faults := rfl
@[simp] theorem flagAccess_power (k : Nat) (f : Ident → Ident) : (s.flagAccess k f).power = s.power := rfl
@[simp] theorem flagAccess_gpio (k : Nat) (f : Ident → Ident) : (s.flagAccess k f).gpio = s.gpio := rfl
@[simp] theorem flagAccess_jtag (k : Nat) (f : Ident → Ident) : (s.flagAccess k f).jtag = s.jtag := rfl

/-! `accept` -/

@[simp] theorem accept_pending (k : Nat) (m : Fin 8) : (s.accept k m).pending = s.pending := rfl
@[simp] theorem accept_free (k : Nat) (m : Fin 8) : (s.accept k m).free = s.free := rfl
@[simp] theorem accept_sent (k : Nat) (m : Fin 8) : (s.accept k m).sent = s.sent := rfl
@[simp] theorem accept_id (k : Nat) (m : Fin 8) : (s.accept k m).id = s.id := rfl
@[simp] theorem accept_deferred (k : Nat) (m : Fin 8) : (s.accept k m).deferred = s.deferred := rfl
@[simp] theorem accept_boot (k : Nat) (m : Fin 8) : (s.accept k m).boot = s.boot := rfl
@[simp] theorem accept_evq (k : Nat) (m : Fin 8) : (s.accept k m).evq = s.evq := rfl
@[simp] theorem accept_time (k : Nat) (m : Fin 8) : (s.accept k m).time = s.time := rfl
@[simp] theorem accept_nodes (k : Nat) (m : Fin 8) : (s.accept k m).nodes = s.nodes := rfl
@[simp] theorem accept_leaving (k : Nat) (m : Fin 8) : (s.accept k m).leaving = s.leaving := rfl
@[simp] theorem accept_conns (k : Nat) (m : Fin 8) : (s.accept k m).conns = s.conns := rfl
@[simp] theorem accept_pend (k : Nat) (m : Fin 8) : (s.accept k m).pend = s.pend := rfl
@[simp] theorem accept_pendLate (k : Nat) (m : Fin 8) : (s.accept k m).pendLate = s.pendLate := rfl
@[simp] theorem accept_setHere (k : Nat) (m : Fin 8) : (s.accept k m).setHere = s.setHere := rfl
@[simp] theorem accept_run (k : Nat) (m : Fin 8) : (s.accept k m).run = s.run := rfl
@[simp] theorem accept_wires (k : Nat) (m : Fin 8) : (s.accept k m).wires = s.wires := rfl
@[simp] theorem accept_midway (k : Nat) (m : Fin 8) : (s.accept k m).midway = s.midway := rfl
@[simp] theorem accept_closedView (k : Nat) (m : Fin 8) : (s.accept k m).closedView = s.closedView := rfl
@[simp] theorem accept_slabs (k : Nat) (m : Fin 8) : (s.accept k m).slabs = s.slabs := rfl
@[simp] theorem accept_commits (k : Nat) (m : Fin 8) : (s.accept k m).commits = s.commits := rfl
@[simp] theorem accept_slabSet (k : Nat) (m : Fin 8) : (s.accept k m).slabSet = s.slabSet := rfl
@[simp] theorem accept_rd (k : Nat) (m : Fin 8) : (s.accept k m).rd = s.rd := rfl
@[simp] theorem accept_wr (k : Nat) (m : Fin 8) : (s.accept k m).wr = s.wr := rfl
@[simp] theorem accept_front (k : Nat) (m : Fin 8) : (s.accept k m).front = s.front := rfl
@[simp] theorem accept_gal (k : Nat) (m : Fin 8) : (s.accept k m).gal = s.gal := rfl
@[simp] theorem accept_ren (k : Nat) (m : Fin 8) : (s.accept k m).ren = s.ren := rfl
@[simp] theorem accept_spk (k : Nat) (m : Fin 8) : (s.accept k m).spk = s.spk := rfl
@[simp] theorem accept_cap (k : Nat) (m : Fin 8) : (s.accept k m).cap = s.cap := rfl
@[simp] theorem accept_eth (k : Nat) (m : Fin 8) : (s.accept k m).eth = s.eth := rfl
@[simp] theorem accept_voice (k : Nat) (m : Fin 8) : (s.accept k m).voice = s.voice := rfl
@[simp] theorem accept_bench (k : Nat) (m : Fin 8) : (s.accept k m).bench = s.bench := rfl
@[simp] theorem accept_mem (k : Nat) (m : Fin 8) : (s.accept k m).mem = s.mem := rfl
@[simp] theorem accept_ash (k : Nat) (m : Fin 8) : (s.accept k m).ash = s.ash := rfl
@[simp] theorem accept_link (k : Nat) (m : Fin 8) : (s.accept k m).link = s.link := rfl
@[simp] theorem accept_pair (k : Nat) (m : Fin 8) : (s.accept k m).pair = s.pair := rfl
@[simp] theorem accept_faults (k : Nat) (m : Fin 8) : (s.accept k m).faults = s.faults := rfl
@[simp] theorem accept_power (k : Nat) (m : Fin 8) : (s.accept k m).power = s.power := rfl
@[simp] theorem accept_gpio (k : Nat) (m : Fin 8) : (s.accept k m).gpio = s.gpio := rfl
@[simp] theorem accept_jtag (k : Nat) (m : Fin 8) : (s.accept k m).jtag = s.jtag := rfl

/-! `note` -/

@[simp] theorem note_pending (d : Decision) : (s.note d).pending = s.pending := by unfold note; split <;> rfl
@[simp] theorem note_free (d : Decision) : (s.note d).free = s.free := by unfold note; split <;> rfl
@[simp] theorem note_sent (d : Decision) : (s.note d).sent = s.sent := by unfold note; split <;> rfl
@[simp] theorem note_id (d : Decision) : (s.note d).id = s.id := by unfold note; split <;> rfl
@[simp] theorem note_mbx (d : Decision) : (s.note d).mbx = s.mbx := by unfold note; split <;> rfl
@[simp] theorem note_deferred (d : Decision) : (s.note d).deferred = s.deferred := by unfold note; split <;> rfl
@[simp] theorem note_boot (d : Decision) : (s.note d).boot = s.boot := by unfold note; split <;> rfl
@[simp] theorem note_evq (d : Decision) : (s.note d).evq = s.evq := by unfold note; split <;> rfl
@[simp] theorem note_time (d : Decision) : (s.note d).time = s.time := by unfold note; split <;> rfl
@[simp] theorem note_nodes (d : Decision) : (s.note d).nodes = s.nodes := by unfold note; split <;> rfl
@[simp] theorem note_leaving (d : Decision) : (s.note d).leaving = s.leaving := by unfold note; split <;> rfl
@[simp] theorem note_conns (d : Decision) : (s.note d).conns = s.conns := by unfold note; split <;> rfl
@[simp] theorem note_pend (d : Decision) : (s.note d).pend = s.pend := by unfold note; split <;> rfl
@[simp] theorem note_pendLate (d : Decision) : (s.note d).pendLate = s.pendLate := by unfold note; split <;> rfl
@[simp] theorem note_setHere (d : Decision) : (s.note d).setHere = s.setHere := by unfold note; split <;> rfl
@[simp] theorem note_run (d : Decision) : (s.note d).run = s.run := by unfold note; split <;> rfl
@[simp] theorem note_wires (d : Decision) : (s.note d).wires = s.wires := by unfold note; split <;> rfl
@[simp] theorem note_midway (d : Decision) : (s.note d).midway = s.midway := by unfold note; split <;> rfl
@[simp] theorem note_closedView (d : Decision) : (s.note d).closedView = s.closedView := by unfold note; split <;> rfl
@[simp] theorem note_slabs (d : Decision) : (s.note d).slabs = s.slabs := by unfold note; split <;> rfl
@[simp] theorem note_commits (d : Decision) : (s.note d).commits = s.commits := by unfold note; split <;> rfl
@[simp] theorem note_slabSet (d : Decision) : (s.note d).slabSet = s.slabSet := by unfold note; split <;> rfl
@[simp] theorem note_rd (d : Decision) : (s.note d).rd = s.rd := by unfold note; split <;> rfl
@[simp] theorem note_wr (d : Decision) : (s.note d).wr = s.wr := by unfold note; split <;> rfl
@[simp] theorem note_front (d : Decision) : (s.note d).front = s.front := by unfold note; split <;> rfl
@[simp] theorem note_gal (d : Decision) : (s.note d).gal = s.gal := by unfold note; split <;> rfl
@[simp] theorem note_ren (d : Decision) : (s.note d).ren = s.ren := by unfold note; split <;> rfl
@[simp] theorem note_spk (d : Decision) : (s.note d).spk = s.spk := by unfold note; split <;> rfl
@[simp] theorem note_cap (d : Decision) : (s.note d).cap = s.cap := by unfold note; split <;> rfl
@[simp] theorem note_eth (d : Decision) : (s.note d).eth = s.eth := by unfold note; split <;> rfl
@[simp] theorem note_voice (d : Decision) : (s.note d).voice = s.voice := by unfold note; split <;> rfl
@[simp] theorem note_bench (d : Decision) : (s.note d).bench = s.bench := by unfold note; split <;> rfl
@[simp] theorem note_mem (d : Decision) : (s.note d).mem = s.mem := by unfold note; split <;> rfl
@[simp] theorem note_ash (d : Decision) : (s.note d).ash = s.ash := by unfold note; split <;> rfl
@[simp] theorem note_link (d : Decision) : (s.note d).link = s.link := by unfold note; split <;> rfl
@[simp] theorem note_faults (d : Decision) : (s.note d).faults = s.faults := by unfold note; split <;> rfl
@[simp] theorem note_power (d : Decision) : (s.note d).power = s.power := by unfold note; split <;> rfl
@[simp] theorem note_gpio (d : Decision) : (s.note d).gpio = s.gpio := by unfold note; split <;> rfl
@[simp] theorem note_jtag (d : Decision) : (s.note d).jtag = s.jtag := by unfold note; split <;> rfl

/-! `setRail` -/

@[simp] theorem setRail_pending (k : Nat) (r : Rail) : (s.setRail k r).pending = s.pending := rfl
@[simp] theorem setRail_free (k : Nat) (r : Rail) : (s.setRail k r).free = s.free := rfl
@[simp] theorem setRail_sent (k : Nat) (r : Rail) : (s.setRail k r).sent = s.sent := rfl
@[simp] theorem setRail_id (k : Nat) (r : Rail) : (s.setRail k r).id = s.id := rfl
@[simp] theorem setRail_mbx (k : Nat) (r : Rail) : (s.setRail k r).mbx = s.mbx := rfl
@[simp] theorem setRail_deferred (k : Nat) (r : Rail) : (s.setRail k r).deferred = s.deferred := rfl
@[simp] theorem setRail_boot (k : Nat) (r : Rail) : (s.setRail k r).boot = s.boot := rfl
@[simp] theorem setRail_evq (k : Nat) (r : Rail) : (s.setRail k r).evq = s.evq := rfl
@[simp] theorem setRail_time (k : Nat) (r : Rail) : (s.setRail k r).time = s.time := rfl
@[simp] theorem setRail_nodes (k : Nat) (r : Rail) : (s.setRail k r).nodes = s.nodes := rfl
@[simp] theorem setRail_leaving (k : Nat) (r : Rail) : (s.setRail k r).leaving = s.leaving := rfl
@[simp] theorem setRail_conns (k : Nat) (r : Rail) : (s.setRail k r).conns = s.conns := rfl
@[simp] theorem setRail_pend (k : Nat) (r : Rail) : (s.setRail k r).pend = s.pend := rfl
@[simp] theorem setRail_pendLate (k : Nat) (r : Rail) : (s.setRail k r).pendLate = s.pendLate := rfl
@[simp] theorem setRail_setHere (k : Nat) (r : Rail) : (s.setRail k r).setHere = s.setHere := rfl
@[simp] theorem setRail_run (k : Nat) (r : Rail) : (s.setRail k r).run = s.run := rfl
@[simp] theorem setRail_wires (k : Nat) (r : Rail) : (s.setRail k r).wires = s.wires := rfl
@[simp] theorem setRail_midway (k : Nat) (r : Rail) : (s.setRail k r).midway = s.midway := rfl
@[simp] theorem setRail_closedView (k : Nat) (r : Rail) : (s.setRail k r).closedView = s.closedView := rfl
@[simp] theorem setRail_slabs (k : Nat) (r : Rail) : (s.setRail k r).slabs = s.slabs := rfl
@[simp] theorem setRail_commits (k : Nat) (r : Rail) : (s.setRail k r).commits = s.commits := rfl
@[simp] theorem setRail_slabSet (k : Nat) (r : Rail) : (s.setRail k r).slabSet = s.slabSet := rfl
@[simp] theorem setRail_rd (k : Nat) (r : Rail) : (s.setRail k r).rd = s.rd := rfl
@[simp] theorem setRail_wr (k : Nat) (r : Rail) : (s.setRail k r).wr = s.wr := rfl
@[simp] theorem setRail_front (k : Nat) (r : Rail) : (s.setRail k r).front = s.front := rfl
@[simp] theorem setRail_gal (k : Nat) (r : Rail) : (s.setRail k r).gal = s.gal := rfl
@[simp] theorem setRail_ren (k : Nat) (r : Rail) : (s.setRail k r).ren = s.ren := rfl
@[simp] theorem setRail_spk (k : Nat) (r : Rail) : (s.setRail k r).spk = s.spk := rfl
@[simp] theorem setRail_cap (k : Nat) (r : Rail) : (s.setRail k r).cap = s.cap := rfl
@[simp] theorem setRail_eth (k : Nat) (r : Rail) : (s.setRail k r).eth = s.eth := rfl
@[simp] theorem setRail_voice (k : Nat) (r : Rail) : (s.setRail k r).voice = s.voice := rfl
@[simp] theorem setRail_bench (k : Nat) (r : Rail) : (s.setRail k r).bench = s.bench := rfl
@[simp] theorem setRail_mem (k : Nat) (r : Rail) : (s.setRail k r).mem = s.mem := rfl
@[simp] theorem setRail_ash (k : Nat) (r : Rail) : (s.setRail k r).ash = s.ash := rfl
@[simp] theorem setRail_link (k : Nat) (r : Rail) : (s.setRail k r).link = s.link := rfl
@[simp] theorem setRail_pair (k : Nat) (r : Rail) : (s.setRail k r).pair = s.pair := rfl
@[simp] theorem setRail_faults (k : Nat) (r : Rail) : (s.setRail k r).faults = s.faults := rfl
@[simp] theorem setRail_gpio (k : Nat) (r : Rail) : (s.setRail k r).gpio = s.gpio := rfl
@[simp] theorem setRail_jtag (k : Nat) (r : Rail) : (s.setRail k r).jtag = s.jtag := rfl

/-! `setTj` -/

@[simp] theorem setTj_pending (v : Int) : (s.setTj v).pending = s.pending := rfl
@[simp] theorem setTj_free (v : Int) : (s.setTj v).free = s.free := rfl
@[simp] theorem setTj_sent (v : Int) : (s.setTj v).sent = s.sent := rfl
@[simp] theorem setTj_id (v : Int) : (s.setTj v).id = s.id := rfl
@[simp] theorem setTj_mbx (v : Int) : (s.setTj v).mbx = s.mbx := rfl
@[simp] theorem setTj_deferred (v : Int) : (s.setTj v).deferred = s.deferred := rfl
@[simp] theorem setTj_boot (v : Int) : (s.setTj v).boot = s.boot := rfl
@[simp] theorem setTj_evq (v : Int) : (s.setTj v).evq = s.evq := rfl
@[simp] theorem setTj_time (v : Int) : (s.setTj v).time = s.time := rfl
@[simp] theorem setTj_nodes (v : Int) : (s.setTj v).nodes = s.nodes := rfl
@[simp] theorem setTj_leaving (v : Int) : (s.setTj v).leaving = s.leaving := rfl
@[simp] theorem setTj_conns (v : Int) : (s.setTj v).conns = s.conns := rfl
@[simp] theorem setTj_pend (v : Int) : (s.setTj v).pend = s.pend := rfl
@[simp] theorem setTj_pendLate (v : Int) : (s.setTj v).pendLate = s.pendLate := rfl
@[simp] theorem setTj_setHere (v : Int) : (s.setTj v).setHere = s.setHere := rfl
@[simp] theorem setTj_run (v : Int) : (s.setTj v).run = s.run := rfl
@[simp] theorem setTj_wires (v : Int) : (s.setTj v).wires = s.wires := rfl
@[simp] theorem setTj_midway (v : Int) : (s.setTj v).midway = s.midway := rfl
@[simp] theorem setTj_closedView (v : Int) : (s.setTj v).closedView = s.closedView := rfl
@[simp] theorem setTj_slabs (v : Int) : (s.setTj v).slabs = s.slabs := rfl
@[simp] theorem setTj_commits (v : Int) : (s.setTj v).commits = s.commits := rfl
@[simp] theorem setTj_slabSet (v : Int) : (s.setTj v).slabSet = s.slabSet := rfl
@[simp] theorem setTj_rd (v : Int) : (s.setTj v).rd = s.rd := rfl
@[simp] theorem setTj_wr (v : Int) : (s.setTj v).wr = s.wr := rfl
@[simp] theorem setTj_front (v : Int) : (s.setTj v).front = s.front := rfl
@[simp] theorem setTj_gal (v : Int) : (s.setTj v).gal = s.gal := rfl
@[simp] theorem setTj_ren (v : Int) : (s.setTj v).ren = s.ren := rfl
@[simp] theorem setTj_spk (v : Int) : (s.setTj v).spk = s.spk := rfl
@[simp] theorem setTj_cap (v : Int) : (s.setTj v).cap = s.cap := rfl
@[simp] theorem setTj_eth (v : Int) : (s.setTj v).eth = s.eth := rfl
@[simp] theorem setTj_voice (v : Int) : (s.setTj v).voice = s.voice := rfl
@[simp] theorem setTj_bench (v : Int) : (s.setTj v).bench = s.bench := rfl
@[simp] theorem setTj_mem (v : Int) : (s.setTj v).mem = s.mem := rfl
@[simp] theorem setTj_ash (v : Int) : (s.setTj v).ash = s.ash := rfl
@[simp] theorem setTj_link (v : Int) : (s.setTj v).link = s.link := rfl
@[simp] theorem setTj_pair (v : Int) : (s.setTj v).pair = s.pair := rfl
@[simp] theorem setTj_faults (v : Int) : (s.setTj v).faults = s.faults := rfl
@[simp] theorem setTj_power (v : Int) : (s.setTj v).power = { s.power with tj := v } := rfl
@[simp] theorem setTj_gpio (v : Int) : (s.setTj v).gpio = s.gpio := rfl
@[simp] theorem setTj_jtag (v : Int) : (s.setTj v).jtag = s.jtag := rfl

/-! `setPower` -/

@[simp] theorem setPower_pending (p : Power) : (s.setPower p).pending = s.pending := rfl
@[simp] theorem setPower_free (p : Power) : (s.setPower p).free = s.free := rfl
@[simp] theorem setPower_sent (p : Power) : (s.setPower p).sent = s.sent := rfl
@[simp] theorem setPower_id (p : Power) : (s.setPower p).id = s.id := rfl
@[simp] theorem setPower_mbx (p : Power) : (s.setPower p).mbx = s.mbx := rfl
@[simp] theorem setPower_deferred (p : Power) : (s.setPower p).deferred = s.deferred := rfl
@[simp] theorem setPower_boot (p : Power) : (s.setPower p).boot = s.boot := rfl
@[simp] theorem setPower_evq (p : Power) : (s.setPower p).evq = s.evq := rfl
@[simp] theorem setPower_time (p : Power) : (s.setPower p).time = s.time := rfl
@[simp] theorem setPower_nodes (p : Power) : (s.setPower p).nodes = s.nodes := rfl
@[simp] theorem setPower_leaving (p : Power) : (s.setPower p).leaving = s.leaving := rfl
@[simp] theorem setPower_conns (p : Power) : (s.setPower p).conns = s.conns := rfl
@[simp] theorem setPower_pend (p : Power) : (s.setPower p).pend = s.pend := rfl
@[simp] theorem setPower_pendLate (p : Power) : (s.setPower p).pendLate = s.pendLate := rfl
@[simp] theorem setPower_setHere (p : Power) : (s.setPower p).setHere = s.setHere := rfl
@[simp] theorem setPower_run (p : Power) : (s.setPower p).run = s.run := rfl
@[simp] theorem setPower_wires (p : Power) : (s.setPower p).wires = s.wires := rfl
@[simp] theorem setPower_midway (p : Power) : (s.setPower p).midway = s.midway := rfl
@[simp] theorem setPower_closedView (p : Power) : (s.setPower p).closedView = s.closedView := rfl
@[simp] theorem setPower_slabs (p : Power) : (s.setPower p).slabs = s.slabs := rfl
@[simp] theorem setPower_commits (p : Power) : (s.setPower p).commits = s.commits := rfl
@[simp] theorem setPower_slabSet (p : Power) : (s.setPower p).slabSet = s.slabSet := rfl
@[simp] theorem setPower_rd (p : Power) : (s.setPower p).rd = s.rd := rfl
@[simp] theorem setPower_wr (p : Power) : (s.setPower p).wr = s.wr := rfl
@[simp] theorem setPower_front (p : Power) : (s.setPower p).front = s.front := rfl
@[simp] theorem setPower_gal (p : Power) : (s.setPower p).gal = s.gal := rfl
@[simp] theorem setPower_ren (p : Power) : (s.setPower p).ren = s.ren := rfl
@[simp] theorem setPower_spk (p : Power) : (s.setPower p).spk = s.spk := rfl
@[simp] theorem setPower_cap (p : Power) : (s.setPower p).cap = s.cap := rfl
@[simp] theorem setPower_eth (p : Power) : (s.setPower p).eth = s.eth := rfl
@[simp] theorem setPower_voice (p : Power) : (s.setPower p).voice = s.voice := rfl
@[simp] theorem setPower_bench (p : Power) : (s.setPower p).bench = s.bench := rfl
@[simp] theorem setPower_mem (p : Power) : (s.setPower p).mem = s.mem := rfl
@[simp] theorem setPower_ash (p : Power) : (s.setPower p).ash = s.ash := rfl
@[simp] theorem setPower_link (p : Power) : (s.setPower p).link = s.link := rfl
@[simp] theorem setPower_pair (p : Power) : (s.setPower p).pair = s.pair := rfl
@[simp] theorem setPower_faults (p : Power) : (s.setPower p).faults = s.faults := rfl
@[simp] theorem setPower_power (p : Power) : (s.setPower p).power = p := rfl
@[simp] theorem setPower_gpio (p : Power) : (s.setPower p).gpio = s.gpio := rfl
@[simp] theorem setPower_jtag (p : Power) : (s.setPower p).jtag = s.jtag := rfl

/-! `setBoot` -/

@[simp] theorem setBoot_pending (b : Boot) : (s.setBoot b).pending = s.pending := rfl
@[simp] theorem setBoot_free (b : Boot) : (s.setBoot b).free = s.free := rfl
@[simp] theorem setBoot_sent (b : Boot) : (s.setBoot b).sent = s.sent := rfl
@[simp] theorem setBoot_id (b : Boot) : (s.setBoot b).id = s.id := rfl
@[simp] theorem setBoot_mbx (b : Boot) : (s.setBoot b).mbx = s.mbx := rfl
@[simp] theorem setBoot_deferred (b : Boot) : (s.setBoot b).deferred = s.deferred := rfl
@[simp] theorem setBoot_boot (b : Boot) : (s.setBoot b).boot = b := rfl
@[simp] theorem setBoot_evq (b : Boot) : (s.setBoot b).evq = s.evq := rfl
@[simp] theorem setBoot_time (b : Boot) : (s.setBoot b).time = s.time := rfl
@[simp] theorem setBoot_nodes (b : Boot) : (s.setBoot b).nodes = s.nodes := rfl
@[simp] theorem setBoot_leaving (b : Boot) : (s.setBoot b).leaving = s.leaving := rfl
@[simp] theorem setBoot_conns (b : Boot) : (s.setBoot b).conns = s.conns := rfl
@[simp] theorem setBoot_pend (b : Boot) : (s.setBoot b).pend = s.pend := rfl
@[simp] theorem setBoot_pendLate (b : Boot) : (s.setBoot b).pendLate = s.pendLate := rfl
@[simp] theorem setBoot_setHere (b : Boot) : (s.setBoot b).setHere = s.setHere := rfl
@[simp] theorem setBoot_run (b : Boot) : (s.setBoot b).run = s.run := rfl
@[simp] theorem setBoot_wires (b : Boot) : (s.setBoot b).wires = s.wires := rfl
@[simp] theorem setBoot_midway (b : Boot) : (s.setBoot b).midway = s.midway := rfl
@[simp] theorem setBoot_closedView (b : Boot) : (s.setBoot b).closedView = s.closedView := rfl
@[simp] theorem setBoot_slabs (b : Boot) : (s.setBoot b).slabs = s.slabs := rfl
@[simp] theorem setBoot_commits (b : Boot) : (s.setBoot b).commits = s.commits := rfl
@[simp] theorem setBoot_slabSet (b : Boot) : (s.setBoot b).slabSet = s.slabSet := rfl
@[simp] theorem setBoot_rd (b : Boot) : (s.setBoot b).rd = s.rd := rfl
@[simp] theorem setBoot_wr (b : Boot) : (s.setBoot b).wr = s.wr := rfl
@[simp] theorem setBoot_front (b : Boot) : (s.setBoot b).front = s.front := rfl
@[simp] theorem setBoot_gal (b : Boot) : (s.setBoot b).gal = s.gal := rfl
@[simp] theorem setBoot_ren (b : Boot) : (s.setBoot b).ren = s.ren := rfl
@[simp] theorem setBoot_spk (b : Boot) : (s.setBoot b).spk = s.spk := rfl
@[simp] theorem setBoot_cap (b : Boot) : (s.setBoot b).cap = s.cap := rfl
@[simp] theorem setBoot_eth (b : Boot) : (s.setBoot b).eth = s.eth := rfl
@[simp] theorem setBoot_voice (b : Boot) : (s.setBoot b).voice = s.voice := rfl
@[simp] theorem setBoot_bench (b : Boot) : (s.setBoot b).bench = s.bench := rfl
@[simp] theorem setBoot_mem (b : Boot) : (s.setBoot b).mem = s.mem := rfl
@[simp] theorem setBoot_ash (b : Boot) : (s.setBoot b).ash = s.ash := rfl
@[simp] theorem setBoot_link (b : Boot) : (s.setBoot b).link = s.link := rfl
@[simp] theorem setBoot_pair (b : Boot) : (s.setBoot b).pair = s.pair := rfl
@[simp] theorem setBoot_faults (b : Boot) : (s.setBoot b).faults = s.faults := rfl
@[simp] theorem setBoot_power (b : Boot) : (s.setBoot b).power = s.power := rfl
@[simp] theorem setBoot_gpio (b : Boot) : (s.setBoot b).gpio = s.gpio := rfl
@[simp] theorem setBoot_jtag (b : Boot) : (s.setBoot b).jtag = s.jtag := rfl

/-! `setSlot` -/

@[simp] theorem setSlot_pending (k : Nat) (x : KeySlot) : (s.setSlot k x).pending = s.pending := rfl
@[simp] theorem setSlot_free (k : Nat) (x : KeySlot) : (s.setSlot k x).free = s.free := rfl
@[simp] theorem setSlot_sent (k : Nat) (x : KeySlot) : (s.setSlot k x).sent = s.sent := rfl
@[simp] theorem setSlot_id (k : Nat) (x : KeySlot) : (s.setSlot k x).id = s.id := rfl
@[simp] theorem setSlot_mbx (k : Nat) (x : KeySlot) : (s.setSlot k x).mbx = s.mbx := rfl
@[simp] theorem setSlot_deferred (k : Nat) (x : KeySlot) : (s.setSlot k x).deferred = s.deferred := rfl
@[simp] theorem setSlot_evq (k : Nat) (x : KeySlot) : (s.setSlot k x).evq = s.evq := rfl
@[simp] theorem setSlot_time (k : Nat) (x : KeySlot) : (s.setSlot k x).time = s.time := rfl
@[simp] theorem setSlot_nodes (k : Nat) (x : KeySlot) : (s.setSlot k x).nodes = s.nodes := rfl
@[simp] theorem setSlot_leaving (k : Nat) (x : KeySlot) : (s.setSlot k x).leaving = s.leaving := rfl
@[simp] theorem setSlot_conns (k : Nat) (x : KeySlot) : (s.setSlot k x).conns = s.conns := rfl
@[simp] theorem setSlot_pend (k : Nat) (x : KeySlot) : (s.setSlot k x).pend = s.pend := rfl
@[simp] theorem setSlot_pendLate (k : Nat) (x : KeySlot) : (s.setSlot k x).pendLate = s.pendLate := rfl
@[simp] theorem setSlot_setHere (k : Nat) (x : KeySlot) : (s.setSlot k x).setHere = s.setHere := rfl
@[simp] theorem setSlot_run (k : Nat) (x : KeySlot) : (s.setSlot k x).run = s.run := rfl
@[simp] theorem setSlot_wires (k : Nat) (x : KeySlot) : (s.setSlot k x).wires = s.wires := rfl
@[simp] theorem setSlot_midway (k : Nat) (x : KeySlot) : (s.setSlot k x).midway = s.midway := rfl
@[simp] theorem setSlot_closedView (k : Nat) (x : KeySlot) : (s.setSlot k x).closedView = s.closedView := rfl
@[simp] theorem setSlot_slabs (k : Nat) (x : KeySlot) : (s.setSlot k x).slabs = s.slabs := rfl
@[simp] theorem setSlot_commits (k : Nat) (x : KeySlot) : (s.setSlot k x).commits = s.commits := rfl
@[simp] theorem setSlot_slabSet (k : Nat) (x : KeySlot) : (s.setSlot k x).slabSet = s.slabSet := rfl
@[simp] theorem setSlot_rd (k : Nat) (x : KeySlot) : (s.setSlot k x).rd = s.rd := rfl
@[simp] theorem setSlot_wr (k : Nat) (x : KeySlot) : (s.setSlot k x).wr = s.wr := rfl
@[simp] theorem setSlot_front (k : Nat) (x : KeySlot) : (s.setSlot k x).front = s.front := rfl
@[simp] theorem setSlot_gal (k : Nat) (x : KeySlot) : (s.setSlot k x).gal = s.gal := rfl
@[simp] theorem setSlot_ren (k : Nat) (x : KeySlot) : (s.setSlot k x).ren = s.ren := rfl
@[simp] theorem setSlot_spk (k : Nat) (x : KeySlot) : (s.setSlot k x).spk = s.spk := rfl
@[simp] theorem setSlot_cap (k : Nat) (x : KeySlot) : (s.setSlot k x).cap = s.cap := rfl
@[simp] theorem setSlot_eth (k : Nat) (x : KeySlot) : (s.setSlot k x).eth = s.eth := rfl
@[simp] theorem setSlot_voice (k : Nat) (x : KeySlot) : (s.setSlot k x).voice = s.voice := rfl
@[simp] theorem setSlot_bench (k : Nat) (x : KeySlot) : (s.setSlot k x).bench = s.bench := rfl
@[simp] theorem setSlot_mem (k : Nat) (x : KeySlot) : (s.setSlot k x).mem = s.mem := rfl
@[simp] theorem setSlot_ash (k : Nat) (x : KeySlot) : (s.setSlot k x).ash = s.ash := rfl
@[simp] theorem setSlot_link (k : Nat) (x : KeySlot) : (s.setSlot k x).link = s.link := rfl
@[simp] theorem setSlot_pair (k : Nat) (x : KeySlot) : (s.setSlot k x).pair = s.pair := rfl
@[simp] theorem setSlot_faults (k : Nat) (x : KeySlot) : (s.setSlot k x).faults = s.faults := rfl
@[simp] theorem setSlot_power (k : Nat) (x : KeySlot) : (s.setSlot k x).power = s.power := rfl
@[simp] theorem setSlot_gpio (k : Nat) (x : KeySlot) : (s.setSlot k x).gpio = s.gpio := rfl
@[simp] theorem setSlot_jtag (k : Nat) (x : KeySlot) : (s.setSlot k x).jtag = s.jtag := rfl

/-! `setFaults` -/

@[simp] theorem setFaults_pending (f : Faults) : (s.setFaults f).pending = s.pending := rfl
@[simp] theorem setFaults_free (f : Faults) : (s.setFaults f).free = s.free := rfl
@[simp] theorem setFaults_sent (f : Faults) : (s.setFaults f).sent = s.sent := rfl
@[simp] theorem setFaults_id (f : Faults) : (s.setFaults f).id = s.id := rfl
@[simp] theorem setFaults_mbx (f : Faults) : (s.setFaults f).mbx = s.mbx := rfl
@[simp] theorem setFaults_deferred (f : Faults) : (s.setFaults f).deferred = s.deferred := rfl
@[simp] theorem setFaults_boot (f : Faults) : (s.setFaults f).boot = s.boot := rfl
@[simp] theorem setFaults_evq (f : Faults) : (s.setFaults f).evq = s.evq := rfl
@[simp] theorem setFaults_time (f : Faults) : (s.setFaults f).time = s.time := rfl
@[simp] theorem setFaults_nodes (f : Faults) : (s.setFaults f).nodes = s.nodes := rfl
@[simp] theorem setFaults_leaving (f : Faults) : (s.setFaults f).leaving = s.leaving := rfl
@[simp] theorem setFaults_conns (f : Faults) : (s.setFaults f).conns = s.conns := rfl
@[simp] theorem setFaults_pend (f : Faults) : (s.setFaults f).pend = s.pend := rfl
@[simp] theorem setFaults_pendLate (f : Faults) : (s.setFaults f).pendLate = s.pendLate := rfl
@[simp] theorem setFaults_setHere (f : Faults) : (s.setFaults f).setHere = s.setHere := rfl
@[simp] theorem setFaults_run (f : Faults) : (s.setFaults f).run = s.run := rfl
@[simp] theorem setFaults_wires (f : Faults) : (s.setFaults f).wires = s.wires := rfl
@[simp] theorem setFaults_midway (f : Faults) : (s.setFaults f).midway = s.midway := rfl
@[simp] theorem setFaults_closedView (f : Faults) : (s.setFaults f).closedView = s.closedView := rfl
@[simp] theorem setFaults_slabs (f : Faults) : (s.setFaults f).slabs = s.slabs := rfl
@[simp] theorem setFaults_commits (f : Faults) : (s.setFaults f).commits = s.commits := rfl
@[simp] theorem setFaults_slabSet (f : Faults) : (s.setFaults f).slabSet = s.slabSet := rfl
@[simp] theorem setFaults_rd (f : Faults) : (s.setFaults f).rd = s.rd := rfl
@[simp] theorem setFaults_wr (f : Faults) : (s.setFaults f).wr = s.wr := rfl
@[simp] theorem setFaults_front (f : Faults) : (s.setFaults f).front = s.front := rfl
@[simp] theorem setFaults_gal (f : Faults) : (s.setFaults f).gal = s.gal := rfl
@[simp] theorem setFaults_ren (f : Faults) : (s.setFaults f).ren = s.ren := rfl
@[simp] theorem setFaults_spk (f : Faults) : (s.setFaults f).spk = s.spk := rfl
@[simp] theorem setFaults_cap (f : Faults) : (s.setFaults f).cap = s.cap := rfl
@[simp] theorem setFaults_eth (f : Faults) : (s.setFaults f).eth = s.eth := rfl
@[simp] theorem setFaults_voice (f : Faults) : (s.setFaults f).voice = s.voice := rfl
@[simp] theorem setFaults_bench (f : Faults) : (s.setFaults f).bench = s.bench := rfl
@[simp] theorem setFaults_mem (f : Faults) : (s.setFaults f).mem = s.mem := rfl
@[simp] theorem setFaults_ash (f : Faults) : (s.setFaults f).ash = s.ash := rfl
@[simp] theorem setFaults_link (f : Faults) : (s.setFaults f).link = s.link := rfl
@[simp] theorem setFaults_pair (f : Faults) : (s.setFaults f).pair = s.pair := rfl
@[simp] theorem setFaults_faults (f : Faults) : (s.setFaults f).faults = f := rfl
@[simp] theorem setFaults_power (f : Faults) : (s.setFaults f).power = s.power := rfl
@[simp] theorem setFaults_gpio (f : Faults) : (s.setFaults f).gpio = s.gpio := rfl
@[simp] theorem setFaults_jtag (f : Faults) : (s.setFaults f).jtag = s.jtag := rfl

/-! `setLink` -/

@[simp] theorem setLink_pending (l : Link) : (s.setLink l).pending = s.pending := rfl
@[simp] theorem setLink_free (l : Link) : (s.setLink l).free = s.free := rfl
@[simp] theorem setLink_sent (l : Link) : (s.setLink l).sent = s.sent := rfl
@[simp] theorem setLink_id (l : Link) : (s.setLink l).id = s.id := rfl
@[simp] theorem setLink_mbx (l : Link) : (s.setLink l).mbx = s.mbx := rfl
@[simp] theorem setLink_deferred (l : Link) : (s.setLink l).deferred = s.deferred := rfl
@[simp] theorem setLink_boot (l : Link) : (s.setLink l).boot = s.boot := rfl
@[simp] theorem setLink_evq (l : Link) : (s.setLink l).evq = s.evq := rfl
@[simp] theorem setLink_time (l : Link) : (s.setLink l).time = s.time := rfl
@[simp] theorem setLink_nodes (l : Link) : (s.setLink l).nodes = s.nodes := rfl
@[simp] theorem setLink_leaving (l : Link) : (s.setLink l).leaving = s.leaving := rfl
@[simp] theorem setLink_conns (l : Link) : (s.setLink l).conns = s.conns := rfl
@[simp] theorem setLink_pend (l : Link) : (s.setLink l).pend = s.pend := rfl
@[simp] theorem setLink_pendLate (l : Link) : (s.setLink l).pendLate = s.pendLate := rfl
@[simp] theorem setLink_setHere (l : Link) : (s.setLink l).setHere = s.setHere := rfl
@[simp] theorem setLink_run (l : Link) : (s.setLink l).run = s.run := rfl
@[simp] theorem setLink_wires (l : Link) : (s.setLink l).wires = s.wires := rfl
@[simp] theorem setLink_midway (l : Link) : (s.setLink l).midway = s.midway := rfl
@[simp] theorem setLink_closedView (l : Link) : (s.setLink l).closedView = s.closedView := rfl
@[simp] theorem setLink_slabs (l : Link) : (s.setLink l).slabs = s.slabs := rfl
@[simp] theorem setLink_commits (l : Link) : (s.setLink l).commits = s.commits := rfl
@[simp] theorem setLink_slabSet (l : Link) : (s.setLink l).slabSet = s.slabSet := rfl
@[simp] theorem setLink_rd (l : Link) : (s.setLink l).rd = s.rd := rfl
@[simp] theorem setLink_wr (l : Link) : (s.setLink l).wr = s.wr := rfl
@[simp] theorem setLink_front (l : Link) : (s.setLink l).front = s.front := rfl
@[simp] theorem setLink_gal (l : Link) : (s.setLink l).gal = s.gal := rfl
@[simp] theorem setLink_ren (l : Link) : (s.setLink l).ren = s.ren := rfl
@[simp] theorem setLink_spk (l : Link) : (s.setLink l).spk = s.spk := rfl
@[simp] theorem setLink_cap (l : Link) : (s.setLink l).cap = s.cap := rfl
@[simp] theorem setLink_eth (l : Link) : (s.setLink l).eth = s.eth := rfl
@[simp] theorem setLink_voice (l : Link) : (s.setLink l).voice = s.voice := rfl
@[simp] theorem setLink_bench (l : Link) : (s.setLink l).bench = s.bench := rfl
@[simp] theorem setLink_mem (l : Link) : (s.setLink l).mem = s.mem := rfl
@[simp] theorem setLink_ash (l : Link) : (s.setLink l).ash = s.ash := rfl
@[simp] theorem setLink_link (l : Link) : (s.setLink l).link = l := rfl
@[simp] theorem setLink_pair (l : Link) : (s.setLink l).pair = s.pair := rfl
@[simp] theorem setLink_faults (l : Link) : (s.setLink l).faults = s.faults := rfl
@[simp] theorem setLink_power (l : Link) : (s.setLink l).power = s.power := rfl
@[simp] theorem setLink_gpio (l : Link) : (s.setLink l).gpio = s.gpio := rfl
@[simp] theorem setLink_jtag (l : Link) : (s.setLink l).jtag = s.jtag := rfl

/-! `setTdm` -/

@[simp] theorem setTdm_pending (t : TdmPort) : (s.setTdm t).pending = s.pending := rfl
@[simp] theorem setTdm_free (t : TdmPort) : (s.setTdm t).free = s.free := rfl
@[simp] theorem setTdm_sent (t : TdmPort) : (s.setTdm t).sent = s.sent := rfl
@[simp] theorem setTdm_id (t : TdmPort) : (s.setTdm t).id = s.id := rfl
@[simp] theorem setTdm_mbx (t : TdmPort) : (s.setTdm t).mbx = s.mbx := rfl
@[simp] theorem setTdm_deferred (t : TdmPort) : (s.setTdm t).deferred = s.deferred := rfl
@[simp] theorem setTdm_boot (t : TdmPort) : (s.setTdm t).boot = s.boot := rfl
@[simp] theorem setTdm_evq (t : TdmPort) : (s.setTdm t).evq = s.evq := rfl
@[simp] theorem setTdm_time (t : TdmPort) : (s.setTdm t).time = s.time := rfl
@[simp] theorem setTdm_nodes (t : TdmPort) : (s.setTdm t).nodes = s.nodes := rfl
@[simp] theorem setTdm_leaving (t : TdmPort) : (s.setTdm t).leaving = s.leaving := rfl
@[simp] theorem setTdm_conns (t : TdmPort) : (s.setTdm t).conns = s.conns := rfl
@[simp] theorem setTdm_pend (t : TdmPort) : (s.setTdm t).pend = s.pend := rfl
@[simp] theorem setTdm_pendLate (t : TdmPort) : (s.setTdm t).pendLate = s.pendLate := rfl
@[simp] theorem setTdm_setHere (t : TdmPort) : (s.setTdm t).setHere = s.setHere := rfl
@[simp] theorem setTdm_run (t : TdmPort) : (s.setTdm t).run = s.run := rfl
@[simp] theorem setTdm_wires (t : TdmPort) : (s.setTdm t).wires = s.wires := rfl
@[simp] theorem setTdm_midway (t : TdmPort) : (s.setTdm t).midway = s.midway := rfl
@[simp] theorem setTdm_closedView (t : TdmPort) : (s.setTdm t).closedView = s.closedView := rfl
@[simp] theorem setTdm_slabs (t : TdmPort) : (s.setTdm t).slabs = s.slabs := rfl
@[simp] theorem setTdm_commits (t : TdmPort) : (s.setTdm t).commits = s.commits := rfl
@[simp] theorem setTdm_slabSet (t : TdmPort) : (s.setTdm t).slabSet = s.slabSet := rfl
@[simp] theorem setTdm_rd (t : TdmPort) : (s.setTdm t).rd = s.rd := rfl
@[simp] theorem setTdm_wr (t : TdmPort) : (s.setTdm t).wr = s.wr := rfl
@[simp] theorem setTdm_gal (t : TdmPort) : (s.setTdm t).gal = s.gal := rfl
@[simp] theorem setTdm_ren (t : TdmPort) : (s.setTdm t).ren = s.ren := rfl
@[simp] theorem setTdm_spk (t : TdmPort) : (s.setTdm t).spk = s.spk := rfl
@[simp] theorem setTdm_cap (t : TdmPort) : (s.setTdm t).cap = s.cap := rfl
@[simp] theorem setTdm_eth (t : TdmPort) : (s.setTdm t).eth = s.eth := rfl
@[simp] theorem setTdm_voice (t : TdmPort) : (s.setTdm t).voice = s.voice := rfl
@[simp] theorem setTdm_bench (t : TdmPort) : (s.setTdm t).bench = s.bench := rfl
@[simp] theorem setTdm_mem (t : TdmPort) : (s.setTdm t).mem = s.mem := rfl
@[simp] theorem setTdm_ash (t : TdmPort) : (s.setTdm t).ash = s.ash := rfl
@[simp] theorem setTdm_link (t : TdmPort) : (s.setTdm t).link = s.link := rfl
@[simp] theorem setTdm_pair (t : TdmPort) : (s.setTdm t).pair = s.pair := rfl
@[simp] theorem setTdm_faults (t : TdmPort) : (s.setTdm t).faults = s.faults := rfl
@[simp] theorem setTdm_power (t : TdmPort) : (s.setTdm t).power = s.power := rfl
@[simp] theorem setTdm_gpio (t : TdmPort) : (s.setTdm t).gpio = s.gpio := rfl
@[simp] theorem setTdm_jtag (t : TdmPort) : (s.setTdm t).jtag = s.jtag := rfl

/-! `setMic` -/

@[simp] theorem setMic_pending (x : Mic) : (s.setMic x).pending = s.pending := rfl
@[simp] theorem setMic_free (x : Mic) : (s.setMic x).free = s.free := rfl
@[simp] theorem setMic_sent (x : Mic) : (s.setMic x).sent = s.sent := rfl
@[simp] theorem setMic_id (x : Mic) : (s.setMic x).id = s.id := rfl
@[simp] theorem setMic_mbx (x : Mic) : (s.setMic x).mbx = s.mbx := rfl
@[simp] theorem setMic_deferred (x : Mic) : (s.setMic x).deferred = s.deferred := rfl
@[simp] theorem setMic_boot (x : Mic) : (s.setMic x).boot = s.boot := rfl
@[simp] theorem setMic_evq (x : Mic) : (s.setMic x).evq = s.evq := rfl
@[simp] theorem setMic_time (x : Mic) : (s.setMic x).time = s.time := rfl
@[simp] theorem setMic_nodes (x : Mic) : (s.setMic x).nodes = s.nodes := rfl
@[simp] theorem setMic_leaving (x : Mic) : (s.setMic x).leaving = s.leaving := rfl
@[simp] theorem setMic_conns (x : Mic) : (s.setMic x).conns = s.conns := rfl
@[simp] theorem setMic_pend (x : Mic) : (s.setMic x).pend = s.pend := rfl
@[simp] theorem setMic_pendLate (x : Mic) : (s.setMic x).pendLate = s.pendLate := rfl
@[simp] theorem setMic_setHere (x : Mic) : (s.setMic x).setHere = s.setHere := rfl
@[simp] theorem setMic_run (x : Mic) : (s.setMic x).run = s.run := rfl
@[simp] theorem setMic_wires (x : Mic) : (s.setMic x).wires = s.wires := rfl
@[simp] theorem setMic_midway (x : Mic) : (s.setMic x).midway = s.midway := rfl
@[simp] theorem setMic_closedView (x : Mic) : (s.setMic x).closedView = s.closedView := rfl
@[simp] theorem setMic_slabs (x : Mic) : (s.setMic x).slabs = s.slabs := rfl
@[simp] theorem setMic_commits (x : Mic) : (s.setMic x).commits = s.commits := rfl
@[simp] theorem setMic_slabSet (x : Mic) : (s.setMic x).slabSet = s.slabSet := rfl
@[simp] theorem setMic_rd (x : Mic) : (s.setMic x).rd = s.rd := rfl
@[simp] theorem setMic_wr (x : Mic) : (s.setMic x).wr = s.wr := rfl
@[simp] theorem setMic_gal (x : Mic) : (s.setMic x).gal = s.gal := rfl
@[simp] theorem setMic_ren (x : Mic) : (s.setMic x).ren = s.ren := rfl
@[simp] theorem setMic_spk (x : Mic) : (s.setMic x).spk = s.spk := rfl
@[simp] theorem setMic_cap (x : Mic) : (s.setMic x).cap = s.cap := rfl
@[simp] theorem setMic_eth (x : Mic) : (s.setMic x).eth = s.eth := rfl
@[simp] theorem setMic_voice (x : Mic) : (s.setMic x).voice = s.voice := rfl
@[simp] theorem setMic_bench (x : Mic) : (s.setMic x).bench = s.bench := rfl
@[simp] theorem setMic_mem (x : Mic) : (s.setMic x).mem = s.mem := rfl
@[simp] theorem setMic_ash (x : Mic) : (s.setMic x).ash = s.ash := rfl
@[simp] theorem setMic_link (x : Mic) : (s.setMic x).link = s.link := rfl
@[simp] theorem setMic_pair (x : Mic) : (s.setMic x).pair = s.pair := rfl
@[simp] theorem setMic_faults (x : Mic) : (s.setMic x).faults = s.faults := rfl
@[simp] theorem setMic_power (x : Mic) : (s.setMic x).power = s.power := rfl
@[simp] theorem setMic_gpio (x : Mic) : (s.setMic x).gpio = s.gpio := rfl
@[simp] theorem setMic_jtag (x : Mic) : (s.setMic x).jtag = s.jtag := rfl

/-! `setGal` -/

@[simp] theorem setGal_pending (g : Gallery) : (s.setGal g).pending = s.pending := rfl
@[simp] theorem setGal_free (g : Gallery) : (s.setGal g).free = s.free := rfl
@[simp] theorem setGal_sent (g : Gallery) : (s.setGal g).sent = s.sent := rfl
@[simp] theorem setGal_id (g : Gallery) : (s.setGal g).id = s.id := rfl
@[simp] theorem setGal_mbx (g : Gallery) : (s.setGal g).mbx = s.mbx := rfl
@[simp] theorem setGal_deferred (g : Gallery) : (s.setGal g).deferred = s.deferred := rfl
@[simp] theorem setGal_boot (g : Gallery) : (s.setGal g).boot = s.boot := rfl
@[simp] theorem setGal_evq (g : Gallery) : (s.setGal g).evq = s.evq := rfl
@[simp] theorem setGal_time (g : Gallery) : (s.setGal g).time = s.time := rfl
@[simp] theorem setGal_nodes (g : Gallery) : (s.setGal g).nodes = s.nodes := rfl
@[simp] theorem setGal_leaving (g : Gallery) : (s.setGal g).leaving = s.leaving := rfl
@[simp] theorem setGal_conns (g : Gallery) : (s.setGal g).conns = s.conns := rfl
@[simp] theorem setGal_pend (g : Gallery) : (s.setGal g).pend = s.pend := rfl
@[simp] theorem setGal_pendLate (g : Gallery) : (s.setGal g).pendLate = s.pendLate := rfl
@[simp] theorem setGal_setHere (g : Gallery) : (s.setGal g).setHere = s.setHere := rfl
@[simp] theorem setGal_run (g : Gallery) : (s.setGal g).run = s.run := rfl
@[simp] theorem setGal_wires (g : Gallery) : (s.setGal g).wires = s.wires := rfl
@[simp] theorem setGal_midway (g : Gallery) : (s.setGal g).midway = s.midway := rfl
@[simp] theorem setGal_closedView (g : Gallery) : (s.setGal g).closedView = s.closedView := rfl
@[simp] theorem setGal_slabs (g : Gallery) : (s.setGal g).slabs = s.slabs := rfl
@[simp] theorem setGal_commits (g : Gallery) : (s.setGal g).commits = s.commits := rfl
@[simp] theorem setGal_slabSet (g : Gallery) : (s.setGal g).slabSet = s.slabSet := rfl
@[simp] theorem setGal_rd (g : Gallery) : (s.setGal g).rd = s.rd := rfl
@[simp] theorem setGal_wr (g : Gallery) : (s.setGal g).wr = s.wr := rfl
@[simp] theorem setGal_front (g : Gallery) : (s.setGal g).front = s.front := rfl
@[simp] theorem setGal_gal (g : Gallery) : (s.setGal g).gal = g := rfl
@[simp] theorem setGal_ren (g : Gallery) : (s.setGal g).ren = s.ren := rfl
@[simp] theorem setGal_spk (g : Gallery) : (s.setGal g).spk = s.spk := rfl
@[simp] theorem setGal_cap (g : Gallery) : (s.setGal g).cap = s.cap := rfl
@[simp] theorem setGal_eth (g : Gallery) : (s.setGal g).eth = s.eth := rfl
@[simp] theorem setGal_voice (g : Gallery) : (s.setGal g).voice = s.voice := rfl
@[simp] theorem setGal_bench (g : Gallery) : (s.setGal g).bench = s.bench := rfl
@[simp] theorem setGal_mem (g : Gallery) : (s.setGal g).mem = s.mem := rfl
@[simp] theorem setGal_ash (g : Gallery) : (s.setGal g).ash = s.ash := rfl
@[simp] theorem setGal_link (g : Gallery) : (s.setGal g).link = s.link := rfl
@[simp] theorem setGal_pair (g : Gallery) : (s.setGal g).pair = s.pair := rfl
@[simp] theorem setGal_faults (g : Gallery) : (s.setGal g).faults = s.faults := rfl
@[simp] theorem setGal_power (g : Gallery) : (s.setGal g).power = s.power := rfl
@[simp] theorem setGal_gpio (g : Gallery) : (s.setGal g).gpio = s.gpio := rfl
@[simp] theorem setGal_jtag (g : Gallery) : (s.setGal g).jtag = s.jtag := rfl

/-! `setGalOut` -/

@[simp] theorem setGalOut_pending (x : GalOut) : (s.setGalOut x).pending = s.pending := rfl
@[simp] theorem setGalOut_free (x : GalOut) : (s.setGalOut x).free = s.free := rfl
@[simp] theorem setGalOut_sent (x : GalOut) : (s.setGalOut x).sent = s.sent := rfl
@[simp] theorem setGalOut_id (x : GalOut) : (s.setGalOut x).id = s.id := rfl
@[simp] theorem setGalOut_mbx (x : GalOut) : (s.setGalOut x).mbx = s.mbx := rfl
@[simp] theorem setGalOut_deferred (x : GalOut) : (s.setGalOut x).deferred = s.deferred := rfl
@[simp] theorem setGalOut_boot (x : GalOut) : (s.setGalOut x).boot = s.boot := rfl
@[simp] theorem setGalOut_evq (x : GalOut) : (s.setGalOut x).evq = s.evq := rfl
@[simp] theorem setGalOut_time (x : GalOut) : (s.setGalOut x).time = s.time := rfl
@[simp] theorem setGalOut_nodes (x : GalOut) : (s.setGalOut x).nodes = s.nodes := rfl
@[simp] theorem setGalOut_leaving (x : GalOut) : (s.setGalOut x).leaving = s.leaving := rfl
@[simp] theorem setGalOut_conns (x : GalOut) : (s.setGalOut x).conns = s.conns := rfl
@[simp] theorem setGalOut_pend (x : GalOut) : (s.setGalOut x).pend = s.pend := rfl
@[simp] theorem setGalOut_pendLate (x : GalOut) : (s.setGalOut x).pendLate = s.pendLate := rfl
@[simp] theorem setGalOut_setHere (x : GalOut) : (s.setGalOut x).setHere = s.setHere := rfl
@[simp] theorem setGalOut_run (x : GalOut) : (s.setGalOut x).run = s.run := rfl
@[simp] theorem setGalOut_wires (x : GalOut) : (s.setGalOut x).wires = s.wires := rfl
@[simp] theorem setGalOut_midway (x : GalOut) : (s.setGalOut x).midway = s.midway := rfl
@[simp] theorem setGalOut_closedView (x : GalOut) : (s.setGalOut x).closedView = s.closedView := rfl
@[simp] theorem setGalOut_slabs (x : GalOut) : (s.setGalOut x).slabs = s.slabs := rfl
@[simp] theorem setGalOut_commits (x : GalOut) : (s.setGalOut x).commits = s.commits := rfl
@[simp] theorem setGalOut_slabSet (x : GalOut) : (s.setGalOut x).slabSet = s.slabSet := rfl
@[simp] theorem setGalOut_rd (x : GalOut) : (s.setGalOut x).rd = s.rd := rfl
@[simp] theorem setGalOut_wr (x : GalOut) : (s.setGalOut x).wr = s.wr := rfl
@[simp] theorem setGalOut_front (x : GalOut) : (s.setGalOut x).front = s.front := rfl
@[simp] theorem setGalOut_ren (x : GalOut) : (s.setGalOut x).ren = s.ren := rfl
@[simp] theorem setGalOut_spk (x : GalOut) : (s.setGalOut x).spk = s.spk := rfl
@[simp] theorem setGalOut_cap (x : GalOut) : (s.setGalOut x).cap = s.cap := rfl
@[simp] theorem setGalOut_eth (x : GalOut) : (s.setGalOut x).eth = s.eth := rfl
@[simp] theorem setGalOut_voice (x : GalOut) : (s.setGalOut x).voice = s.voice := rfl
@[simp] theorem setGalOut_bench (x : GalOut) : (s.setGalOut x).bench = s.bench := rfl
@[simp] theorem setGalOut_mem (x : GalOut) : (s.setGalOut x).mem = s.mem := rfl
@[simp] theorem setGalOut_ash (x : GalOut) : (s.setGalOut x).ash = s.ash := rfl
@[simp] theorem setGalOut_link (x : GalOut) : (s.setGalOut x).link = s.link := rfl
@[simp] theorem setGalOut_pair (x : GalOut) : (s.setGalOut x).pair = s.pair := rfl
@[simp] theorem setGalOut_faults (x : GalOut) : (s.setGalOut x).faults = s.faults := rfl
@[simp] theorem setGalOut_power (x : GalOut) : (s.setGalOut x).power = s.power := rfl
@[simp] theorem setGalOut_gpio (x : GalOut) : (s.setGalOut x).gpio = s.gpio := rfl
@[simp] theorem setGalOut_jtag (x : GalOut) : (s.setGalOut x).jtag = s.jtag := rfl

/-! `setRen` -/

@[simp] theorem setRen_pending (r : Renderer) : (s.setRen r).pending = s.pending := rfl
@[simp] theorem setRen_free (r : Renderer) : (s.setRen r).free = s.free := rfl
@[simp] theorem setRen_sent (r : Renderer) : (s.setRen r).sent = s.sent := rfl
@[simp] theorem setRen_id (r : Renderer) : (s.setRen r).id = s.id := rfl
@[simp] theorem setRen_mbx (r : Renderer) : (s.setRen r).mbx = s.mbx := rfl
@[simp] theorem setRen_deferred (r : Renderer) : (s.setRen r).deferred = s.deferred := rfl
@[simp] theorem setRen_boot (r : Renderer) : (s.setRen r).boot = s.boot := rfl
@[simp] theorem setRen_evq (r : Renderer) : (s.setRen r).evq = s.evq := rfl
@[simp] theorem setRen_time (r : Renderer) : (s.setRen r).time = s.time := rfl
@[simp] theorem setRen_nodes (r : Renderer) : (s.setRen r).nodes = s.nodes := rfl
@[simp] theorem setRen_leaving (r : Renderer) : (s.setRen r).leaving = s.leaving := rfl
@[simp] theorem setRen_conns (r : Renderer) : (s.setRen r).conns = s.conns := rfl
@[simp] theorem setRen_pend (r : Renderer) : (s.setRen r).pend = s.pend := rfl
@[simp] theorem setRen_pendLate (r : Renderer) : (s.setRen r).pendLate = s.pendLate := rfl
@[simp] theorem setRen_setHere (r : Renderer) : (s.setRen r).setHere = s.setHere := rfl
@[simp] theorem setRen_run (r : Renderer) : (s.setRen r).run = s.run := rfl
@[simp] theorem setRen_wires (r : Renderer) : (s.setRen r).wires = s.wires := rfl
@[simp] theorem setRen_midway (r : Renderer) : (s.setRen r).midway = s.midway := rfl
@[simp] theorem setRen_closedView (r : Renderer) : (s.setRen r).closedView = s.closedView := rfl
@[simp] theorem setRen_slabs (r : Renderer) : (s.setRen r).slabs = s.slabs := rfl
@[simp] theorem setRen_commits (r : Renderer) : (s.setRen r).commits = s.commits := rfl
@[simp] theorem setRen_slabSet (r : Renderer) : (s.setRen r).slabSet = s.slabSet := rfl
@[simp] theorem setRen_rd (r : Renderer) : (s.setRen r).rd = s.rd := rfl
@[simp] theorem setRen_wr (r : Renderer) : (s.setRen r).wr = s.wr := rfl
@[simp] theorem setRen_front (r : Renderer) : (s.setRen r).front = s.front := rfl
@[simp] theorem setRen_gal (r : Renderer) : (s.setRen r).gal = s.gal := rfl
@[simp] theorem setRen_ren (r : Renderer) : (s.setRen r).ren = r := rfl
@[simp] theorem setRen_spk (r : Renderer) : (s.setRen r).spk = s.spk := rfl
@[simp] theorem setRen_cap (r : Renderer) : (s.setRen r).cap = s.cap := rfl
@[simp] theorem setRen_eth (r : Renderer) : (s.setRen r).eth = s.eth := rfl
@[simp] theorem setRen_voice (r : Renderer) : (s.setRen r).voice = s.voice := rfl
@[simp] theorem setRen_bench (r : Renderer) : (s.setRen r).bench = s.bench := rfl
@[simp] theorem setRen_mem (r : Renderer) : (s.setRen r).mem = s.mem := rfl
@[simp] theorem setRen_ash (r : Renderer) : (s.setRen r).ash = s.ash := rfl
@[simp] theorem setRen_link (r : Renderer) : (s.setRen r).link = s.link := rfl
@[simp] theorem setRen_pair (r : Renderer) : (s.setRen r).pair = s.pair := rfl
@[simp] theorem setRen_faults (r : Renderer) : (s.setRen r).faults = s.faults := rfl
@[simp] theorem setRen_power (r : Renderer) : (s.setRen r).power = s.power := rfl
@[simp] theorem setRen_gpio (r : Renderer) : (s.setRen r).gpio = s.gpio := rfl
@[simp] theorem setRen_jtag (r : Renderer) : (s.setRen r).jtag = s.jtag := rfl

/-! `setObj` -/

@[simp] theorem setObj_pending (x : ObjDyn) : (s.setObj x).pending = s.pending := rfl
@[simp] theorem setObj_free (x : ObjDyn) : (s.setObj x).free = s.free := rfl
@[simp] theorem setObj_sent (x : ObjDyn) : (s.setObj x).sent = s.sent := rfl
@[simp] theorem setObj_id (x : ObjDyn) : (s.setObj x).id = s.id := rfl
@[simp] theorem setObj_mbx (x : ObjDyn) : (s.setObj x).mbx = s.mbx := rfl
@[simp] theorem setObj_deferred (x : ObjDyn) : (s.setObj x).deferred = s.deferred := rfl
@[simp] theorem setObj_boot (x : ObjDyn) : (s.setObj x).boot = s.boot := rfl
@[simp] theorem setObj_evq (x : ObjDyn) : (s.setObj x).evq = s.evq := rfl
@[simp] theorem setObj_time (x : ObjDyn) : (s.setObj x).time = s.time := rfl
@[simp] theorem setObj_nodes (x : ObjDyn) : (s.setObj x).nodes = s.nodes := rfl
@[simp] theorem setObj_leaving (x : ObjDyn) : (s.setObj x).leaving = s.leaving := rfl
@[simp] theorem setObj_conns (x : ObjDyn) : (s.setObj x).conns = s.conns := rfl
@[simp] theorem setObj_pend (x : ObjDyn) : (s.setObj x).pend = s.pend := rfl
@[simp] theorem setObj_pendLate (x : ObjDyn) : (s.setObj x).pendLate = s.pendLate := rfl
@[simp] theorem setObj_setHere (x : ObjDyn) : (s.setObj x).setHere = s.setHere := rfl
@[simp] theorem setObj_run (x : ObjDyn) : (s.setObj x).run = s.run := rfl
@[simp] theorem setObj_wires (x : ObjDyn) : (s.setObj x).wires = s.wires := rfl
@[simp] theorem setObj_midway (x : ObjDyn) : (s.setObj x).midway = s.midway := rfl
@[simp] theorem setObj_closedView (x : ObjDyn) : (s.setObj x).closedView = s.closedView := rfl
@[simp] theorem setObj_slabs (x : ObjDyn) : (s.setObj x).slabs = s.slabs := rfl
@[simp] theorem setObj_commits (x : ObjDyn) : (s.setObj x).commits = s.commits := rfl
@[simp] theorem setObj_slabSet (x : ObjDyn) : (s.setObj x).slabSet = s.slabSet := rfl
@[simp] theorem setObj_rd (x : ObjDyn) : (s.setObj x).rd = s.rd := rfl
@[simp] theorem setObj_wr (x : ObjDyn) : (s.setObj x).wr = s.wr := rfl
@[simp] theorem setObj_front (x : ObjDyn) : (s.setObj x).front = s.front := rfl
@[simp] theorem setObj_gal (x : ObjDyn) : (s.setObj x).gal = s.gal := rfl
@[simp] theorem setObj_spk (x : ObjDyn) : (s.setObj x).spk = s.spk := rfl
@[simp] theorem setObj_cap (x : ObjDyn) : (s.setObj x).cap = s.cap := rfl
@[simp] theorem setObj_eth (x : ObjDyn) : (s.setObj x).eth = s.eth := rfl
@[simp] theorem setObj_voice (x : ObjDyn) : (s.setObj x).voice = s.voice := rfl
@[simp] theorem setObj_bench (x : ObjDyn) : (s.setObj x).bench = s.bench := rfl
@[simp] theorem setObj_mem (x : ObjDyn) : (s.setObj x).mem = s.mem := rfl
@[simp] theorem setObj_ash (x : ObjDyn) : (s.setObj x).ash = s.ash := rfl
@[simp] theorem setObj_link (x : ObjDyn) : (s.setObj x).link = s.link := rfl
@[simp] theorem setObj_pair (x : ObjDyn) : (s.setObj x).pair = s.pair := rfl
@[simp] theorem setObj_faults (x : ObjDyn) : (s.setObj x).faults = s.faults := rfl
@[simp] theorem setObj_power (x : ObjDyn) : (s.setObj x).power = s.power := rfl
@[simp] theorem setObj_gpio (x : ObjDyn) : (s.setObj x).gpio = s.gpio := rfl
@[simp] theorem setObj_jtag (x : ObjDyn) : (s.setObj x).jtag = s.jtag := rfl

/-! `setSpk` -/

@[simp] theorem setSpk_pending (x : SpkDyn) : (s.setSpk x).pending = s.pending := rfl
@[simp] theorem setSpk_free (x : SpkDyn) : (s.setSpk x).free = s.free := rfl
@[simp] theorem setSpk_sent (x : SpkDyn) : (s.setSpk x).sent = s.sent := rfl
@[simp] theorem setSpk_id (x : SpkDyn) : (s.setSpk x).id = s.id := rfl
@[simp] theorem setSpk_mbx (x : SpkDyn) : (s.setSpk x).mbx = s.mbx := rfl
@[simp] theorem setSpk_deferred (x : SpkDyn) : (s.setSpk x).deferred = s.deferred := rfl
@[simp] theorem setSpk_boot (x : SpkDyn) : (s.setSpk x).boot = s.boot := rfl
@[simp] theorem setSpk_evq (x : SpkDyn) : (s.setSpk x).evq = s.evq := rfl
@[simp] theorem setSpk_time (x : SpkDyn) : (s.setSpk x).time = s.time := rfl
@[simp] theorem setSpk_nodes (x : SpkDyn) : (s.setSpk x).nodes = s.nodes := rfl
@[simp] theorem setSpk_leaving (x : SpkDyn) : (s.setSpk x).leaving = s.leaving := rfl
@[simp] theorem setSpk_conns (x : SpkDyn) : (s.setSpk x).conns = s.conns := rfl
@[simp] theorem setSpk_pend (x : SpkDyn) : (s.setSpk x).pend = s.pend := rfl
@[simp] theorem setSpk_pendLate (x : SpkDyn) : (s.setSpk x).pendLate = s.pendLate := rfl
@[simp] theorem setSpk_setHere (x : SpkDyn) : (s.setSpk x).setHere = s.setHere := rfl
@[simp] theorem setSpk_run (x : SpkDyn) : (s.setSpk x).run = s.run := rfl
@[simp] theorem setSpk_wires (x : SpkDyn) : (s.setSpk x).wires = s.wires := rfl
@[simp] theorem setSpk_midway (x : SpkDyn) : (s.setSpk x).midway = s.midway := rfl
@[simp] theorem setSpk_closedView (x : SpkDyn) : (s.setSpk x).closedView = s.closedView := rfl
@[simp] theorem setSpk_slabs (x : SpkDyn) : (s.setSpk x).slabs = s.slabs := rfl
@[simp] theorem setSpk_commits (x : SpkDyn) : (s.setSpk x).commits = s.commits := rfl
@[simp] theorem setSpk_slabSet (x : SpkDyn) : (s.setSpk x).slabSet = s.slabSet := rfl
@[simp] theorem setSpk_rd (x : SpkDyn) : (s.setSpk x).rd = s.rd := rfl
@[simp] theorem setSpk_wr (x : SpkDyn) : (s.setSpk x).wr = s.wr := rfl
@[simp] theorem setSpk_front (x : SpkDyn) : (s.setSpk x).front = s.front := rfl
@[simp] theorem setSpk_gal (x : SpkDyn) : (s.setSpk x).gal = s.gal := rfl
@[simp] theorem setSpk_ren (x : SpkDyn) : (s.setSpk x).ren = s.ren := rfl
@[simp] theorem setSpk_cap (x : SpkDyn) : (s.setSpk x).cap = s.cap := rfl
@[simp] theorem setSpk_eth (x : SpkDyn) : (s.setSpk x).eth = s.eth := rfl
@[simp] theorem setSpk_voice (x : SpkDyn) : (s.setSpk x).voice = s.voice := rfl
@[simp] theorem setSpk_bench (x : SpkDyn) : (s.setSpk x).bench = s.bench := rfl
@[simp] theorem setSpk_mem (x : SpkDyn) : (s.setSpk x).mem = s.mem := rfl
@[simp] theorem setSpk_ash (x : SpkDyn) : (s.setSpk x).ash = s.ash := rfl
@[simp] theorem setSpk_link (x : SpkDyn) : (s.setSpk x).link = s.link := rfl
@[simp] theorem setSpk_pair (x : SpkDyn) : (s.setSpk x).pair = s.pair := rfl
@[simp] theorem setSpk_faults (x : SpkDyn) : (s.setSpk x).faults = s.faults := rfl
@[simp] theorem setSpk_power (x : SpkDyn) : (s.setSpk x).power = s.power := rfl
@[simp] theorem setSpk_gpio (x : SpkDyn) : (s.setSpk x).gpio = s.gpio := rfl
@[simp] theorem setSpk_jtag (x : SpkDyn) : (s.setSpk x).jtag = s.jtag := rfl

/-! `setBeam` -/

@[simp] theorem setBeam_pending (x : BeamDyn) : (s.setBeam x).pending = s.pending := rfl
@[simp] theorem setBeam_free (x : BeamDyn) : (s.setBeam x).free = s.free := rfl
@[simp] theorem setBeam_sent (x : BeamDyn) : (s.setBeam x).sent = s.sent := rfl
@[simp] theorem setBeam_id (x : BeamDyn) : (s.setBeam x).id = s.id := rfl
@[simp] theorem setBeam_mbx (x : BeamDyn) : (s.setBeam x).mbx = s.mbx := rfl
@[simp] theorem setBeam_deferred (x : BeamDyn) : (s.setBeam x).deferred = s.deferred := rfl
@[simp] theorem setBeam_boot (x : BeamDyn) : (s.setBeam x).boot = s.boot := rfl
@[simp] theorem setBeam_evq (x : BeamDyn) : (s.setBeam x).evq = s.evq := rfl
@[simp] theorem setBeam_time (x : BeamDyn) : (s.setBeam x).time = s.time := rfl
@[simp] theorem setBeam_nodes (x : BeamDyn) : (s.setBeam x).nodes = s.nodes := rfl
@[simp] theorem setBeam_leaving (x : BeamDyn) : (s.setBeam x).leaving = s.leaving := rfl
@[simp] theorem setBeam_conns (x : BeamDyn) : (s.setBeam x).conns = s.conns := rfl
@[simp] theorem setBeam_pend (x : BeamDyn) : (s.setBeam x).pend = s.pend := rfl
@[simp] theorem setBeam_pendLate (x : BeamDyn) : (s.setBeam x).pendLate = s.pendLate := rfl
@[simp] theorem setBeam_setHere (x : BeamDyn) : (s.setBeam x).setHere = s.setHere := rfl
@[simp] theorem setBeam_run (x : BeamDyn) : (s.setBeam x).run = s.run := rfl
@[simp] theorem setBeam_wires (x : BeamDyn) : (s.setBeam x).wires = s.wires := rfl
@[simp] theorem setBeam_midway (x : BeamDyn) : (s.setBeam x).midway = s.midway := rfl
@[simp] theorem setBeam_closedView (x : BeamDyn) : (s.setBeam x).closedView = s.closedView := rfl
@[simp] theorem setBeam_slabs (x : BeamDyn) : (s.setBeam x).slabs = s.slabs := rfl
@[simp] theorem setBeam_commits (x : BeamDyn) : (s.setBeam x).commits = s.commits := rfl
@[simp] theorem setBeam_slabSet (x : BeamDyn) : (s.setBeam x).slabSet = s.slabSet := rfl
@[simp] theorem setBeam_rd (x : BeamDyn) : (s.setBeam x).rd = s.rd := rfl
@[simp] theorem setBeam_wr (x : BeamDyn) : (s.setBeam x).wr = s.wr := rfl
@[simp] theorem setBeam_front (x : BeamDyn) : (s.setBeam x).front = s.front := rfl
@[simp] theorem setBeam_gal (x : BeamDyn) : (s.setBeam x).gal = s.gal := rfl
@[simp] theorem setBeam_ren (x : BeamDyn) : (s.setBeam x).ren = s.ren := rfl
@[simp] theorem setBeam_spk (x : BeamDyn) : (s.setBeam x).spk = s.spk := rfl
@[simp] theorem setBeam_eth (x : BeamDyn) : (s.setBeam x).eth = s.eth := rfl
@[simp] theorem setBeam_voice (x : BeamDyn) : (s.setBeam x).voice = s.voice := rfl
@[simp] theorem setBeam_bench (x : BeamDyn) : (s.setBeam x).bench = s.bench := rfl
@[simp] theorem setBeam_mem (x : BeamDyn) : (s.setBeam x).mem = s.mem := rfl
@[simp] theorem setBeam_ash (x : BeamDyn) : (s.setBeam x).ash = s.ash := rfl
@[simp] theorem setBeam_link (x : BeamDyn) : (s.setBeam x).link = s.link := rfl
@[simp] theorem setBeam_pair (x : BeamDyn) : (s.setBeam x).pair = s.pair := rfl
@[simp] theorem setBeam_faults (x : BeamDyn) : (s.setBeam x).faults = s.faults := rfl
@[simp] theorem setBeam_power (x : BeamDyn) : (s.setBeam x).power = s.power := rfl
@[simp] theorem setBeam_gpio (x : BeamDyn) : (s.setBeam x).gpio = s.gpio := rfl
@[simp] theorem setBeam_jtag (x : BeamDyn) : (s.setBeam x).jtag = s.jtag := rfl

/-! `setLocGroup` -/

@[simp] theorem setLocGroup_pending (k : Nat) (v : LocGroup) : (s.setLocGroup k v).pending = s.pending := rfl
@[simp] theorem setLocGroup_free (k : Nat) (v : LocGroup) : (s.setLocGroup k v).free = s.free := rfl
@[simp] theorem setLocGroup_sent (k : Nat) (v : LocGroup) : (s.setLocGroup k v).sent = s.sent := rfl
@[simp] theorem setLocGroup_id (k : Nat) (v : LocGroup) : (s.setLocGroup k v).id = s.id := rfl
@[simp] theorem setLocGroup_mbx (k : Nat) (v : LocGroup) : (s.setLocGroup k v).mbx = s.mbx := rfl
@[simp] theorem setLocGroup_deferred (k : Nat) (v : LocGroup) : (s.setLocGroup k v).deferred = s.deferred := rfl
@[simp] theorem setLocGroup_boot (k : Nat) (v : LocGroup) : (s.setLocGroup k v).boot = s.boot := rfl
@[simp] theorem setLocGroup_evq (k : Nat) (v : LocGroup) : (s.setLocGroup k v).evq = s.evq := rfl
@[simp] theorem setLocGroup_time (k : Nat) (v : LocGroup) : (s.setLocGroup k v).time = s.time := rfl
@[simp] theorem setLocGroup_nodes (k : Nat) (v : LocGroup) : (s.setLocGroup k v).nodes = s.nodes := rfl
@[simp] theorem setLocGroup_leaving (k : Nat) (v : LocGroup) : (s.setLocGroup k v).leaving = s.leaving := rfl
@[simp] theorem setLocGroup_conns (k : Nat) (v : LocGroup) : (s.setLocGroup k v).conns = s.conns := rfl
@[simp] theorem setLocGroup_pend (k : Nat) (v : LocGroup) : (s.setLocGroup k v).pend = s.pend := rfl
@[simp] theorem setLocGroup_pendLate (k : Nat) (v : LocGroup) : (s.setLocGroup k v).pendLate = s.pendLate := rfl
@[simp] theorem setLocGroup_setHere (k : Nat) (v : LocGroup) : (s.setLocGroup k v).setHere = s.setHere := rfl
@[simp] theorem setLocGroup_run (k : Nat) (v : LocGroup) : (s.setLocGroup k v).run = s.run := rfl
@[simp] theorem setLocGroup_wires (k : Nat) (v : LocGroup) : (s.setLocGroup k v).wires = s.wires := rfl
@[simp] theorem setLocGroup_midway (k : Nat) (v : LocGroup) : (s.setLocGroup k v).midway = s.midway := rfl
@[simp] theorem setLocGroup_closedView (k : Nat) (v : LocGroup) : (s.setLocGroup k v).closedView = s.closedView := rfl
@[simp] theorem setLocGroup_slabs (k : Nat) (v : LocGroup) : (s.setLocGroup k v).slabs = s.slabs := rfl
@[simp] theorem setLocGroup_commits (k : Nat) (v : LocGroup) : (s.setLocGroup k v).commits = s.commits := rfl
@[simp] theorem setLocGroup_slabSet (k : Nat) (v : LocGroup) : (s.setLocGroup k v).slabSet = s.slabSet := rfl
@[simp] theorem setLocGroup_rd (k : Nat) (v : LocGroup) : (s.setLocGroup k v).rd = s.rd := rfl
@[simp] theorem setLocGroup_wr (k : Nat) (v : LocGroup) : (s.setLocGroup k v).wr = s.wr := rfl
@[simp] theorem setLocGroup_front (k : Nat) (v : LocGroup) : (s.setLocGroup k v).front = s.front := rfl
@[simp] theorem setLocGroup_gal (k : Nat) (v : LocGroup) : (s.setLocGroup k v).gal = s.gal := rfl
@[simp] theorem setLocGroup_ren (k : Nat) (v : LocGroup) : (s.setLocGroup k v).ren = s.ren := rfl
@[simp] theorem setLocGroup_spk (k : Nat) (v : LocGroup) : (s.setLocGroup k v).spk = s.spk := rfl
@[simp] theorem setLocGroup_eth (k : Nat) (v : LocGroup) : (s.setLocGroup k v).eth = s.eth := rfl
@[simp] theorem setLocGroup_voice (k : Nat) (v : LocGroup) : (s.setLocGroup k v).voice = s.voice := rfl
@[simp] theorem setLocGroup_bench (k : Nat) (v : LocGroup) : (s.setLocGroup k v).bench = s.bench := rfl
@[simp] theorem setLocGroup_mem (k : Nat) (v : LocGroup) : (s.setLocGroup k v).mem = s.mem := rfl
@[simp] theorem setLocGroup_ash (k : Nat) (v : LocGroup) : (s.setLocGroup k v).ash = s.ash := rfl
@[simp] theorem setLocGroup_link (k : Nat) (v : LocGroup) : (s.setLocGroup k v).link = s.link := rfl
@[simp] theorem setLocGroup_pair (k : Nat) (v : LocGroup) : (s.setLocGroup k v).pair = s.pair := rfl
@[simp] theorem setLocGroup_faults (k : Nat) (v : LocGroup) : (s.setLocGroup k v).faults = s.faults := rfl
@[simp] theorem setLocGroup_power (k : Nat) (v : LocGroup) : (s.setLocGroup k v).power = s.power := rfl
@[simp] theorem setLocGroup_gpio (k : Nat) (v : LocGroup) : (s.setLocGroup k v).gpio = s.gpio := rfl
@[simp] theorem setLocGroup_jtag (k : Nat) (v : LocGroup) : (s.setLocGroup k v).jtag = s.jtag := rfl

/-! `setPtp` -/

@[simp] theorem setPtp_pending (k : Nat) (x : PtpPort) : (s.setPtp k x).pending = s.pending := rfl
@[simp] theorem setPtp_free (k : Nat) (x : PtpPort) : (s.setPtp k x).free = s.free := rfl
@[simp] theorem setPtp_sent (k : Nat) (x : PtpPort) : (s.setPtp k x).sent = s.sent := rfl
@[simp] theorem setPtp_id (k : Nat) (x : PtpPort) : (s.setPtp k x).id = s.id := rfl
@[simp] theorem setPtp_mbx (k : Nat) (x : PtpPort) : (s.setPtp k x).mbx = s.mbx := rfl
@[simp] theorem setPtp_deferred (k : Nat) (x : PtpPort) : (s.setPtp k x).deferred = s.deferred := rfl
@[simp] theorem setPtp_boot (k : Nat) (x : PtpPort) : (s.setPtp k x).boot = s.boot := rfl
@[simp] theorem setPtp_evq (k : Nat) (x : PtpPort) : (s.setPtp k x).evq = s.evq := rfl
@[simp] theorem setPtp_nodes (k : Nat) (x : PtpPort) : (s.setPtp k x).nodes = s.nodes := rfl
@[simp] theorem setPtp_leaving (k : Nat) (x : PtpPort) : (s.setPtp k x).leaving = s.leaving := rfl
@[simp] theorem setPtp_conns (k : Nat) (x : PtpPort) : (s.setPtp k x).conns = s.conns := rfl
@[simp] theorem setPtp_pend (k : Nat) (x : PtpPort) : (s.setPtp k x).pend = s.pend := rfl
@[simp] theorem setPtp_pendLate (k : Nat) (x : PtpPort) : (s.setPtp k x).pendLate = s.pendLate := rfl
@[simp] theorem setPtp_setHere (k : Nat) (x : PtpPort) : (s.setPtp k x).setHere = s.setHere := rfl
@[simp] theorem setPtp_run (k : Nat) (x : PtpPort) : (s.setPtp k x).run = s.run := rfl
@[simp] theorem setPtp_wires (k : Nat) (x : PtpPort) : (s.setPtp k x).wires = s.wires := rfl
@[simp] theorem setPtp_midway (k : Nat) (x : PtpPort) : (s.setPtp k x).midway = s.midway := rfl
@[simp] theorem setPtp_closedView (k : Nat) (x : PtpPort) : (s.setPtp k x).closedView = s.closedView := rfl
@[simp] theorem setPtp_slabs (k : Nat) (x : PtpPort) : (s.setPtp k x).slabs = s.slabs := rfl
@[simp] theorem setPtp_commits (k : Nat) (x : PtpPort) : (s.setPtp k x).commits = s.commits := rfl
@[simp] theorem setPtp_slabSet (k : Nat) (x : PtpPort) : (s.setPtp k x).slabSet = s.slabSet := rfl
@[simp] theorem setPtp_rd (k : Nat) (x : PtpPort) : (s.setPtp k x).rd = s.rd := rfl
@[simp] theorem setPtp_wr (k : Nat) (x : PtpPort) : (s.setPtp k x).wr = s.wr := rfl
@[simp] theorem setPtp_front (k : Nat) (x : PtpPort) : (s.setPtp k x).front = s.front := rfl
@[simp] theorem setPtp_gal (k : Nat) (x : PtpPort) : (s.setPtp k x).gal = s.gal := rfl
@[simp] theorem setPtp_ren (k : Nat) (x : PtpPort) : (s.setPtp k x).ren = s.ren := rfl
@[simp] theorem setPtp_spk (k : Nat) (x : PtpPort) : (s.setPtp k x).spk = s.spk := rfl
@[simp] theorem setPtp_cap (k : Nat) (x : PtpPort) : (s.setPtp k x).cap = s.cap := rfl
@[simp] theorem setPtp_eth (k : Nat) (x : PtpPort) : (s.setPtp k x).eth = s.eth := rfl
@[simp] theorem setPtp_voice (k : Nat) (x : PtpPort) : (s.setPtp k x).voice = s.voice := rfl
@[simp] theorem setPtp_bench (k : Nat) (x : PtpPort) : (s.setPtp k x).bench = s.bench := rfl
@[simp] theorem setPtp_mem (k : Nat) (x : PtpPort) : (s.setPtp k x).mem = s.mem := rfl
@[simp] theorem setPtp_ash (k : Nat) (x : PtpPort) : (s.setPtp k x).ash = s.ash := rfl
@[simp] theorem setPtp_link (k : Nat) (x : PtpPort) : (s.setPtp k x).link = s.link := rfl
@[simp] theorem setPtp_pair (k : Nat) (x : PtpPort) : (s.setPtp k x).pair = s.pair := rfl
@[simp] theorem setPtp_faults (k : Nat) (x : PtpPort) : (s.setPtp k x).faults = s.faults := rfl
@[simp] theorem setPtp_power (k : Nat) (x : PtpPort) : (s.setPtp k x).power = s.power := rfl
@[simp] theorem setPtp_gpio (k : Nat) (x : PtpPort) : (s.setPtp k x).gpio = s.gpio := rfl
@[simp] theorem setPtp_jtag (k : Nat) (x : PtpPort) : (s.setPtp k x).jtag = s.jtag := rfl

/-! `setPort` -/

@[simp] theorem setPort_pending (k : Nat) (x : EthPort) : (s.setPort k x).pending = s.pending := rfl
@[simp] theorem setPort_free (k : Nat) (x : EthPort) : (s.setPort k x).free = s.free := rfl
@[simp] theorem setPort_sent (k : Nat) (x : EthPort) : (s.setPort k x).sent = s.sent := rfl
@[simp] theorem setPort_id (k : Nat) (x : EthPort) : (s.setPort k x).id = s.id := rfl
@[simp] theorem setPort_mbx (k : Nat) (x : EthPort) : (s.setPort k x).mbx = s.mbx := rfl
@[simp] theorem setPort_deferred (k : Nat) (x : EthPort) : (s.setPort k x).deferred = s.deferred := rfl
@[simp] theorem setPort_boot (k : Nat) (x : EthPort) : (s.setPort k x).boot = s.boot := rfl
@[simp] theorem setPort_evq (k : Nat) (x : EthPort) : (s.setPort k x).evq = s.evq := rfl
@[simp] theorem setPort_time (k : Nat) (x : EthPort) : (s.setPort k x).time = s.time := rfl
@[simp] theorem setPort_nodes (k : Nat) (x : EthPort) : (s.setPort k x).nodes = s.nodes := rfl
@[simp] theorem setPort_leaving (k : Nat) (x : EthPort) : (s.setPort k x).leaving = s.leaving := rfl
@[simp] theorem setPort_conns (k : Nat) (x : EthPort) : (s.setPort k x).conns = s.conns := rfl
@[simp] theorem setPort_pend (k : Nat) (x : EthPort) : (s.setPort k x).pend = s.pend := rfl
@[simp] theorem setPort_pendLate (k : Nat) (x : EthPort) : (s.setPort k x).pendLate = s.pendLate := rfl
@[simp] theorem setPort_setHere (k : Nat) (x : EthPort) : (s.setPort k x).setHere = s.setHere := rfl
@[simp] theorem setPort_run (k : Nat) (x : EthPort) : (s.setPort k x).run = s.run := rfl
@[simp] theorem setPort_wires (k : Nat) (x : EthPort) : (s.setPort k x).wires = s.wires := rfl
@[simp] theorem setPort_midway (k : Nat) (x : EthPort) : (s.setPort k x).midway = s.midway := rfl
@[simp] theorem setPort_closedView (k : Nat) (x : EthPort) : (s.setPort k x).closedView = s.closedView := rfl
@[simp] theorem setPort_slabs (k : Nat) (x : EthPort) : (s.setPort k x).slabs = s.slabs := rfl
@[simp] theorem setPort_commits (k : Nat) (x : EthPort) : (s.setPort k x).commits = s.commits := rfl
@[simp] theorem setPort_slabSet (k : Nat) (x : EthPort) : (s.setPort k x).slabSet = s.slabSet := rfl
@[simp] theorem setPort_rd (k : Nat) (x : EthPort) : (s.setPort k x).rd = s.rd := rfl
@[simp] theorem setPort_wr (k : Nat) (x : EthPort) : (s.setPort k x).wr = s.wr := rfl
@[simp] theorem setPort_front (k : Nat) (x : EthPort) : (s.setPort k x).front = s.front := rfl
@[simp] theorem setPort_gal (k : Nat) (x : EthPort) : (s.setPort k x).gal = s.gal := rfl
@[simp] theorem setPort_ren (k : Nat) (x : EthPort) : (s.setPort k x).ren = s.ren := rfl
@[simp] theorem setPort_spk (k : Nat) (x : EthPort) : (s.setPort k x).spk = s.spk := rfl
@[simp] theorem setPort_cap (k : Nat) (x : EthPort) : (s.setPort k x).cap = s.cap := rfl
@[simp] theorem setPort_voice (k : Nat) (x : EthPort) : (s.setPort k x).voice = s.voice := rfl
@[simp] theorem setPort_bench (k : Nat) (x : EthPort) : (s.setPort k x).bench = s.bench := rfl
@[simp] theorem setPort_mem (k : Nat) (x : EthPort) : (s.setPort k x).mem = s.mem := rfl
@[simp] theorem setPort_ash (k : Nat) (x : EthPort) : (s.setPort k x).ash = s.ash := rfl
@[simp] theorem setPort_link (k : Nat) (x : EthPort) : (s.setPort k x).link = s.link := rfl
@[simp] theorem setPort_pair (k : Nat) (x : EthPort) : (s.setPort k x).pair = s.pair := rfl
@[simp] theorem setPort_faults (k : Nat) (x : EthPort) : (s.setPort k x).faults = s.faults := rfl
@[simp] theorem setPort_power (k : Nat) (x : EthPort) : (s.setPort k x).power = s.power := rfl
@[simp] theorem setPort_gpio (k : Nat) (x : EthPort) : (s.setPort k x).gpio = s.gpio := rfl
@[simp] theorem setPort_jtag (k : Nat) (x : EthPort) : (s.setPort k x).jtag = s.jtag := rfl

/-! `setStream` -/

@[simp] theorem setStream_pending (x : StreamDyn) : (s.setStream x).pending = s.pending := rfl
@[simp] theorem setStream_free (x : StreamDyn) : (s.setStream x).free = s.free := rfl
@[simp] theorem setStream_sent (x : StreamDyn) : (s.setStream x).sent = s.sent := rfl
@[simp] theorem setStream_id (x : StreamDyn) : (s.setStream x).id = s.id := rfl
@[simp] theorem setStream_mbx (x : StreamDyn) : (s.setStream x).mbx = s.mbx := rfl
@[simp] theorem setStream_deferred (x : StreamDyn) : (s.setStream x).deferred = s.deferred := rfl
@[simp] theorem setStream_boot (x : StreamDyn) : (s.setStream x).boot = s.boot := rfl
@[simp] theorem setStream_evq (x : StreamDyn) : (s.setStream x).evq = s.evq := rfl
@[simp] theorem setStream_time (x : StreamDyn) : (s.setStream x).time = s.time := rfl
@[simp] theorem setStream_nodes (x : StreamDyn) : (s.setStream x).nodes = s.nodes := rfl
@[simp] theorem setStream_leaving (x : StreamDyn) : (s.setStream x).leaving = s.leaving := rfl
@[simp] theorem setStream_conns (x : StreamDyn) : (s.setStream x).conns = s.conns := rfl
@[simp] theorem setStream_pend (x : StreamDyn) : (s.setStream x).pend = s.pend := rfl
@[simp] theorem setStream_pendLate (x : StreamDyn) : (s.setStream x).pendLate = s.pendLate := rfl
@[simp] theorem setStream_setHere (x : StreamDyn) : (s.setStream x).setHere = s.setHere := rfl
@[simp] theorem setStream_run (x : StreamDyn) : (s.setStream x).run = s.run := rfl
@[simp] theorem setStream_wires (x : StreamDyn) : (s.setStream x).wires = s.wires := rfl
@[simp] theorem setStream_midway (x : StreamDyn) : (s.setStream x).midway = s.midway := rfl
@[simp] theorem setStream_closedView (x : StreamDyn) : (s.setStream x).closedView = s.closedView := rfl
@[simp] theorem setStream_slabs (x : StreamDyn) : (s.setStream x).slabs = s.slabs := rfl
@[simp] theorem setStream_commits (x : StreamDyn) : (s.setStream x).commits = s.commits := rfl
@[simp] theorem setStream_slabSet (x : StreamDyn) : (s.setStream x).slabSet = s.slabSet := rfl
@[simp] theorem setStream_rd (x : StreamDyn) : (s.setStream x).rd = s.rd := rfl
@[simp] theorem setStream_wr (x : StreamDyn) : (s.setStream x).wr = s.wr := rfl
@[simp] theorem setStream_front (x : StreamDyn) : (s.setStream x).front = s.front := rfl
@[simp] theorem setStream_gal (x : StreamDyn) : (s.setStream x).gal = s.gal := rfl
@[simp] theorem setStream_ren (x : StreamDyn) : (s.setStream x).ren = s.ren := rfl
@[simp] theorem setStream_spk (x : StreamDyn) : (s.setStream x).spk = s.spk := rfl
@[simp] theorem setStream_cap (x : StreamDyn) : (s.setStream x).cap = s.cap := rfl
@[simp] theorem setStream_voice (x : StreamDyn) : (s.setStream x).voice = s.voice := rfl
@[simp] theorem setStream_bench (x : StreamDyn) : (s.setStream x).bench = s.bench := rfl
@[simp] theorem setStream_mem (x : StreamDyn) : (s.setStream x).mem = s.mem := rfl
@[simp] theorem setStream_ash (x : StreamDyn) : (s.setStream x).ash = s.ash := rfl
@[simp] theorem setStream_link (x : StreamDyn) : (s.setStream x).link = s.link := rfl
@[simp] theorem setStream_pair (x : StreamDyn) : (s.setStream x).pair = s.pair := rfl
@[simp] theorem setStream_faults (x : StreamDyn) : (s.setStream x).faults = s.faults := rfl
@[simp] theorem setStream_power (x : StreamDyn) : (s.setStream x).power = s.power := rfl
@[simp] theorem setStream_gpio (x : StreamDyn) : (s.setStream x).gpio = s.gpio := rfl
@[simp] theorem setStream_jtag (x : StreamDyn) : (s.setStream x).jtag = s.jtag := rfl

/-! `setCall` -/

@[simp] theorem setCall_pending (x : CallDyn) : (s.setCall x).pending = s.pending := rfl
@[simp] theorem setCall_free (x : CallDyn) : (s.setCall x).free = s.free := rfl
@[simp] theorem setCall_sent (x : CallDyn) : (s.setCall x).sent = s.sent := rfl
@[simp] theorem setCall_id (x : CallDyn) : (s.setCall x).id = s.id := rfl
@[simp] theorem setCall_mbx (x : CallDyn) : (s.setCall x).mbx = s.mbx := rfl
@[simp] theorem setCall_deferred (x : CallDyn) : (s.setCall x).deferred = s.deferred := rfl
@[simp] theorem setCall_boot (x : CallDyn) : (s.setCall x).boot = s.boot := rfl
@[simp] theorem setCall_evq (x : CallDyn) : (s.setCall x).evq = s.evq := rfl
@[simp] theorem setCall_time (x : CallDyn) : (s.setCall x).time = s.time := rfl
@[simp] theorem setCall_nodes (x : CallDyn) : (s.setCall x).nodes = s.nodes := rfl
@[simp] theorem setCall_leaving (x : CallDyn) : (s.setCall x).leaving = s.leaving := rfl
@[simp] theorem setCall_conns (x : CallDyn) : (s.setCall x).conns = s.conns := rfl
@[simp] theorem setCall_pend (x : CallDyn) : (s.setCall x).pend = s.pend := rfl
@[simp] theorem setCall_pendLate (x : CallDyn) : (s.setCall x).pendLate = s.pendLate := rfl
@[simp] theorem setCall_setHere (x : CallDyn) : (s.setCall x).setHere = s.setHere := rfl
@[simp] theorem setCall_run (x : CallDyn) : (s.setCall x).run = s.run := rfl
@[simp] theorem setCall_wires (x : CallDyn) : (s.setCall x).wires = s.wires := rfl
@[simp] theorem setCall_midway (x : CallDyn) : (s.setCall x).midway = s.midway := rfl
@[simp] theorem setCall_closedView (x : CallDyn) : (s.setCall x).closedView = s.closedView := rfl
@[simp] theorem setCall_slabs (x : CallDyn) : (s.setCall x).slabs = s.slabs := rfl
@[simp] theorem setCall_commits (x : CallDyn) : (s.setCall x).commits = s.commits := rfl
@[simp] theorem setCall_slabSet (x : CallDyn) : (s.setCall x).slabSet = s.slabSet := rfl
@[simp] theorem setCall_rd (x : CallDyn) : (s.setCall x).rd = s.rd := rfl
@[simp] theorem setCall_wr (x : CallDyn) : (s.setCall x).wr = s.wr := rfl
@[simp] theorem setCall_front (x : CallDyn) : (s.setCall x).front = s.front := rfl
@[simp] theorem setCall_gal (x : CallDyn) : (s.setCall x).gal = s.gal := rfl
@[simp] theorem setCall_ren (x : CallDyn) : (s.setCall x).ren = s.ren := rfl
@[simp] theorem setCall_spk (x : CallDyn) : (s.setCall x).spk = s.spk := rfl
@[simp] theorem setCall_cap (x : CallDyn) : (s.setCall x).cap = s.cap := rfl
@[simp] theorem setCall_eth (x : CallDyn) : (s.setCall x).eth = s.eth := rfl
@[simp] theorem setCall_bench (x : CallDyn) : (s.setCall x).bench = s.bench := rfl
@[simp] theorem setCall_mem (x : CallDyn) : (s.setCall x).mem = s.mem := rfl
@[simp] theorem setCall_ash (x : CallDyn) : (s.setCall x).ash = s.ash := rfl
@[simp] theorem setCall_link (x : CallDyn) : (s.setCall x).link = s.link := rfl
@[simp] theorem setCall_pair (x : CallDyn) : (s.setCall x).pair = s.pair := rfl
@[simp] theorem setCall_faults (x : CallDyn) : (s.setCall x).faults = s.faults := rfl
@[simp] theorem setCall_power (x : CallDyn) : (s.setCall x).power = s.power := rfl
@[simp] theorem setCall_gpio (x : CallDyn) : (s.setCall x).gpio = s.gpio := rfl
@[simp] theorem setCall_jtag (x : CallDyn) : (s.setCall x).jtag = s.jtag := rfl

/-! `setKrn` -/

@[simp] theorem setKrn_pending (x : KernDyn) : (s.setKrn x).pending = s.pending := rfl
@[simp] theorem setKrn_free (x : KernDyn) : (s.setKrn x).free = s.free := rfl
@[simp] theorem setKrn_sent (x : KernDyn) : (s.setKrn x).sent = s.sent := rfl
@[simp] theorem setKrn_id (x : KernDyn) : (s.setKrn x).id = s.id := rfl
@[simp] theorem setKrn_mbx (x : KernDyn) : (s.setKrn x).mbx = s.mbx := rfl
@[simp] theorem setKrn_deferred (x : KernDyn) : (s.setKrn x).deferred = s.deferred := rfl
@[simp] theorem setKrn_boot (x : KernDyn) : (s.setKrn x).boot = s.boot := rfl
@[simp] theorem setKrn_evq (x : KernDyn) : (s.setKrn x).evq = s.evq := rfl
@[simp] theorem setKrn_time (x : KernDyn) : (s.setKrn x).time = s.time := rfl
@[simp] theorem setKrn_nodes (x : KernDyn) : (s.setKrn x).nodes = s.nodes := rfl
@[simp] theorem setKrn_leaving (x : KernDyn) : (s.setKrn x).leaving = s.leaving := rfl
@[simp] theorem setKrn_conns (x : KernDyn) : (s.setKrn x).conns = s.conns := rfl
@[simp] theorem setKrn_pend (x : KernDyn) : (s.setKrn x).pend = s.pend := rfl
@[simp] theorem setKrn_pendLate (x : KernDyn) : (s.setKrn x).pendLate = s.pendLate := rfl
@[simp] theorem setKrn_setHere (x : KernDyn) : (s.setKrn x).setHere = s.setHere := rfl
@[simp] theorem setKrn_run (x : KernDyn) : (s.setKrn x).run = s.run := rfl
@[simp] theorem setKrn_wires (x : KernDyn) : (s.setKrn x).wires = s.wires := rfl
@[simp] theorem setKrn_midway (x : KernDyn) : (s.setKrn x).midway = s.midway := rfl
@[simp] theorem setKrn_closedView (x : KernDyn) : (s.setKrn x).closedView = s.closedView := rfl
@[simp] theorem setKrn_slabs (x : KernDyn) : (s.setKrn x).slabs = s.slabs := rfl
@[simp] theorem setKrn_commits (x : KernDyn) : (s.setKrn x).commits = s.commits := rfl
@[simp] theorem setKrn_slabSet (x : KernDyn) : (s.setKrn x).slabSet = s.slabSet := rfl
@[simp] theorem setKrn_rd (x : KernDyn) : (s.setKrn x).rd = s.rd := rfl
@[simp] theorem setKrn_wr (x : KernDyn) : (s.setKrn x).wr = s.wr := rfl
@[simp] theorem setKrn_front (x : KernDyn) : (s.setKrn x).front = s.front := rfl
@[simp] theorem setKrn_gal (x : KernDyn) : (s.setKrn x).gal = s.gal := rfl
@[simp] theorem setKrn_ren (x : KernDyn) : (s.setKrn x).ren = s.ren := rfl
@[simp] theorem setKrn_spk (x : KernDyn) : (s.setKrn x).spk = s.spk := rfl
@[simp] theorem setKrn_cap (x : KernDyn) : (s.setKrn x).cap = s.cap := rfl
@[simp] theorem setKrn_eth (x : KernDyn) : (s.setKrn x).eth = s.eth := rfl
@[simp] theorem setKrn_voice (x : KernDyn) : (s.setKrn x).voice = s.voice := rfl
@[simp] theorem setKrn_mem (x : KernDyn) : (s.setKrn x).mem = s.mem := rfl
@[simp] theorem setKrn_ash (x : KernDyn) : (s.setKrn x).ash = s.ash := rfl
@[simp] theorem setKrn_link (x : KernDyn) : (s.setKrn x).link = s.link := rfl
@[simp] theorem setKrn_pair (x : KernDyn) : (s.setKrn x).pair = s.pair := rfl
@[simp] theorem setKrn_faults (x : KernDyn) : (s.setKrn x).faults = s.faults := rfl
@[simp] theorem setKrn_power (x : KernDyn) : (s.setKrn x).power = s.power := rfl
@[simp] theorem setKrn_gpio (x : KernDyn) : (s.setKrn x).gpio = s.gpio := rfl
@[simp] theorem setKrn_jtag (x : KernDyn) : (s.setKrn x).jtag = s.jtag := rfl

/-! `setSlotImage` -/

@[simp] theorem setSlotImage_pending (x : ImageSlot) : (s.setSlotImage x).pending = s.pending := rfl
@[simp] theorem setSlotImage_free (x : ImageSlot) : (s.setSlotImage x).free = s.free := rfl
@[simp] theorem setSlotImage_sent (x : ImageSlot) : (s.setSlotImage x).sent = s.sent := rfl
@[simp] theorem setSlotImage_id (x : ImageSlot) : (s.setSlotImage x).id = s.id := rfl
@[simp] theorem setSlotImage_mbx (x : ImageSlot) : (s.setSlotImage x).mbx = s.mbx := rfl
@[simp] theorem setSlotImage_deferred (x : ImageSlot) : (s.setSlotImage x).deferred = s.deferred := rfl
@[simp] theorem setSlotImage_boot (x : ImageSlot) : (s.setSlotImage x).boot = s.boot := rfl
@[simp] theorem setSlotImage_evq (x : ImageSlot) : (s.setSlotImage x).evq = s.evq := rfl
@[simp] theorem setSlotImage_time (x : ImageSlot) : (s.setSlotImage x).time = s.time := rfl
@[simp] theorem setSlotImage_nodes (x : ImageSlot) : (s.setSlotImage x).nodes = s.nodes := rfl
@[simp] theorem setSlotImage_leaving (x : ImageSlot) : (s.setSlotImage x).leaving = s.leaving := rfl
@[simp] theorem setSlotImage_conns (x : ImageSlot) : (s.setSlotImage x).conns = s.conns := rfl
@[simp] theorem setSlotImage_pend (x : ImageSlot) : (s.setSlotImage x).pend = s.pend := rfl
@[simp] theorem setSlotImage_pendLate (x : ImageSlot) : (s.setSlotImage x).pendLate = s.pendLate := rfl
@[simp] theorem setSlotImage_setHere (x : ImageSlot) : (s.setSlotImage x).setHere = s.setHere := rfl
@[simp] theorem setSlotImage_run (x : ImageSlot) : (s.setSlotImage x).run = s.run := rfl
@[simp] theorem setSlotImage_wires (x : ImageSlot) : (s.setSlotImage x).wires = s.wires := rfl
@[simp] theorem setSlotImage_midway (x : ImageSlot) : (s.setSlotImage x).midway = s.midway := rfl
@[simp] theorem setSlotImage_closedView (x : ImageSlot) : (s.setSlotImage x).closedView = s.closedView := rfl
@[simp] theorem setSlotImage_slabs (x : ImageSlot) : (s.setSlotImage x).slabs = s.slabs := rfl
@[simp] theorem setSlotImage_commits (x : ImageSlot) : (s.setSlotImage x).commits = s.commits := rfl
@[simp] theorem setSlotImage_slabSet (x : ImageSlot) : (s.setSlotImage x).slabSet = s.slabSet := rfl
@[simp] theorem setSlotImage_rd (x : ImageSlot) : (s.setSlotImage x).rd = s.rd := rfl
@[simp] theorem setSlotImage_wr (x : ImageSlot) : (s.setSlotImage x).wr = s.wr := rfl
@[simp] theorem setSlotImage_front (x : ImageSlot) : (s.setSlotImage x).front = s.front := rfl
@[simp] theorem setSlotImage_gal (x : ImageSlot) : (s.setSlotImage x).gal = s.gal := rfl
@[simp] theorem setSlotImage_ren (x : ImageSlot) : (s.setSlotImage x).ren = s.ren := rfl
@[simp] theorem setSlotImage_spk (x : ImageSlot) : (s.setSlotImage x).spk = s.spk := rfl
@[simp] theorem setSlotImage_cap (x : ImageSlot) : (s.setSlotImage x).cap = s.cap := rfl
@[simp] theorem setSlotImage_eth (x : ImageSlot) : (s.setSlotImage x).eth = s.eth := rfl
@[simp] theorem setSlotImage_voice (x : ImageSlot) : (s.setSlotImage x).voice = s.voice := rfl
@[simp] theorem setSlotImage_mem (x : ImageSlot) : (s.setSlotImage x).mem = s.mem := rfl
@[simp] theorem setSlotImage_ash (x : ImageSlot) : (s.setSlotImage x).ash = s.ash := rfl
@[simp] theorem setSlotImage_link (x : ImageSlot) : (s.setSlotImage x).link = s.link := rfl
@[simp] theorem setSlotImage_pair (x : ImageSlot) : (s.setSlotImage x).pair = s.pair := rfl
@[simp] theorem setSlotImage_faults (x : ImageSlot) : (s.setSlotImage x).faults = s.faults := rfl
@[simp] theorem setSlotImage_power (x : ImageSlot) : (s.setSlotImage x).power = s.power := rfl
@[simp] theorem setSlotImage_gpio (x : ImageSlot) : (s.setSlotImage x).gpio = s.gpio := rfl
@[simp] theorem setSlotImage_jtag (x : ImageSlot) : (s.setSlotImage x).jtag = s.jtag := rfl

/-! `setQueueRaw` -/

@[simp] theorem setQueueRaw_pending (k : Nat) (h : HostQueue) : (s.setQueueRaw k h).pending = s.pending := rfl
@[simp] theorem setQueueRaw_free (k : Nat) (h : HostQueue) : (s.setQueueRaw k h).free = s.free := rfl
@[simp] theorem setQueueRaw_sent (k : Nat) (h : HostQueue) : (s.setQueueRaw k h).sent = s.sent := rfl
@[simp] theorem setQueueRaw_id (k : Nat) (h : HostQueue) : (s.setQueueRaw k h).id = s.id := rfl
@[simp] theorem setQueueRaw_mbx (k : Nat) (h : HostQueue) : (s.setQueueRaw k h).mbx = s.mbx := rfl
@[simp] theorem setQueueRaw_deferred (k : Nat) (h : HostQueue) : (s.setQueueRaw k h).deferred = s.deferred := rfl
@[simp] theorem setQueueRaw_boot (k : Nat) (h : HostQueue) : (s.setQueueRaw k h).boot = s.boot := rfl
@[simp] theorem setQueueRaw_evq (k : Nat) (h : HostQueue) : (s.setQueueRaw k h).evq = s.evq := rfl
@[simp] theorem setQueueRaw_time (k : Nat) (h : HostQueue) : (s.setQueueRaw k h).time = s.time := rfl
@[simp] theorem setQueueRaw_nodes (k : Nat) (h : HostQueue) : (s.setQueueRaw k h).nodes = s.nodes := rfl
@[simp] theorem setQueueRaw_leaving (k : Nat) (h : HostQueue) : (s.setQueueRaw k h).leaving = s.leaving := rfl
@[simp] theorem setQueueRaw_conns (k : Nat) (h : HostQueue) : (s.setQueueRaw k h).conns = s.conns := rfl
@[simp] theorem setQueueRaw_pend (k : Nat) (h : HostQueue) : (s.setQueueRaw k h).pend = s.pend := rfl
@[simp] theorem setQueueRaw_pendLate (k : Nat) (h : HostQueue) : (s.setQueueRaw k h).pendLate = s.pendLate := rfl
@[simp] theorem setQueueRaw_setHere (k : Nat) (h : HostQueue) : (s.setQueueRaw k h).setHere = s.setHere := rfl
@[simp] theorem setQueueRaw_run (k : Nat) (h : HostQueue) : (s.setQueueRaw k h).run = s.run := rfl
@[simp] theorem setQueueRaw_wires (k : Nat) (h : HostQueue) : (s.setQueueRaw k h).wires = s.wires := rfl
@[simp] theorem setQueueRaw_midway (k : Nat) (h : HostQueue) : (s.setQueueRaw k h).midway = s.midway := rfl
@[simp] theorem setQueueRaw_closedView (k : Nat) (h : HostQueue) : (s.setQueueRaw k h).closedView = s.closedView := rfl
@[simp] theorem setQueueRaw_slabs (k : Nat) (h : HostQueue) : (s.setQueueRaw k h).slabs = s.slabs := rfl
@[simp] theorem setQueueRaw_commits (k : Nat) (h : HostQueue) : (s.setQueueRaw k h).commits = s.commits := rfl
@[simp] theorem setQueueRaw_slabSet (k : Nat) (h : HostQueue) : (s.setQueueRaw k h).slabSet = s.slabSet := rfl
@[simp] theorem setQueueRaw_rd (k : Nat) (h : HostQueue) : (s.setQueueRaw k h).rd = s.rd := rfl
@[simp] theorem setQueueRaw_wr (k : Nat) (h : HostQueue) : (s.setQueueRaw k h).wr = s.wr := rfl
@[simp] theorem setQueueRaw_front (k : Nat) (h : HostQueue) : (s.setQueueRaw k h).front = s.front := rfl
@[simp] theorem setQueueRaw_gal (k : Nat) (h : HostQueue) : (s.setQueueRaw k h).gal = s.gal := rfl
@[simp] theorem setQueueRaw_ren (k : Nat) (h : HostQueue) : (s.setQueueRaw k h).ren = s.ren := rfl
@[simp] theorem setQueueRaw_spk (k : Nat) (h : HostQueue) : (s.setQueueRaw k h).spk = s.spk := rfl
@[simp] theorem setQueueRaw_cap (k : Nat) (h : HostQueue) : (s.setQueueRaw k h).cap = s.cap := rfl
@[simp] theorem setQueueRaw_eth (k : Nat) (h : HostQueue) : (s.setQueueRaw k h).eth = s.eth := rfl
@[simp] theorem setQueueRaw_voice (k : Nat) (h : HostQueue) : (s.setQueueRaw k h).voice = s.voice := rfl
@[simp] theorem setQueueRaw_bench (k : Nat) (h : HostQueue) : (s.setQueueRaw k h).bench = s.bench := rfl
@[simp] theorem setQueueRaw_ash (k : Nat) (h : HostQueue) : (s.setQueueRaw k h).ash = s.ash := rfl
@[simp] theorem setQueueRaw_link (k : Nat) (h : HostQueue) : (s.setQueueRaw k h).link = s.link := rfl
@[simp] theorem setQueueRaw_pair (k : Nat) (h : HostQueue) : (s.setQueueRaw k h).pair = s.pair := rfl
@[simp] theorem setQueueRaw_faults (k : Nat) (h : HostQueue) : (s.setQueueRaw k h).faults = s.faults := rfl
@[simp] theorem setQueueRaw_power (k : Nat) (h : HostQueue) : (s.setQueueRaw k h).power = s.power := rfl
@[simp] theorem setQueueRaw_gpio (k : Nat) (h : HostQueue) : (s.setQueueRaw k h).gpio = s.gpio := rfl
@[simp] theorem setQueueRaw_jtag (k : Nat) (h : HostQueue) : (s.setQueueRaw k h).jtag = s.jtag := rfl

/-! `setAsh` -/

@[simp] theorem setAsh_pending (x : AshDyn) : (s.setAsh x).pending = s.pending := rfl
@[simp] theorem setAsh_free (x : AshDyn) : (s.setAsh x).free = s.free := rfl
@[simp] theorem setAsh_sent (x : AshDyn) : (s.setAsh x).sent = s.sent := rfl
@[simp] theorem setAsh_id (x : AshDyn) : (s.setAsh x).id = s.id := rfl
@[simp] theorem setAsh_mbx (x : AshDyn) : (s.setAsh x).mbx = s.mbx := rfl
@[simp] theorem setAsh_deferred (x : AshDyn) : (s.setAsh x).deferred = s.deferred := rfl
@[simp] theorem setAsh_boot (x : AshDyn) : (s.setAsh x).boot = s.boot := rfl
@[simp] theorem setAsh_evq (x : AshDyn) : (s.setAsh x).evq = s.evq := rfl
@[simp] theorem setAsh_time (x : AshDyn) : (s.setAsh x).time = s.time := rfl
@[simp] theorem setAsh_nodes (x : AshDyn) : (s.setAsh x).nodes = s.nodes := rfl
@[simp] theorem setAsh_leaving (x : AshDyn) : (s.setAsh x).leaving = s.leaving := rfl
@[simp] theorem setAsh_conns (x : AshDyn) : (s.setAsh x).conns = s.conns := rfl
@[simp] theorem setAsh_pend (x : AshDyn) : (s.setAsh x).pend = s.pend := rfl
@[simp] theorem setAsh_pendLate (x : AshDyn) : (s.setAsh x).pendLate = s.pendLate := rfl
@[simp] theorem setAsh_setHere (x : AshDyn) : (s.setAsh x).setHere = s.setHere := rfl
@[simp] theorem setAsh_run (x : AshDyn) : (s.setAsh x).run = s.run := rfl
@[simp] theorem setAsh_wires (x : AshDyn) : (s.setAsh x).wires = s.wires := rfl
@[simp] theorem setAsh_midway (x : AshDyn) : (s.setAsh x).midway = s.midway := rfl
@[simp] theorem setAsh_closedView (x : AshDyn) : (s.setAsh x).closedView = s.closedView := rfl
@[simp] theorem setAsh_slabs (x : AshDyn) : (s.setAsh x).slabs = s.slabs := rfl
@[simp] theorem setAsh_commits (x : AshDyn) : (s.setAsh x).commits = s.commits := rfl
@[simp] theorem setAsh_slabSet (x : AshDyn) : (s.setAsh x).slabSet = s.slabSet := rfl
@[simp] theorem setAsh_rd (x : AshDyn) : (s.setAsh x).rd = s.rd := rfl
@[simp] theorem setAsh_wr (x : AshDyn) : (s.setAsh x).wr = s.wr := rfl
@[simp] theorem setAsh_front (x : AshDyn) : (s.setAsh x).front = s.front := rfl
@[simp] theorem setAsh_gal (x : AshDyn) : (s.setAsh x).gal = s.gal := rfl
@[simp] theorem setAsh_ren (x : AshDyn) : (s.setAsh x).ren = s.ren := rfl
@[simp] theorem setAsh_spk (x : AshDyn) : (s.setAsh x).spk = s.spk := rfl
@[simp] theorem setAsh_cap (x : AshDyn) : (s.setAsh x).cap = s.cap := rfl
@[simp] theorem setAsh_eth (x : AshDyn) : (s.setAsh x).eth = s.eth := rfl
@[simp] theorem setAsh_voice (x : AshDyn) : (s.setAsh x).voice = s.voice := rfl
@[simp] theorem setAsh_bench (x : AshDyn) : (s.setAsh x).bench = s.bench := rfl
@[simp] theorem setAsh_mem (x : AshDyn) : (s.setAsh x).mem = s.mem := rfl
@[simp] theorem setAsh_ash (x : AshDyn) : (s.setAsh x).ash = putKey AshDyn.ctx x s.ash := rfl
@[simp] theorem setAsh_link (x : AshDyn) : (s.setAsh x).link = s.link := rfl
@[simp] theorem setAsh_pair (x : AshDyn) : (s.setAsh x).pair = s.pair := rfl
@[simp] theorem setAsh_faults (x : AshDyn) : (s.setAsh x).faults = s.faults := rfl
@[simp] theorem setAsh_power (x : AshDyn) : (s.setAsh x).power = s.power := rfl
@[simp] theorem setAsh_gpio (x : AshDyn) : (s.setAsh x).gpio = s.gpio := rfl
@[simp] theorem setAsh_jtag (x : AshDyn) : (s.setAsh x).jtag = s.jtag := rfl

/-! `setCause` and the raising of events -/

@[simp] theorem setCause_pending (v : Nat) : (s.setCause v).pending = s.pending := by rw [State.setCause_eq]
@[simp] theorem setCause_free (v : Nat) : (s.setCause v).free = s.free := by rw [State.setCause_eq]
@[simp] theorem setCause_id (v : Nat) : (s.setCause v).id = s.id := by rw [State.setCause_eq]
@[simp] theorem setCause_deferred (v : Nat) : (s.setCause v).deferred = s.deferred := by rw [State.setCause_eq]
@[simp] theorem setCause_boot (v : Nat) : (s.setCause v).boot = s.boot := by rw [State.setCause_eq]
@[simp] theorem setCause_time (v : Nat) : (s.setCause v).time = s.time := by rw [State.setCause_eq]
@[simp] theorem setCause_nodes (v : Nat) : (s.setCause v).nodes = s.nodes := by rw [State.setCause_eq]
@[simp] theorem setCause_leaving (v : Nat) : (s.setCause v).leaving = s.leaving := by rw [State.setCause_eq]
@[simp] theorem setCause_conns (v : Nat) : (s.setCause v).conns = s.conns := by rw [State.setCause_eq]
@[simp] theorem setCause_pend (v : Nat) : (s.setCause v).pend = s.pend := by rw [State.setCause_eq]
@[simp] theorem setCause_pendLate (v : Nat) : (s.setCause v).pendLate = s.pendLate := by rw [State.setCause_eq]
@[simp] theorem setCause_setHere (v : Nat) : (s.setCause v).setHere = s.setHere := by rw [State.setCause_eq]
@[simp] theorem setCause_run (v : Nat) : (s.setCause v).run = s.run := by rw [State.setCause_eq]
@[simp] theorem setCause_wires (v : Nat) : (s.setCause v).wires = s.wires := by rw [State.setCause_eq]
@[simp] theorem setCause_midway (v : Nat) : (s.setCause v).midway = s.midway := by rw [State.setCause_eq]
@[simp] theorem setCause_closedView (v : Nat) : (s.setCause v).closedView = s.closedView := by rw [State.setCause_eq]
@[simp] theorem setCause_slabs (v : Nat) : (s.setCause v).slabs = s.slabs := by rw [State.setCause_eq]
@[simp] theorem setCause_commits (v : Nat) : (s.setCause v).commits = s.commits := by rw [State.setCause_eq]
@[simp] theorem setCause_slabSet (v : Nat) : (s.setCause v).slabSet = s.slabSet := by rw [State.setCause_eq]
@[simp] theorem setCause_rd (v : Nat) : (s.setCause v).rd = s.rd := by rw [State.setCause_eq]
@[simp] theorem setCause_wr (v : Nat) : (s.setCause v).wr = s.wr := by rw [State.setCause_eq]
@[simp] theorem setCause_front (v : Nat) : (s.setCause v).front = s.front := by rw [State.setCause_eq]
@[simp] theorem setCause_gal (v : Nat) : (s.setCause v).gal = s.gal := by rw [State.setCause_eq]
@[simp] theorem setCause_ren (v : Nat) : (s.setCause v).ren = s.ren := by rw [State.setCause_eq]
@[simp] theorem setCause_spk (v : Nat) : (s.setCause v).spk = s.spk := by rw [State.setCause_eq]
@[simp] theorem setCause_cap (v : Nat) : (s.setCause v).cap = s.cap := by rw [State.setCause_eq]
@[simp] theorem setCause_eth (v : Nat) : (s.setCause v).eth = s.eth := by rw [State.setCause_eq]
@[simp] theorem setCause_voice (v : Nat) : (s.setCause v).voice = s.voice := by rw [State.setCause_eq]
@[simp] theorem setCause_bench (v : Nat) : (s.setCause v).bench = s.bench := by rw [State.setCause_eq]
@[simp] theorem setCause_mem (v : Nat) : (s.setCause v).mem = s.mem := by rw [State.setCause_eq]
@[simp] theorem setCause_ash (v : Nat) : (s.setCause v).ash = s.ash := by rw [State.setCause_eq]
@[simp] theorem setCause_link (v : Nat) : (s.setCause v).link = s.link := by rw [State.setCause_eq]
@[simp] theorem setCause_pair (v : Nat) : (s.setCause v).pair = s.pair := by rw [State.setCause_eq]
@[simp] theorem setCause_faults (v : Nat) : (s.setCause v).faults = s.faults := by rw [State.setCause_eq]
@[simp] theorem setCause_power (v : Nat) : (s.setCause v).power = s.power := by rw [State.setCause_eq]
@[simp] theorem setCause_gpio (v : Nat) : (s.setCause v).gpio = s.gpio := by rw [State.setCause_eq]
@[simp] theorem setCause_jtag (v : Nat) : (s.setCause v).jtag = s.jtag := by rw [State.setCause_eq]

end State

theorem OnlyEvents.free {s t : State} (h : OnlyEvents s t) : t.free = s.free := by rw [h]
theorem OnlyEvents.deferred {s t : State} (h : OnlyEvents s t) : t.deferred = s.deferred := by rw [h]
theorem OnlyEvents.time {s t : State} (h : OnlyEvents s t) : t.time = s.time := by rw [h]
theorem OnlyEvents.nodes {s t : State} (h : OnlyEvents s t) : t.nodes = s.nodes := by rw [h]
theorem OnlyEvents.leaving {s t : State} (h : OnlyEvents s t) : t.leaving = s.leaving := by rw [h]
theorem OnlyEvents.conns {s t : State} (h : OnlyEvents s t) : t.conns = s.conns := by rw [h]
theorem OnlyEvents.pend {s t : State} (h : OnlyEvents s t) : t.pend = s.pend := by rw [h]
theorem OnlyEvents.pendLate {s t : State} (h : OnlyEvents s t) : t.pendLate = s.pendLate := by rw [h]
theorem OnlyEvents.setHere {s t : State} (h : OnlyEvents s t) : t.setHere = s.setHere := by rw [h]
theorem OnlyEvents.run {s t : State} (h : OnlyEvents s t) : t.run = s.run := by rw [h]
theorem OnlyEvents.wires {s t : State} (h : OnlyEvents s t) : t.wires = s.wires := by rw [h]
theorem OnlyEvents.midway {s t : State} (h : OnlyEvents s t) : t.midway = s.midway := by rw [h]
theorem OnlyEvents.closedView {s t : State} (h : OnlyEvents s t) : t.closedView = s.closedView := by rw [h]
theorem OnlyEvents.slabs {s t : State} (h : OnlyEvents s t) : t.slabs = s.slabs := by rw [h]
theorem OnlyEvents.commits {s t : State} (h : OnlyEvents s t) : t.commits = s.commits := by rw [h]
theorem OnlyEvents.slabSet {s t : State} (h : OnlyEvents s t) : t.slabSet = s.slabSet := by rw [h]
theorem OnlyEvents.rd {s t : State} (h : OnlyEvents s t) : t.rd = s.rd := by rw [h]
theorem OnlyEvents.wr {s t : State} (h : OnlyEvents s t) : t.wr = s.wr := by rw [h]
theorem OnlyEvents.front {s t : State} (h : OnlyEvents s t) : t.front = s.front := by rw [h]
theorem OnlyEvents.gal {s t : State} (h : OnlyEvents s t) : t.gal = s.gal := by rw [h]
theorem OnlyEvents.ren {s t : State} (h : OnlyEvents s t) : t.ren = s.ren := by rw [h]
theorem OnlyEvents.spk {s t : State} (h : OnlyEvents s t) : t.spk = s.spk := by rw [h]
theorem OnlyEvents.cap {s t : State} (h : OnlyEvents s t) : t.cap = s.cap := by rw [h]
theorem OnlyEvents.eth {s t : State} (h : OnlyEvents s t) : t.eth = s.eth := by rw [h]
theorem OnlyEvents.voice {s t : State} (h : OnlyEvents s t) : t.voice = s.voice := by rw [h]
theorem OnlyEvents.bench {s t : State} (h : OnlyEvents s t) : t.bench = s.bench := by rw [h]
theorem OnlyEvents.mem {s t : State} (h : OnlyEvents s t) : t.mem = s.mem := by rw [h]
theorem OnlyEvents.ash {s t : State} (h : OnlyEvents s t) : t.ash = s.ash := by rw [h]
theorem OnlyEvents.faults {s t : State} (h : OnlyEvents s t) : t.faults = s.faults := by rw [h]
theorem OnlyEvents.power {s t : State} (h : OnlyEvents s t) : t.power = s.power := by rw [h]
theorem OnlyEvents.gpio {s t : State} (h : OnlyEvents s t) : t.gpio = s.gpio := by rw [h]
theorem OnlyEvents.jtag {s t : State} (h : OnlyEvents s t) : t.jtag = s.jtag := by rw [h]

namespace State

variable (s : State)

@[simp] theorem raise_pending (a c n : Nat) (d : Bytes) : (s.raise a c n d).pending = s.pending := (State.raise_only a c n d s).pending
@[simp] theorem raise_free (a c n : Nat) (d : Bytes) : (s.raise a c n d).free = s.free := (State.raise_only a c n d s).free
@[simp] theorem raise_id (a c n : Nat) (d : Bytes) : (s.raise a c n d).id = s.id := (State.raise_only a c n d s).id
@[simp] theorem raise_mbx (a c n : Nat) (d : Bytes) : (s.raise a c n d).mbx = s.mbx := (State.raise_only a c n d s).mbx
@[simp] theorem raise_deferred (a c n : Nat) (d : Bytes) : (s.raise a c n d).deferred = s.deferred := (State.raise_only a c n d s).deferred
@[simp] theorem raise_boot (a c n : Nat) (d : Bytes) : (s.raise a c n d).boot = s.boot := (State.raise_only a c n d s).boot
@[simp] theorem raise_time (a c n : Nat) (d : Bytes) : (s.raise a c n d).time = s.time := (State.raise_only a c n d s).time
@[simp] theorem raise_nodes (a c n : Nat) (d : Bytes) : (s.raise a c n d).nodes = s.nodes := (State.raise_only a c n d s).nodes
@[simp] theorem raise_leaving (a c n : Nat) (d : Bytes) : (s.raise a c n d).leaving = s.leaving := (State.raise_only a c n d s).leaving
@[simp] theorem raise_conns (a c n : Nat) (d : Bytes) : (s.raise a c n d).conns = s.conns := (State.raise_only a c n d s).conns
@[simp] theorem raise_pend (a c n : Nat) (d : Bytes) : (s.raise a c n d).pend = s.pend := (State.raise_only a c n d s).pend
@[simp] theorem raise_pendLate (a c n : Nat) (d : Bytes) : (s.raise a c n d).pendLate = s.pendLate := (State.raise_only a c n d s).pendLate
@[simp] theorem raise_setHere (a c n : Nat) (d : Bytes) : (s.raise a c n d).setHere = s.setHere := (State.raise_only a c n d s).setHere
@[simp] theorem raise_run (a c n : Nat) (d : Bytes) : (s.raise a c n d).run = s.run := (State.raise_only a c n d s).run
@[simp] theorem raise_wires (a c n : Nat) (d : Bytes) : (s.raise a c n d).wires = s.wires := (State.raise_only a c n d s).wires
@[simp] theorem raise_midway (a c n : Nat) (d : Bytes) : (s.raise a c n d).midway = s.midway := (State.raise_only a c n d s).midway
@[simp] theorem raise_closedView (a c n : Nat) (d : Bytes) : (s.raise a c n d).closedView = s.closedView := (State.raise_only a c n d s).closedView
@[simp] theorem raise_slabs (a c n : Nat) (d : Bytes) : (s.raise a c n d).slabs = s.slabs := (State.raise_only a c n d s).slabs
@[simp] theorem raise_commits (a c n : Nat) (d : Bytes) : (s.raise a c n d).commits = s.commits := (State.raise_only a c n d s).commits
@[simp] theorem raise_slabSet (a c n : Nat) (d : Bytes) : (s.raise a c n d).slabSet = s.slabSet := (State.raise_only a c n d s).slabSet
@[simp] theorem raise_rd (a c n : Nat) (d : Bytes) : (s.raise a c n d).rd = s.rd := (State.raise_only a c n d s).rd
@[simp] theorem raise_wr (a c n : Nat) (d : Bytes) : (s.raise a c n d).wr = s.wr := (State.raise_only a c n d s).wr
@[simp] theorem raise_front (a c n : Nat) (d : Bytes) : (s.raise a c n d).front = s.front := (State.raise_only a c n d s).front
@[simp] theorem raise_gal (a c n : Nat) (d : Bytes) : (s.raise a c n d).gal = s.gal := (State.raise_only a c n d s).gal
@[simp] theorem raise_ren (a c n : Nat) (d : Bytes) : (s.raise a c n d).ren = s.ren := (State.raise_only a c n d s).ren
@[simp] theorem raise_spk (a c n : Nat) (d : Bytes) : (s.raise a c n d).spk = s.spk := (State.raise_only a c n d s).spk
@[simp] theorem raise_cap (a c n : Nat) (d : Bytes) : (s.raise a c n d).cap = s.cap := (State.raise_only a c n d s).cap
@[simp] theorem raise_eth (a c n : Nat) (d : Bytes) : (s.raise a c n d).eth = s.eth := (State.raise_only a c n d s).eth
@[simp] theorem raise_voice (a c n : Nat) (d : Bytes) : (s.raise a c n d).voice = s.voice := (State.raise_only a c n d s).voice
@[simp] theorem raise_bench (a c n : Nat) (d : Bytes) : (s.raise a c n d).bench = s.bench := (State.raise_only a c n d s).bench
@[simp] theorem raise_mem (a c n : Nat) (d : Bytes) : (s.raise a c n d).mem = s.mem := (State.raise_only a c n d s).mem
@[simp] theorem raise_ash (a c n : Nat) (d : Bytes) : (s.raise a c n d).ash = s.ash := (State.raise_only a c n d s).ash
@[simp] theorem raise_faults (a c n : Nat) (d : Bytes) : (s.raise a c n d).faults = s.faults := (State.raise_only a c n d s).faults
@[simp] theorem raise_power (a c n : Nat) (d : Bytes) : (s.raise a c n d).power = s.power := (State.raise_only a c n d s).power
@[simp] theorem raise_gpio (a c n : Nat) (d : Bytes) : (s.raise a c n d).gpio = s.gpio := (State.raise_only a c n d s).gpio
@[simp] theorem raise_jtag (a c n : Nat) (d : Bytes) : (s.raise a c n d).jtag = s.jtag := (State.raise_only a c n d s).jtag

@[simp] theorem raiseLatched_pending (a c n : Nat) (d : Bytes) : (s.raiseLatched a c n d).pending = s.pending := (State.raiseLatched_only a c n d s).pending
@[simp] theorem raiseLatched_free (a c n : Nat) (d : Bytes) : (s.raiseLatched a c n d).free = s.free := (State.raiseLatched_only a c n d s).free
@[simp] theorem raiseLatched_id (a c n : Nat) (d : Bytes) : (s.raiseLatched a c n d).id = s.id := (State.raiseLatched_only a c n d s).id
@[simp] theorem raiseLatched_mbx (a c n : Nat) (d : Bytes) : (s.raiseLatched a c n d).mbx = s.mbx := (State.raiseLatched_only a c n d s).mbx
@[simp] theorem raiseLatched_deferred (a c n : Nat) (d : Bytes) : (s.raiseLatched a c n d).deferred = s.deferred := (State.raiseLatched_only a c n d s).deferred
@[simp] theorem raiseLatched_boot (a c n : Nat) (d : Bytes) : (s.raiseLatched a c n d).boot = s.boot := (State.raiseLatched_only a c n d s).boot
@[simp] theorem raiseLatched_time (a c n : Nat) (d : Bytes) : (s.raiseLatched a c n d).time = s.time := (State.raiseLatched_only a c n d s).time
@[simp] theorem raiseLatched_nodes (a c n : Nat) (d : Bytes) : (s.raiseLatched a c n d).nodes = s.nodes := (State.raiseLatched_only a c n d s).nodes
@[simp] theorem raiseLatched_leaving (a c n : Nat) (d : Bytes) : (s.raiseLatched a c n d).leaving = s.leaving := (State.raiseLatched_only a c n d s).leaving
@[simp] theorem raiseLatched_conns (a c n : Nat) (d : Bytes) : (s.raiseLatched a c n d).conns = s.conns := (State.raiseLatched_only a c n d s).conns
@[simp] theorem raiseLatched_pend (a c n : Nat) (d : Bytes) : (s.raiseLatched a c n d).pend = s.pend := (State.raiseLatched_only a c n d s).pend
@[simp] theorem raiseLatched_pendLate (a c n : Nat) (d : Bytes) : (s.raiseLatched a c n d).pendLate = s.pendLate := (State.raiseLatched_only a c n d s).pendLate
@[simp] theorem raiseLatched_setHere (a c n : Nat) (d : Bytes) : (s.raiseLatched a c n d).setHere = s.setHere := (State.raiseLatched_only a c n d s).setHere
@[simp] theorem raiseLatched_run (a c n : Nat) (d : Bytes) : (s.raiseLatched a c n d).run = s.run := (State.raiseLatched_only a c n d s).run
@[simp] theorem raiseLatched_wires (a c n : Nat) (d : Bytes) : (s.raiseLatched a c n d).wires = s.wires := (State.raiseLatched_only a c n d s).wires
@[simp] theorem raiseLatched_midway (a c n : Nat) (d : Bytes) : (s.raiseLatched a c n d).midway = s.midway := (State.raiseLatched_only a c n d s).midway
@[simp] theorem raiseLatched_closedView (a c n : Nat) (d : Bytes) : (s.raiseLatched a c n d).closedView = s.closedView := (State.raiseLatched_only a c n d s).closedView
@[simp] theorem raiseLatched_slabs (a c n : Nat) (d : Bytes) : (s.raiseLatched a c n d).slabs = s.slabs := (State.raiseLatched_only a c n d s).slabs
@[simp] theorem raiseLatched_commits (a c n : Nat) (d : Bytes) : (s.raiseLatched a c n d).commits = s.commits := (State.raiseLatched_only a c n d s).commits
@[simp] theorem raiseLatched_slabSet (a c n : Nat) (d : Bytes) : (s.raiseLatched a c n d).slabSet = s.slabSet := (State.raiseLatched_only a c n d s).slabSet
@[simp] theorem raiseLatched_rd (a c n : Nat) (d : Bytes) : (s.raiseLatched a c n d).rd = s.rd := (State.raiseLatched_only a c n d s).rd
@[simp] theorem raiseLatched_wr (a c n : Nat) (d : Bytes) : (s.raiseLatched a c n d).wr = s.wr := (State.raiseLatched_only a c n d s).wr
@[simp] theorem raiseLatched_front (a c n : Nat) (d : Bytes) : (s.raiseLatched a c n d).front = s.front := (State.raiseLatched_only a c n d s).front
@[simp] theorem raiseLatched_gal (a c n : Nat) (d : Bytes) : (s.raiseLatched a c n d).gal = s.gal := (State.raiseLatched_only a c n d s).gal
@[simp] theorem raiseLatched_ren (a c n : Nat) (d : Bytes) : (s.raiseLatched a c n d).ren = s.ren := (State.raiseLatched_only a c n d s).ren
@[simp] theorem raiseLatched_spk (a c n : Nat) (d : Bytes) : (s.raiseLatched a c n d).spk = s.spk := (State.raiseLatched_only a c n d s).spk
@[simp] theorem raiseLatched_cap (a c n : Nat) (d : Bytes) : (s.raiseLatched a c n d).cap = s.cap := (State.raiseLatched_only a c n d s).cap
@[simp] theorem raiseLatched_eth (a c n : Nat) (d : Bytes) : (s.raiseLatched a c n d).eth = s.eth := (State.raiseLatched_only a c n d s).eth
@[simp] theorem raiseLatched_voice (a c n : Nat) (d : Bytes) : (s.raiseLatched a c n d).voice = s.voice := (State.raiseLatched_only a c n d s).voice
@[simp] theorem raiseLatched_bench (a c n : Nat) (d : Bytes) : (s.raiseLatched a c n d).bench = s.bench := (State.raiseLatched_only a c n d s).bench
@[simp] theorem raiseLatched_mem (a c n : Nat) (d : Bytes) : (s.raiseLatched a c n d).mem = s.mem := (State.raiseLatched_only a c n d s).mem
@[simp] theorem raiseLatched_ash (a c n : Nat) (d : Bytes) : (s.raiseLatched a c n d).ash = s.ash := (State.raiseLatched_only a c n d s).ash
@[simp] theorem raiseLatched_faults (a c n : Nat) (d : Bytes) : (s.raiseLatched a c n d).faults = s.faults := (State.raiseLatched_only a c n d s).faults
@[simp] theorem raiseLatched_power (a c n : Nat) (d : Bytes) : (s.raiseLatched a c n d).power = s.power := (State.raiseLatched_only a c n d s).power
@[simp] theorem raiseLatched_gpio (a c n : Nat) (d : Bytes) : (s.raiseLatched a c n d).gpio = s.gpio := (State.raiseLatched_only a c n d s).gpio
@[simp] theorem raiseLatched_jtag (a c n : Nat) (d : Bytes) : (s.raiseLatched a c n d).jtag = s.jtag := (State.raiseLatched_only a c n d s).jtag

@[simp] theorem raiseRec_pending (e : EvRec) : (s.raiseRec e).pending = s.pending := (State.raiseRec_only e s).pending
@[simp] theorem raiseRec_free (e : EvRec) : (s.raiseRec e).free = s.free := (State.raiseRec_only e s).free
@[simp] theorem raiseRec_id (e : EvRec) : (s.raiseRec e).id = s.id := (State.raiseRec_only e s).id
@[simp] theorem raiseRec_mbx (e : EvRec) : (s.raiseRec e).mbx = s.mbx := (State.raiseRec_only e s).mbx
@[simp] theorem raiseRec_deferred (e : EvRec) : (s.raiseRec e).deferred = s.deferred := (State.raiseRec_only e s).deferred
@[simp] theorem raiseRec_boot (e : EvRec) : (s.raiseRec e).boot = s.boot := (State.raiseRec_only e s).boot
@[simp] theorem raiseRec_time (e : EvRec) : (s.raiseRec e).time = s.time := (State.raiseRec_only e s).time
@[simp] theorem raiseRec_nodes (e : EvRec) : (s.raiseRec e).nodes = s.nodes := (State.raiseRec_only e s).nodes
@[simp] theorem raiseRec_leaving (e : EvRec) : (s.raiseRec e).leaving = s.leaving := (State.raiseRec_only e s).leaving
@[simp] theorem raiseRec_conns (e : EvRec) : (s.raiseRec e).conns = s.conns := (State.raiseRec_only e s).conns
@[simp] theorem raiseRec_pend (e : EvRec) : (s.raiseRec e).pend = s.pend := (State.raiseRec_only e s).pend
@[simp] theorem raiseRec_pendLate (e : EvRec) : (s.raiseRec e).pendLate = s.pendLate := (State.raiseRec_only e s).pendLate
@[simp] theorem raiseRec_setHere (e : EvRec) : (s.raiseRec e).setHere = s.setHere := (State.raiseRec_only e s).setHere
@[simp] theorem raiseRec_run (e : EvRec) : (s.raiseRec e).run = s.run := (State.raiseRec_only e s).run
@[simp] theorem raiseRec_wires (e : EvRec) : (s.raiseRec e).wires = s.wires := (State.raiseRec_only e s).wires
@[simp] theorem raiseRec_midway (e : EvRec) : (s.raiseRec e).midway = s.midway := (State.raiseRec_only e s).midway
@[simp] theorem raiseRec_closedView (e : EvRec) : (s.raiseRec e).closedView = s.closedView := (State.raiseRec_only e s).closedView
@[simp] theorem raiseRec_slabs (e : EvRec) : (s.raiseRec e).slabs = s.slabs := (State.raiseRec_only e s).slabs
@[simp] theorem raiseRec_commits (e : EvRec) : (s.raiseRec e).commits = s.commits := (State.raiseRec_only e s).commits
@[simp] theorem raiseRec_slabSet (e : EvRec) : (s.raiseRec e).slabSet = s.slabSet := (State.raiseRec_only e s).slabSet
@[simp] theorem raiseRec_rd (e : EvRec) : (s.raiseRec e).rd = s.rd := (State.raiseRec_only e s).rd
@[simp] theorem raiseRec_wr (e : EvRec) : (s.raiseRec e).wr = s.wr := (State.raiseRec_only e s).wr
@[simp] theorem raiseRec_front (e : EvRec) : (s.raiseRec e).front = s.front := (State.raiseRec_only e s).front
@[simp] theorem raiseRec_gal (e : EvRec) : (s.raiseRec e).gal = s.gal := (State.raiseRec_only e s).gal
@[simp] theorem raiseRec_ren (e : EvRec) : (s.raiseRec e).ren = s.ren := (State.raiseRec_only e s).ren
@[simp] theorem raiseRec_spk (e : EvRec) : (s.raiseRec e).spk = s.spk := (State.raiseRec_only e s).spk
@[simp] theorem raiseRec_cap (e : EvRec) : (s.raiseRec e).cap = s.cap := (State.raiseRec_only e s).cap
@[simp] theorem raiseRec_eth (e : EvRec) : (s.raiseRec e).eth = s.eth := (State.raiseRec_only e s).eth
@[simp] theorem raiseRec_voice (e : EvRec) : (s.raiseRec e).voice = s.voice := (State.raiseRec_only e s).voice
@[simp] theorem raiseRec_bench (e : EvRec) : (s.raiseRec e).bench = s.bench := (State.raiseRec_only e s).bench
@[simp] theorem raiseRec_mem (e : EvRec) : (s.raiseRec e).mem = s.mem := (State.raiseRec_only e s).mem
@[simp] theorem raiseRec_ash (e : EvRec) : (s.raiseRec e).ash = s.ash := (State.raiseRec_only e s).ash
@[simp] theorem raiseRec_faults (e : EvRec) : (s.raiseRec e).faults = s.faults := (State.raiseRec_only e s).faults
@[simp] theorem raiseRec_power (e : EvRec) : (s.raiseRec e).power = s.power := (State.raiseRec_only e s).power
@[simp] theorem raiseRec_gpio (e : EvRec) : (s.raiseRec e).gpio = s.gpio := (State.raiseRec_only e s).gpio
@[simp] theorem raiseRec_jtag (e : EvRec) : (s.raiseRec e).jtag = s.jtag := (State.raiseRec_only e s).jtag

@[simp] theorem cross_pending (a k n : Nat) (v : Int) (b : Bool) (d : Bytes) : (s.cross a k n v b d).pending = s.pending := (State.cross_only a k n v b d s).pending
@[simp] theorem cross_free (a k n : Nat) (v : Int) (b : Bool) (d : Bytes) : (s.cross a k n v b d).free = s.free := (State.cross_only a k n v b d s).free
@[simp] theorem cross_id (a k n : Nat) (v : Int) (b : Bool) (d : Bytes) : (s.cross a k n v b d).id = s.id := (State.cross_only a k n v b d s).id
@[simp] theorem cross_mbx (a k n : Nat) (v : Int) (b : Bool) (d : Bytes) : (s.cross a k n v b d).mbx = s.mbx := (State.cross_only a k n v b d s).mbx
@[simp] theorem cross_deferred (a k n : Nat) (v : Int) (b : Bool) (d : Bytes) : (s.cross a k n v b d).deferred = s.deferred := (State.cross_only a k n v b d s).deferred
@[simp] theorem cross_boot (a k n : Nat) (v : Int) (b : Bool) (d : Bytes) : (s.cross a k n v b d).boot = s.boot := (State.cross_only a k n v b d s).boot
@[simp] theorem cross_time (a k n : Nat) (v : Int) (b : Bool) (d : Bytes) : (s.cross a k n v b d).time = s.time := (State.cross_only a k n v b d s).time
@[simp] theorem cross_nodes (a k n : Nat) (v : Int) (b : Bool) (d : Bytes) : (s.cross a k n v b d).nodes = s.nodes := (State.cross_only a k n v b d s).nodes
@[simp] theorem cross_leaving (a k n : Nat) (v : Int) (b : Bool) (d : Bytes) : (s.cross a k n v b d).leaving = s.leaving := (State.cross_only a k n v b d s).leaving
@[simp] theorem cross_conns (a k n : Nat) (v : Int) (b : Bool) (d : Bytes) : (s.cross a k n v b d).conns = s.conns := (State.cross_only a k n v b d s).conns
@[simp] theorem cross_pend (a k n : Nat) (v : Int) (b : Bool) (d : Bytes) : (s.cross a k n v b d).pend = s.pend := (State.cross_only a k n v b d s).pend
@[simp] theorem cross_pendLate (a k n : Nat) (v : Int) (b : Bool) (d : Bytes) : (s.cross a k n v b d).pendLate = s.pendLate := (State.cross_only a k n v b d s).pendLate
@[simp] theorem cross_setHere (a k n : Nat) (v : Int) (b : Bool) (d : Bytes) : (s.cross a k n v b d).setHere = s.setHere := (State.cross_only a k n v b d s).setHere
@[simp] theorem cross_run (a k n : Nat) (v : Int) (b : Bool) (d : Bytes) : (s.cross a k n v b d).run = s.run := (State.cross_only a k n v b d s).run
@[simp] theorem cross_wires (a k n : Nat) (v : Int) (b : Bool) (d : Bytes) : (s.cross a k n v b d).wires = s.wires := (State.cross_only a k n v b d s).wires
@[simp] theorem cross_midway (a k n : Nat) (v : Int) (b : Bool) (d : Bytes) : (s.cross a k n v b d).midway = s.midway := (State.cross_only a k n v b d s).midway
@[simp] theorem cross_closedView (a k n : Nat) (v : Int) (b : Bool) (d : Bytes) : (s.cross a k n v b d).closedView = s.closedView := (State.cross_only a k n v b d s).closedView
@[simp] theorem cross_slabs (a k n : Nat) (v : Int) (b : Bool) (d : Bytes) : (s.cross a k n v b d).slabs = s.slabs := (State.cross_only a k n v b d s).slabs
@[simp] theorem cross_commits (a k n : Nat) (v : Int) (b : Bool) (d : Bytes) : (s.cross a k n v b d).commits = s.commits := (State.cross_only a k n v b d s).commits
@[simp] theorem cross_slabSet (a k n : Nat) (v : Int) (b : Bool) (d : Bytes) : (s.cross a k n v b d).slabSet = s.slabSet := (State.cross_only a k n v b d s).slabSet
@[simp] theorem cross_rd (a k n : Nat) (v : Int) (b : Bool) (d : Bytes) : (s.cross a k n v b d).rd = s.rd := (State.cross_only a k n v b d s).rd
@[simp] theorem cross_wr (a k n : Nat) (v : Int) (b : Bool) (d : Bytes) : (s.cross a k n v b d).wr = s.wr := (State.cross_only a k n v b d s).wr
@[simp] theorem cross_front (a k n : Nat) (v : Int) (b : Bool) (d : Bytes) : (s.cross a k n v b d).front = s.front := (State.cross_only a k n v b d s).front
@[simp] theorem cross_gal (a k n : Nat) (v : Int) (b : Bool) (d : Bytes) : (s.cross a k n v b d).gal = s.gal := (State.cross_only a k n v b d s).gal
@[simp] theorem cross_ren (a k n : Nat) (v : Int) (b : Bool) (d : Bytes) : (s.cross a k n v b d).ren = s.ren := (State.cross_only a k n v b d s).ren
@[simp] theorem cross_spk (a k n : Nat) (v : Int) (b : Bool) (d : Bytes) : (s.cross a k n v b d).spk = s.spk := (State.cross_only a k n v b d s).spk
@[simp] theorem cross_cap (a k n : Nat) (v : Int) (b : Bool) (d : Bytes) : (s.cross a k n v b d).cap = s.cap := (State.cross_only a k n v b d s).cap
@[simp] theorem cross_eth (a k n : Nat) (v : Int) (b : Bool) (d : Bytes) : (s.cross a k n v b d).eth = s.eth := (State.cross_only a k n v b d s).eth
@[simp] theorem cross_voice (a k n : Nat) (v : Int) (b : Bool) (d : Bytes) : (s.cross a k n v b d).voice = s.voice := (State.cross_only a k n v b d s).voice
@[simp] theorem cross_bench (a k n : Nat) (v : Int) (b : Bool) (d : Bytes) : (s.cross a k n v b d).bench = s.bench := (State.cross_only a k n v b d s).bench
@[simp] theorem cross_mem (a k n : Nat) (v : Int) (b : Bool) (d : Bytes) : (s.cross a k n v b d).mem = s.mem := (State.cross_only a k n v b d s).mem
@[simp] theorem cross_ash (a k n : Nat) (v : Int) (b : Bool) (d : Bytes) : (s.cross a k n v b d).ash = s.ash := (State.cross_only a k n v b d s).ash
@[simp] theorem cross_faults (a k n : Nat) (v : Int) (b : Bool) (d : Bytes) : (s.cross a k n v b d).faults = s.faults := (State.cross_only a k n v b d s).faults
@[simp] theorem cross_power (a k n : Nat) (v : Int) (b : Bool) (d : Bytes) : (s.cross a k n v b d).power = s.power := (State.cross_only a k n v b d s).power
@[simp] theorem cross_gpio (a k n : Nat) (v : Int) (b : Bool) (d : Bytes) : (s.cross a k n v b d).gpio = s.gpio := (State.cross_only a k n v b d s).gpio
@[simp] theorem cross_jtag (a k n : Nat) (v : Int) (b : Bool) (d : Bytes) : (s.cross a k n v b d).jtag = s.jtag := (State.cross_only a k n v b d s).jtag

/-! Reading back what a keyed update wrote. -/

theorem ashDyn_setAsh (x : AshDyn) : (s.setAsh x).ashDyn x.ctx = x := by
  show (findKey AshDyn.ctx x.ctx (putKey AshDyn.ctx x _)).getD _ = x
  rw [findKey_putKey]; rfl

theorem ashDyn_setAsh_other (x : AshDyn) (j : Nat) (h : j ≠ x.ctx) : (s.setAsh x).ashDyn j = s.ashDyn j := by
  show (findKey AshDyn.ctx j (putKey AshDyn.ctx x _)).getD _ = _
  rw [findKey_putKey_other _ _ _ _ h]; rfl

theorem krn_setKrn (x : KernDyn) : (s.setKrn x).krn x.inst = x := by
  show (findKey KernDyn.inst x.inst (putKey KernDyn.inst x _)).getD _ = x
  rw [findKey_putKey]; rfl

theorem krn_setKrn_other (x : KernDyn) (j : Nat) (h : j ≠ x.inst) : (s.setKrn x).krn j = s.krn j := by
  show (findKey KernDyn.inst j (putKey KernDyn.inst x _)).getD _ = _
  rw [findKey_putKey_other _ _ _ _ h]; rfl

theorem beamDyn_setBeam (x : BeamDyn) : (s.setBeam x).beamDyn x.beam = x := by
  show (findKey BeamDyn.beam x.beam (putKey BeamDyn.beam x _)).getD _ = x
  rw [findKey_putKey]; rfl

theorem beamDyn_setBeam_other (x : BeamDyn) (j : Nat) (h : j ≠ x.beam) : (s.setBeam x).beamDyn j = s.beamDyn j := by
  show (findKey BeamDyn.beam j (putKey BeamDyn.beam x _)).getD _ = _
  rw [findKey_putKey_other _ _ _ _ h]; rfl

theorem galOut_setGalOut (x : GalOut) : (s.setGalOut x).galOut x.out = x := by
  show (findKey GalOut.out x.out (putKey GalOut.out x _)).getD _ = x
  rw [findKey_putKey]; rfl

theorem galOut_setGalOut_other (x : GalOut) (j : Nat) (h : j ≠ x.out) : (s.setGalOut x).galOut j = s.galOut j := by
  show (findKey GalOut.out j (putKey GalOut.out x _)).getD _ = _
  rw [findKey_putKey_other _ _ _ _ h]; rfl

theorem spkDyn_setSpk (x : SpkDyn) : (s.setSpk x).spkDyn x.spk = x := by
  show (findKey SpkDyn.spk x.spk (putKey SpkDyn.spk x _)).getD _ = x
  rw [findKey_putKey]; rfl

theorem spkDyn_setSpk_other (x : SpkDyn) (j : Nat) (h : j ≠ x.spk) : (s.setSpk x).spkDyn j = s.spkDyn j := by
  show (findKey SpkDyn.spk j (putKey SpkDyn.spk x _)).getD _ = _
  rw [findKey_putKey_other _ _ _ _ h]; rfl

theorem streamDyn_setStream (x : StreamDyn) : (s.setStream x).streamDyn x.node = x := by
  show (findKey StreamDyn.node x.node (putKey StreamDyn.node x _)).getD _ = x
  rw [findKey_putKey]; rfl

theorem streamDyn_setStream_other (x : StreamDyn) (j : Nat) (h : j ≠ x.node) : (s.setStream x).streamDyn j = s.streamDyn j := by
  show (findKey StreamDyn.node j (putKey StreamDyn.node x _)).getD _ = _
  rw [findKey_putKey_other _ _ _ _ h]; rfl

theorem callDyn_setCall (x : CallDyn) : (s.setCall x).callDyn x.ch = x := by
  show (findKey CallDyn.ch x.ch (putKey CallDyn.ch x _)).getD _ = x
  rw [findKey_putKey]; rfl

theorem callDyn_setCall_other (x : CallDyn) (j : Nat) (h : j ≠ x.ch) : (s.setCall x).callDyn j = s.callDyn j := by
  show (findKey CallDyn.ch j (putKey CallDyn.ch x _)).getD _ = _
  rw [findKey_putKey_other _ _ _ _ h]; rfl


end State
end Sys2Proof.Machine
end

