-- ==== Sys2Proof/Tests/Slice0.lean ====
section
/-! SUPPORT. The author's own tests: ill-formed commands refused, single steps on small states, and for each statement of
Certificates/Slice0/Obligations.lean concrete states and operands that meet its hypotheses, clause by clause. -/

namespace Sys2Proof.Tests

open Sys2Proof.Machine

set_option Elab.async false

/-! ### Helpers -/

/-- `Passes` as a check that can be evaluated. -/
def passesB (c : Contract) (s : State) (mb : Fin 8) (r : Req) : Bool :=
  s.awake && s.ready && !(s.box mb).busy && decide (r.payload.length ≤ 8176)
    && ((s.box mb).sess == .opened || c.closedOk) && !s.pairEn && s.pair.role == 0 && ((s.box mb).tagOf r.tag).isNone
    && c.early (s.accept c.opcode mb) mb r == 0 && !(s.accept c.opcode mb).mustWait c.opcode r
    && c.node (s.accept c.opcode mb) mb r == 0 && (s.power.state != .standby || c.standby)
    && c.fields (s.accept c.opcode mb) mb r

theorem passes {c : Contract} {s : State} {mb : Fin 8} {r : Req} (h : passesB c s mb r = true) : Passes c s mb r := by
  simp only [passesB, Bool.and_eq_true, Bool.or_eq_true, bne_iff_ne, ne_eq, beq_iff_eq, Bool.not_eq_true',
    Option.isNone_iff_eq_none, decide_eq_true_eq] at h
  obtain ⟨⟨⟨⟨⟨⟨⟨⟨⟨⟨⟨⟨h1, h2⟩, h3⟩, h4⟩, h5⟩, h6⟩, h7⟩, h8⟩, h9⟩, h10⟩, h11⟩, h12⟩, h13⟩ := h
  exact ⟨h1, h2, h3, h4, h5, h6, h7, h8, h9, h10, h11, h12, h13⟩

/-- A device that runs (boot CODE 7) and a session that is open in mailbox 0. -/
def demo : State := { State.reset with
  boot := { State.reset.boot with code := 7 }
  mbx := State.reset.mbx.set 0 { sess := .opened } }

/-- A request of tag 1. -/
def req (node : Nat) (p : Bytes) : Req :=
  { flags := 0, tag := 1, node := BitVec.ofNat 32 node, rsvd := 0, payload := p }

/-! ### Sessions, identity and capacity -/

def keyed : State := demo.setSlot 9 { key := some [1, 2, 3] }
def awaiting : State :=
  demo.setBox 0 { sess := .awaiting, keySlot := 9, nonce := zeros 16, openKey := [1, 2, 3], lapseAt := 0 }
def proof : Bytes := zeros 16 ++ hmacSha256 [1, 2, 3] (zeros 16 ++ zeros 16 ++ leBytes 4 0)

theorem test_wit_IdentityAndCapacity :
    Passes sysGetId demo 0 (req 0 []) ∧ Passes sysCapacity demo 0 (req 0 []) :=
  ⟨passes (by decide +kernel), passes (by decide +kernel)⟩

theorem test_wit_SessionLifecycle_open : ∃ s : State,
    Passes sessionOpen s 0 (req (mkNode Ty.session 0) (leBytes 4 9 ++ zeros 4)) ∧
      field (req (mkNode Ty.session 0) (leBytes 4 9 ++ zeros 4)).payload 0 1 = 9 ∧ (s.slot 9).key = some [1, 2, 3] ∧
      (s.box (0 : Fin 8)).sess = .closed ∧ (s.slot 9).lockUntil = none :=
  ⟨keyed.setBox 0 {}, passes (by decide +kernel), by decide +kernel⟩

theorem test_wit_SessionLifecycle_prove :
    Passes sessionProve awaiting 0 (req (mkNode Ty.session 0) proof) ∧ (awaiting.box (0 : Fin 8)).sess = .awaiting ∧
      (awaiting.box (0 : Fin 8)).lockedOpen = none ∧
      slice (req (mkNode Ty.session 0) proof).payload 16 32 =
        hmacSha256 (awaiting.box (0 : Fin 8)).openKey
          ((awaiting.box (0 : Fin 8)).nonce ++ slice (req (mkNode Ty.session 0) proof).payload 0 16 ++ leBytes 4 (0 : Fin 8)) :=
  ⟨passes (by decide +kernel), by decide +kernel⟩

theorem test_wit_SessionLifecycle_close : Passes sessionClose demo 0 (req (mkNode Ty.session 0) []) ∧
    (State.reset.box (0 : Fin 8)).sess ≠ .opened ∧ (demo.box (0 : Fin 8)).sess = .opened ∧ demo.slabs = [] :=
  ⟨passes (by decide +kernel), by decide +kernel⟩

theorem test_wit_SessionTimersAndLocks_wrong :
    Passes sessionProve awaiting 0 (req (mkNode Ty.session 0) (zeros 48)) ∧ (awaiting.box (0 : Fin 8)).sess = .awaiting ∧
      (awaiting.box (0 : Fin 8)).lockedOpen = none ∧
      slice (req (mkNode Ty.session 0) (zeros 48)).payload 16 32 ≠
        hmacSha256 (awaiting.box (0 : Fin 8)).openKey
          ((awaiting.box (0 : Fin 8)).nonce ++ slice (req (mkNode Ty.session 0) (zeros 48)).payload 0 16
            ++ leBytes 4 (0 : Fin 8)) ∧
      (awaiting.box (0 : Fin 8)).keySlot < 16 :=
  ⟨passes (by decide +kernel), by decide +kernel⟩

theorem test_wit_SessionTimersAndLocks_timers :
    ((demo.box (0 : Fin 8)).sess = .opened ∧
      (demo.box (0 : Fin 8)).lastDoorbell + (demo.box (0 : Fin 8)).idleTimeout * 48000 ≤ demo.time.ticks) ∧
    ((awaiting.box (0 : Fin 8)).sess = .awaiting ∧ (awaiting.box (0 : Fin 8)).lapseAt ≤ awaiting.time.ticks) ∧
    (((demo.setSlot 3 { lockUntil := some 0 }).slot (3 : Fin 16)).lockUntil = some 0 ∧ 0 ≤ demo.time.ticks) ∧
    (demo.following = false ∧ awaiting.following = false ∧ (demo.setSlot 3 { lockUntil := some 0 }).following = false) := by
  decide +kernel

theorem test_wit_DoorbellChecks :
    (demo.awake = true ∧ demo.ready = true ∧ (demo.box (0 : Fin 8)).busy = false ∧ demo.pairEn = false ∧
      doorbellCheck (15 % 0x4000) 0 (BitVec.toNat 1#16) ≠ 0 ∧ doorbellCheck (16 % 0x4000) 0 (BitVec.toNat 0xFFFF#16) ≠ 0) ∧
    ({ demo with power := { demo.power with state := .sleep } } : State).awake = false ∧
    (State.reset.awake = true ∧ State.reset.ready = false) ∧
    ((demo.setBox 0 { busy := true }).awake = true ∧ (demo.setBox 0 { busy := true }).ready = true ∧
      ((demo.setBox 0 { busy := true }).box (0 : Fin 8)).busy = true) := by
  decide +kernel

/-- A command that fails check 5 and one that fails its body. -/
theorem test_wit_FailuresChangeNothing :
    (demo.awake = true ∧ demo.ready = true ∧ (demo.box (0 : Fin 8)).busy = false ∧
      (req 0 [1]).payload.length ≤ 8176 ∧ demo.pairEn = false ∧ demo.pair.role = 0 ∧ (demo.box (0 : Fin 8)).sess = .opened ∧
      (demo.box (0 : Fin 8)).tagOf (req 0 [1]).tag = none ∧
      sysGetId.early (demo.accept sysGetId.opcode 0) 0 (req 0 [1]) ≠ 0) ∧
    (sessionOpen.early (demo.accept sessionOpen.opcode 0) 0 (req (mkNode Ty.session 0) (zeros 8)) = 0 ∧
      (demo.accept sessionOpen.opcode 0).mustWait sessionOpen.opcode (req (mkNode Ty.session 0) (zeros 8)) = false) ∧
    (match sessionOpen.apply (demo.accept sessionOpen.opcode 0) 0 (req (mkNode Ty.session 0) (zeros 8)) with
      | .fail k _ => k == Err.state | _ => false) = true := by
  decide +kernel

def tagged : State := demo.setBox 0 { sess := .opened, tags := [{ tag := 1, crc := reqCrc 1 (req 0 []), resp := {} }] }

theorem test_wit_ReplayedTags :
    (tagged.awake = true ∧ tagged.ready = true ∧ (tagged.box (0 : Fin 8)).busy = false ∧
      (req 0 []).payload.length ≤ 8176 ∧ tagged.pairEn = false ∧ tagged.pair.role = 0 ∧
      (tagged.box (0 : Fin 8)).sess = .opened ∧ sysGetId.opcode ≠ 4 ∧
      (tagged.box (0 : Fin 8)).tagOf (req 0 []).tag = some { tag := 1, crc := reqCrc 1 (req 0 []), resp := {} }) ∧
    reqCrc 1 (req 0 []) = reqCrc sysGetId.opcode (req 0 []) ∧
    reqCrc 1 (req 0 []) ≠ reqCrc sysCapacity.opcode (req 0 []) := by
  decide +kernel

/-! ### Events -/

/-- A latch whose condition holds. -/
def errored : State := demo.setLatch { source := 867, no := 0, count := 2, level := 9, extreme := 9, holds := true }

theorem test_wit_EventCommands :
    Passes evtSourceSet demo 0 (req 0 (leBytes 2 16 ++ leBytes 2 2 ++ leBytes 4 1)) ∧
    ((demo.setSource true false 16).evq.masked.contains 16 = true) ∧
    (Passes evtLatchRead demo 0 (req 0 (leBytes 2 64 ++ leBytes 2 0)) ∧
      hasLatch (field (leBytes 2 64 ++ leBytes 2 0) 0 2) (field (leBytes 2 64 ++ leBytes 2 0) 2 1) = true) ∧
    Passes evtLatchClear demo 0 (req 0 (leBytes 2 64 ++ leBytes 2 0)) ∧
    ((demo.latchNow 64 0).holds = false ∧ (demo.latchNow 64 0).inBlock = 0) ∧
    ((errored.latchNow 867 0).holds = true ∧ (errored.latchNow 867 0).inBlock = 0 ∧ errored.ready = true) :=
  ⟨passes (by decide +kernel), by decide +kernel, ⟨passes (by decide +kernel), by decide +kernel⟩,
    passes (by decide +kernel), by decide +kernel, by decide +kernel⟩

theorem test_wit_EventsAreNumbered :
    (demo.ready = true ∧ demo.evq.masked.contains 16 = false ∧ demo.following = false ∧ demo.evq.gap = none ∧
      demo.evq.store.length < 8192) ∧
    (∃ s : State, s.ready = true ∧ s.evq.masked.contains 16 = false ∧ s.following = false ∧ s.evq.gap = none ∧
      8192 ≤ s.evq.store.length) :=
  ⟨by decide +kernel,
    { demo with evq := { demo.evq with store := List.replicate 8192 (lostRecord 1 1 0 0) } }, by decide +kernel⟩

def resumes : State := { demo with evq := { demo.evq with resume := 1 } }
def ringOn : State := { demo with evq := { demo.evq with enable := true, internal := true, active := true } }

theorem test_wit_RingOperations_enable :
    (resumes.awake = true ∧ resumes.ready = true ∧ resumes.evq.active = false ∧
      6 = (if (27#32).getLsbD 1 then 6 else (27#32).toNat / 4 % 16) ∧
      ({ resumes.evq with internal := (27#32).getLsbD 1, sizeLog2 := 6, enable := true } : Evq).configOk = true) ∧
    (ringOn.awake = true ∧ ringOn.ready = true ∧ ringOn.evq.active = true ∧ (26#32).getLsbD 1 = ringOn.evq.internal ∧
      (if (26#32).getLsbD 1 then 6 else (26#32).toNat / 4 % 16) = ringOn.evq.sizeLog2) := by
  decide +kernel

theorem test_wit_RingOperations_tail : ∃ s : State, ∃ v w : Word,
    s.awake = true ∧ s.ready = true ∧ s.evq.owedSlot = false ∧
      (v - s.evq.tail).toNat ≤ (s.evq.head - s.evq.tail).toNat ∧ (s.evq.head - s.evq.tail).toNat < (w - s.evq.tail).toNat :=
  ⟨{ ringOn with evq := { ringOn.evq with head := 3 } }, 3, 4, by decide +kernel⟩

theorem test_wit_RingOperations_records :
    (∃ s : State, ∃ e : EvRec, s.evq.nextRecord = some e ∧ s.evq.active = true ∧ s.evq.waitingInRing < s.evq.size ∧
      s.mayDeliver e = true) ∧
    (∃ s : State, s.evq.gap = some (5, 2, 0, 0) ∧ s.evq.store.length + 2 ≤ 8192) ∧
    (∃ s : State, s.evq.first8 = some 0 ∧ s.evq.modTime ≠ 0 ∧ 48 * s.evq.modTime ≤ 1000 * (s.m + 1 - 0)) :=
  ⟨⟨{ ringOn with evq := { ringOn.evq with store := [lostRecord 1 1 0 0] } }, lostRecord 1 1 0 0, by decide +kernel⟩,
    ⟨{ demo with evq := { demo.evq with gap := some (5, 2, 0, 0) } }, by decide +kernel⟩,
    ⟨{ demo with evq := { demo.evq with first8 := some 0, modTime := 20 } }, by decide +kernel⟩⟩

theorem test_wit_InterruptCauses :
    (ringOn.evq.intStatus.getLsbD 8 = false ∧ ringOn.evq.intEnable.getLsbD 8 = false) ∧
    (∃ s : State, s.evq.intStatus.getLsbD 8 = false ∧ s.evq.intEnable.getLsbD 8 = true ∧ s.id.straps.hostQspi = false ∧
      s.evq.msixEnable = true ∧ s.evq.msixMask = false ∧ s.evq.masksVector 8 = true) ∧
    (∃ s : State, s.evq.intStatus.getLsbD 8 = false ∧ s.evq.intEnable.getLsbD 8 = true ∧ s.id.straps.hostQspi = false ∧
      s.evq.msixEnable = true ∧ s.evq.msixMask = false ∧ s.evq.masksVector 8 = false) ∧
    (∃ s : State, s.evq.intStatus.getLsbD 8 = false ∧ s.evq.intEnable.getLsbD 8 = true ∧ s.id.straps.hostQspi = false ∧
      s.evq.msixEnable = true ∧ s.evq.msixMask = true) ∧
    (∃ s : State, s.evq.intStatus.getLsbD 31 = true) :=
  ⟨by decide +kernel, ⟨{ demo with evq := { demo.evq with intEnable := 0x100, msixEnable := true } }, by decide +kernel⟩,
    ⟨{ demo with evq := { demo.evq with intEnable := 0x100, msixEnable := true, msixTable := List.replicate 128 0 } },
      by decide +kernel⟩,
    ⟨{ demo with evq := { demo.evq with intEnable := 0x100, msixEnable := true, msixMask := true } }, by decide +kernel⟩,
    ⟨{ demo with evq := { demo.evq with intStatus := 0x80000000 } }, by decide +kernel⟩⟩

/-! ### Boot, keys and image update -/

/-- A key payload: slot or kind, action or index, 2 bytes of 0, and 32 bytes of which the first is given. -/
def keyReq (a b v : Nat) : Req := req 0 (leBytes 1 a ++ leBytes 1 b ++ zeros 2 ++ leBytes 1 v ++ zeros 31)
def lockReq (k a : Nat) : Req := req 0 (leBytes 1 k ++ leBytes 1 a ++ zeros 2)

theorem test_wit_KeyCommands_write :
    (Passes keyWrite demo 0 (keyReq 2 0 7) ∧ demo.otpAllowed 0 = true ∧ (demo.slot 2).blank = true) ∧
    (Passes keyWrite demo 0 (keyReq 9 0 7) ∧ (demo.slot 9).locked = false) :=
  ⟨⟨passes (by decide +kernel), by decide +kernel⟩, passes (by decide +kernel), by decide +kernel⟩

theorem test_wit_KeyCommands_lock :
    (Passes keyLock keyed 0 (lockReq 9 1) ∧ (keyed.slot 9).locked = false) ∧
    (Passes keyLock keyed 0 (lockReq 9 2) ∧ (keyed.slot 9).key.isSome = true) ∧
    (Passes keyLock keyed 0 (lockReq 7 3) ∧ keyed.otpAllowed 0 = true ∧ (keyed.slot 7).revoked = false) :=
  ⟨⟨passes (by decide +kernel), by decide +kernel⟩, ⟨passes (by decide +kernel), by decide +kernel⟩,
    passes (by decide +kernel), by decide +kernel⟩

theorem test_wit_KeyCommands_fuse : ∃ s t : State,
    (Passes keyFuse demo 0 (keyReq 1 3 7) ∧ demo.otpAllowed 0 = true ∧ ((keyReq 1 3 7).payload.drop 4).all (· == 0) = false ∧
      demo.boot.rows.getD 3 0 = 0) ∧
    (Passes keyFuse s 0 (keyReq 2 1 0) ∧ s.otpAllowed 0 = true ∧ ((keyReq 2 1 0).payload.drop 4).all (· == 0) = true ∧
      s.boot.rows.getD 1 0 = 1) ∧
    (Passes keyFuse t 0 (keyReq 3 63 0) ∧ t.otpAllowed 0 = true ∧ ((keyReq 3 63 0).payload.drop 4).all (· == 0) = true ∧
      t.boot.secMin < 63 ∧ 63 ≤ t.boot.running.secVersion ∧ t.boot.updState ≠ 3) ∧
    Passes keyInfo demo 0 (req 0 []) :=
  ⟨{ demo with boot := { demo.boot with rows := [1, 1, 0, 0] } },
    { demo with boot := { demo.boot with running := { secVersion := 63 } } },
    ⟨passes (by decide +kernel), by decide +kernel⟩, ⟨passes (by decide +kernel), by decide +kernel⟩,
    ⟨passes (by decide +kernel), by decide +kernel⟩, passes (by decide +kernel)⟩

theorem test_wit_KeyRegisters : ∃ s : State,
    (s.awake = true ∧ (0xE#32).getLsbD 5 = false ∧ (0xE#32).toNat % 16 = 14 ∧ (s.slot 14).key = none ∧
      (s.slot 14).locked = false ∧ s.boot.keyLocked = false ∧ s.boot.keyWord.any (· != 0) = true) ∧
    ((0x7#32).toNat % 16 < 8 ∧ (keyed.slot ((0x9#32).toNat % 16)).key.isSome = true) ∧
    { demo.boot with keyLocked := true }.keyLocked = true :=
  ⟨{ demo with boot := { demo.boot with keyData := List.replicate 8 5 } }, by decide +kernel⟩

def loading : State := { State.reset with
  id := { State.reset.id with straps := { State.reset.id.straps with download := true } }
  boot := { State.reset.boot with code := 3, dlLength := 4 } }

theorem test_wit_BootRom :
    (loading.downloading = true ∧ loading.boot.code = 3 ∧ (0#32).getLsbD 1 = false ∧ 4 ≤ loading.boot.dlLength ∧
      loading.boot.dlLength ≤ 917504 ∧ loading.boot.dlLength % 4 = 0) ∧
    ((0#32).getLsbD 0 = false ∧ verifyImage loading.boot loading.boot.dlImage 8388608 ≠ 0) ∧
    (∃ s : State, s.boot.dlReturnAt = some 0 ∧ 0 ≤ s.time.ticks ∧ s.boot.code = 0x83) ∧
    (State.reset.awake = true ∧ State.reset.boot.code < 7 ∧ State.reset.id.straps.download = false ∧
      State.reset.boot.warm = false) ∧
    (∃ s : State, s.awake = true ∧ s.boot.code < 7 ∧ s.id.straps.download = true ∧ s.id.straps.hostQspi = true) :=
  ⟨by decide +kernel, by decide +kernel,
    ⟨{ loading with boot := { loading.boot with code := 0x83, dlReturnAt := some 0 } }, by decide +kernel⟩,
    by decide +kernel,
    ⟨{ loading with id := { loading.id with straps := { loading.id.straps with hostQspi := true } } }, by decide +kernel⟩⟩

/-- An image with a legal header and board configuration and 4 KiB of firmware. -/
def goodImage : Mem :=
  Mem.writeBytes (Mem.writeBytes [] 0 (leBytes 4 0x57465645 ++ leBytes 2 1 ++ zeros 6 ++ leBytes 4 8704 ++ leBytes 4 4096))
    4352 (leBytes 4 0x42425645 ++ zeros 2 ++ leBytes 2 1800 ++ [1])

/-- It verifies wherever the signature scheme, which the spec takes from FIPS 186-5, accepts it. -/
theorem test_wit_BootRom_final (sig : Bytes) (h : goodImage.readBytes 8448 128 = sig)
    (hk : sha256 (sig.take 64) = Config.lerundKeyHash)
    (hs : Config.ecdsaVerify (sig.take 64) (sig.drop 64)
      (goodImage.readBytes 0 256 ++ goodImage.readBytes 256 4096) = true) :
    loading.downloading = true ∧ loading.boot.code = 3 ∧ (0#32).getLsbD 0 = false ∧
      verifyImage loading.boot goodImage 8388608 = 0 := by
  refine ⟨by decide +kernel, by decide +kernel, by decide +kernel, ?_⟩
  have hf : field (goodImage.readBytes 0 256) 16 4 = 4096 := by decide +kernel
  have h1 : headerOk (goodImage.readBytes 0 256) 8388608 = true := by decide +kernel
  have h4 : loading.boot.rowsBlank = true := by decide +kernel
  have h6 : ¬field (goodImage.readBytes 0 256) 20 1 < loading.boot.secMin := by decide +kernel
  have h7 : boardOk (goodImage.readBytes 4352 4096) = true := by decide +kernel
  simp only [verifyImage, hf, h, hk, hs, h1, h4, h6, h7, ne_eq, not_true_eq_false, Bool.not_true, Bool.false_and,
    Bool.false_eq_true, if_false]

def stageReq : Req := req 0 (leBytes 1 0 ++ zeros 3 ++ leBytes 4 8 ++ leBytes 4 4 ++ leBytes 4 0)

theorem test_wit_ImageUpdate : ∃ s t u : State,
    (Passes fwStage s 0 stageReq ∧ bit (field stageReq.payload 0 1) 0 = false ∧ field stageReq.payload 4 4 = 8 ∧
      field stageReq.payload 8 4 = 4 ∧ s.boot.source ≠ 2 ∧ s.boot.updState = 1 ∧
      s.hitsAttachment 0 (field stageReq.payload 12 4) 4 = false) ∧
    (t.boot.updState = 2 ∧ t.ready = true) ∧
    (Passes fwActivate u 0 (req 0 (zeros 4)) ∧ field (req 0 (zeros 4)).payload 0 1 = 0 ∧ u.pair.state ≠ 3 ∧
      u.boot.updState = 3) :=
  ⟨{ demo with boot := { demo.boot with updState := 1 } }, { demo with boot := { demo.boot with updState := 2 } },
    { demo with boot := { demo.boot with updState := 3 } },
    ⟨passes (by decide +kernel), by decide +kernel⟩, by decide +kernel, passes (by decide +kernel), by decide +kernel⟩

/-! ### Nodes, Slabs, scheduled actions -/

/-- A zone (index 3) exists; its record is two bytes of gain and two of 0. -/
def zoned : State := demo.createNode (mkNode Ty.zone 3) (recordItems Ty.zone (zeros 4))

theorem test_wit_CreateAndDestroy :
    (Passes nodeCreate zoned 0 (req (mkNode Ty.zone 63) (zeros 4)) ∧ nodeType (req (mkNode Ty.zone 63) []).node.toNat = Ty.zone ∧
      (zeros 4).length = (recordOf Ty.zone).len ∧ nodeIdx (req (mkNode Ty.zone 63) []).node.toNat = 63 ∧
      (zoned.indexRange Ty.zone (zeros 4)).1 ≤ 63 ∧
      63 < (zoned.indexRange Ty.zone (zeros 4)).1 + (zoned.indexRange Ty.zone (zeros 4)).2 ∧
      zoned.live (mkNode Ty.zone 63) = false ∧ zoned.liveCount < 131072 ∧ zoned.recordCheck Ty.zone (zeros 4) = 0) ∧
    (Passes nodeCreate zoned 0 (req (mkNode Ty.zone 0xFFFFFF) (zeros 4)) ∧
      zoned.freeIndex Ty.zone (zoned.indexRange Ty.zone (zeros 4)) = some 0) ∧
    (Passes nodeDestroy zoned 0 (req (mkNode Ty.zone 3) []) ∧ zoned.heldBySlab (mkNode Ty.zone 3) = false) ∧
    (zoned.running (mkNode Ty.zone 63) = false ∧ getA (mkNode Ty.zone 63) zoned.leaving = none) :=
  ⟨⟨passes (by decide +kernel), by decide +kernel⟩, ⟨passes (by decide +kernel), by decide +kernel⟩,
    ⟨passes (by decide +kernel), by decide +kernel⟩, by decide +kernel⟩

/-- A gallery output, which costs nothing, and an object, which costs 20 bcu on a cluster. -/
def objected : State := demo.createNode (objId 5) [(1, zeros 12)]

theorem test_wit_EnableAndDisable : ∃ s : State,
    (Passes nodeEnable demo 0 (req (mkNode Ty.galOut 7) []) ∧ demo.enableCheck (mkNode Ty.galOut 7) = 0 ∧
      demo.admission (mkNode Ty.galOut 7) = some (0, none)) ∧
    (Passes nodeEnable objected 0 (req (objId 5) []) ∧ objected.enableCheck (objId 5) = 0 ∧
      objected.admission (objId 5) = some (20, some 0)) ∧
    (Passes nodeDisable s 0 (req (mkNode Ty.galOut 7) []) ∧ s.disableCheck (mkNode Ty.galOut 7) = 0) ∧
    (nodeType (mkNode Ty.galOut 7) ≠ Ty.spk ∧ nodeType (mkNode Ty.galOut 7) ≠ Ty.zone ∧
      nodeType (mkNode Ty.galOut 7) ≠ Ty.obj ∧ nodeType (mkNode Ty.galOut 7) ≠ Ty.link ∧
      nodeType (mkNode Ty.galOut 7) ≠ Ty.ash) :=
  ⟨demo.setNode (mkNode Ty.galOut 7) { state := .enabled },
    ⟨passes (by decide +kernel), by decide +kernel⟩, ⟨passes (by decide +kernel), by decide +kernel⟩,
    ⟨passes (by decide +kernel), by decide +kernel⟩, by decide +kernel⟩

def muteItem : Bytes := leBytes 2 1 ++ leBytes 2 1 ++ leBytes 4 1
def plug : Req := req (mkNode Ty.galIn 3) (leBytes 2 0 ++ zeros 2 ++ leBytes 4 (mkNode Ty.tdmCh 1030) ++ leBytes 2 0 ++ zeros 2)
def wire : Req := req (mkNode Ty.galOut 3) (leBytes 2 0 ++ zeros 2 ++ leBytes 4 (mkNode Ty.tdmCh 1030) ++ leBytes 2 0 ++ zeros 2)

theorem test_wit_ParametersAndConnections : ∃ s : State,
    (Passes nodeSet demo 0 (req (mkNode Ty.galOut 7) muteItem) ∧ itemsOf muteItem = some [(1, [1])] ∧
      demo.setCheck (mkNode Ty.galOut 7) muteItem = 0) ∧
    (nodeType (mkNode Ty.galOut 7) ≠ Ty.obj ∧ nodeType (mkNode Ty.galOut 7) ≠ Ty.spk ∧
      demo.enabled (mkNode Ty.galOut 7) = false ∧ demo.closedView = none) ∧
    (Passes nodeGet demo 0 (req (mkNode Ty.galOut 7) []) ∧
      (∀ pid ∈ demo.namedPars (mkNode Ty.galOut 7) [], (demo.par? (mkNode Ty.galOut 7) pid).isSome = true) ∧
      (demo.statusRecord (mkNode Ty.galOut 7) ++ (demo.namedPars (mkNode Ty.galOut 7) []).flatMap fun pid =>
        itemBytes pid (demo.getPar (mkNode Ty.galOut 7) pid)).length ≤ 8176) ∧
    (Passes nodeConnect demo 0 wire ∧ demo.connectCheck (connOf wire) = 0) ∧
    (Passes nodeDisconnect s 0 wire ∧ connOf wire ∈ s.conns) ∧
    (s.connectCheck { connOf wire with dst := mkNode Ty.tdmCh 1031 } = 0 ∧ connOf wire ∈ s.conns) :=
  ⟨{ demo with conns := [connOf wire] }, ⟨passes (by decide +kernel), by decide +kernel⟩, by decide +kernel,
    ⟨passes (by decide +kernel), by decide +kernel⟩, ⟨passes (by decide +kernel), by decide +kernel⟩,
    ⟨passes (by decide +kernel), by decide +kernel⟩, by decide +kernel⟩

def openSlab : Slab := { index := 63, session := 0, reserveKiB := 1 }
def slabbed : State := { demo with slabs := [openSlab] }
def slabItem : Bytes := leBytes 1 1 ++ zeros 1 ++ leBytes 2 16 ++ leBytes 4 (mkNode Ty.galOut 7) ++ muteItem
def commitReq (mode due : Nat) : Req := req (slabId 63) (leBytes 1 mode ++ zeros 3 ++ leBytes 8 due ++ zeros 8)

theorem test_wit_SlabCommands_open_write :
    (Passes slabOpen slabbed 0 (req (mkNode Ty.slab 0xFFFFFF) (leBytes 4 4)) ∧
      lowestFree (slabbed.slabs.map Slab.index) 64 = some 0 ∧
      (slabbed.slabs.filter fun sl => sl.session == (0 : Fin 8).val && sl.isOpen).length < 16 ∧
      sumN (slabbed.slabs.map Slab.reserveKiB) + 4 ≤ 65536 ∧ slabbed.liveCount < 131072) ∧
    (Passes slabWrite slabbed 0 (req (slabId 63) slabItem) ∧ slabbed.slab? 63 = some openSlab ∧
      slabbed.slabItems 0 slabItem.length slabItem = some ([⟨mkNode Ty.galOut 7, 1, [1]⟩], 0, 1, 16) ∧
      slabbed.live (mkNode Ty.galOut 7) = true ∧ nodeType (mkNode Ty.galOut 7) ≠ Ty.spk ∧
      slabbed.slabHits 0 slabItem.length slabItem = false) :=
  ⟨⟨passes (by decide +kernel), by decide +kernel⟩, passes (by decide +kernel), by decide +kernel⟩

theorem test_wit_SlabCommands_commit :
    (Passes slabCommit slabbed 0 (commitReq 2 100) ∧ slabbed.slab? 63 = some openSlab ∧
      field (commitReq 2 100).payload 0 1 = 2 ∧ slabbed.slabEarliest openSlab ≤ field (commitReq 2 100).payload 4 8 ∧
      slabbed.slabConflict openSlab (field (commitReq 2 100).payload 4 8) = false ∧ slabbed.slabAdmits openSlab = true ∧
      slabbed.actionIndex = some 0 ∧ (slabbed.slabs.filter fun x => x.state == .pending).length < 16) ∧
    (Passes slabCommit slabbed 0 (commitReq 0 0) ∧ field (commitReq 0 0).payload 0 1 = 0 ∧
      slabbed.slabConflict openSlab (slabbed.slabEarliest openSlab) = false) :=
  ⟨⟨passes (by decide +kernel), by decide +kernel⟩, passes (by decide +kernel), by decide +kernel⟩

def pendingSlab : Slab := { openSlab with state := .pending, due := 5 }
def pended : State := { demo with slabs := [pendingSlab] }

theorem test_wit_SlabCommands_abort : ∃ s : State,
    (Passes slabAbort slabbed 0 (req (slabId 63) []) ∧
      slabbed.slab? (nodeIdx (req (slabId 63) []).node.toNat) = some openSlab ∧ openSlab.isOpen = true ∧
      openSlab.session = (0 : Fin 8).val) ∧
    (Passes slabAbort s 0 (req (slabId 63) []) ∧
      s.slab? (nodeIdx (req (slabId 63) []).node.toNat) = some { pendingSlab with due := 16 } ∧ s.time.block < 16 / 16) :=
  ⟨{ demo with slabs := [{ pendingSlab with due := 16 }] }, ⟨passes (by decide +kernel), by decide +kernel⟩,
    passes (by decide +kernel), by decide +kernel⟩

theorem test_wit_SlabTakesEffect :
    pended.slab? 63 = some pendingSlab ∧ pendingSlab.waits = true ∧ pendingSlab.due < pended.blockEnd ∧
      pended.awake = true ∧ pended.slabNext pendingSlab = true ∧ pendingSlab.waiter = none := by
  decide +kernel

def markerReq : Req := req (mkNode Ty.action 0xFFFFFF) (leBytes 1 2 ++ leBytes 1 4 ++ zeros 2 ++ leBytes 8 1 ++ zeros 8 ++ zeros 8)
def markerAction (due : Nat) : Action := { index := 255, netTime := none, due := due, session := 0, body := .marker (zeros 8) }
def armed (due : Nat) : State := { demo with time := { demo.time with actions := [markerAction due] } }

theorem test_wit_ScheduledActions : ∃ s : State,
    (Passes timeSchedule demo 0 markerReq ∧ field markerReq.payload 0 1 = 2 ∧
      demo.bodyCheck 0 (field markerReq.payload 1 1) (markerReq.payload.drop 20) = 0 ∧ demo.actionIndex = some 0 ∧
      demo.actionEarliest (field markerReq.payload 1 1) ≤ field markerReq.payload 4 8) ∧
    (Passes timeCancel (armed 64) 0 (req (actionId 255) []) ∧
      (armed 64).action? (nodeIdx (req (actionId 255) []).node.toNat) = some (markerAction 64) ∧
      (markerAction 64).isSlab = false ∧ (armed 64).time.block < (markerAction 64).due / 16 - 2) ∧
    ((armed 15).action? (markerAction 15).index = some (markerAction 15) ∧ (armed 15).isNext (markerAction 15).turn = true ∧
      (markerAction 15).due < (armed 15).blockEnd ∧ (armed 15).awake = true ∧
      (markerAction 15).late = false) ∧
    (s.enabled (mkNode Ty.gpio 31) = true ∧ s.parN (mkNode Ty.gpio 31) 1 = 1) ∧
    (s.enabled (mkNode Ty.tdmPort 0) = true ∧ s.portStarted (mkNode Ty.tdmPort 0) = false) :=
  ⟨(demo.setNode (mkNode Ty.gpio 31) { state := .enabled, params := [(1, [1])] }).setNode (mkNode Ty.tdmPort 0)
      { state := .enabled },
    ⟨passes (by decide +kernel), by decide +kernel⟩, ⟨passes (by decide +kernel), by decide +kernel⟩, by decide +kernel⟩

/-! ### Time -/

def cfgReq : Req := req 0 (leBytes 1 1 ++ zeros 3 ++ leBytes 1 128 ++ leBytes 1 128 ++ leBytes 1 248 ++ leBytes 1 0 ++ zeros 24)
def portReq : Req := req (ethId 3) ([1, 1, 1, 2, 0, 0, 0, 3] ++ zeros 16)
def ptpCfg : State := { demo with time := { demo.time with cfg := { demo.time.cfg with profile := 1 } } }

theorem test_wit_TimeCommands :
    Passes timeGet demo 0 (req 0 []) ∧
    (Passes timeConfig demo 0 cfgReq ∧ (∀ p, p < 4 → (demo.latestPort p).enable = false) ∧
      field cfgReq.payload 16 1 ≠ 1) ∧
    (Passes timePortSet ptpCfg 0 portReq ∧ nodeIdx portReq.node.toNat = 3 ∧
      profileOk ptpCfg.latestCfg.profile (ptpPortOf (ptpCfg.latestPort 3) portReq.payload) = true ∧
      ptpCfg.latestCfg.profile ≠ 0 ∧ (∀ j, j < 4 → j ≠ 3 → (ptpCfg.latestPort j).enable = false)) ∧
    (Passes timeSet demo 0 (req 0 (zeros 16)) ∧ demo.latestCfg.servoSource ≠ 0 ∧ demo.latestCfg.servoSource ≠ 1) ∧
    (Passes timePinSet demo 0 (req 0 (zeros 2 ++ leBytes 2 500 ++ zeros 12)) ∧ demo.latestCfg.mediaSource ≠ 1) :=
  ⟨passes (by decide +kernel), ⟨passes (by decide +kernel), by decide +kernel⟩,
    ⟨passes (by decide +kernel), by decide +kernel⟩, ⟨passes (by decide +kernel), by decide +kernel⟩,
    passes (by decide +kernel), by decide +kernel⟩

theorem test_wit_ServoRows : ∃ a b c d e f g : State,
    (a.time.pendStep = some 7 ∧ a.awake = true) ∧
    (b.time.servo = .locked ∧ b.time.cfg.servoSource = 1 ∧ b.time.lastPps + 3 * 48000 ≤ b.time.ticks) ∧
    (c.time.servo = .acquiring ∧ c.time.cfg.servoSource = 0 ∧ c.time.parentPort = 0xFF) ∧
    (d.time.pins.ppsIn ≠ 0 ∧ d.time.cfg.servoSource ≠ 1 ∧ 0 < d.time.ppsRun ∧ d.time.ppsLost = false ∧
      d.time.lastPps + 3 * 48000 ≤ d.time.ticks) ∧
    (e.time.residual = some (-5) ∧ e.awake = true ∧ State.alignedAt (e.blockEnd - e.m) e = some e) ∧
    (f.time.slewing = true ∧ 24 * (5 : Int).natAbs ≤ 5 * (f.m - f.time.slewFrom) ∧ f.time.pull = 0) ∧
    (g.time.cfg.servoSource = 0 ∧ g.time.parentPort < 4 ∧ g.time.lastAnnounce + (g.time.ports.getD g.time.parentPort {}).announceTimeout
      * logInterval (g.time.ports.getD g.time.parentPort {}).logAnnounce ≤ g.time.ticks + 15) :=
  ⟨{ demo with time := { demo.time with pendStep := some 7 } },
    { demo with time := { demo.time with servo := .locked, cfg := { demo.time.cfg with servoSource := 1 }, ticks := 144000 } },
    { demo with time := { demo.time with servo := .acquiring, cfg := { demo.time.cfg with servoSource := 0 } } },
    { demo with time := { demo.time with pins := { demo.time.pins with ppsIn := 1 }, ppsRun := 1, ticks := 144000 } },
    { demo with time := { demo.time with residual := some (-5) } },
    { demo with time := { demo.time with slewing := true, block := 2 } },
    { demo with time := { demo.time with parentPort := 3, ticks := 480000, cfg := { demo.time.cfg with servoSource := 0 } } },
    by decide +kernel, by decide +kernel, by decide +kernel, by decide +kernel, ⟨rfl, by decide +kernel, rfl⟩, by decide +kernel,
    by decide +kernel⟩

/-- Port 2 runs PTP on an enabled interface whose link is up. -/
def ptpUp : State := { demo with
  time := { demo.time with
    cfg := { demo.time.cfg with profile := 1 }
    ports := demo.time.ports.set 2 { enable := true, calibrated := true, delayReqAt := some 9, pdelayReqAt := some 9 } }
  run := [(ethId 2, 0)]
  eth := { demo.eth with ports := demo.eth.ports.set 2 { link := 1 } } }

theorem test_wit_PtpMessages :
    ((ptpUp.time.ports.getD 2 {}).enable = true ∧ (ptpUp.time.ports.getD 2 {}).calibrated = true ∧
      ptpUp.time.cfg.profile ≠ 0 ∧ ptpUp.linkUp 2 = true ∧ ptpUp.ready = true ∧ ptpUp.time.cfg.domain = 0 ∧
      (ptpUp.time.ports.getD 2 {}).delayReqAt.isSome = true ∧ (ptpUp.time.ports.getD 2 {}).pdelayReqAt.isSome = true) ∧
    (({ ptpUp with time := { ptpUp.time with ports := ptpUp.time.ports.set 2 { enable := true } } } : State).linkUp 2 = true ∧
      ({ enable := true } : PtpPort).calibrated = false) ∧
    (ptpUp.port 2).link = 1 := by
  decide +kernel

/-! ### Audio ports, microphones, Gallery -/

def tdmIn (t : TdmPort) (master : Byte) : State :=
  { demo.setTdm t with nodes := [(mkNode Ty.tdmPort 31, { state := .enabled, params := [(1, [master])] })] }

theorem test_wit_AudioPorts : ∃ a b c : State, ∃ t u v : TdmPort,
    Passes feResync demo 0 (req 0 (leBytes 2 255 ++ leBytes 2 1)) ∧
    (a.awake = true ∧ a.m ≤ 0 ∧ 16 * a.time.block ≤ 0 ∧ 0 ≤ a.blockEnd ∧ a.tdmPar (31 : Fin 32) 1 = 0 ∧
      (a.reach 0).tdm? (31 : Fin 32) = some t ∧ t.run = .waiting ∧ t.start = some 0) ∧
    (b.awake = true ∧ b.m ≤ 0 ∧ 16 * b.time.block ≤ 0 ∧ b.tdmPar (31 : Fin 32) 1 = 0 ∧
      (b.reach 0).tdm? (31 : Fin 32) = some u ∧ u.run = .lost) ∧
    (c.awake = true ∧ c.m ≤ 1 ∧ 1 ≤ c.blockEnd ∧ c.tdmPar (31 : Fin 32) 1 = 0 ∧ c.tdm? (31 : Fin 32) = some v ∧
      (c.reach 1).tdm? (31 : Fin 32) = some v ∧ v.run = .running ∧ (c.reach 1).frameSample 1 0 = v.lastFrame + 1) :=
  ⟨tdmIn { port := 31, run := .waiting, start := some 0 } 0, tdmIn { port := 31, run := .lost } 0,
    tdmIn { port := 31, run := .running } 0, { port := 31, run := .waiting, start := some 0 }, { port := 31, run := .lost },
    { port := 31, run := .running }, passes (by decide +kernel), by decide +kernel⟩

def micQuick (q : Byte) (x : Mic) : State :=
  { demo.setMic x with nodes := [(mkNode Ty.mic 255, { state := .enabled, params := [(3, [q])] })] }

theorem test_wit_MicrophoneInstants : ∃ a b c : State, ∃ d e : Nat, ∃ x y z : Mic, ∃ f : MicFade,
    (a.pdmValidDue (255 : Fin 256) = some (1, d) ∧ a.awake = true ∧ d < a.blockEnd ∧
      (a.reach d).mic? (255 : Fin 256) = some x) ∧
    (b.handOverDue (255 : Fin 256) = some e ∧ b.awake = true ∧ e < b.blockEnd ∧
      (b.reach e).mic? (255 : Fin 256) = some y) ∧
    (c.responseFadeDue (255 : Fin 256) = some 64 ∧ c.awake = true ∧ 64 < c.blockEnd ∧
      (c.reach 64).mic? (255 : Fin 256) = some z ∧ z.now.fade = some f ∧ z.pendSwap = none) := by
  let at4 (s : State) : State := { s with time := { s.time with block := 4 } }
  let m0 : Mic := { mic := 255, now := { since := 58 } }
  let m1 : Mic := { mic := 255, now := { since := 0 }, said1 := true, said2 := true }
  let m2 : Mic := { mic := 255, now := { fade := some ⟨0, 1, 16, 48⟩ } }
  let at1 : Nat := m1.now.readyAt 1 + 32
  refine ⟨at4 (micQuick 1 m0),
    { micQuick 2 m1 with time := { demo.time with block := at1 / 16, pos := at1 % 16 } }, at4 (micQuick 0 m2),
    64, at1, m0, m1, m2, ⟨0, 1, 16, 48⟩, ?_, ?_, ?_⟩ <;> decide +kernel

/-- One crosspoint at the last output and input, and the same through a bulk window. -/
def xpReq : Req := req (mkNode Ty.galOut 4095) (leBytes 2 4095 ++ leBytes 2 1 ++ zeros 4 ++ leBytes 4 0x1FFFFFFF)
def bulkXp : Req := req 0 (leBytes 2 4095 ++ leBytes 2 1 ++ leBytes 2 4095 ++ leBytes 2 1 ++ leBytes 4 0)

theorem test_wit_GalleryCommands :
    (Passes galXpWrite demo 0 xpReq ∧ nodeIdx xpReq.node.toNat = 4095 ∧ field xpReq.payload 2 2 = 1 ∧
      xpReq.payload.length = 8 + 4 * 1 ∧ field xpReq.payload 0 2 + 1 ≤ 4096 ∧ (∀ e ∈ words32 1 (xpReq.payload.drop 8), e < 0x20000000)) ∧
    (Passes galXpBulk demo 0 bulkXp ∧ field bulkXp.payload 2 2 = 1 ∧ field bulkXp.payload 6 2 = 1 ∧
      (∀ e ∈ words32 (1 * 1) (demo.readBulk 0 (field bulkXp.payload 8 4) (4 * 1 * 1)), e < 0x20000000) ∧
      demo.hitsAttachment 0 (field bulkXp.payload 8 4) (4 * 1 * 1) = false) ∧
    Passes galXpRead demo 0 (req (mkNode Ty.galOut 4095) (leBytes 2 4095 ++ leBytes 2 1 ++ leBytes 1 1 ++ zeros 3)) ∧
    Passes galProfileSet demo 0 (req 0 (leBytes 1 15 ++ zeros 3 ++ leBytes 4 480000)) ∧
    Passes galStatus demo 0 (req 0 []) ∧ demo.closedView = none ∧ { demo with closedView := some ([], []) }.closedView ≠ none :=
  ⟨⟨passes (by decide +kernel), by decide +kernel⟩, ⟨passes (by decide +kernel), by decide +kernel⟩,
    passes (by decide +kernel), passes (by decide +kernel), passes (by decide +kernel), by decide +kernel⟩

theorem test_wit_RampInstants : ∃ s : State, ∃ x : Ramp,
    demo.time.pos = 0 ∧ s.rampEndDue 4095 4095 = some 2 ∧ s.awake = true ∧ 2 < s.blockEnd ∧
      ((s.reach 2).reach (2 + 1)).gal.ramp? 4095 4095 = some x :=
  ⟨{ demo with gal := { demo.gal with ramps := [⟨4095, 4095, 0, 16, 3, 0, 1⟩] } }, ⟨4095, 4095, 0, 16, 3, 0, 1⟩,
    by decide +kernel⟩

/-! ### Renderer, loudspeaker stage, capture -/

def batchReq : Req := req 0 (leBytes 2 1 ++ zeros 6 ++ leBytes 2 5 ++ zeros 22)

theorem test_wit_RendererCommands : ∃ s t : State,
    Passes renConfig demo 0 (req 0 (zeros 8)) ∧
    (Passes renPosBatch objected 0 batchReq ∧ objected.batchCheck batchReq.payload = 0) ∧
    s.enabled (objId 5) = true ∧
    (Passes renPosQueue demo 0 (req 0 (leBytes 4 (mkNode Ty.queue 15))) ∧ demo.ren.posQueue = none) ∧
    (Passes renPosQueue t 0 (req 0 (leBytes 4 0)) ∧ t.ren.posQueue.isSome = true) ∧
    Passes renFootprintRead objected 0 (req (objId 5) []) :=
  ⟨objected.setNode (objId 5) { state := .enabled }, { demo with ren := { demo.ren with posQueue := some 8 } },
    passes (by decide +kernel), ⟨passes (by decide +kernel), by decide +kernel⟩, by decide +kernel,
    ⟨passes (by decide +kernel), by decide +kernel⟩, ⟨passes (by decide +kernel), by decide +kernel⟩,
    passes (by decide +kernel)⟩

/-- An object whose next record starts at sample 3, a bound queue, and a packet in it. -/
def geoWaits : State := { demo with
  run := [(objId 1023, 0)]
  ren := { demo.ren with objs := [{ obj := 1023, pend := some ⟨zeros 12, 3, 0, false⟩ }], posQueue := some 8 } }

theorem test_wit_RendererInstants : ∃ s t : State, ∃ p : QPacket, ∃ u : State,
    (geoWaits.running (objId 1023) = true ∧ geoWaits.recordDue 1023 = some 3 ∧ geoWaits.awake = true ∧ 3 < geoWaits.blockEnd ∧
      ((geoWaits.reach 3).objDyn 1023).pend = some ⟨zeros 12, 3, 0, false⟩) ∧
    (demo.power.state = .active ∧ demo.time.pos = 0) ∧
    (geoWaits.ren.posQueue = some 8 ∧ geoWaits.ren.unbinding = none ∧ (geoWaits.queue 8).packets = []) ∧
    (s.ren.posQueue = some 8 ∧ s.ren.unbinding = some 0) ∧
    (t.popPacket 8 = some (p, u) ∧ p.poisoned = false ∧ t.packetWaits p = false) ∧
    (State.setBox 0 { held := some ⟨{}, 0, [objId 5]⟩ } t).packetWaits [(1, false), (5, false)] = true :=
  ⟨{ geoWaits with ren := { geoWaits.ren with unbinding := some 0 } },
    geoWaits.putQueue 8 { packets := [[(0, false)]] }, [(0, false)], _, by decide +kernel, by decide +kernel,
    by decide +kernel, by decide +kernel, ⟨rfl, by decide +kernel⟩, by decide +kernel⟩

/-- A loudspeaker of index 1023 with a FIR of 256 taps. -/
def spoken : State := demo.createNode (spkId 1023) [(0x108, leBytes 2 256)]
def loadReq (flags taps : Nat) : Req :=
  req (spkId 1023) (leBytes 1 2 ++ leBytes 1 0 ++ leBytes 1 flags ++ zeros 1 ++ leBytes 2 (taps - 1) ++ leBytes 2 1
    ++ leBytes 2 taps ++ zeros 14 ++ leBytes 4 5)

theorem test_wit_BankCommands :
    (Passes spkBankLoad spoken 0 (req (spkId 1023) (leBytes 1 2 ++ leBytes 1 0 ++ leBytes 1 1 ++ zeros 1 ++ leBytes 2 8191
      ++ leBytes 2 1 ++ zeros 16 ++ leBytes 4 5)) ∧ spoken.bankLocked 1023 2 = false ∧
      bankRangeOk (leBytes 1 2 ++ leBytes 1 0 ++ leBytes 1 1 ++ zeros 1 ++ leBytes 2 8191 ++ leBytes 2 1 ++ zeros 16
        ++ leBytes 4 5) = true) ∧
    (Passes spkBankLoad spoken 0 (loadReq 3 256) ∧ field (loadReq 3 256).payload 0 1 = 2 ∧
      field (loadReq 3 256).payload 1 1 = 0 ∧
      (loadReq 3 256).payload.length = 24 + 4 * field (loadReq 3 256).payload 6 2 ∧
      bankRangeOk (loadReq 3 256).payload = true ∧ bit (field (loadReq 3 256).payload 2 1) 0 = true ∧
      bit (field (loadReq 3 256).payload 2 1) 1 = true ∧
      field (loadReq 3 256).payload 8 2 ≤ spoken.latestN (spkId 1023) 0x108) ∧
    (Passes spkBankRead spoken 0 (req (spkId 1023) (leBytes 1 2 ++ zeros 1 ++ leBytes 2 8191 ++ leBytes 2 1 ++ zeros 2)) ∧
      field (leBytes 1 2 ++ zeros 1 ++ leBytes 2 8191 ++ leBytes 2 1 ++ zeros 2) 2 2 + 1 ≤ 8192) ∧
    Passes spkBankClear spoken 0 (req (spkId 1023) (leBytes 1 1 ++ zeros 3)) ∧ spoken.bankLocked 1023 1 = false :=
  ⟨⟨passes (by decide +kernel), by decide +kernel⟩, ⟨passes (by decide +kernel), by decide +kernel⟩,
    ⟨passes (by decide +kernel), by decide +kernel⟩, passes (by decide +kernel), by decide +kernel⟩

theorem test_wit_StageInstants : ∃ s t : State, ∃ d e n m : Nat,
    (s.power.state = .active ∧ s.bankFadeDue 1023 = some d ∧ s.awake = true ∧ d < s.blockEnd ∧
      ((s.reach d).spkDyn 1023).fade = some (1, 2, 64, n) ∧ ((s.reach d).spkDyn 1023).pendSwap = none) ∧
    (t.power.state = .active ∧ t.delayFadeDue 1023 = some e ∧ t.awake = true ∧ e < t.blockEnd ∧
      ((t.reach e).spkDyn 1023).delayFade = some (3, 5, m) ∧ ((t.reach e).spkDyn 1023).delayWait = none) := by
  refine ⟨{ spoken with spk := { demo.spk with spks := [{ spk := 1023, active := 1, fade := some (1, 2, 64, 63) }] } },
    { spoken with spk := { demo.spk with spks := [{ spk := 1023, delay := 3, delayFade := some (3, 5, 511) }] } },
    _, _, _, _, ⟨?_, rfl, ?_, ?_, rfl, ?_⟩, ?_, rfl, ?_, ?_, rfl, ?_⟩ <;> decide +kernel

/-- A beam of index 255 with a canceller, enabled and running, whose reference 7 is zone 3. -/
def beamed : State := { demo with
  nodes := [(beamId 255, { state := .enabled, params := [(1, [1])] })]
  run := [(beamId 255, 0)]
  wires := [⟨zoneId 3, 0, beamId 255, 71⟩] }
def beamWith (x : BeamDyn) : State := beamed.setBeam x

theorem test_wit_CaptureCommands : ∃ s : State,
    Passes capLocatorConfig demo 0 (req 0 (leBytes 1 15 ++ leBytes 1 12 ++ leBytes 2 2000 ++ leBytes 2 10000 ++ zeros 2)) ∧
    (Passes capLocatorRead demo 0 (req 0 (leBytes 1 15 ++ zeros 3)) ∧ (demo.locGroup 15).leader = none) ∧
    (Passes capLocatorRead s 0 (req 0 (leBytes 1 15 ++ zeros 3)) ∧ (s.locGroup 15).leader = some 255 ∧
      0 < (s.beamDyn 255).energy) ∧
    (Passes capAecReset beamed 0 (req (beamId 255) (leBytes 1 255 ++ zeros 3)) ∧ beamed.enabled (beamId 255) = true ∧
      beamed.latestN (beamId 255) 1 ≠ 0) ∧
    Passes capAecStatus beamed 0 (req (beamId 255) []) :=
  ⟨State.setBeam { beam := 255, energy := 1 } { demo with cap := { demo.cap with groups := demo.cap.groups.set 15 { leader := some 255 } } },
    passes (by decide +kernel), ⟨passes (by decide +kernel), by decide +kernel⟩,
    ⟨passes (by decide +kernel), by decide +kernel⟩, ⟨passes (by decide +kernel), by decide +kernel⟩,
    passes (by decide +kernel)⟩

theorem test_wit_CaptureInstants : ∃ a b c d e f g h : State, ∃ x : Nat,
    (a.power.state = .active ∧ a.periodDue 255 = true) ∧
    (b.filterFadeDue 255 = some x ∧ b.awake = true ∧ x < b.blockEnd) ∧
    (c.time.pos = 0 ∧ c.aecOn 255 = true ∧ 32 ≤ (c.beamDyn 255).worse) ∧
    (d.aecOn 255 = true ∧ (7 : Nat) < 8 ∧ (d.refZone 255 7).isSome = true ∧ 600 ≤ ((d.beamDyn 255).ref 7).quiet ∧
      ((d.beamDyn 255).ref 7).idle = false) ∧
    ((e.beamDyn 255).dtUntil = some 0 ∧ e.awake = true ∧ 0 < e.blockEnd) ∧
    (((f.beamDyn 255).ref 7).reconv = some 15 ∧ 15 < f.blockEnd) ∧
    (((g.beamDyn 255).ref 7).due = some (15, 1, true) ∧ 15 < g.blockEnd) ∧
    ((h.locGroup (15 : Fin 16)).cand = some (255, 1500) ∧ (h.locGroup (15 : Fin 16)).blocks ≤ 1500 ∧ h.power.state = .active) := by
  refine ⟨beamWith { beam := 255, errs := [1] }, beamWith { beam := 255, fade := some ([], 16, 15) },
    beamWith { beam := 255, worse := 32 }, beamWith (({ beam := 255 } : BeamDyn).setRef 7 { quiet := 600 }),
    beamWith { beam := 255, dtUntil := some 0 }, beamWith (({ beam := 255 } : BeamDyn).setRef 7 { reconv := some 15 }),
    beamWith (({ beam := 255 } : BeamDyn).setRef 7 { due := some (15, 1, true) }),
    { demo with cap := { demo.cap with groups := demo.cap.groups.set 15 { cand := some (255, 1500) } } },
    _, ?_, ⟨rfl, ?_, ?_⟩, ?_, ?_, ?_, ?_, ?_, ?_⟩ <;> decide +kernel

theorem test_wit_CaptureInstants_effects :
    (7 < 8 ∧ beamed.beamPar 255 3 = 1 ∧ (beamed.beamDyn 255).dtInPeriod = false ∧
      (beamed.beamDyn 255).idleInPeriod.contains 7 = false ∧
      ((beamWith { beam := 255, idleInPeriod := [7] }).beamDyn 255).idleInPeriod.contains 7 = true) ∧
    7 < (beamed.beamDyn 255).refs.length ∧
    (beamed.running (beamId 255) = true ∧ beamed.power.state ≠ .standby ∧ (beamed.beamDyn 255).fade = none) := by
  decide +kernel

/-! ### Ethernet, streams, voice -/

/-- An RTP stream and an AES67 stream that receive and send under SRTP, and run. -/
def rtpN : Nat := mkNode Ty.rtp 8191
def aesN : Nat := mkNode Ty.aes 1023
def streamed : State := { demo with
  nodes := [(rtpN, { state := .byDevice, params := [(3, [3]), (4, [10])] }), (aesN, { state := .byDevice, params := [(3, [3]), (4, [1])] })]
  run := [(rtpN, 0), (aesN, 0)] }
def ifReq : Req := req (ethId 3) (leBytes 1 7 ++ leBytes 1 3 ++ zeros 3 ++ leBytes 1 24 ++ zeros 2 ++ [10, 0, 0, 2] ++ zeros 52)
def srtpReq : Req := req rtpN (leBytes 1 1 ++ leBytes 1 1 ++ zeros 2 ++ zeros 12 ++ List.replicate 16 7 ++ zeros 16 ++ List.replicate 14 7 ++ zeros 2)

theorem test_wit_EthernetCommands :
    (Passes ethIfSet demo 0 ifReq ∧ nodeIdx ifReq.node.toNat = 3 ∧ field ifReq.payload 0 1 = 7 ∧
      (ifaceOf ifReq.payload).shared = false ∧ (∀ j, j < 8 → (demo.iface 3 j).enable = false) ∧ demo.nodes = []) ∧
    (Passes streamKeySet streamed 0 srtpReq ∧ isRtp rtpN = true ∧ field srtpReq.payload 0 1 = 1 ∧
      (streamed.streamDyn rtpN).rx.cur = none ∧ bit (streamed.latestN rtpN 4) 1 = true ∧
      bit (streamed.latestN rtpN 3) 0 = true) ∧
    (Passes streamStats streamed 0 (req rtpN (zeros 4)) ∧ bit (field (zeros 4) 0 1) 0 = false) ∧
    (Passes streamStats streamed 0 (req rtpN (leBytes 4 1)) ∧ bit (field (leBytes 4 1) 0 1) 0 = true) ∧
    (Passes ethCounters demo 0 (req (ethId 3) (leBytes 4 1)) ∧ nodeIdx (req (ethId 3) []).node.toNat = 3) :=
  ⟨⟨passes (by decide +kernel), by decide +kernel⟩, ⟨passes (by decide +kernel), by decide +kernel⟩,
    ⟨passes (by decide +kernel), by decide +kernel⟩, ⟨passes (by decide +kernel), by decide +kernel⟩,
    passes (by decide +kernel), by decide +kernel⟩

def ethUp : State := { demo with
  nodes := [(ethId 2, { state := .enabled, params := [(7, leBytes 4 (mkNode Ty.queue 8))] })]
  run := [(ethId 2, 0)]
  eth := { demo.eth with ports := demo.eth.ports.set 2 { link := 1, ifs := List.replicate 8 { v4 := true, announce := 1 } } } }

theorem test_wit_EthernetPort : ∃ s t : State, ∃ p : QPacket,
    (ethUp.linkUp (2 : Fin 4) = true ∧ (zeros 59).length < 60 ∧ (zeros 60).length + 4 ≤ ethUp.parN (ethId (2 : Fin 4)) 5) ∧
    (ethUp.accepts 2 (parseEth [2, 0, 0, 0, 0, 1]).dst = false ∧ (parseEth [2, 0, 0, 0, 0, 1]).type ≠ 0x8808) ∧
    (s.running (ethId (2 : Fin 4)) = true ∧ (s.port (2 : Fin 4)).link = 0) ∧
    (ethUp.running (ethId (2 : Fin 4)) = true ∧ (ethUp.port (2 : Fin 4)).link ≠ 0) ∧
    ((ethUp.iface (2 : Fin 4) (7 : Fin 8)).announce ≠ 0 ∧ (ethUp.iface (2 : Fin 4) (7 : Fin 8)).v4 = true ∧
      (ethUp.iface (2 : Fin 4) (7 : Fin 8)).v6 = false) ∧
    (ethUp.parN (ethId (2 : Fin 4)) 7 ≠ 0 ∧ nodeIdx (ethUp.parN (ethId (2 : Fin 4)) 7) = 8) ∧
    ((ethUp.putQueue 8 { packets := [[(7, false)]] }).popPacket 8 = some (p, t) ∧ p.poisoned = false ∧
      (packetBytes p).length + 4 ≤ t.parN (ethId (2 : Fin 4)) 5 ∧
      (ethUp.putQueue 8 { packets := [[(7, false)]] }).streamReady (2 : Fin 4) = false) :=
  ⟨{ ethUp with eth := demo.eth }, _, [(7, false)], by decide +kernel, by decide +kernel, by decide +kernel,
    by decide +kernel, by decide +kernel, by decide +kernel, rfl, by decide +kernel, by decide +kernel⟩

theorem test_wit_StreamRows : ∃ s t u : State, ∃ x : StreamDyn,
    (s.running rtpN = true ∧ s.sends rtpN = true ∧ (s.streamDyn rtpN).hop = none ∧ (s.streamDyn rtpN).noRoute = false ∧
      (s.streamDyn rtpN).noHopSince + 3 * 48000 ≤ s.time.ticks ∧ s.following = false) ∧
    (isRtp rtpN = true ∧ s.parN rtpN 20 ≠ 0 ∧ (s.streamDyn rtpN).timedOut = false ∧
      (s.streamDyn rtpN).lastRx + 48 * s.parN rtpN 20 ≤ s.time.ticks) ∧
    (bit (s.parN rtpN 4) 3 = true ∧ s.power.state = .active ∧ (s.streamDyn rtpN).rtcpAt ≤ s.time.ticks) ∧
    ((t.streamDyn rtpN).jb.emptySince = some 5 ∧ t.running rtpN = true ∧ 5 + 9600 ≤ t.time.ticks ∧ t.following = false) ∧
    (u.streamDyn aesN = x ∧ nodeType aesN = Ty.aes ∧ u.running aesN = true ∧ u.sends aesN = true ∧ u.power.state = .active ∧
      ptimeSmp (u.parN aesN 6) = 6 ∧ 6 * u.perSmp = 6 ∧ x.txSamples.length = u.parN aesN 4 ∧
      (∀ c ∈ x.txSamples, 6 ≤ c.2.length)) := by
  let s : State := { streamed with time := { streamed.time with ticks := 200000 } }
  let x : StreamDyn := { node := aesN, txSamples := [(0, [1, 2, 3, 4, 5, 6])] }
  refine ⟨s, s.setStream { node := rtpN, jb := { emptySince := some 5 } }, s.setStream x, x, ?_, ?_, ?_, ?_, ?_⟩ <;>
    decide +kernel

/-- A call channel, enabled and running, with in-band digits and an echo canceller, and two tone detectors. -/
def callN : Nat := callId 8191
def called : State := { demo with
  nodes := [(callN, { state := .enabled, params := [(7, [1]), (13, [2])] }),
    (toneId 0, { state := .enabled, params := [(1, [1])] }), (toneId 9215, { state := .enabled, params := [(1, [2])] })]
  run := [(callN, 0), (toneId 0, 0), (toneId 9215, 0)] }
def digitReq : Req := req callN (leBytes 1 1 ++ leBytes 1 36 ++ leBytes 2 40 ++ leBytes 2 2000 ++ zeros 2 ++ [15])
def digit0 : Digit := { code := 15, volume := 0, on := 2, off := 2, from_ := 0 }
def inCall (x : CallDyn) : State := called.setCall x

theorem test_wit_VoiceCommands : ∃ s : State,
    (Passes voiceDigitSend called 0 digitReq ∧ digitReq.payload.length = 8 + 1 ∧ field digitReq.payload 0 1 = 1 ∧
      (∀ b ∈ digitReq.payload.drop 8, b.toNat ≤ 15) ∧ called.enabled digitReq.node.toNat = true ∧
      called.latestN digitReq.node.toNat 13 = 2 ∧ (called.callDyn 8191).digits.length + 1 ≤ 32) ∧
    Passes voiceDigitCancel called 0 (req callN []) ∧
    ((s.callDyn 8191).digits = [] ∧ (s.callDyn 8191).sending = some { digit := digit0, start := 0, begun := 1 } ∧
      1 < digit0.on) ∧
    (Passes voiceLecReset called 0 (req callN []) ∧ called.latestN (req callN []).node.toNat 7 ≠ 0) :=
  ⟨inCall { ch := 8191, sending := some { digit := digit0, start := 0, begun := 1 } },
    ⟨passes (by decide +kernel), by decide +kernel⟩, passes (by decide +kernel), by decide +kernel,
    passes (by decide +kernel), by decide +kernel⟩

theorem test_wit_ToneRows : ∃ s t u : State,
    (called.detects 0 1 = true ∧ called.parN (toneId 0) 3 = 1 ∧
      (called.toneDyn 0).mayTell (called.parI (toneId 0) 2) called.m ⟨15, true, 0, 0, 0, 0⟩ = true ∧
      (called.toneDyn 0).cp ≠ true ∧ called.parI (toneId 0) 2 ≤ 0) ∧
    (called.detects 9215 2 = true ∧ (called.toneDyn 9215).mayFax 6 true = true) ∧
    (called.running (callId 8191) = true ∧ called.callPar 8191 7 ≠ 0 ∧ (called.callDyn 8191).bypassed = false ∧
      (called.callDyn 8191).nlpOff = false) ∧
    (s.running (callId 8191) = true ∧ s.callPar 8191 7 ≠ 0 ∧ (s.callDyn 8191).bypassed = true) ∧
    ((t.callDyn 8191).event = some ⟨15, 0, 0, 0, 0, false⟩ ∧ 0 + 12000 ≤ t.time.ticks) ∧
    (u.power.state = .active ∧ u.running (callId 8191) = true ∧ u.digitDoneDue 8191 = some 0 ∧ u.awake = true ∧
      0 < u.blockEnd ∧ ((u.reach 0).callDyn 8191).sending = some { digit := { digit0 with on := 0, off := 0 }, start := 0 }) := by
  let t : State := inCall { ch := 8191, event := some ⟨15, 0, 0, 0, 0, false⟩ }
  refine ⟨inCall { ch := 8191, bypassed := true }, { t with time := { t.time with ticks := 12000 } },
    inCall { ch := 8191, sending := some { digit := { digit0 with on := 0, off := 0 }, start := 0 } },
    ?_, ?_, ?_, ?_, ?_, ?_⟩ <;> decide +kernel

theorem test_wit_CallFrames : ∃ s t u : State, ∃ d : Nat, ∃ f : SendFrame,
    (called.running (callId 8191) = true ∧ called.power.state = .active ∧ called.time.pos = 0 ∧
      called.m % called.frameSmp 8191 = 0 ∧ (called.callDyn 8191).rxAt ≠ some called.m ∧ called.following = false ∧
      called.sourceOf (callId 8191) 0 = none) ∧
    (s.running (callId 8191) = true ∧ s.sourceOf (callId 8191) 0 = some (rtpN, 0) ∧ s.m % s.frameSmp 8191 = 0 ∧
      (s.callDyn 8191).rxAt ≠ some s.m ∧ s.following = false ∧
      (match ((s.rxFresh 8191).jbRelease rtpN).1 with | .none => true | _ => false) = true) ∧
    (t.callSendDue 8191 = some d ∧ t.awake = true ∧ d < t.blockEnd ∧ ((t.reach d).callDyn 8191).frames = [f] ∧
      (t.reach d).sendStream 8191 = none) ∧
    (u.callSendDue 8191 = some d ∧ u.awake = true ∧ d < u.blockEnd ∧ ((u.reach d).callDyn 8191).frames = [f] ∧
      (u.reach d).sendStream 8191 = some rtpN ∧ (u.reach d).running rtpN = true ∧ (u.reach d).sends rtpN = true ∧
      f.event = none ∧ f.again = none) := by
  let f : SendFrame := { start := 0 }
  let s : State := inCall { ch := 8191, frames := [f] }
  let d : Nat := 32 + s.sendDelay 8191 f.now
  let t : State := { s with time := { s.time with block := d / 16, pos := d % 16 } }
  refine ⟨{ called with wires := [⟨rtpN, 0, callId 8191, 0⟩], run := (rtpN, 0) :: called.run }, t,
    { t with wires := [⟨callId 8191, 1, rtpN, 0⟩], run := (rtpN, 0) :: t.run, nodes := streamed.nodes ++ t.nodes },
    d, f, ?_, ?_, ?_, ?_⟩ <;> decide +kernel

/-! ### The Bench fabric -/

/-- The 64 bits of an instruction (R367): CLASS, OP, D, A, B, M, X, IMM from the top. -/
def wordOf (cls op : Nat) (w : IWord) : Nat :=
  ((((((cls * 64 + op) * 32 + w.d.toNat) * 32 + w.a.toNat) * 32 + w.b.toNat) * 8 + w.m.toNat) * 16 + w.x.toNat) * 2 ^ 32
    + w.imm.toNat

/-- Kernel instance 9 in an invocation with context `c`; the one instruction of its image is the word given. Its areas are
512 bytes of code, of state, and of scratch at 1024. -/
def kern (cls op : Nat) (w : IWord) (c : Ctx := {}) : State := { demo with
  nodes := [(krnId 9, { state := .enabled, params := [(1, [0])] })]
  run := [(krnId 9, 0)]
  bench := { demo.bench with
    slots := [{ slot := 0, state := .ready,
                bytes := Mem.writeBytes [] 0 (zeros 20 ++ leBytes 4 100 ++ zeros 12 ++ leBytes 4 8 ++ zeros 4 ++ leBytes 4 512
                  ++ leBytes 4 512 ++ zeros 12 ++ leBytes 8 (wordOf cls op w)) }]
    insts := [{ inst := 9, ctx := some c }] } }

def runAt (s : State) (i : Nat) : Run :=
  { s.krnRun (s.krn i) ((s.krn i).ctx.getD {}) with next := ((s.krn i).ctx.getD {}).pc + 8 }

def issuesB (s : State) (inst cls op : Nat) (w : IWord) : Bool :=
  (s.krn inst).ctx.isSome && decide ((runAt s inst).c.cycles < s.krnBudget inst)
    && (runAt s inst).im.fetch (runAt s inst).c.pc == some ⟨cls, op, w⟩ && Code.legal ⟨cls, op, w⟩

theorem issues {s : State} {inst cls op : Nat} {w : IWord} (h : issuesB s inst cls op w = true) :
    Issues s inst cls op w (runAt s inst) := by
  simp only [issuesB, Bool.and_eq_true, decide_eq_true_eq, beq_iff_eq] at h
  obtain ⟨⟨⟨h1, h2⟩, h3⟩, h4⟩ := h
  obtain ⟨c, hc⟩ := Option.isSome_iff_exists.1 h1
  exact ⟨⟨c, hc, by simp [runAt, hc]⟩, h2, h3, h4⟩

/-- The instruction issues in an invocation with this context. -/
abbrev Goes (cls op : Nat) (w : IWord) (c : Ctx) : Prop :=
  Issues (kern cls op w c) 9 cls op w (runAt (kern cls op w c) 9)
def goes (x : Nat × Nat × IWord × Ctx) : Bool := issuesB (kern x.1 x.2.1 x.2.2.1 x.2.2.2) 9 x.1 x.2.1 x.2.2.1
theorem goes_all {l : List (Nat × Nat × IWord × Ctx)} (h : l.all goes = true) : ∀ x ∈ l, Goes x.1 x.2.1 x.2.2.1 x.2.2.2 :=
  fun x hx => issues (List.all_eq_true.1 h x hx)

/-- The context's run in that state. -/
abbrev at_ (cls op : Nat) (w : IWord) (c : Ctx) : Run := runAt (kern cls op w c) 9

/-- S1 is 3, and a LOOP runs. -/
def s1 : Ctx := { sreg := [(1, 3)] }
def looped (n : Nat) : Ctx := { loops := List.replicate n (0, 8, 2), sreg := [(1, 3)] }

theorem test_wit_BenchControl :
    (∀ x ∈ [(0, 0, (⟨0, 0, 0, 0, 0, 0⟩ : IWord), ({} : Ctx)), (0, 1, ⟨0, 0, 0, 0, 0, 0⟩, {}), (0, 2, ⟨0, 0, 0, 0, 0, 5⟩, {}),
        (0, 3, ⟨0, 1, 0, 0, 0, 5⟩, s1), (0, 4, ⟨0, 31, 0, 0, 0, 5⟩, {}), (0, 2, ⟨0, 0, 0, 0, 0, 5⟩, looped 1),
        (0, 3, ⟨0, 1, 0, 0, 0, 5⟩, looped 1), (0, 4, ⟨0, 1, 0, 0, 0, 5⟩, looped 1), (0, 5, ⟨0, 1, 0, 0, 0, 1⟩, looped 3),
        (0, 5, ⟨0, 0, 0, 0, 0, 1⟩, looped 3), (0, 5, ⟨0, 1, 0, 0, 0, 1⟩, looped 4), (0, 6, ⟨0, 0, 0, 0, 0, 65535⟩, {})],
      Goes x.1 x.2.1 x.2.2.1 x.2.2.2) ∧
    (at_ 0 3 ⟨0, 1, 0, 0, 0, 5⟩ s1).c.loops = [] ∧ (at_ 0 2 ⟨0, 0, 0, 0, 0, 5⟩ (looped 1)).c.loops ≠ [] ∧
    (((at_ 0 5 ⟨0, 1, 0, 0, 0, 1⟩ (looped 3)).c.sr 1).toNat = 3 ∧
      (at_ 0 5 ⟨0, 1, 0, 0, 0, 1⟩ (looped 3)).c.loops.length < 4 ∧ (1#32).toNat % 65536 ≠ 0) ∧
    (at_ 0 5 ⟨0, 0, 0, 0, 0, 1⟩ (looped 3)).c.sr 0 = 0 ∧ (at_ 0 5 ⟨0, 1, 0, 0, 0, 1⟩ (looped 4)).c.loops.length = 4 ∧
    (((kern 0 0 ⟨0, 0, 0, 0, 0, 0⟩ { cycles := 260 }).krn 9).ctx = some { cycles := 260 } ∧
      (kern 0 0 ⟨0, 0, 0, 0, 0, 0⟩).krnBudget 9 ≤ 260) ∧
    (kern 0 0 ⟨0, 0, 0, 0, 0, 0⟩).enabled (krnId 9) = true :=
  ⟨goes_all (by decide +kernel), by decide +kernel, by decide +kernel, by decide +kernel, by decide +kernel,
    by decide +kernel, by decide +kernel, by decide +kernel⟩

theorem test_wit_BenchScalars :
    ∀ x ∈ [0, 1, 3, 4, 5, 6, 7, 8, 9, 10].map (fun op => (1, op, (⟨31, 1, 30, 0, 0, 0⟩ : IWord), s1))
        ++ [2, 11].map (fun op => (1, op, ⟨31, 1, 0, 0, 0, 33⟩, s1)),
      Goes x.1 x.2.1 x.2.2.1 x.2.2.2 :=
  goes_all (by decide +kernel)

/-- S1 points at scratch, P15 at its last word, all of it one line. -/
def ptr : Ctx := { sreg := [(1, 1024)], preg := [(15, { base := 1024, len := 512, idx := 508 })] }
def wMem (imm : Word) : IWord := ⟨31, 1, 0, 0, 0, imm⟩
def wPtr : IWord := ⟨31, 15, 0, 0, 1, 4⟩
def wStride : IWord := ⟨31, 1, 0, 7, 0, 0⟩

def isOk {α β : Type} : Except α β → Bool
  | .ok _ => true
  | .error _ => false

theorem ok_of {α β : Type} {x : Except α β} (h : isOk x = true) : ∃ v, x = .ok v := by
  cases x with
  | ok v => exact ⟨v, rfl⟩
  | error e => cases h

theorem test_wit_BenchMemory_loads : ∃ v a b c : _,
    (Goes 2 0 (wMem 0) ptr ∧ (at_ 2 0 (wMem 0) ptr).load ((at_ 2 0 (wMem 0) ptr).c.sr 1 + 0).toNat = .ok v) ∧
    (Goes 2 0 (wMem 512) ptr ∧
      (at_ 2 0 (wMem 512) ptr).load ((at_ 2 0 (wMem 512) ptr).c.sr 1 + 512).toNat = .error (Trap.address, 0)) ∧
    (Goes 3 0 wPtr ptr ∧ (at_ 3 0 wPtr ptr).gather ((at_ 3 0 wPtr ptr).c.mr 0) ((at_ 3 0 wPtr ptr).c.vr 31)
      ((at_ 3 0 wPtr ptr).vAddr wPtr) = .ok a) ∧
    (Goes 3 2 (wMem 508) ptr ∧ (at_ 3 2 (wMem 508) ptr).load ((at_ 3 2 (wMem 508) ptr).vAddr (wMem 508) 0) = .ok b) ∧
    (Goes 3 3 wStride ptr ∧ (at_ 3 3 wStride ptr).gather ((at_ 3 3 wStride ptr).c.mr 7) ((at_ 3 3 wStride ptr).c.vr 31)
      ((at_ 3 3 wStride ptr).sAddr wStride) = .ok c) := by
  obtain ⟨a, ha⟩ := ok_of (x := (at_ 3 0 wPtr ptr).gather ((at_ 3 0 wPtr ptr).c.mr 0) ((at_ 3 0 wPtr ptr).c.vr 31)
      ((at_ 3 0 wPtr ptr).vAddr wPtr)) (by decide +kernel)
  obtain ⟨c, hc⟩ := ok_of (x := (at_ 3 3 wStride ptr).gather ((at_ 3 3 wStride ptr).c.mr 7)
      ((at_ 3 3 wStride ptr).c.vr 31) ((at_ 3 3 wStride ptr).sAddr wStride)) (by decide +kernel)
  obtain ⟨v, hv⟩ := ok_of (x := (at_ 2 0 (wMem 0) ptr).load ((at_ 2 0 (wMem 0) ptr).c.sr 1 + 0).toNat) (by decide +kernel)
  obtain ⟨b, hb⟩ := ok_of (x := (at_ 3 2 (wMem 508) ptr).load ((at_ 3 2 (wMem 508) ptr).vAddr (wMem 508) 0))
    (by decide +kernel)
  exact ⟨v, a, b, c, ⟨issues (by decide +kernel), hv⟩, ⟨issues (by decide +kernel), rfl⟩, ⟨issues (by decide +kernel), ha⟩,
    ⟨issues (by decide +kernel), hb⟩, issues (by decide +kernel), hc⟩

theorem test_wit_BenchMemory_stores : ∃ t u v : Run,
    (Goes 2 1 (wMem 508) ptr ∧ ((at_ 2 1 (wMem 508) ptr).puts [keyS 1, keyS 31] 1 [] fun c => c).store
      ((at_ 2 1 (wMem 508) ptr).c.sr 1 + 508).toNat ((at_ 2 1 (wMem 508) ptr).c.sr 31) = .ok t) ∧
    (Goes 3 1 wPtr ptr ∧ ((at_ 3 1 wPtr ptr).puts (keyV 31 :: vReads wPtr) 1 (vWrites wPtr) fun c => c).scatter
      ((at_ 3 1 wPtr ptr).c.mr 0) ((at_ 3 1 wPtr ptr).c.vr 31) ((at_ 3 1 wPtr ptr).vAddr wPtr) = .ok u) ∧
    (Goes 3 4 wStride ptr ∧ ((at_ 3 4 wStride ptr).puts (keyV 31 :: strideReads wStride) 4 [] fun c => c).scatter
      ((at_ 3 4 wStride ptr).c.mr 7) ((at_ 3 4 wStride ptr).c.vr 31) ((at_ 3 4 wStride ptr).sAddr wStride) = .ok v) := by
  obtain ⟨t, ht⟩ := ok_of (x := ((at_ 2 1 (wMem 508) ptr).puts [keyS 1, keyS 31] 1 [] fun c => c).store
      ((at_ 2 1 (wMem 508) ptr).c.sr 1 + 508).toNat ((at_ 2 1 (wMem 508) ptr).c.sr 31)) (by decide +kernel)
  obtain ⟨u, hu⟩ := ok_of (x := ((at_ 3 1 wPtr ptr).puts (keyV 31 :: vReads wPtr) 1 (vWrites wPtr) fun c => c).scatter
      ((at_ 3 1 wPtr ptr).c.mr 0) ((at_ 3 1 wPtr ptr).c.vr 31) ((at_ 3 1 wPtr ptr).vAddr wPtr)) (by decide +kernel)
  obtain ⟨v, hv⟩ := ok_of (x := ((at_ 3 4 wStride ptr).puts (keyV 31 :: strideReads wStride) 4 [] fun c => c).scatter
      ((at_ 3 4 wStride ptr).c.mr 7) ((at_ 3 4 wStride ptr).c.vr 31) ((at_ 3 4 wStride ptr).sAddr wStride)) (by decide +kernel)
  exact ⟨t, u, v, ⟨issues (by decide +kernel), ht⟩, ⟨issues (by decide +kernel), hu⟩, issues (by decide +kernel), hv⟩

/-- A run, its areas in order, an odd address, an address past the end, one below the state area, and one store. -/
theorem test_wit_BenchMemory_run : ∃ t : Run, ∃ v : List Word,
    ((at_ 2 0 (wMem 0) ptr).areas.const ≤ (at_ 2 0 (wMem 0) ptr).areas.par ∧
      (at_ 2 0 (wMem 0) ptr).areas.par ≤ (at_ 2 0 (wMem 0) ptr).areas.state ∧ (at_ 2 0 (wMem 0) ptr).store 512 7 = .ok t) ∧
    (1535 % 4 ≠ 0 ∧ 1536 % 4 = 0 ∧ (at_ 2 0 (wMem 0) ptr).areas.stop = 1536 ∧ 508 % 4 = 0 ∧
      508 < (at_ 2 0 (wMem 0) ptr).areas.state) ∧
    (at_ 2 0 (wMem 0) ptr).gather 3 [5, 6, 7] (fun l => 1024 + 4 * l) = .ok v ∧
    getA 0 (at_ 2 0 (wMem 0) ptr).k.linePend = none := by
  obtain ⟨t, ht⟩ := ok_of (x := (at_ 2 0 (wMem 0) ptr).store 512 7) (by decide +kernel)
  obtain ⟨v, hv⟩ := ok_of (x := (at_ 2 0 (wMem 0) ptr).gather 3 [5, 6, 7] (fun l => 1024 + 4 * l)) (by decide +kernel)
  exact ⟨t, v, ⟨by decide +kernel, by decide +kernel, ht⟩, by decide +kernel, hv, by decide +kernel⟩

theorem test_wit_BenchVectors :
    ∀ x ∈ [0, 1, 2, 3, 4, 5].map (fun op => (4, op, (⟨31, 1, 30, 7, 0, 0⟩ : IWord), s1))
        ++ [6, 7].map (fun op => (4, op, ⟨31, 1, 0, 0, 0, 31⟩, s1)) ++ [8, 9].map (fun op => (4, op, ⟨31, 1, 0, 0, 0, 0⟩, s1))
        ++ [(4, 10, ⟨7, 1, 30, 0, 0, 0⟩, s1), (4, 11, ⟨31, 1, 30, 0, 7, 0⟩, s1), (4, 12, ⟨31, 0, 0, 0, 0, 0⟩, s1)],
      Goes x.1 x.2.1 x.2.2.1 x.2.2.2 :=
  goes_all (by decide +kernel)

theorem test_wit_BenchAccumulators :
    ∀ x ∈ [0, 1, 2].map (fun op => (5, op, (⟨3, 31, 30, 0, 0, 0⟩ : IWord), s1))
        ++ [0, 3].map (fun op => (6, op, ⟨3, if op = 0 then 0 else 31, 0, 7, 0, 0⟩, s1))
        ++ [(6, 1, ⟨31, 3, 0, 0, 15, 0⟩, s1), (6, 2, ⟨30, 3, 0, 0, 0, 0⟩, s1), (6, 4, ⟨7, 3, 0, 0, 0, 0⟩, s1),
          (6, 5, ⟨7, 0, 0, 0, 0, 0⟩, s1)],
      Goes x.1 x.2.1 x.2.2.1 x.2.2.2 :=
  goes_all (by decide +kernel)

def wMacm : IWord := ⟨3, 31, 15, 0, 0, 4⟩
def wMacmm : IWord := ⟨3, 15, 15, 0, 0, 0x00040004⟩

theorem test_wit_BenchAccumulators_macm : ∃ x y z : List Word, ∃ t : Run,
    (Goes 5 3 wMacm ptr ∧ (at_ 5 3 wMacm ptr).gather ((at_ 5 3 wMacm ptr).c.mr 0) zeroLanes ((at_ 5 3 wMacm ptr).pAddr 15)
      = .ok x) ∧
    (Goes 5 4 wMacmm ptr ∧ (at_ 5 4 wMacmm ptr).gather ((at_ 5 4 wMacmm ptr).c.mr 0) zeroLanes
        ((at_ 5 4 wMacmm ptr).pAddr 15) = .ok y ∧
      t = Run.stepP 15 (wMacmm.imm.extractLsb' 0 16).toInt (at_ 5 4 wMacmm ptr) ∧
      t.gather (t.c.mr 0) zeroLanes (t.pAddr 15) = .ok z) := by
  obtain ⟨x, hx⟩ := ok_of (x := (at_ 5 3 wMacm ptr).gather ((at_ 5 3 wMacm ptr).c.mr 0) zeroLanes
    ((at_ 5 3 wMacm ptr).pAddr 15)) (by decide +kernel)
  obtain ⟨y, hy⟩ := ok_of (x := (at_ 5 4 wMacmm ptr).gather ((at_ 5 4 wMacmm ptr).c.mr 0) zeroLanes
    ((at_ 5 4 wMacmm ptr).pAddr 15)) (by decide +kernel)
  obtain ⟨z, hz⟩ := ok_of (x := (Run.stepP 15 (wMacmm.imm.extractLsb' 0 16).toInt (at_ 5 4 wMacmm ptr)).gather
    ((Run.stepP 15 (wMacmm.imm.extractLsb' 0 16).toInt (at_ 5 4 wMacmm ptr)).c.mr 0) zeroLanes
    ((Run.stepP 15 (wMacmm.imm.extractLsb' 0 16).toInt (at_ 5 4 wMacmm ptr)).pAddr 15)) (by decide +kernel)
  exact ⟨x, y, z, _, ⟨issues (by decide +kernel), hx⟩, issues (by decide +kernel), hy, rfl, hz⟩

theorem test_wit_BenchAccumulators_range :
    ((⟨5, true⟩ : Acc).ovf = true ∧ (⟨5, false⟩ : Acc).ovf = false) ∧
    (-(2 ^ 71) ≤ (⟨2 ^ 71 - 2, false⟩ : Acc).val + 1 ∧ (⟨2 ^ 71 - 2, false⟩ : Acc).val + 1 < 2 ^ 71) ∧
    2 ^ 71 ≤ (⟨2 ^ 71 - 1, false⟩ : Acc).val + 1 ∧ (⟨-(2 ^ 71), false⟩ : Acc).val + -1 < -(2 ^ 71) := by
  decide

theorem test_wit_BenchSearchAndPointers :
    (∀ x ∈ [0, 1].map (fun op => (7, op, (⟨30, 1, 31, 0, 1, 0⟩ : IWord), s1))
        ++ [2, 3].map (fun op => (7, op, ⟨30, 1, 0, 0, 1, 0⟩, s1)) ++ [0, 1, 2].map (fun op => (8, op, ⟨7, 1, 0, 0, 0, 4⟩, s1))
        ++ [0, 1, 2].map (fun op => (8, op, ⟨8, 1, 0, 0, 0, 4⟩, s1)) ++ [(8, 3, ⟨31, 15, 0, 0, 0, 0⟩, s1), (8, 4, ⟨15, 1, 0, 0, 0, 4⟩, s1)],
      Goes x.1 x.2.1 x.2.2.1 x.2.2.2) ∧
    bestLane (fun n o => decide (o < n)) ⟨0, 0, 0, 0, 0, 0⟩ 3 [5, 6, 7] = some (6, 1) ∧
    bestLane (fun n o => decide (n < o)) ⟨0, 0, 0, 0, 0, 0⟩ 6 [5, 6, 6] = some (6, 1) ∧
    bestLane (fun n o => decide (o < n)) ⟨0, 0, 0, 0, 0, 0⟩ 0 zeroLanes = none ∧
    ((⟨0, 0, 4⟩ : PReg).len = 0 ∧ (⟨0, 8, 12⟩ : PReg).len ≠ 0) :=
  ⟨goes_all (by decide +kernel), by decide +kernel⟩

/-- Slot 63 takes a first, last chunk that is no good image, then a middle one. -/
def krnReq (flags : Nat) : Req := req 0 (leBytes 1 63 ++ leBytes 1 flags ++ zeros 2 ++ leBytes 4 0 ++ leBytes 4 4 ++ leBytes 4 0)

theorem test_wit_KernelImages : ∃ s : State,
    (Passes krnImageLoad demo 0 (krnReq 3) ∧ field (krnReq 3).payload 0 1 = 63 ∧ demo.slotUsers 63 = 0 ∧
      demo.hitsAttachment 0 (field (krnReq 3).payload 12 4) (field (krnReq 3).payload 8 4) = false) ∧
    (Passes krnImageLoad s 0 (krnReq 0) ∧ s.slotUsers 63 = 0 ∧ (ImageSlot.of s.bench.slots 63).state = .loading) ∧
    Passes krnImageClear demo 0 (req 0 (leBytes 1 63 ++ zeros 3)) ∧
    Passes krnImageInfo demo 0 (req 0 (leBytes 1 63 ++ zeros 3)) :=
  ⟨{ demo with bench := { demo.bench with slots := [{ slot := 63, state := .loading }] } },
    ⟨passes (by decide +kernel), by decide +kernel⟩, ⟨passes (by decide +kernel), by decide +kernel⟩,
    passes (by decide +kernel), passes (by decide +kernel)⟩

/-! ### Memory, queues, Ashlar -/

def queueReq : Req := req (mkNode Ty.queue 15) (leBytes 1 4 ++ leBytes 1 1 ++ zeros 2 ++ leBytes 4 4096 ++ leBytes 4 4096 ++ zeros 4)
/-- A device with 8 GiB, and one transfer of 16 MiB between user memory and the host's. -/
def dense : State := { demo with mem := { demo.mem with density := 8 } }
def haulReq : Req := req 0 (leBytes 2 1 ++ zeros 6 ++ leBytes 1 1 ++ leBytes 1 2 ++ zeros 2 ++ leBytes 4 16777216 ++ zeros 24)
def haulD : HaulDesc := { src := 1, dst := 2, len := 16777216, srcAddr := 0, dstAddr := 0 }
def jobbed : State := { dense with mem := { dense.mem with jobs := [{ mb := 0, req := haulReq, descs := [{ haulD with len := 4 }] }] } }

theorem test_wit_MemoryAndHaul_queues :
    (Passes queueConfig demo 0 queueReq ∧ nodeIdx queueReq.node.toNat = 15 ∧ queueWords (field queueReq.payload 0 1) = 2048 ∧
      demo.queueBound 15 = false ∧ (∀ i, i < 16 → (demo.queue i).window = none) ∧ demo.queueShareOk 15 2048 = true) ∧
    Passes queueStatus demo 0 (req (mkNode Ty.queue 15) (leBytes 4 1)) ∧
    (Passes queueStatus demo 0 (req (mkNode Ty.queue 16) (leBytes 4 0)) ∧
      nodeIdx (req (mkNode Ty.queue 16) []).node.toNat = 16) ∧
    Passes memInfo demo 0 (req 0 []) :=
  ⟨⟨passes (by decide +kernel), by decide +kernel⟩, passes (by decide +kernel),
    ⟨passes (by decide +kernel), by decide +kernel⟩, passes (by decide +kernel)⟩

theorem test_wit_MemoryAndHaul_haul :
    (Passes haulSubmit dense 0 haulReq ∧ field haulReq.payload 0 2 = 1 ∧ haulReq.payload.length = 8 + 32 * 1 ∧
      (∀ j, j < 1 → dense.haulDescOk haulReq.payload j = true) ∧ (List.range 1).map (haulDesc haulReq.payload) = [haulD] ∧
      dense.id.straps.hostQspi = false ∧ haulD.src ≠ 3 ∧ haulD.dst ≠ 3) ∧
    (∃ t : State, ∃ moved : Nat,
      jobbed.job? (0 : Fin 8) = some { mb := 0, req := haulReq, descs := [{ haulD with len := 4 }] } ∧
      sumN ([{ haulD with len := 4 }].map (·.len)) = 4 ∧
      State.haulRun (0 : Fin 8) 4 [{ haulD with len := 4 }] 0 { jobbed with mem := { jobbed.mem with
        jobs := jobbed.mem.jobs.filter fun x => x.mb != (0 : Fin 8).val } } = (moved, none, t)) ∧
    (∃ t : State, ∃ moved : Nat, 3 < sumN ([{ haulD with len := 4 }].map (·.len)) ∧
      State.haulRun (0 : Fin 8) 3 [{ haulD with len := 4 }] 0 { jobbed with mem := { jobbed.mem with
        jobs := jobbed.mem.jobs.filter fun x => x.mb != (0 : Fin 8).val } } = (moved, some ({ haulD with len := 4 }, 3), t)) ∧
    (dense.badAt haulD.src haulD.srcAddr haulD.len = none ∧ 5 + haulD.len ≤ 5 + 16777216 ∧ 5 + 16777215 < 5 + haulD.len) ∧
    (dense.mem.user.wf = true ∧ dense.mem.host.wf = true ∧ dense.mem.bar2.wf = true) :=
  ⟨⟨passes (by decide +kernel), by decide +kernel⟩, ⟨_, _, by decide +kernel, by decide +kernel, rfl⟩,
    ⟨_, _, by decide +kernel, rfl⟩, by decide +kernel, by decide +kernel⟩

def fullQueue : HostQueue := { cap := 1, packets := [[(1, false)]] }

theorem test_wit_QueueOperations :
    (({} : HostQueue).discarding = false ∧ ({} : HostQueue).isFull = false ∧ ({} : HostQueue).bad = false) ∧
    (fullQueue.discarding = false ∧ fullQueue.isFull = true) ∧ ({ discarding := true } : HostQueue).discarding = true ∧
    ({ inProgress := true } : HostQueue).inProgress = true ∧
    (fullQueue.popWord.isSome = true ∧ fullQueue.packets.flatten ≠ [] ∧ ∀ p ∈ fullQueue.packets, p ≠ []) ∧
    ((demo.queue 7).packets = [] ∧ fullQueue.packets ≠ []) := by
  decide +kernel

/-- Queue 0 holds a packet for a window ring of 64 bytes; queue 8's ring holds a packet of one word. -/
def windowed : State :=
  ((demo.putQueue 0 { packets := [[(1, false)]], window := some (0, 0, 64) }).putQueue 8
    { window := some (0, 64, 64), winHead := 16 })
def ringed : State := { windowed with mem := { windowed.mem with bar2 := Mem.writeBytes [] (bulkBase 0 + 64) (leBytes 8 8) } }

theorem test_wit_HostQueueRows :
    (demo.awake = true ∧ demo.ready = true ∧ (1#32).getLsbD 1 = false ∧ (2#32).getLsbD 0 = false) ∧
    (8 ≤ (15 : Fin 16).val ∧ (demo.queue (15 : Fin 16)).window = none) ∧
    ((demo.putQueue 15 { heldWrite := some 5 }).awake = true ∧ (demo.putQueue 15 { heldWrite := some 5 }).ready = true ∧
      ((demo.putQueue 15 { heldWrite := some 5 }).queue (15 : Fin 16)).window = none ∧
      ((demo.putQueue 15 { heldWrite := some 5 }).queue (15 : Fin 16)).heldWrite = some 5) ∧
    ((7 : Fin 16).val < 8 ∧ (windowed.queue (8 : Fin 16)).window ≠ none ∧ windowed.awake = true ∧ windowed.ready = true) ∧
    (((demo.putQueue 7 fullQueue).queue (7 : Fin 16)).popWord.isSome = true ∧
      ((demo.putQueue 7 fullQueue).queue (7 : Fin 16)).window = none ∧ (demo.queue (7 : Fin 16)).packets = [] ∧
      (demo.queue (7 : Fin 16)).window = none) ∧
    (windowed.mem.bar2.wf = true ∧ (windowed.queue (0 : Fin 16)).window = some (0, 0, 64) ∧
      (windowed.queue (0 : Fin 16)).packets = [[(1, false)]] ∧
      8 + 8 * [((1 : BitVec 64), false)].length ≤
        64 - ((windowed.queue (0 : Fin 16)).winHead - (windowed.queue (0 : Fin 16)).winTail).toNat) ∧
    ((ringed.queue (8 : Fin 16)).window = some (0, 64, 64) ∧
      leNat (ringed.ringGet 0 64 64 (ringed.queue (8 : Fin 16)).winTail.toNat 8) = 8 * 1 ∧
      8 + 8 * 1 ≤ ((ringed.queue (8 : Fin 16)).winHead - (ringed.queue (8 : Fin 16)).winTail).toNat ∧
      (ringed.queue (8 : Fin 16)).level + 1 ≤ (ringed.queue (8 : Fin 16)).cap) := by
  decide +kernel

/-- Context 63: a decompressor of bytes, enabled, in a stream. -/
def ashed : State := { demo with
  nodes := [(ashId 63, { state := .enabled, params := [(1, [2]), (2, [1]), (4, [0]), (5, [0])] })]
  ash := [{ ctx := 63, inStream := true }] }
def ashReq : Req := req (ashId 63) (leBytes 1 2 ++ leBytes 1 3 ++ leBytes 1 2 ++ zeros 45)
def ctxReq : Req := req (ashId 63) (leBytes 1 3 ++ zeros 15)

theorem test_wit_AshlarCommands_job :
    Passes ashJob ashed 0 ashReq ∧ nodeIdx ashReq.node.toNat = 63 ∧ ashed.enabled (ashId 63) = true ∧
      (ashed.ashCfg 63).dir = 2 ∧ (ashed.ashDyn 63).inStream = true ∧ (ashJobOf ashReq.payload).start = false ∧
      ashed.id.straps.hostQspi = false ∧ (ashJobOf ashReq.payload).inSpace = 3 ∧ (ashJobOf ashReq.payload).outSpace ≠ 3 ∧
      ashed.hitsAttachment (0 : Fin 8) (ashJobOf ashReq.payload).inAddr (ashJobOf ashReq.payload).inLen = false :=
  ⟨passes (by decide +kernel), by decide +kernel⟩

/-- The job's end: an empty input, nothing pending, no fault. -/
theorem test_wit_AshlarCommands_complete : ∃ s : State, ∃ run : AshRun,
    (s.ashDyn 63).job = some ((0 : Fin 8).val, ashReq) ∧
      s.badAt (ashJobOf ashReq.payload).inSpace (ashJobOf ashReq.payload).inAddr (ashJobOf ashReq.payload).inLen = none ∧
      run = AshRun.run (s.ashCfg 63) (ashJobOf ashReq.payload).start (ashJobOf ashReq.payload).finish
        (ashJobOf ashReq.payload).user
        { dyn := { s.ashDyn 63 with job := none }
          input := s.haulRead (0 : Fin 8) (ashJobOf ashReq.payload).inSpace (ashJobOf ashReq.payload).inAddr
            (ashJobOf ashReq.payload).inLen
          room := (ashJobOf ashReq.payload).outLen } ∧ run.fault = none :=
  ⟨{ ashed with ash := [{ ctx := 63, job := some (0, ashReq) }] }, _, by decide +kernel, by decide +kernel, rfl,
    by decide +kernel⟩

/-- A saved context: magic, CRC, and a body of mode bytes and no history. -/
def ctxBytes (body : Bytes) : Bytes := leBytes 4 0x58435341 ++ (leBytes 4 (crc32c body).toNat ++ body)
def ctxAt (b : Bytes) : State := { ashed with mem := { ashed.mem with bar2 := Mem.writeBytes [] (bulkBase 0) b } }

theorem ctxBytes_fields (body : Bytes) : field (ctxBytes body) 0 4 = 0x58435341 ∧
    field (ctxBytes body) 4 4 = (crc32c ((ctxBytes body).drop 8)).toNat ∧ (ctxBytes body).drop 8 = body := by
  have h4 : (ctxBytes body).drop 4 = leBytes 4 (crc32c body).toNat ++ body := List.drop_left' (by simp)
  have h8 : (ctxBytes body).drop 8 = body := by
    rw [show 8 = 4 + 4 from rfl, ← List.drop_drop, h4]
    exact List.drop_left' (by simp)
  refine ⟨?_, ?_, h8⟩
  · rw [field, slice, List.drop_zero, ctxBytes, List.take_left' (by simp), leNat_leBytes]; rfl
  · rw [field, slice, h4, h8, List.take_left' (by simp)]
    exact leNat_leBytes_word _

theorem haulRead_ctxAt (b : Bytes) : (ctxAt b).haulRead (0 : Fin 8) 3 0 b.length = b :=
  Mem.readBytes_writeBytes rfl _ b

theorem test_wit_AshlarCommands_context (body b z : Bytes) (h : body = (ashed.ashCfg 63).bytes ++ z)
    (hz : z = zeros 40944) (hb : b = ctxBytes body) :
    (Passes ashCtxSave ashed 0 ctxReq ∧ ctxSpace ashed (0 : Fin 8) ctxReq.payload = 0) ∧
    (Passes ashCtxRestore (ctxAt b) 0 ctxReq ∧ nodeIdx ctxReq.node.toNat = 63 ∧ (ctxAt b).enabled (ashId 63) = true ∧
      ctxSpace (ctxAt b) (0 : Fin 8) ctxReq.payload = 0 ∧
      ((ctxAt b).badAt (field ctxReq.payload 0 1) (field ctxReq.payload 8 8) 40960).isSome = false) ∧
    b = (ctxAt b).haulRead (0 : Fin 8) (field ctxReq.payload 0 1) (field ctxReq.payload 8 8) 40960 ∧
    field b 0 4 = 0x58435341 ∧ field b 4 4 = (crc32c (b.drop 8)).toNat ∧ slice b 8 8 = ((ctxAt b).ashCfg 63).bytes := by
  have hc : (ashed.ashCfg 63).bytes.length = 8 := by decide +kernel
  have hl : b.length = 40960 := by
    have : z.length = 40944 := by rw [hz]; exact zeros_length _
    rw [hb, h]
    simp [ctxBytes, hc, this]
  have hs : field ctxReq.payload 0 1 = 3 := by decide +kernel
  have ha : field ctxReq.payload 8 8 = 0 := by decide +kernel
  refine ⟨⟨passes (by decide +kernel), by decide +kernel⟩, ⟨passes ?_, by decide +kernel, ?_, ?_, ?_⟩, ?_, ?_, ?_, ?_⟩
  · exact (by decide +kernel : passesB ashCtxRestore ashed 0 ctxReq = true)
  · exact (by decide +kernel : ashed.enabled (ashId 63) = true)
  · exact (by decide +kernel : ctxSpace ashed (0 : Fin 8) ctxReq.payload = 0)
  · exact (by decide +kernel : (ashed.badAt (field ctxReq.payload 0 1) (field ctxReq.payload 8 8) 40960).isSome = false)
  · rw [hs, ha, ← hl, haulRead_ctxAt]
  · rw [hb]; exact (ctxBytes_fields body).1
  · rw [hb]; exact (ctxBytes_fields body).2.1
  · rw [slice, hb, (ctxBytes_fields body).2.2, h]
    exact List.take_left' hc

/-! ### The Farxis link -/

def linkAt (l : Link) : State := { demo with link := l }
def linkRunning : State :=
  { linkAt { state := .active, laneSet := [0, 7], lock := [0, 7], laneMap := [0, 7], width := 2, ctle := List.replicate 8 8
             ctleTrained := List.replicate 8 8 } with
    nodes := [(linkNode, { state := .enabled, params := [(3, [1])] })]
    time := { demo.time with ticks := 1000 } }
def linkReq (p : Bytes) : Req := req linkNode p

theorem test_wit_LinkBringUp_commands :
    (Passes linkPower linkRunning 0 (linkReq (zeros 4)) ∧ (0, LinkState.active) ∈ [(0, LinkState.active), (1, .quiet), (2, .deep)] ∧
      linkRunning.link.up = true ∧ linkRunning.link.state = .active) ∧
    (Passes linkPower linkRunning 0 (linkReq (leBytes 4 2)) ∧ field (linkReq (leBytes 4 2)).payload 0 1 = 2 ∧
      linkRunning.link.state ≠ .deep) ∧
    (Passes linkPower (linkAt { state := .deep }) 0 (linkReq (leBytes 4 1)) ∧ (linkAt { state := .deep }).link.up = true ∧
      (linkAt { state := .deep }).link.rung = 0) ∧
    (Passes linkTest demo 0 (linkReq (leBytes 1 1 ++ leBytes 1 31 ++ leBytes 1 6 ++ leBytes 1 255 ++ leBytes 1 3 ++ zeros 3)) ∧
      demo.enabled linkNode = false ∧ demo.link.test = none) ∧
    (Passes linkTest (linkAt { test := some (7, 0, 1, 1) }) 0
        (linkReq (leBytes 1 0 ++ leBytes 1 7 ++ leBytes 1 0 ++ leBytes 1 1 ++ leBytes 1 1 ++ zeros 3)) ∧
      (linkAt { test := some (7, 0, 1, 1) }).link.test.isSome = true) ∧
    Passes linkCounters demo 0 (linkReq (leBytes 4 1)) :=
  ⟨⟨passes (by decide +kernel), by decide +kernel⟩, ⟨passes (by decide +kernel), by decide +kernel⟩,
    ⟨passes (by decide +kernel), by decide +kernel⟩, ⟨passes (by decide +kernel), by decide +kernel⟩,
    ⟨passes (by decide +kernel), by decide +kernel⟩, passes (by decide +kernel)⟩

def trainMsg (n : Nat) (f2 : Byte) : TrainMessage := ⟨0, n, f2, 0, 0, 0⟩

theorem test_wit_LinkBringUp_steps : ∃ cs : List Nat, ∃ t u : State,
    ((linkAt { state := .detect, step := 1 }).link.state = .detect ∧ (linkAt { state := .detect, step := 1 }).link.step = 1 ∧
      bit (linkAt { state := .detect, step := 1 }).laneMask (7 : Fin 8) = true) ∧
    ((linkAt { step := 2, wakes := 62 }).link.step = 2 ∧ (trainMsg 1 1).message = 1 ∧ (trainMsg 1 1).f2.getLsbD 0 = true ∧
      (linkAt { step := 2, wakes := 62 }).link.wakes + 1 ≠ 64) ∧
    ((linkAt { step := 4, rung := 6 }).link.step = 4 ∧ (trainMsg 4 6).message = 4 ∧
      (trainMsg 4 6).f2.toNat = (linkAt { step := 4, rung := 6 }).link.rung) ∧
    ((linkAt { step := 7 }).link.step = 7 ∧ (trainMsg 8 0).message = 8) ∧
    ((linkAt { step := 5 }).link.step = 5 ∧ (linkAt { step := 5 }).link.swept = false ∧
      (linkAt { step := 5 }).pickCodes [1, 2, 3, 4, 5, 6, 7, 8] = (cs, t)) ∧
    middleCode 0x8000 = some 15 ∧
    ((linkAt { state := .rungTest, step := 6 }).link.state = .rungTest ∧
      (linkAt { state := .rungTest, step := 6 }).link.ownMask = none ∧
      State.countPrbs [] (255 : Byte).toNat (linkAt { state := .rungTest, step := 6 }) = u) :=
  ⟨_, _, _, by decide +kernel, by decide +kernel, by decide +kernel, by decide +kernel,
    ⟨by decide +kernel, by decide +kernel, rfl⟩, by decide +kernel, by decide +kernel, by decide +kernel, rfl⟩

theorem test_wit_LinkBringUp_failures : ∃ s t : State,
    (s.link.step ≠ 0 ∧ s.link.since + 480 ≤ s.time.ticks ∧ s.link.leavingDeep = none) ∧
    (2 ≤ (linkAt { attempts := 2 }).link.attempts ∧ (linkAt { attempts := 1 }).link.attempts < 2 ∧
      (linkAt { attempts := 1 }).link.absent = false) ∧
    (t.link.state = .absent ∧ t.link.since + 48000 ≤ t.time.ticks) ∧ demo.pairEn = false ∧
    ((linkAt { step := 4, leavingDeep := some .active }).link.step ≠ 0 ∧
      (linkAt { step := 4, leavingDeep := some .active }).link.leavingDeep ≠ none) :=
  ⟨{ linkAt { step := 7 } with time := { demo.time with ticks := 480 } },
    { linkAt { state := .absent } with time := { demo.time with ticks := 48000 } }, by decide +kernel⟩

def vcPacket (seq : Nat) (h p : Bool) : VcPacket := ⟨1, seq, 16, h, p, .ack 3⟩
def linkSends : State := linkAt { state := .active, vc1 := { ready := [(16, .ack 3)], credits := 1 } }

theorem test_wit_LinkTraffic :
    (linkRunning.link.moves = true ∧ (vcPacket 0 true true).headerCrcOk = true ∧ (vcPacket 0 true true).payloadCrcOk = true ∧
      (vcPacket 0 true true).seq = (linkRunning.link.vc 1).rxSeq ∧ (vcPacket 4095 true true).seq ≠ (linkRunning.link.vc 1).rxSeq ∧
      (vcPacket 0 false true).headerCrcOk = false ∧ (vcPacket 0 true false).payloadCrcOk = false) ∧
    (linkSends.link.state = .active ∧ (linkSends.link.vc 1).unacked.length ≤ (linkSends.link.vc 1).sent ∧
      (linkSends.link.vc 1).ready = [(16, .ack 3)] ∧ creditsFor 16 ≤ (linkSends.link.vc 1).credits) ∧
    (({ unacked := [⟨5, 16, .ack 3, 1⟩] } : Vc).unacked = [⟨5, 16, .ack 3, 1⟩] ∧ ({} : Vc).returned ≤ 65535 ∧ 65535 < 65536) ∧
    (linkRunning.link.up = true ∧ (7 : Fin 8).val ∈ linkRunning.link.laneSet ∧ (7 : Fin 8).val ∈ linkRunning.link.laneMap ∧
      (∀ x ∈ linkRunning.link.laneSet, x ∈ linkRunning.link.lock) ∧
      linkRunning.link.laneSet.filter (fun x => x ≠ (7 : Fin 8).val) = [0] ∧ widthFor [0].length = 1) ∧
    (demo.pairEn = false ∧ demo.pair.role ≠ 2) ∧
    (linkRunning.quietIdle ≠ 0 ∧ linkRunning.link.lastPacket + linkRunning.quietIdle ≤ linkRunning.time.ticks) ∧
    (linkRunning.link.ctle.getD (7 : Fin 8) 0 = 8 ∧ linkRunning.link.ctleTrained.getD (7 : Fin 8) 0 = 8 ∧ 8 ≤ 15 ∧
      8 < 8 + 2 ∧ 8 < 15) ∧
    linkRunning.parN linkNode 4 ≤ 4 ∧ linkRunning.link.errInterval = none := by
  decide +kernel

/-! ### The redundant pair -/

def paired (p : Pair) : State := { demo with
  id := { demo.id with straps := { demo.id.straps with pairEn := true } }, pair := p, link := { state := .active } }
def switchReq : Req := req 0 (leBytes 1 2 ++ zeros 7 ++ leBytes 8 64)

theorem test_wit_PairRows_commands :
    Passes pairStatus demo 0 (req 0 []) ∧ (Passes pairConfig demo 0 (req 0 (leBytes 4 1)) ∧ demo.pair.state ≠ 4) ∧
    ((paired { role := 1, state := 3 }).awake = true ∧ (paired { role := 1, state := 3 }).ready = true ∧
      ((paired { role := 1, state := 3 }).box (0 : Fin 8)).busy = false ∧
      ((paired { role := 1, state := 3 }).box (0 : Fin 8)).sess = .opened ∧
      ((paired { role := 1, state := 3 }).box (0 : Fin 8)).tagOf switchReq.tag = none ∧ switchReq.payload.length ≤ 8176 ∧
      pairSwitch.early (((paired { role := 1, state := 3 }).note (.bell 0)).accept 0x0E03 0) 0 switchReq = 0 ∧
      (((paired { role := 1, state := 3 }).note (.bell 0)).accept 0x0E03 0).mustWait 0x0E03 switchReq = false ∧
      field switchReq.payload 8 8 % 16 = 0 ∧ switchReq.node = 0 ∧
      (paired { role := 1, state := 3 }).power.state = .active ∧ field switchReq.payload 0 1 = 2 ∧
      field switchReq.payload 8 8 = 64 ∧ 16 * ((paired { role := 1, state := 3 }).time.block + 4) ≤ 64) :=
  ⟨passes (by decide +kernel), ⟨passes (by decide +kernel), by decide +kernel⟩, by decide +kernel⟩

theorem test_wit_PairRows_heartbeats : ∃ s : State,
    ((paired {}).beating = true ∧ (paired {}).pair.nextBeat ≤ (paired {}).blockEnd ∧ (paired {}).link.up = true ∧
      (paired {}).pair.missPin < 3 ∧ (paired {}).pair.deciding = false) ∧
    (s.beating = true ∧ s.pair.role = 3 ∧ s.pair.token = false ∧ s.pair.partnerToken = false ∧
      s.id.straps.pairSideB = true ∧ s.pair.highSince + 960 ≤ s.time.ticks ∧ s.pair.lastEdge + 960 ≤ s.time.ticks) ∧
    ((paired { role := 2, missLink := 3, missPin := 3 }).beating = true ∧
      (paired { role := 2, missLink := 3, missPin := 3 }).pair.takeover = false ∧
      (paired { role := 2, missLink := 3, missPin := 3 }).pair.averted = false ∧
      3 ≤ (paired { role := 2, missLink := 3, missPin := 3 }).pair.missLink ∧
      3 ≤ (paired { role := 2, missLink := 3, missPin := 3 }).pair.missPin ∧
      (paired { role := 2, missLink := 3, missPin := 3 }).pair.partnerToken = false) ∧
    ((paired { role := 2, takeover := true }).time.pos = 0 ∧ (paired { role := 2, takeover := true }).pair.takeover = true ∧
      (paired { role := 2, takeover := true }).evq.enable = false) ∧
    ((paired { role := 1, state := 2, cutDone := true }).pair.state = 2 ∧
      (paired { role := 1, state := 2, cutDone := true }).link.up = true ∧
      (paired { role := 1, state := 2, cutDone := true }).pair.stored = [] ∧
      (paired { role := 1, state := 2, cutDone := true }).recording = true ∧
      (paired { role := 1, state := 2, cutDone := true }).closedView = none) := by
  let s : State := paired { role := 3 }
  exact ⟨{ s with
      id := { s.id with straps := { s.id.straps with pairSideB := true } }, time := { s.time with ticks := 960 } },
    by decide +kernel⟩

theorem test_wit_PairRows_records : ∃ s : State,
    ((paired { role := 1, state := 3, recordClosed := 9 }).pair.role = 1 ∧
      9 ≤ (paired { role := 1, state := 3, recordClosed := 9 }).pair.recordClosed) ∧
    (s.pair.role = 1 ∧ s.pair.state = 3 ∧ (s.box (0 : Fin 8)).held = some ⟨{}, 5, []⟩ ∧ 5 ≤ 9 ∧ 5 + 4 ≤ s.time.block) ∧
    ((paired { role := 1, switchAt := some (0, 0, switchReq) }).pair.switchAt = some (0, (0 : Fin 8).val, switchReq) ∧
      (paired { role := 1, switchAt := some (0, 0, switchReq) }).pair.role = 1 ∧
      (paired { role := 1, switchAt := some (0, 0, switchReq) }).time.pos = 0 ∧
      0 ≤ (paired { role := 1, switchAt := some (0, 0, switchReq) }).m) := by
  let s : State := paired { role := 1, state := 3, recordClosed := 9 }
  exact ⟨{ s.setBox 0 { sess := .opened, busy := true, held := some ⟨{}, 5, []⟩ } with time := { s.time with block := 9 } },
    by decide +kernel⟩

/-! ### Faults and units, power -/

def faulted : State := { demo with
  bench := { demo.bench with clustersOut := [15] }
  faults := { demo.faults with tests := [⟨2, 11, 0, req 0 [], 0⟩] } }

theorem test_wit_FaultsAndUnits : ∃ x : SelfTest,
    Passes faultStatus demo 0 (req 0 (leBytes 4 1)) ∧
    (Passes faultRestore faulted 0 (req 0 (leBytes 1 1 ++ leBytes 1 15 ++ zeros 2)) ∧ faulted.unitOut 1 15 = true ∧
      (∀ t ∈ faulted.faults.tests, ¬(t.kind = 1 ∧ t.index = 15)) ∧ (1, 15) ∉ faulted.faults.restoring) ∧
    (Passes faultInject demo 0 (req 0 (leBytes 1 4 ++ leBytes 1 11 ++ zeros 2)) ∧ demo.gal.slicesOut.contains 11 = false) ∧
    (Passes faultInject demo 0 (req 0 (leBytes 1 3 ++ leBytes 1 15 ++ zeros 2)) ∧ demo.bench.clustersOut.contains 15 = false) ∧
    (demo.awake = true ∧ 1 ≤ 5 ∧ 5 ≤ 5 ∧ (15 : Fin 16).val ∉ demo.bench.clustersOut ∧
      (15 : Fin 16).val ∈ faulted.bench.clustersOut) ∧
    ((11 : Fin 12).val ∉ demo.gal.slicesOut ∧ (11 : Fin 12).val ∉ demo.faults.sliceLost) ∧
    faulted.faults.tests.find? (fun t => decide (t.doneAt ≤ faulted.time.ticks)) = some x :=
  ⟨⟨2, 11, 0, req 0 [], 0⟩, passes (by decide +kernel), ⟨passes (by decide +kernel), by decide +kernel⟩,
    ⟨passes (by decide +kernel), by decide +kernel⟩, ⟨passes (by decide +kernel), by decide +kernel⟩, by decide +kernel⟩

def powered (p : Power) : State := { demo with power := p }
def railWith (f : Rail → Rail) : State := powered { demo.power with rails := demo.power.rails.set 15 (f (demo.rail 15)) }
def pwrReq (state kind : Nat) (at_ : Nat) : Req := req 0 (leBytes 1 state ++ leBytes 1 kind ++ zeros 6 ++ leBytes 8 at_)

theorem test_wit_PowerRows_commands :
    (Passes pwrState demo 0 (pwrReq 1 0 0) ∧ powerStateOf (field (pwrReq 1 0 0).payload 0 1) = .standby ∧
      PowerState.standby ≠ demo.power.state ∧ field (pwrReq 1 0 0).payload 1 1 = 0) ∧
    (Passes pwrState demo 0 (pwrReq 1 2 48) ∧ 16 * (demo.time.block + 3) ≤ field (pwrReq 1 2 48).payload 8 8) ∧
    Passes pwrThrottle demo 0 (req 0 (leBytes 4 1)) ∧
    ((powered { demo.power with hostReq := true }).power.throttled = none ∧
      (powered { demo.power with hostReq := true }).power.requests ≠ 0 ∧ (powered { demo.power with hostReq := true }).awake = true) :=
  ⟨⟨passes (by decide +kernel), by decide +kernel⟩, ⟨passes (by decide +kernel), by decide +kernel⟩,
    passes (by decide +kernel), by decide +kernel⟩

theorem test_wit_PowerRows_rails :
    (demo.railUp (15 : Fin 16) = true ∧ (demo.rail (15 : Fin 16)).dip = none ∧ 0 < (demo.rail (15 : Fin 16)).warnLevel demo.time.ticks ∧
      (demo.rail (15 : Fin 16)).lastDipEnd = none) ∧
    ((railWith fun r => { r with dip := some (1700, 0, true) }).rail (15 : Fin 16)).dip = some (1700, 0, true) ∧
    (((railWith fun r => { r with throttle := true }).rail (15 : Fin 16)).throttle = true ∧
      ((railWith fun r => { r with throttle := true }).rail (15 : Fin 16)).dip = none) ∧
    (demo.awake = true ∧ demo.power.thermWarn = false ∧ 10000 ≤ (10000 : Int)) ∧
    ((powered { demo.power with thermWarn := true }).power.thermWarn = true ∧ (9499 : Int) < 9500) ∧
    (0x8000#16 ≠ 0 ∧ (2 : Fin 3) ≠ 0) ∧
    (demo.power.requests = 0 ∧ (demo.rail 0).stepAt = none ∧ 725 = (demo.rail 0).setpoint + 5 ∧ 680 ≤ 725 ∧ 725 ≤ 840 ∧ 715 = (demo.rail 0).setpoint - 5) := by
  decide +kernel

theorem test_wit_PowerRows_states :
    ((powered { demo.power with change := some (.standby, 0) }).power.change = some (.standby, 0) ∧
      (powered { demo.power with change := some (.standby, 0) }).awake = true ∧ PowerState.standby ≠ .sleep ∧
      (powered { demo.power with change := some (.standby, 0) }).time.pos = 0 ∧ 0 ≤ demo.m) ∧
    ((powered { demo.power with change := some (.sleep, 0) }).power.change = some (.sleep, 0) ∧
      (powered { demo.power with change := some (.sleep, 0) }).awake = true) ∧
    ((powered { demo.power with state := .sleep, wakeSources := 15, wakeGpios := 128 }).power.state = .sleep ∧
      bit (powered { demo.power with state := .sleep, wakeSources := 15, wakeGpios := 128 }).power.wakeSources 0 = true ∧
      bit (powered { demo.power with state := .sleep, wakeSources := 15, wakeGpios := 128 }).power.wakeSources 1 = true ∧
      bit (powered { demo.power with state := .sleep, wakeSources := 15, wakeGpios := 128 }).power.wakeSources 2 = true ∧
      bit (powered { demo.power with state := .sleep, wakeSources := 15, wakeGpios := 128 }).power.wakeSources 3 = true ∧
      bit (powered { demo.power with state := .sleep, wakeSources := 15, wakeGpios := 128 }).power.wakeGpios (7 : Fin 8) = true) := by
  decide +kernel

/-! ### Resets, the host's accesses, the block -/

def down : State := powered { demo.power with state := .down }
def trial : State := { State.reset with
  boot := { State.reset.boot with trial := true, code := 4, activateAt := some 0 }, time := { State.reset.time with ticks := 96000 } }
def report : BootReport := ⟨0, 1, 0, 0, 1, 0, 8, 5500, 1800, false, false, false, [], []⟩

theorem test_wit_ResetRows : ∃ s t : State,
    (demo.awake = true ∧ (0x52530001#32).toNat / 65536 = 0x5253 ∧ (0x52530001#32).getLsbD 1 = false ∧
      (0x52520001#32).toNat / 65536 ≠ 0x5253 ∧ demo.id.straps.hostQspi = false) ∧
    (trial.boot.activateAt = some 0 ∧ trial.awake = true ∧ 0 ≤ trial.time.block) ∧
    (down.isDown = true ∧ down.power.retryAt ≤ down.time.ticks ∧ down.power.hot = false ∧ down.power.seqFails = 0) ∧
    ((powered { down.power with seqFails := 2 }).isDown = true ∧ 1 ≤ 2 ∧ 2 < 3) ∧
    ((powered { down.power with seqPair := 6 }).power.state = .down ∧ (powered { down.power with seqPair := 6 }).power.seqPair = 6 ∧
      (powered { down.power with seqPair := 7 }).power.seqPair = 7) ∧
    ((15 : Byte).toNat < 16 ∧ 0x80 ≤ (0x87 : Byte).toNat ∧ (0x87 : Byte).toNat < 0x88) ∧
    (s.power.hot = true ∧ s.isDown = true ∧ (8499 : Int) < 8500) ∧
    (State.reset.canBoot = true ∧ State.reset.mem.density = 0 ∧ State.reset.boot.warm = false ∧ State.reset.boot.source ≠ 2) ∧
    (trial.boot.code < 7 ∧ trial.boot.trial = true ∧ trial.boot.startedAt + 96000 ≤ trial.time.ticks) ∧
    (t.boot.warm = true ∧ t.canBoot = true ∧ t.mem.density ≠ 0) :=
  ⟨powered { down.power with hot := true },
    { State.reset with boot := { State.reset.boot with warm := true }, mem := { State.reset.mem with density := 8 } },
    by decide +kernel⟩

def waitingCmd : Waiting := { opcode := 1, mb := 7, req := req 0 [] }

theorem test_wit_HostAccess : ∃ s t : State,
    (demo.awake = true ∧ demo.id.straps.hostQspi = false ∧ 0x18 % 4 = 0 ∧ 0xFFFC < 0x10000) ∧
    ((regBlock 0x2040).needsReady = true ∧ State.reset.ready = false ∧ demo.ready = true ∧ regBlock 0xEFFC = .unmapped) ∧
    (regBlock (0x1B / 4 * 4) ≠ .debug ∧ regBlock (0x1B / 4 * 4) ≠ .unmapped) ∧
    (demo.mem.bar2.wf = true ∧ 0xFFFFF < 0x100000 ∧ 0x20000 ≤ 0xFFFFF ∧ 0x1FFF % 0x4000 < 0x2000) ∧
    (demo.power.state ≠ .down ∧ qspiInstructions.contains 0x06 = false) ∧
    (s.awake = true ∧ s.ready = true ∧ s.firstFree s.waitingNodes s.deferred = some (waitingCmd, []) ∧
      (contractOf waitingCmd.opcode).isSome = true ∧ waitingCmd.mb < 8) ∧
    (powered { demo.power with state := .sleep }).awake = false ∧
    (t.awake = true ∧ t.selectsEdge (31 : Fin 32) true = true ∧ t.selectsEdge (31 : Fin 32) false = true ∧
      getA 31 t.gpio.edges = none) ∧
    ({ demo with gpio := { demo.gpio with edges := [(31, true, 5, 2)] } } : State).gpio.edges = [(31, true, 5, 2)] ∧
    (demo.awake = true ∧ demo.catchesUp = false) ∧
    ((paired { role := 2, state := 2, cutDone := true }).awake = true ∧
      (paired { role := 2, state := 2, cutDone := true }).catchesUp = true ∧
      (paired { role := 2, state := 2, cutDone := true }).pair.cutDone = true) :=
  ⟨{ demo with deferred := [waitingCmd] }, { demo with
      nodes := [(mkNode Ty.gpio 31, { state := .enabled, params := [(5, [3])] })], run := [(mkNode Ty.gpio 31, 0)] },
    by decide +kernel⟩

theorem test_wit_StepRunsFrontCommand :
    ({ demo with pending := [.rstN, .perst] } : State).pending = [.rstN, .perst] ∧ demo.pending = [] ∧ demo.pair.stored = [] := by
  decide +kernel

/-- The state after reset is kept, and steps on. -/
theorem test_wit_EveryStepKeepsOtp : Kept State.reset ∧ ∃ t, step { State.reset with pending := [.wakeN] } = .next t := by
  refine ⟨⟨rfl, by decide, by decide, fun k h => ?_, rfl, rfl, rfl⟩, _, rfl⟩
  have : State.reset.slot k = {} := by
    show ((Vector.replicate 16 ({} : KeySlot))[k]?).getD {} = {}
    by_cases hk : k < 16 <;> simp [hk]
  rw [this] at h
  cases h

/-! ### Ill-formed commands are refused: one for each clause of `Instr.wf` -/

theorem test_wf_request : (Instr.sysGetId 0 (req 0 (zeros 65535))).wf = true ∧ (Instr.sysGetId 0 (req 0 (zeros 65536))).wf = false := by
  decide +kernel

theorem test_wf_access :
    (Instr.registerWrite ⟨.bar0, 0xFFFC, zeros 4, List.replicate 4 true⟩).wf = true ∧
    (Instr.registerWrite ⟨.bar0, 0xFFFD, zeros 4, List.replicate 4 true⟩).wf = false ∧
    (Instr.registerWrite ⟨.msixControl, 0, zeros 2, [true, true]⟩).wf = true ∧
    (Instr.registerWrite ⟨.msixControl, 1, zeros 2, [true, true]⟩).wf = false ∧
    (Instr.registerWrite ⟨.bar2, 0, [], []⟩).wf = false ∧ (Instr.registerWrite ⟨.qspi, 0, [1], []⟩).wf = false := by
  decide

theorem test_wf_strobe :
    (Instr.blockStrobe ⟨[(31, [])], [(255, [])], [(31, true)], []⟩).wf = true ∧
    (Instr.blockStrobe ⟨[(32, [])], [], [], []⟩).wf = false ∧ (Instr.blockStrobe ⟨[(0, List.replicate 33 [])], [], [], []⟩).wf = false ∧
    (Instr.blockStrobe ⟨[], [(256, [])], [], []⟩).wf = false ∧ (Instr.blockStrobe ⟨[], [], [(32, true)], []⟩).wf = false ∧
    (Instr.blockStrobe ⟨[], [], [], [.rampEntry 4096 0]⟩).wf = false := by
  decide

theorem test_wf_indices :
    (Instr.slabApplied 16777216).wf = false ∧ (Instr.actionFired 256).wf = false ∧ (Instr.tdmFrame 0 0 ⟨0, 20834⟩).wf = false ∧
    (Instr.rampEnd 4096 0).wf = false ∧ (Instr.rampEnd 0 4096).wf = false ∧ (Instr.geometryRecordStart 1024).wf = false ∧
    (Instr.fadingSlotFree 0 1024).wf = false ∧ (Instr.spkBankSwap 1024).wf = false ∧ (Instr.adaptationPeriod 256).wf = false ∧
    (Instr.aecRefIdle 0 8).wf = false ∧ (Instr.callSendFrame 8192).wf = false ∧ (Instr.nop 131072 ⟨0, 0, 0, 0, 0, 0⟩).wf = false ∧
    (Instr.budgetTrap 131072).wf = false ∧ (Instr.ashJobComplete 64).wf = false ∧ (Instr.gpioEdge 0 true 8192).wf = false ∧
    (Instr.bootStop 0x82 65535).wf = true ∧ (Instr.bootStop 0x82 65536).wf = false ∧ (Instr.bootStop 0x84 256).wf = false := by
  decide

theorem test_wf_streams :
    (Instr.rtcpSend (mkNode Ty.rtp 8191)).wf = true ∧ (Instr.rtcpSend (mkNode Ty.rtp 8192)).wf = false ∧
    (Instr.rtcpSend (mkNode Ty.aes 1024)).wf = false ∧ (Instr.rtcpSend 0).wf = false := by
  decide

theorem test_wf_messages :
    (Instr.trainMessageRx ⟨0, 256, 0, 0, 0, 0⟩).wf = false ∧ (Instr.linkPacketRx ⟨0, 65536, 0, true, true, .ack 0⟩).wf = false ∧
    (Instr.creditRx ⟨false, false, 65536, 0, 0, 0⟩).wf = false ∧ (Instr.heartbeatRx ⟨3, 0, true, true, 0⟩).wf = false ∧
    (Instr.rewidthRx 0 3).wf = false ∧ (Instr.ctleSweep [0]).wf = false ∧
    (Instr.clusterRetired 0 6).wf = false ∧ (Instr.scrubPass [.lpddrCorrected 8]).wf = false ∧
    (Instr.daluoReady { report with badClusters := [16] }).wf = false ∧ (Instr.daluoReady { report with density := 5 }).wf = false ∧
    (Instr.daluoReady report).wf = true := by
  decide

theorem test_wf_frames :
    (Instr.ptpMessageRx ⟨3, 255, 0, .announce 0 65535 true []⟩).wf = true ∧ (Instr.ptpMessageRx ⟨0, 256, 0, .delayReq⟩).wf = false ∧
    (Instr.ptpMessageRx ⟨0, 0, 0, .announce 0 65536 true []⟩).wf = false ∧
    (Instr.announceReceiptTimeout (some ⟨0, 0, 65536⟩)).wf = false ∧
    (Instr.ethFrameRx ⟨0, zeros 65536, true, true⟩).wf = false ∧
    (Instr.voiceDigit 0 ⟨16, true, 0, 0, 0, 0⟩).wf = false ∧ (Instr.voiceCpTone 9215 ⟨65536, 0, true, 0⟩).wf = false ∧
    (Instr.mbxDoorbell 0 65536 1 0 (req 0 [])).wf = false := by
  decide +kernel

/-! ### Figures of the spec -/

/-- R84: the fixed nodes. They include node ID 0. -/
theorem test_fixed_nodes : fixedNodes false = 10718 ∧ fixedNodes true = 8670 := by decide

/-- R40: output ports carried, with all slices and with nine. -/
theorem test_ports_carried : portsCarried false 12 = 4096 ∧ portsCarried false 9 = 3840 ∧ portsCarried true 12 = 2048 := by
  decide

/-- R29, R37: a device with all clusters. -/
theorem test_admission : demo.clusterCount * 204800 = 3276800 ∧ demo.admissionLimit = 2293760 := by decide +kernel

/-- CRC-32C's published check value (RFC 3720, R57). -/
theorem test_crc32c : crc32c [0x31, 0x32, 0x33, 0x34, 0x35, 0x36, 0x37, 0x38, 0x39] = 0xE3069283 := by decide +kernel

/-- SHA-256 of "abc" (FIPS 180-4). -/
theorem test_sha256 : (sha256 [0x61, 0x62, 0x63]).take 4 = [0xBA, 0x78, 0x16, 0xBF] := by decide +kernel

/-- R11: halves go to the even neighbour. -/
theorem test_div_even : divEven 3 2 = 2 ∧ divEven 5 2 = 2 ∧ divEven (-1) 2 = 0 ∧ divEven (-3) 2 = -2 := by decide

/-- Binary32: 1.5 + 0.25, 343.0 times 2, and a rounding to even. -/
theorem test_binary32 : f32Add 0x3FC00000 0x3E800000 = 0x3FE00000 ∧ f32Mul 0x43AB8000 0x40000000 = 0x442B8000 ∧
    f32Add 0x4B800000 0x3F800000 = 0x4B800000 := by
  decide +kernel

/-- R424: one bit comes back after 39 and after 58 bits (x^58 + x^39 + 1). -/
theorem test_scrambler : (List.range 59).filter (fun k => (scramble 0 (true :: List.replicate 58 false)).1.getD k false)
    = [0, 39, 58] := by decide +kernel

/-- R441: the middle of the longest run of error-free codes. -/
theorem test_middle_code : middleCode 0x07F0 = some 7 ∧ middleCode 0 = none := by decide

/-! ### Single steps -/

def nextB (o : Host.Outcome State Fault Refusal) (p : State → Bool) : Bool :=
  match o with
  | .next t => p t
  | _ => false

/-- R65: DEVICE_ID leads the record of SYS_GET_ID. -/
theorem test_sys_get_id : nextB (exec (.sysGetId 0 (req 0 [])) demo) (fun t =>
    slice (t.box (0 : Fin 8)).resp.payload 0 4 == leBytes 4 0x88004556 && (t.box (0 : Fin 8)).respReady
      && !(t.box (0 : Fin 8)).busy) = true := by
  decide +kernel

/-- R55: an unknown opcode answers ERR_OPCODE. -/
theorem test_unknown_opcode : nextB (exec (.mbxDoorbell 0 16 0x7777 0 (req 0 [])) demo) (fun t =>
    (t.box (0 : Fin 8)).resp.status == Err.opcode) = true := by
  decide +kernel

/-- R47: a doorbell while BUSY sets DB_OVERRUN and nothing else. -/
theorem test_overrun : nextB (exec (.sysGetId 0 (req 0 [])) (demo.setBox 0 { busy := true })) (fun t =>
    (t.box (0 : Fin 8)).dbOverrun && (t.box (0 : Fin 8)).busy) = true := by
  decide +kernel

/-- R86, R88: NODE_CREATE with index 0xFFFFFF takes the lowest free index and leaves the node disabled. -/
theorem test_create_lowest : nextB (exec (.nodeCreate 0 (req (mkNode Ty.zone 0xFFFFFF) (zeros 4))) demo) (fun t =>
    (t.box (0 : Fin 8)).resp.node == BitVec.ofNat 32 (mkNode Ty.zone 0) && t.live (mkNode Ty.zone 0)
      && !t.enabled (mkNode Ty.zone 0)) = true := by
  decide +kernel

/-- R89, R32: an object costs 20 bcu, placed on a cluster. -/
theorem test_enable_object : nextB (exec (.nodeEnable 0 (req (objId 5) [])) objected) (fun t =>
    t.enabled (objId 5) && t.committed == 20 && (t.box (0 : Fin 8)).resp.payload == leBytes 4 20 ++ leBytes 4 0) = true := by
  decide +kernel

/-- R527: an OTP slot cannot be written twice. -/
theorem test_key_once : nextB (exec (.keyWrite 0 (keyReq 2 0 7)) (demo.setSlot 2 { key := some [1] })) (fun t =>
    (t.box (0 : Fin 8)).resp.status == Err.state && (t.slot 2).key == some [1]) = true := by
  decide +kernel

/-- R120: a tail beyond the head changes nothing but TAIL_ERR. -/
theorem test_tail_error : nextB (exec (.evqTailWrite 1) ringOn) (fun t => t.evq.tailErr && t.evq.tail == 0) = true := by
  decide +kernel

/-- R393: the 513th word of a packet does not fit the default queue. -/
theorem test_queue_overrun : ((({} : HostQueue).push (1, false) false).overrun = false) ∧
    (({ partial_ := List.replicate 512 (0, false), inProgress := true } : HostQueue).push (1, false) false).overrun = true := by
  decide +kernel

/-- R359, R368: ADDI into S0 writes nothing; into S31 it adds with wrap-around. -/
theorem test_addi :
    nextB (exec (.addi 9 ⟨31, 1, 0, 0, 0, 0xFFFFFFFE⟩) (kern 1 2 ⟨31, 1, 0, 0, 0, 0xFFFFFFFE⟩ s1)) (fun t =>
      ((t.krn 9).ctx.getD {}).sr 31 == 1 && ((t.krn 9).ctx.getD {}).sr 1 == 3 && ((t.krn 9).ctx.getD {}).pc == 8) = true ∧
    nextB (exec (.addi 9 ⟨0, 1, 0, 0, 0, 5⟩) (kern 1 2 ⟨0, 1, 0, 0, 0, 5⟩ s1)) (fun t =>
      ((t.krn 9).ctx.getD {}).sr 0 == 0) = true := by
  decide +kernel

/-- R363: VADD saturates and marks the lane. -/
theorem test_vadd_saturates :
    nextB (exec (.vadd 9 ⟨2, 1, 1, 0, 0, 0⟩) (kern 4 0 ⟨2, 1, 1, 0, 0, 0⟩
      { v := [(1, 0x7FFFFFFF :: List.replicate 127 1)] })) (fun t =>
        let c := (t.krn 9).ctx.getD {}
        (c.vr 2).getD 0 0 == 0x7FFFFFFF && (c.vr 2).getD 127 0 == 2 && c.sat == 1) = true := by
  decide +kernel

/-- R376: a store below the state area traps ADDRESS and disables the instance with reason 2. -/
theorem test_store_trap :
    nextB (exec (.sts 9 ⟨1, 0, 0, 0, 0, 508⟩) (kern 2 1 ⟨1, 0, 0, 0, 0, 508⟩)) (fun t =>
      (t.node (krnId 9)).state == .byDevice && (t.node (krnId 9)).reason == 2 && (t.krn 9).ctx.isNone) = true := by
  decide +kernel

/-- R506: a Standby command takes effect three blocks on. -/
theorem test_standby : nextB (exec (.pwrState 0 (pwrReq 1 0 0)) demo) (fun t =>
    t.power.change == some (.standby, 48) && t.power.state == .active) = true := by
  decide +kernel

/-- A front command leaves the queue. -/
theorem test_step : (match step { demo with pending := [.rstLogClear 0, .wakeN] } with
    | .next t => t.pending == [.wakeN] && t.power.log == []
    | _ => false) = true := by
  decide +kernel

/-- The table gives no row bits, so no word spells a command. -/
theorem test_no_words : decodeTableWord 64 0 = none ∧ (demo.withFetchWord 64 0).pending = [] := by decide +kernel

end Sys2Proof.Tests
end

/-! Which doorbells the device takes: the four outcomes of a doorbell write (R47, R538, R551), and a request that fails
check 1 or 2 of R55. -/

namespace Sys2Proof.Machine

/-- In Sleep or powered down no doorbell arrives (R538, R551). -/
theorem State.doorbell_asleep {s : State} {mb : Fin 8} (op : Nat) (k : State → State) (hasleep : s.awake = false) :
    s.doorbell op mb k = s := by
  simp [State.doorbell, hasleep]

/-- Before Daluo is ready a doorbell is an access to a register that does not answer yet (R538). -/
theorem State.doorbell_notReady {s : State} {mb : Fin 8} (op : Nat) (k : State → State) (hawake : s.awake = true)
    (hready : s.ready = false) :
    s.doorbell op mb k = s.flagAccess (0x1000 + 0x100 * mb.val) fun i => { i with errNotReady := true } := by
  simp [State.doorbell, hawake, hready]

/-- A doorbell while BUSY is ignored but for DB_OVERRUN (R47). -/
theorem State.doorbell_busy {s : State} {mb : Fin 8} (op : Nat) (k : State → State) (hawake : s.awake = true)
    (hready : s.ready = true) (hbusy : (s.box mb).busy = true) :
    s.doorbell op mb k = s.setBox mb { s.box mb with dbOverrun := true } := by
  simp [State.doorbell, hawake, hready, hbusy]

/-- A device that runs alone accepts any other doorbell (R46 step 1). -/
theorem State.doorbell_accepted {s : State} {mb : Fin 8} (op : Nat) (k : State → State) (hawake : s.awake = true)
    (hready : s.ready = true) (hidle : (s.box mb).busy = false) (halone : s.pairEn = false) :
    s.doorbell op mb k = k (s.accept op mb) := by
  simp [State.doorbell, hawake, hready, hidle, State.note_alone _ halone]

/-- A flagged access to a register that is not ready changes the error bit and the offset only (R542). -/
theorem State.flagAccess_errNotReady (s : State) (reg : Nat) : ∃ off,
    s.flagAccess reg (fun i => { i with errNotReady := true })
      = { s with id := { s.id with errNotReady := true, errOffset := off } } :=
  ⟨_, rfl⟩

/-- The code of a request that fails check 1 or 2: the length is checked before the opcode (R55). -/
theorem doorbellCheck_of_ne_zero {length hdr op : Nat} (hfail : doorbellCheck length hdr op ≠ 0) :
    doorbellCheck length hdr op =
      if length < 16 ∨ 8192 < length ∨ hdr + 16 ≠ length then Err.length else Err.opcode := by
  unfold doorbellCheck at hfail ⊢
  split at hfail
  case isTrue hlen => simp only [if_pos hlen]
  case isFalse hlen =>
    have hundef : (!opcodeDefined op) = true := by
      by_contra hdef
      exact hfail (if_neg hdef)
    simp only [if_neg hlen, if_pos hundef]

theorem exec_mbxDoorbell (s : State) (mb : Fin 8) (length hdr : Nat) (opcode : BitVec 16) (r : Req) :
    exec (.mbxDoorbell mb length opcode hdr r) s = execMbxDoorbell mb length opcode hdr r s := rfl

/-- A request that fails check 1 or 2 is completed with its code on the state that its accepted doorbell leaves. -/
theorem exec_mbxDoorbell_of_fails {s : State} {mb : Fin 8} {length hdr : Nat} {opcode : BitVec 16} {r : Req}
    (hawake : s.awake = true) (hready : s.ready = true) (hidle : (s.box mb).busy = false) (halone : s.pairEn = false)
    (hfail : doorbellCheck (length % 0x4000) hdr opcode.toNat ≠ 0) :
    exec (.mbxDoorbell mb length opcode hdr r) s = .next ((s.accept opcode.toNat mb).finish opcode.toNat mb r
      (((s.accept opcode.toNat mb).box mb).sess == .opened) false
      (doorbellCheck (length % 0x4000) hdr opcode.toNat) {}) := by
  simp only [exec_mbxDoorbell, execMbxDoorbell, if_neg hfail, State.doorbell_accepted _ _ hawake hready hidle halone]

end Sys2Proof.Machine

namespace Sys2Proof

open Machine

/-- Settles O4: the four outcomes of a doorbell write, and the completion of a request that fails check 1 or 2. -/
theorem doorbellChecks : Obligations.DoorbellChecks := by
  unfold Obligations.DoorbellChecks
  refine ⟨fun s mb length hdr opcode r hawake hready hidle halone hfail => ?_, fun c s mb r => ⟨?_, ?_, ?_⟩⟩
  case refine_1 =>
    refine ⟨_, exec_mbxDoorbell_of_fails hawake hready hidle halone hfail, ?_⟩
    rw [doorbellCheck_of_ne_zero hfail]
    exact State.finish_answers _ r _ _ { status := _ } halone
  case refine_2 =>
    intro hasleep
    rw [runCommand, State.doorbell_asleep _ _ hasleep]
  case refine_3 =>
    intro hawake hready
    obtain ⟨off, hflag⟩ := s.flagAccess_errNotReady (0x1000 + 0x100 * mb.val)
    exact ⟨off, by rw [runCommand, State.doorbell_notReady _ _ hawake hready, hflag]⟩
  case refine_4 =>
    intro hawake hready hbusy
    rw [runCommand, State.doorbell_busy _ _ hawake hready hbusy]

end Sys2Proof

/-! The event commands (R115, R121 to R123): what raising events keeps of the source settings and the latches, what a change of
a source's settings does to them, and what a clear leaves in its latch. -/

namespace Sys2Proof.Machine

/-- The source settings and the latches of `t` are those of `s`. -/
structure SameSettings (s t : State) : Prop where
  masked : t.evq.masked = s.evq.masked
  urgent : t.evq.urgent = s.evq.urgent
  latches : t.evq.latches = s.evq.latches

theorem SameSettings.refl (s : State) : SameSettings s s := ⟨rfl, rfl, rfl⟩

theorem SameSettings.trans {s t u : State} (h : SameSettings s t) (k : SameSettings t u) : SameSettings s u :=
  ⟨k.masked.trans h.masked, k.urgent.trans h.urgent, k.latches.trans h.latches⟩

theorem SameSettings.foldl {α : Type} {f : State → α → State} (hf : ∀ s x, SameSettings s (f s x)) (l : List α)
    (s : State) : SameSettings s (l.foldl f s) := by
  induction l generalizing s with
  | nil => exact .refl s
  | cons x l ih => exact (hf s x).trans (ih _)

/-! ### Raising events keeps the settings and the latches -/

theorem SameSettings.setCause {s t : State} (v : Nat) (h : SameSettings s t) : SameSettings s (t.setCause v) := by
  rw [State.setCause_eq]
  exact ⟨h.masked, h.urgent, h.latches⟩

/-- A new number touches the numbering, the store, the gap and an interrupt cause only (R113). -/
theorem State.number_sameSettings (e : EvRec) (s : State) : SameSettings s (s.number e) := by
  unfold State.number
  dsimp only
  split
  case h_1 => exact ⟨rfl, rfl, rfl⟩
  case h_2 =>
    split
    case isTrue =>
      split
      case isTrue => exact .setCause 9 ⟨rfl, rfl, rfl⟩
      case isFalse => exact ⟨rfl, rfl, rfl⟩
    case isFalse => exact .setCause 10 ⟨rfl, rfl, rfl⟩

/-- A masked source raises nothing (R115). -/
theorem State.raiseRec_masked {s : State} {e : EvRec} (hmasked : s.evq.masked.contains e.source = true) :
    s.raiseRec e = s := if_pos hmasked

theorem State.raiseRec_sameSettings (e : EvRec) (s : State) : SameSettings s (s.raiseRec e) := by
  unfold State.raiseRec
  dsimp only
  split_ifs
  case pos => exact .refl s
  case pos => exact ⟨rfl, rfl, rfl⟩
  case pos => exact ⟨rfl, rfl, rfl⟩
  case pos => exact ⟨rfl, rfl, rfl⟩
  case neg => exact State.number_sameSettings e s

theorem State.raiseLatched_sameSettings (src code node : Nat) (data : Bytes) (s : State) :
    SameSettings s (s.raiseLatched src code node data) := State.raiseRec_sameSettings _ s

theorem State.raiseHeldLatches_sameSettings (src : Nat) (s : State) : SameSettings s (s.raiseHeldLatches src) :=
  .foldl (fun _ _ => State.raiseLatched_sameSettings _ _ _ _ _) _ s

/-! ### Settings of a source (R115, R121) -/

/-- Membership in a list of sources that `src` is put into or taken out of. -/
theorem contains_setMember (l : List Nat) (on : Bool) (src k : Nat) :
    (if on then (if l.contains src then l else l ++ [src]) else l.filter (· != src)).contains k
      = if k = src then on else l.contains k := by
  cases on
  case false => by_cases hk : k = src <;> simp [hk]
  case true =>
    by_cases hmem : src ∈ l <;> by_cases hk : k = src <;> simp [hk, hmem]

/-- The events that an unmask raises (R121) leave the mask that it sets; source 2 is never masked (R115). -/
theorem State.setSource_masked (s : State) (mask urgent : Bool) (src : Nat) :
    (s.setSource mask urgent src).evq.masked =
      if mask && src != 2 then (if s.evq.masked.contains src then s.evq.masked else s.evq.masked ++ [src])
      else s.evq.masked.filter (· != src) := by
  unfold State.setSource
  dsimp only
  split
  case isTrue => exact (State.raiseHeldLatches_sameSettings _ _).masked
  case isFalse => rfl

theorem State.setSource_urgent (s : State) (mask urgent : Bool) (src : Nat) :
    (s.setSource mask urgent src).evq.urgent =
      if urgent then (if s.evq.urgent.contains src then s.evq.urgent else s.evq.urgent ++ [src])
      else s.evq.urgent.filter (· != src) := by
  unfold State.setSource
  dsimp only
  split
  case isTrue => exact (State.raiseHeldLatches_sameSettings _ _).urgent
  case isFalse => rfl

theorem State.raiseHeldLatches_only (src : Nat) (s : State) : OnlyEvents s (s.raiseHeldLatches src) :=
  .foldl (fun _ _ => State.raiseLatched_only _ _ _ _ _) _ s

theorem State.setSource_only (mask urgent : Bool) (s : State) (src : Nat) :
    OnlyEvents s (s.setSource mask urgent src) := by
  unfold State.setSource
  dsimp only
  split
  case isTrue => exact (OnlyEvents.ofEvq s _).trans (State.raiseHeldLatches_only _ _)
  case isFalse => exact .ofEvq s _

/-! ### Clearing a latch (R123) -/

theorem State.clearLatch_only (src no : Nat) (s : State) : OnlyEvents s (s.clearLatch src no) := by
  unfold State.clearLatch
  extract_lets l here armed s'
  have hput : OnlyEvents s s' := State.putLatch_only armed s
  split_ifs
  case pos => exact (hput.trans (State.crossLatch_only _ _ _ _ _)).trans (State.putLatch_only _ _)
  case pos => exact hput.trans (State.crossLatch_only _ _ _ _ _)
  case neg => exact hput

/-- The latch that a clear leaves where nothing crosses (R123). -/
def Latch.rearmed (l : Latch) : Latch := { l with count := 0, extreme := l.level, inBlock := 0 }

theorem Latch.rearmed_of_inBlock_zero {l : Latch} (hnone : l.inBlock = 0) :
    l.rearmed = { l with count := 0, extreme := l.level } := by
  rw [Latch.rearmed, hnone]

/-- A clear in whose block nothing crossed: a condition that holds crosses anew, and nothing else does (R123). -/
theorem State.clearLatch_of_inBlock_zero {s : State} {src no : Nat} {l : Latch} (hl : s.latchNow src no = l)
    (hnone : l.inBlock = 0) :
    s.clearLatch src no =
      if l.holds then (s.putLatch l.rearmed).crossLatch l.rearmed 1 false (s.clearData l) else s.putLatch l.rearmed := by
  subst hl
  unfold State.clearLatch
  extract_lets l here armed s'
  have hhere : here = 0 := by rw [show here = if l.block = s.time.block then l.inBlock else 0 from rfl, hnone, ite_self]
  rw [if_neg (not_not.mpr hhere)]
  rfl

@[simp] theorem State.putLatch_time (l : Latch) (s : State) : (s.putLatch l).time = s.time :=
  (State.putLatch_only l s).time

theorem State.findKey_putLatch (l : Latch) (s : State) :
    findKey Latch.key l.key (s.putLatch l).evq.latches = some l := by
  rw [State.putLatch, State.note_evq]
  exact findKey_putKey Latch.key l s.evq.latches

/-- The contents of a latch after its first crossing while armed, the first one in its block (R122). -/
def State.firstCrossing (l : Latch) (data : Bytes) (s : State) : Latch :=
  { l with count := 1, extreme := l.level, sec := s.secs, ns := s.nanos, data := data
           inBlock := 1, block := s.time.block, blockLevel := l.level, latest := data }

/-- The contents depend on the state's time only, which a change of a latch leaves alone. -/
@[simp] theorem State.firstCrossing_putLatch (l l' : Latch) (data : Bytes) (s : State) :
    (s.putLatch l').firstCrossing l data = s.firstCrossing l data := by
  simp [State.firstCrossing, State.secs, State.nanos, State.netNs]

theorem State.crossLatch_first {s : State} {l : Latch} (lowest : Bool) (data : Bytes) (harmed : l.count = 0)
    (hnone : l.inBlock = 0) :
    s.crossLatch l 1 lowest data =
      (s.putLatch (s.firstCrossing l data)).raiseLatched l.source l.code l.node data := by
  simp [State.crossLatch, State.firstCrossing, harmed, hnone, satN]

/-- A clear of a latch whose condition holds leaves the crossing that it makes (R123). -/
theorem State.findKey_clearLatch_of_holds {s : State} {src no : Nat} {l : Latch} (hl : s.latchNow src no = l)
    (hholds : l.holds = true) (hnone : l.inBlock = 0) :
    findKey Latch.key l.key (s.clearLatch src no).evq.latches = some (s.firstCrossing l.rearmed (s.clearData l)) := by
  rw [State.clearLatch_of_inBlock_zero hl hnone, if_pos hholds, State.crossLatch_first _ _ rfl rfl,
    (State.raiseLatched_sameSettings _ _ _ _ _).latches, State.firstCrossing_putLatch]
  exact State.findKey_putLatch (s.firstCrossing l.rearmed (s.clearData l)) _

end Sys2Proof.Machine

namespace Sys2Proof

open Machine

/-- Settles O7: the three event commands, what a masked source raises, and what a clear leaves in its latch. -/
theorem eventCommands : Obligations.EventCommands := by
  unfold Obligations.EventCommands
  refine ⟨fun s mb r hpass => ?sourceSet, fun s src code node d hmasked => State.raiseRec_masked hmasked,
    fun s mask urgent src k => ⟨?masked, ?urgent⟩, fun s mb r l hpass hhas hl => ?latchRead,
    fun s mb r hpass hhas => ?latchClear, fun s src no l hl hholds hnone => ?quiet,
    fun s src no l hl hholds hnone _ => State.findKey_clearLatch_of_holds hl hholds hnone⟩
  case sourceSet =>
    exact Completes.intro hpass rfl rfl
      ((OnlyEvents.foldl (State.setSource_only _ _) _ _).pairEn.trans hpass.single)
  case masked =>
    rw [State.setSource_masked, contains_setMember]
    split
    case isTrue hk => rw [hk]
    case isFalse => rfl
  case urgent => rw [State.setSource_urgent, contains_setMember]
  case latchRead =>
    subst hl
    refine Completes.intro hpass rfl ?_ hpass.single
    simp only [evtLatchRead, hhas, Bool.not_true, Bool.false_eq_true, if_false]
    rfl
  case latchClear =>
    refine Completes.intro hpass rfl ?_ ((State.clearLatch_only _ _ _).pairEn.trans hpass.single)
    simp only [evtLatchClear, hhas, Bool.not_true, Bool.false_eq_true, if_false]
    rfl
  case quiet =>
    rw [State.clearLatch_of_inBlock_zero hl hnone, if_neg (ne_true_of_eq_false hholds),
      Latch.rearmed_of_inBlock_zero hnone]

end Sys2Proof

/-! Search and P registers (R364 to R366, R368): what each of the nine operations leaves of the run, the best lane of a mask,
and the arithmetic of circular addressing. -/

namespace Sys2Proof.Machine

/-! ### The operations of classes 0x7 and 0x8 -/

section Meanings

variable (inst : Nat) (w : IWord) (s : State)

theorem exec_smax : exec (.smax inst w) s = .next (s.instr inst 7 0 w iSmax) := rfl
theorem exec_smin : exec (.smin inst w) s = .next (s.instr inst 7 1 w iSmin) := rfl
theorem exec_rmax : exec (.rmax inst w) s = .next (s.instr inst 7 2 w iRmax) := rfl
theorem exec_rmin : exec (.rmin inst w) s = .next (s.instr inst 7 3 w iRmin) := rfl
theorem exec_psetb : exec (.psetb inst w) s = .next (s.instr inst 8 0 w iPsetb) := rfl
theorem exec_psetl : exec (.psetl inst w) s = .next (s.instr inst 8 1 w iPsetl) := rfl
theorem exec_pseti : exec (.pseti inst w) s = .next (s.instr inst 8 2 w iPseti) := rfl
theorem exec_pgeti : exec (.pgeti inst w) s = .next (s.instr inst 8 3 w iPgeti) := rfl
theorem exec_padd : exec (.padd inst w) s = .next (s.instr inst 8 4 w iPadd) := rfl

end Meanings

/-- An operation that issues with an effect on the context, and nothing else, goes on. -/
theorem instr_of_puts {s : State} {inst cls op : Nat} {w : IWord} {r : Run} {f : Op} {reads : List Nat} {n : Nat}
    {writes : List (Nat × Nat)} {g : Ctx → Ctx} (h : Issues s inst cls op w r)
    (hf : f w r = .ok (r.puts reads n writes g)) :
    s.instr inst cls op w f = Ran s inst (r.puts reads n writes g) :=
  instr_ran h hf h.fresh.1

/-! ### Search (R366) -/

/-- The lanes of the mask that take V[A] and the index. -/
def searchTakes (better : Int → Int → Bool) (w : IWord) (c : Ctx) : BitVec 128 :=
  laneTest (c.mr w.m.toNat) 0 (fun n o => better (searchKey w n) (searchKey w o)) (c.vr w.a.toNat) (c.vr w.d.toNat)

/-- The context that SMAX or SMIN leaves. -/
def searchCtx (better : Int → Int → Bool) (w : IWord) (c : Ctx) : Ctx :=
  ((c.issue [keyV w.a.toNat, keyS w.b.toNat, keyV w.d.toNat, keyV (w.d.toNat + 1), keyM w.m.toNat] 1
    [(keyV w.d.toNat, 1), (keyV (w.d.toNat + 1), 1)]).setV w.d.toNat
      (laneMap (searchTakes better w c) (fun _ n _ => n) 0 (c.vr w.d.toNat) (c.vr w.a.toNat) zeroLanes)).setV (w.d.toNat + 1)
        (laneMap (searchTakes better w c) (fun _ _ _ => c.sr w.b.toNat) 0 (c.vr (w.d.toNat + 1)) zeroLanes zeroLanes)

theorem searchOp_eq (better : Int → Int → Bool) (w : IWord) (r : Run) :
    searchOp better w r = .ok { r with c := searchCtx better w r.c } := rfl

section SearchCtx

variable (better : Int → Int → Bool) (w : IWord) (c : Ctx)

theorem searchCtx_values : (searchCtx better w c).vr w.d.toNat =
    laneMap (searchTakes better w c) (fun _ n _ => n) 0 (c.vr w.d.toNat) (c.vr w.a.toNat) zeroLanes := by
  rw [searchCtx, Ctx.vr_setV_other _ _ _ _ (Nat.succ_ne_self _).symm, Ctx.vr_setV]

theorem searchCtx_indices : (searchCtx better w c).vr (w.d.toNat + 1) =
    laneMap (searchTakes better w c) (fun _ _ _ => c.sr w.b.toNat) 0 (c.vr (w.d.toNat + 1)) zeroLanes zeroLanes :=
  Ctx.vr_setV _ _ _

theorem searchCtx_vr_other {j : Nat} (hd : j ≠ w.d.toNat) (hd' : j ≠ w.d.toNat + 1) :
    (searchCtx better w c).vr j = c.vr j := by
  rw [searchCtx, Ctx.vr_setV_other _ _ _ _ hd', Ctx.vr_setV_other _ _ _ _ hd]
  rfl

theorem searchCtx_frame : searchCtx better w c = { c with
    v := (searchCtx better w c).v, cycles := (searchCtx better w c).cycles
    ready := (searchCtx better w c).ready, last := (searchCtx better w c).last } := rfl

end SearchCtx

theorem instr_search {s : State} {inst op : Nat} {w : IWord} {r : Run} (better : Int → Int → Bool)
    (h : Issues s inst 7 op w r) :
    s.instr inst 7 op w (searchOp better) = Ran s inst { r with c := searchCtx better w r.c } :=
  instr_ran h (searchOp_eq better w r) h.fresh.1

/-- The word and the lane number that RMAX or RMIN writes: those of the best lane, or the two that tell of an empty mask. -/
def bestPair (best : Option (Word × Nat)) : Word × Word :=
  match best with
  | some b => (b.1, BitVec.ofNat 32 b.2)
  | none => (0x80000000, 0xFFFFFFFF)

theorem reduceOp_eq (better : Int → Int → Bool) (w : IWord) (r : Run) :
    reduceOp better w r = .ok (r.puts [keyV w.a.toNat, keyM w.m.toNat] 1 [(keyS w.d.toNat, 1), (keyS (w.d.toNat + 1), 1)]
      fun c => (c.setS w.d.toNat (bestPair (bestLane better w (r.c.mr w.m.toNat) (r.c.vr w.a.toNat))).1).setS
        (w.d.toNat + 1) (bestPair (bestLane better w (r.c.mr w.m.toNat) (r.c.vr w.a.toNat))).2) := rfl

/-! ### The best lane of a mask -/

/-- The choice of a fold over the lanes between the best lane so far and the next one. -/
def betterLane (better : Int → Int → Bool) (w : IWord) (mask : BitVec 128) (best : Option (Word × Nat)) (z : Word × Nat) :
    Option (Word × Nat) :=
  if mask.getLsbD z.2 then
    match best with
    | none => some z
    | some b => if better (searchKey w z.1) (searchKey w b.1) then some z else best
  else best

theorem bestLane_eq_foldl (better : Int → Int → Bool) (w : IWord) (mask : BitVec 128) (x : List Word) :
    bestLane better w mask x = x.zipIdx.foldl (betterLane better w mask) none := rfl

section BetterLane

variable {better : Int → Int → Bool} {w : IWord} {mask : BitVec 128} {z : Word × Nat}

theorem betterLane_unmasked (best : Option (Word × Nat)) (h : mask.getLsbD z.2 = false) :
    betterLane better w mask best z = best := by
  simp [betterLane, h]

theorem betterLane_first (h : mask.getLsbD z.2 = true) : betterLane better w mask none z = some z := if_pos h

theorem betterLane_some (b : Word × Nat) (h : mask.getLsbD z.2 = true) :
    betterLane better w mask (some b) z = if better (searchKey w z.1) (searchKey w b.1) then some z else some b := if_pos h

end BetterLane

theorem bestLane_concat (better : Int → Int → Bool) (w : IWord) (mask : BitVec 128) (x : List Word) (y : Word) :
    bestLane better w mask (x ++ [y]) = betterLane better w mask (bestLane better w mask x) (y, x.length) := by
  simp only [bestLane_eq_foldl, List.zipIdx_append, List.zipIdx_singleton, List.foldl_append, List.foldl_cons,
    List.foldl_nil, Nat.zero_add]

/-- Without a lane in the mask there is no best one. -/
theorem bestLane_no_mask (better : Int → Int → Bool) (w : IWord) (x : List Word) : bestLane better w 0 x = none := by
  induction x using List.reverseRecOn with
  | nil => rfl
  | append_singleton x y ih => rw [bestLane_concat, betterLane_unmasked (mask := 0) _ BitVec.getLsbD_zero, ih]

/-- Lane `b` of `x` is in the mask, no lane of the mask is better, and it is better than every one before it. -/
structure IsBest (better : Int → Int → Bool) (w : IWord) (mask : BitVec 128) (x : List Word) (b : Word × Nat) : Prop where
  lane : x[b.2]? = some b.1
  masked : mask.getLsbD b.2 = true
  best : ∀ k u, x[k]? = some u → mask.getLsbD k = true →
    better (searchKey w u) (searchKey w b.1) = false ∧
      (k < b.2 → better (searchKey w b.1) (searchKey w u) = true)

/-- What `bestLane` finds: the best lane, or that the mask holds no lane of `x`. -/
def FindsBest (better : Int → Int → Bool) (w : IWord) (mask : BitVec 128) (x : List Word) : Option (Word × Nat) → Prop
  | none => ∀ k < x.length, mask.getLsbD k = false
  | some b => IsBest better w mask x b

/-- A lane of `x ++ [y]` is one of `x`, or the last one. -/
theorem getElem?_concat_eq_some {x : List Word} {y u : Word} {k : Nat} (h : (x ++ [y])[k]? = some u) :
    (k < x.length ∧ x[k]? = some u) ∨ (k = x.length ∧ u = y) := by
  rcases Nat.lt_trichotomy k x.length with hlt | rfl | hgt
  · exact .inl ⟨hlt, by rwa [List.getElem?_append_left hlt] at h⟩
  · exact .inr ⟨rfl, by simpa using h.symm⟩
  · simp [List.getElem?_append_right hgt.le, Nat.sub_ne_zero_of_lt hgt] at h

section BestLane

variable {better : Int → Int → Bool} {w : IWord} {mask : BitVec 128} {x : List Word} {y : Word} {b : Word × Nat}

/-- The last lane leaves the best one standing where it is out of the mask or no better. -/
theorem IsBest.concat (hb : IsBest better w mask x b)
    (hy : mask.getLsbD x.length = true → better (searchKey w y) (searchKey w b.1) = false) :
    IsBest better w mask (x ++ [y]) b := by
  have hlt : b.2 < x.length := (List.getElem?_eq_some_iff.mp hb.lane).1
  refine ⟨by rw [List.getElem?_append_left hlt, hb.lane], hb.masked, fun k u hk hm => ?_⟩
  obtain ⟨-, hk⟩ | ⟨rfl, rfl⟩ := getElem?_concat_eq_some hk
  · exact hb.best k u hk hm
  · exact ⟨hy hm, fun hlt' => absurd hlt' hlt.asymm⟩

/-- The last lane is the best one where it is better than all lanes of the mask before it. -/
theorem isBest_concat_last (hasymm : ∀ m n, better m n = true → better n m = false)
    (hmask : mask.getLsbD x.length = true)
    (hall : ∀ k u, x[k]? = some u → mask.getLsbD k = true → better (searchKey w y) (searchKey w u) = true) :
    IsBest better w mask (x ++ [y]) (y, x.length) := by
  refine ⟨by simp, hmask, fun k u hk hm => ?_⟩
  obtain ⟨-, hk⟩ | ⟨rfl, rfl⟩ := getElem?_concat_eq_some hk
  · exact ⟨hasymm _ _ (hall k u hk hm), fun _ => hall k u hk hm⟩
  · refine ⟨Bool.eq_false_iff.mpr fun h => ?_, fun hlt => absurd hlt (Nat.lt_irrefl _)⟩
    exact absurd h (Bool.eq_false_iff.mp (hasymm _ _ h))

/-- The last lane changes nothing where it is out of the mask. -/
theorem FindsBest.concat_unmasked {best : Option (Word × Nat)} (h : FindsBest better w mask x best)
    (hmask : mask.getLsbD x.length = false) : FindsBest better w mask (x ++ [y]) best := by
  cases best with
  | none =>
    intro k hk
    rcases Nat.lt_succ_iff_lt_or_eq.mp (List.length_append ▸ hk) with hk | rfl
    · exact h k hk
    · exact hmask
  | some b => exact IsBest.concat h fun hm => absurd hm (Bool.eq_false_iff.mp hmask)

/-- In a strict weak order `bestLane` finds the best lane of the mask, the lowest of equals (R366). -/
theorem bestLane_finds (hasymm : ∀ m n, better m n = true → better n m = false)
    (htrans : ∀ n o m, better n o = true → better m o = false → better n m = true)
    (w : IWord) (mask : BitVec 128) (x : List Word) : FindsBest better w mask x (bestLane better w mask x) := by
  induction x using List.reverseRecOn with
  | nil => exact fun k hk => absurd hk (Nat.not_lt_zero k)
  | append_singleton x y ih =>
    rw [bestLane_concat]
    generalize bestLane better w mask x = best at ih
    cases hmask : mask.getLsbD x.length with
    | false =>
      rw [betterLane_unmasked _ hmask]
      exact ih.concat_unmasked hmask
    | true =>
      cases best with
      | none =>
        rw [betterLane_first hmask]
        refine isBest_concat_last hasymm hmask fun k u hk hm => ?_
        rw [ih k (List.getElem?_eq_some_iff.mp hk).1] at hm
        exact absurd hm Bool.false_ne_true
      | some b =>
        rw [betterLane_some _ hmask]
        split
        case isTrue hy =>
          exact isBest_concat_last hasymm hmask fun k u hk hm => htrans _ _ _ hy (ih.best k u hk hm).1
        case isFalse hy => exact IsBest.concat ih fun _ => Bool.eq_false_iff.mpr hy

theorem bestLane_isBest (hasymm : ∀ m n, better m n = true → better n m = false)
    (htrans : ∀ n o m, better n o = true → better m o = false → better n m = true)
    (h : bestLane better w mask x = some b) : IsBest better w mask x b := by
  have hfinds := bestLane_finds hasymm htrans w mask x
  rwa [h] at hfinds

end BestLane

theorem bestLane_greatest {w : IWord} {mask : BitVec 128} {x : List Word} {b : Word × Nat}
    (h : bestLane (fun n o => decide (o < n)) w mask x = some b) :
    IsBest (fun n o => decide (o < n)) w mask x b :=
  bestLane_isBest (by simp only [decide_eq_true_eq, decide_eq_false_iff_not]; omega)
    (by simp only [decide_eq_true_eq, decide_eq_false_iff_not]; omega) h

theorem bestLane_least {w : IWord} {mask : BitVec 128} {x : List Word} {b : Word × Nat}
    (h : bestLane (fun n o => decide (n < o)) w mask x = some b) :
    IsBest (fun n o => decide (n < o)) w mask x b :=
  bestLane_isBest (by simp only [decide_eq_true_eq, decide_eq_false_iff_not]; omega)
    (by simp only [decide_eq_true_eq, decide_eq_false_iff_not]; omega) h

/-! ### P registers (R364, R365) -/

theorem p22_natCast (v : Nat) : p22 v = v % 2 ^ 22 := by
  simp only [p22]
  omega

theorem p22_toInt (v : Int) : (p22 v : Int) = v % 2 ^ 22 := by
  simp only [p22]
  omega

theorem PReg.norm_of_len_zero {p : PReg} (h : p.len = 0) : p.norm = p := by
  simp [PReg.norm, h]

/-- An index below the length is its own remainder. -/
theorem PReg.norm_of_len_ne_zero {p : PReg} (h : p.len ≠ 0) : p.norm = { p with idx := p.idx % p.len } := by
  unfold PReg.norm
  split
  case isTrue => rfl
  case isFalse hlt =>
    have hidx : p.idx < p.len := by omega
    rw [Nat.mod_eq_of_lt hidx]

theorem PReg.addr_of_len_zero {p : PReg} (k : Nat) (h : p.len = 0) :
    p.addr k = (p.base + (p.idx + 4 * k)) % 2 ^ 22 := by
  rw [PReg.addr, if_pos h, p22_natCast, Nat.add_assoc]

theorem PReg.addr_of_len_ne_zero {p : PReg} (k : Nat) (h : p.len ≠ 0) :
    p.addr k = (p.base + (p.idx + 4 * k) % p.len) % 2 ^ 22 := by
  rw [PReg.addr, if_neg h, p22_natCast]

theorem PReg.bump_idx_of_len_zero {p : PReg} (inc : Int) (h : p.len = 0) :
    ((p.bump inc).idx : Int) = (p.idx + inc) % 2 ^ 22 := by
  simp only [PReg.bump, if_pos h, p22_toInt]

theorem PReg.bump_idx_of_len_ne_zero {p : PReg} (inc : Int) (h : p.len ≠ 0) :
    ((p.bump inc).idx : Int) = (p.idx + inc) % p.len := by
  simp only [PReg.bump, if_neg h]
  exact Int.toNat_of_nonneg (Int.emod_nonneg _ (by exact_mod_cast h))

/-- A write of a part of an unmanaged register. -/
theorem psetOp_unmanaged (f : Nat → PReg → PReg) {w : IWord} (r : Run) (h : w.d.toNat < 8) :
    psetOp f w r = .ok (r.puts [keyS w.a.toNat, keyP w.d.toNat] 1 [(keyP w.d.toNat, 1)]
      (Ctx.setP w.d.toNat (f ((r.c.sr w.a.toNat + w.imm).toNat % 4194304) (r.c.pr w.d.toNat)))) := by
  rw [psetOp, if_neg (Nat.not_le.mpr h)]
  rfl

/-- A write of a part of a managed register traps (R365). -/
theorem psetOp_managed (f : Nat → PReg → PReg) {w : IWord} (r : Run) (h : 8 ≤ w.d.toNat) :
    psetOp f w r = .error (Trap.illegal, 0) := by
  rw [psetOp, if_pos h]

theorem iPgeti_eq (w : IWord) (r : Run) :
    iPgeti w r = .ok (r.puts [keyP w.a.toNat] 1 [(keyS w.d.toNat, 1)]
      (Ctx.setS w.d.toNat (BitVec.ofNat 32 (r.c.pr w.a.toNat).idx))) := rfl

theorem iPadd_eq (w : IWord) (r : Run) :
    iPadd w r = .ok (r.puts [keyS w.a.toNat, keyP w.d.toNat] 1 [(keyP w.d.toNat, 1)]
      (Ctx.setP w.d.toNat (((r.c.pr w.d.toNat).norm).bump (r.c.sr w.a.toNat + w.imm).toInt))) := rfl

end Sys2Proof.Machine

namespace Sys2Proof

open Machine

/-- Settles O45: the search and P register operations by what each leaves of the run, the best lane by induction on the lanes,
the addresses by the arithmetic of 22 bits. -/
theorem benchSearchAndPointers : Obligations.BenchSearchAndPointers := by
  unfold Obligations.BenchSearchAndPointers
  refine ⟨?search, ?reduce, ?greatest, ?least, fun better w x => bestLane_no_mask better w x, ?key,
    fun p => ⟨PReg.norm_of_len_zero, PReg.norm_of_len_ne_zero⟩,
    fun p k => ⟨PReg.addr_of_len_zero k, PReg.addr_of_len_ne_zero k⟩,
    fun p inc => ⟨rfl, rfl, PReg.bump_idx_of_len_zero inc, PReg.bump_idx_of_len_ne_zero inc⟩, ?pset, ?managed,
    ?pgeti, ?padd⟩
  case search =>
    rintro s inst w r op i better takes h hmem rfl
    refine ⟨searchCtx better w r.c, ?ran, searchCtx_values better w r.c, searchCtx_indices better w r.c,
      fun j => searchCtx_vr_other better w r.c, searchCtx_frame better w r.c⟩
    rw [← instr_search better h]
    simp only [List.mem_cons, Prod.mk.injEq, List.not_mem_nil, or_false] at hmem
    obtain ⟨rfl, rfl, rfl⟩ | ⟨rfl, rfl, rfl⟩ := hmem
    · exact exec_smax inst w s
    · exact exec_smin inst w s
  case reduce =>
    intro s inst w r op i better v l h hmem hbest
    have hpair : bestPair (bestLane better w (r.c.mr w.m.toNat) (r.c.vr w.a.toNat)) = (v, l) := by
      split at hbest
      next b hsome =>
        obtain ⟨rfl, rfl⟩ := hbest
        rw [hsome, bestPair]
      next hnone =>
        obtain ⟨rfl, rfl⟩ := hbest
        rw [hnone, bestPair]
    have hran := instr_of_puts h (reduceOp_eq better w r)
    rw [hpair] at hran
    rw [← hran]
    simp only [List.mem_cons, Prod.mk.injEq, List.not_mem_nil, or_false] at hmem
    obtain ⟨rfl, rfl, rfl⟩ | ⟨rfl, rfl, rfl⟩ := hmem
    · exact exec_rmax inst w s
    · exact exec_rmin inst w s
  case greatest =>
    intro w m x v l h
    obtain ⟨hlane, hmasked, hbest⟩ := bestLane_greatest h
    exact ⟨hlane, hmasked, by simpa using hbest⟩
  case least =>
    intro w m x v l h
    obtain ⟨hlane, hmasked, hbest⟩ := bestLane_least h
    exact ⟨hlane, hmasked, by simpa using hbest⟩
  case key =>
    exact fun w v => ⟨fun hx => if_pos hx, fun hx => if_neg (by simp [hx])⟩
  case pset =>
    rintro s inst w r op i v f h hd rfl hmem
    simp only [List.mem_cons, Prod.mk.injEq, List.not_mem_nil, or_false] at hmem
    obtain ⟨rfl, rfl, rfl⟩ | ⟨rfl, rfl, rfl⟩ | ⟨rfl, rfl, rfl⟩ := hmem
    · rw [exec_psetb, iPsetb, instr_of_puts h (psetOp_unmanaged _ r hd)]
    · rw [exec_psetl, iPsetl, instr_of_puts h (psetOp_unmanaged _ r hd)]
    · rw [exec_pseti, iPseti, instr_of_puts h (psetOp_unmanaged _ r hd)]
  case managed =>
    intro s inst w r op i h hd hmem
    simp only [List.mem_cons, Prod.mk.injEq, List.not_mem_nil, or_false] at hmem
    obtain ⟨rfl, rfl⟩ | ⟨rfl, rfl⟩ | ⟨rfl, rfl⟩ := hmem
    · rw [exec_psetb, iPsetb, instr_trap h (psetOp_managed _ r hd)]
    · rw [exec_psetl, iPsetl, instr_trap h (psetOp_managed _ r hd)]
    · rw [exec_pseti, iPseti, instr_trap h (psetOp_managed _ r hd)]
  case pgeti => exact fun s inst w r h => by rw [exec_pgeti, instr_of_puts h (iPgeti_eq w r)]
  case padd => exact fun s inst w r h => by rw [exec_padd, instr_of_puts h (iPadd_eq w r)]

end Sys2Proof

/-! The packet queues (R391 to R394, R396): what a word pushed does in each state of the producer, what a flush and a SPOIL leave,
how a word taken stands to the words that remain, and what storing a queue changes of the state. -/

namespace Sys2Proof.Machine

/-! ### The producer's words (R391 to R393) -/

namespace HostQueue

variable {h : HostQueue}

theorem commit_of_good (hgood : h.bad = false) :
    h.commit = { h with packets := h.packets ++ [h.partial_], partial_ := [], inProgress := false } := by
  simp [commit, hgood]

theorem commit_of_bad (hbad : h.bad = true) : h.commit = h.rewind := if_pos hbad

/-- A queue in discarding counts the word as flushed, and the packet's last word ends the discarding (R393). -/
theorem push_of_discarding (w : BitVec 64 × Bool) (last : Bool) (hdisc : h.discarding = true) :
    h.push w last = { h with flushed := satAdd32 h.flushed 1, discarding := !last } := if_pos hdisc

section Room

variable (w : BitVec 64 × Bool) (hdisc : h.discarding = false) (hroom : h.isFull = false)
include hdisc hroom

theorem push_of_room : h.push w false = { h with partial_ := h.partial_ ++ [w], inProgress := true } := by
  simp [push, hdisc, hroom]

theorem push_last_of_room :
    h.push w true = commit { h with partial_ := h.partial_ ++ [w], inProgress := true } := by
  simp [push, hdisc, hroom]

end Room

/-- A write while full: the word is dropped, and the packet in progress is bad (R391). -/
def refuseWord (h : HostQueue) : HostQueue :=
  { h with overrun := true, bad := true, ignored := satAdd32 h.ignored 1, ignoredBlock := h.ignoredBlock + 1,
           inProgress := true }

section Full

variable (w : BitVec 64 × Bool) (hdisc : h.discarding = false) (hfull : h.isFull = true)
include hdisc hfull

theorem push_of_full : h.push w false = h.refuseWord := by
  simp [push, hdisc, hfull, refuseWord]

/-- The last word of a packet that does not fit rewinds the packet (R392). -/
theorem push_last_of_full : h.push w true = h.refuseWord.rewind := by
  have hcommit : h.push w true = h.refuseWord.commit := by simp [push, hdisc, hfull, refuseWord]
  rw [hcommit, commit_of_bad rfl]

end Full

/-! ### Flush and SPOIL (R392, R393) -/

theorem flush_level (h : HostQueue) : h.flush.level = 0 := rfl

theorem spoilNow_of_discarding (hdisc : h.discarding = true) : h.spoilNow = { h with discarding := false } := if_pos hdisc

theorem spoilNow_of_inProgress (hdisc : h.discarding = false) (hprog : h.inProgress = true) : h.spoilNow = h.rewind := by
  simp [spoilNow, hdisc, hprog]

/-! ### The consumer's words (R391) -/

/-- The word taken is the oldest of the committed words: the others stay, in their order. -/
theorem popWord_flatten {w : BitVec 64 × Bool} {g : HostQueue} (hpop : h.popWord = some (w, g))
    (hne : ∀ p ∈ h.packets, p ≠ []) : h.packets.flatten = w :: g.packets.flatten := by
  unfold popWord at hpop
  split at hpop
  case h_1 => cases hpop
  case h_2 r hpackets => exact absurd rfl (hne [] (by simp [hpackets]))
  case h_3 x xs r hpackets =>
    cases hpop
    cases xs <;> simp [hpackets]

end HostQueue

/-! ### Storing a queue (R395, R396) -/

theorem OnlyEvents.ite {p : Prop} [Decidable p] {s t u : State} (ht : OnlyEvents s t) (hu : OnlyEvents s u) :
    OnlyEvents s (if p then t else u) := by
  split
  case isTrue => exact ht
  case isFalse => exact hu

theorem State.trackLatch_only (src no : Nat) (level : Int) (lowest : Bool) (s : State) :
    OnlyEvents s (s.trackLatch src no level lowest) := by
  unfold State.trackLatch
  exact .ite (.refl s) (State.setLatch_only _ s)

/-- Storing a queue after an operation puts it in its place and for the rest raises events only. -/
theorem State.putQueue_only (q : Nat) (h : HostQueue) (s : State) : OnlyEvents (s.setQueueRaw q h) (s.putQueue q h) := by
  have hwatch (no : Nat) (lowest crossed : Bool) (data : Bytes) (u : State) : OnlyEvents u
      (if crossed then u.cross (256 + q) no (queueNode q) h.level lowest data
        else u.trackLatch (256 + q) no h.level lowest) :=
    .ite (State.cross_only _ _ _ _ _ _ u) (State.trackLatch_only _ _ _ _ u)
  have hcause (fires : Bool) (u : State) : OnlyEvents u (if fires then u.setCause (16 + q) else u) :=
    .ite (State.setCause_only _ u) (.refl u)
  exact ((hwatch 0 false _ _ _).trans (hwatch 1 true _ _ _)).trans (hcause _ _)

theorem State.putQueue_mem (q : Nat) (h : HostQueue) (s : State) : (s.putQueue q h).mem = (s.setQueueRaw q h).mem :=
  (s.putQueue_only q h).mem

theorem State.queue_putQueue {q : Nat} (h : HostQueue) (s : State) (hq : q < 16) : (s.putQueue q h).queue q = h := by
  simp [State.queue, State.putQueue_mem, State.setQueueRaw, hq]

theorem State.queue_putQueue_other {q k : Nat} (h : HostQueue) (s : State) (hk : k ≠ q) :
    (s.putQueue q h).queue k = s.queue k := by
  simp [State.queue, State.putQueue_mem, State.setQueueRaw, Vector.getElem?_setIfInBounds_ne hk.symm]

theorem State.setCause_getLsbD {v : Nat} (s : State) (hv : v < 32) : (s.setCause v).evq.intStatus.getLsbD v = true := by
  simp [State.setCause_bit s v hv, hv]

/-- A committed packet in a toward-host queue that held none sets the queue's cause (R396). -/
theorem State.putQueue_cause {q : Nat} {h : HostQueue} {s : State} (hq : q < 8) (hwas : (s.queue q).packets = [])
    (hnow : h.packets ≠ []) : (s.putQueue q h).evq.intStatus.getLsbD (16 + q) = true := by
  have hfires : ((s.queue q).packets.isEmpty && !h.packets.isEmpty) = true := by simp [hwas, hnow]
  unfold State.putQueue
  dsimp only
  rw [if_pos hq, if_pos hfires]
  exact State.setCause_getLsbD _ (by omega)

end Sys2Proof.Machine

namespace Sys2Proof

open Machine

/-- Settles O48: the producer's, the host's and the consumer's operation each by its own rule, the storing of a queue by what it
changes beside the raising of events. -/
theorem queueOperations : Obligations.QueueOperations := by
  unfold Obligations.QueueOperations
  refine ⟨?room, ?full, fun h w last => HostQueue.push_of_discarding w last,
    fun h => ⟨h.flush_level, rfl, rfl, rfl, rfl, rfl⟩, fun h => HostQueue.spoilNow_of_discarding, ?spoil,
    fun h g w hpop _ => HostQueue.popWord_flatten hpop, ?stored⟩
  case room =>
    intro h w hdisc hroom hgood
    exact ⟨HostQueue.push_of_room w hdisc hroom,
      (HostQueue.push_last_of_room w hdisc hroom).trans (HostQueue.commit_of_good hgood)⟩
  case full =>
    intro h w last hdisc hfull
    cases last with
    | false =>
      rw [HostQueue.push_of_full w hdisc hfull]
      exact ⟨rfl, rfl, rfl, fun _ => rfl, nofun⟩
    | true =>
      rw [HostQueue.push_last_of_full w hdisc hfull]
      exact ⟨rfl, rfl, rfl, nofun, fun _ => ⟨rfl, rfl⟩⟩
  case spoil =>
    intro h hdisc hprog
    rw [HostQueue.spoilNow_of_inProgress hdisc hprog]
    exact ⟨rfl, rfl, rfl⟩
  case stored =>
    intro s q h hq
    refine ⟨s.queue_putQueue h hq, fun k hk => s.queue_putQueue_other h hk, ?_, State.putQueue_cause⟩
    rw [State.putQueue_mem]
    rfl

end Sys2Proof

/-! What hardly any operation of the device changes: the queue, the straps, the boot unit and the three byte memories. An operation
that leaves them all alone is said so by one equation, which composes. -/

namespace Sys2Proof.Machine

/-- The queue, the straps, the boot unit (with one-time programmable memory) and the sparse byte memories. -/
structure Lasting where
  pending : List Instr
  straps : Straps
  boot : Boot
  user : Mem
  host : Mem
  bar2 : Mem

def State.lasting (s : State) : Lasting :=
  { pending := s.pending, straps := s.id.straps, boot := s.boot, user := s.mem.user, host := s.mem.host, bar2 := s.mem.bar2 }

theorem OnlyEvents.lasting {s t : State} (h : OnlyEvents s t) : t.lasting = s.lasting := by rw [h]; rfl

theorem State.pairEn_of_lasting {s t : State} (h : t.lasting = s.lasting) : t.pairEn = s.pairEn :=
  congrArg (fun x => x.straps.pairEn) h

@[simp] theorem State.foldl_lasting {α : Type} {f : State → α → State} (hf : ∀ s x, (f s x).lasting = s.lasting) (l : List α)
    (s : State) : (l.foldl f s).lasting = s.lasting := by
  induction l generalizing s with
  | nil => rfl
  | cons x l ih => exact (ih _).trans (hf s x)

namespace State

/-- What lasts of a state written out by its fields. -/
@[simp] theorem lasting_mk (pending free sent id mbx deferred boot evq time nodes leaving conns pend pendLate setHere run wires
    midway closedView slabs commits slabSet rd wr front gal ren spk cap eth voice bench mem ash link pair faults power gpio
    jtag) :
    (State.mk pending free sent id mbx deferred boot evq time nodes leaving conns pend pendLate setHere run wires midway
      closedView slabs commits slabSet rd wr front gal ren spk cap eth voice bench mem ash link pair faults power gpio
      jtag).lasting = ⟨pending, id.straps, boot, mem.user, mem.host, mem.bar2⟩ := rfl

@[simp] theorem lasting_eta (s : State) :
    Lasting.mk s.pending s.id.straps s.boot s.mem.user s.mem.host s.mem.bar2 = s.lasting := rfl

@[simp] theorem lasting_ite {p : Prop} [Decidable p] (s t : State) :
    (if p then s else t).lasting = if p then s.lasting else t.lasting := apply_ite lasting p s t

theorem lasting_of_ite {p : Prop} [Decidable p] {s t u : State} (hs : s.lasting = u.lasting) (ht : t.lasting = u.lasting) :
    (if p then s else t).lasting = u.lasting := by
  split
  case isTrue => exact hs
  case isFalse => exact ht

@[simp] theorem lasting_raise (src code node : Nat) (data : Bytes) (s : State) :
    (s.raise src code node data).lasting = s.lasting := (raise_only src code node data s).lasting

@[simp] theorem lasting_note (d : Decision) (s : State) : (s.note d).lasting = s.lasting := (note_only d s).lasting

@[simp] theorem lasting_setCause (v : Nat) (s : State) : (s.setCause v).lasting = s.lasting := (setCause_only v s).lasting

@[simp] theorem lasting_setBox (k : Nat) (b : Mbx) (s : State) : (s.setBox k b).lasting = s.lasting := by rfl

@[simp] theorem lasting_setQueueRaw (q : Nat) (h : HostQueue) (s : State) : (s.setQueueRaw q h).lasting = s.lasting := by rfl

@[simp] theorem lasting_putQueue (q : Nat) (h : HostQueue) (s : State) : (s.putQueue q h).lasting = s.lasting :=
  (putQueue_only q h s).lasting.trans (lasting_setQueueRaw q h s)

/-! ### Closing a session (R63, R105, R399) -/

@[simp] theorem lasting_dropSlab (i : Nat) (s : State) : (s.dropSlab i).lasting = s.lasting := by rfl

@[simp] theorem lasting_discardSlab (reason : Nat) (s : State) (sl : Slab) :
    (s.discardSlab reason sl).lasting = s.lasting := lasting_raise _ _ _ _ _

@[simp] theorem lasting_detachQueues (mb : Nat) (s : State) : (s.detachQueues mb).lasting = s.lasting := by
  refine foldl_lasting (fun u q => ?_) _ s
  dsimp only
  split
  case h_1 m _ _ _ =>
    split
    case isTrue => exact lasting_putQueue _ _ _
    case isFalse => rfl
  case h_2 => rfl

@[simp] theorem lasting_closeSession (mb reason : Nat) (s : State) : (s.closeSession mb reason).lasting = s.lasting := by
  unfold closeSession
  dsimp only
  split
  case isTrue =>
    rw [lasting_setBox, lasting_detachQueues]
    exact foldl_lasting (lasting_discardSlab reason) _ s
  case isFalse => rfl

end State

end Sys2Proof.Machine

/-! Sessions (R58 to R66): the two identity records, the opening and the closing of a session, failed proofs and the locks of key
slots, and the failures of a command. -/

namespace Sys2Proof.Machine

namespace State

theorem slot_setSlot (s : State) (k : Fin 16) (x : KeySlot) : (s.setSlot k x).slot k = x := by
  simp [slot, setSlot]

theorem slot_setSlot_other (s : State) {k j : Nat} (x : KeySlot) (h : j ≠ k) : (s.setSlot k x).slot j = s.slot j := by
  simp [slot, setSlot, Vector.getElem?_setIfInBounds_ne h.symm]

theorem setBox_setBox (s : State) (k : Nat) (b c : Mbx) : (s.setBox k b).setBox k c = s.setBox k c := by
  simp [setBox, Vector.setIfInBounds_setIfInBounds]

/-! ### Identity and capacity (R65, R66) -/

theorem roleByte_alone {s : State} (h : s.pair.role = 0) : s.roleByte = 0 := by simp [roleByte, h]

theorem openMask_accept (s : State) (op : Nat) (mb : Fin 8) : (s.accept op mb).openMask = s.openMask := by
  unfold openMask
  congr 1
  refine List.map_congr_left fun n hn => ?_
  have hsess := s.accept_sess op mb ⟨n, List.mem_range.mp hn⟩
  rw [hsess]

/-! ### Closing (R63, R64) -/

theorem closeSession_of_not_open {s : State} {mb : Nat} (reason : Nat) (h : (s.box mb).sess ≠ .opened) :
    s.closeSession mb reason
      = s.setBox mb { s.box mb with sess := .closed, keySlot := 0, nonce := [], openKey := [] } := by
  simp [closeSession, h]

/-- An open session that ends leaves a closed mailbox without tag memory, whatever its Slabs and queues leave. -/
theorem closeSession_of_open {s : State} {mb : Nat} (reason : Nat) (h : (s.box mb).sess = .opened) :
    ∃ u : State, s.closeSession mb reason
      = u.setBox mb { u.box mb with sess := .closed, keySlot := 0, tags := [], nonce := [], openKey := [] } := by
  unfold closeSession
  simp only [h, beq_self_eq_true, if_true]
  exact ⟨_, rfl⟩

/-! ### Timers of sessions and key slots (R59, R62, R64) -/

theorem runExpiry_of_expired {s : State} {x : Expiry} (hdue : s.expired x = true) (hlead : s.following = false) :
    s.runExpiry x = (s.note (.expired x)).expire x := by
  simp [runExpiry, hdue, hlead]

theorem note_box (s : State) (d : Decision) (k : Nat) : (s.note d).box k = s.box k := (note_only d s).box k

theorem note_slot (s : State) (d : Decision) (k : Nat) : (s.note d).slot k = s.slot k := by
  rw [slot, slot, (note_only d s).boot]

/-! ### Failed proofs (R61, R62) -/

/-- The slot after a failed proof: five failures lock it for 60 s. -/
theorem failProof_slot (s : State) (k : Fin 16) :
    ((s.failProof k).slot k).failures = min 5 ((s.slot k).failures + 1) ∧
      (4 ≤ (s.slot k).failures → ((s.failProof k).slot k).lockUntil = some (s.time.ticks + 60 * 48000)) := by
  unfold failProof
  dsimp only
  split
  case isTrue hfew =>
    rw [slot_setSlot]
    exact ⟨by dsimp only; omega, by omega⟩
  case isFalse hmany =>
    have hslot (u : State) : (u.endOpens k true).slot k = u.slot k := rfl
    rw [hslot, slot_setSlot]
    exact ⟨by dsimp only; omega, fun _ => rfl⟩

/-- A mailbox whose session is closed stays as it is when the pending opens of a slot end. -/
theorem failProof_box_of_closed {s : State} (k : Nat) {mb : Nat} (h : (s.box mb).sess = .closed) :
    (s.failProof k).box mb = s.box mb := by
  have hend (u : State) (hu : (u.box mb).sess = .closed) : (u.endOpens k true).box mb = u.box mb := by
    simp only [box, endOpens, Vector.getElem?_map] at hu ⊢
    cases hmb : u.mbx[mb]? with
    | none => rfl
    | some b => simp_all
  unfold failProof
  dsimp only
  split
  case isTrue => rfl
  case isFalse => exact hend _ h

theorem failProof_pairEn (s : State) (k : Nat) : (s.failProof k).pairEn = s.pairEn := by
  unfold failProof
  dsimp only
  split <;> rfl

end State

/-! ### Failures (R72) -/

/-- What an accepted doorbell of a device that runs alone comes to, once checks 1 to 4 have passed. -/
theorem runCommand_fresh {c : Contract} {s : State} {mb : Fin 8} {r : Req} (hawake : s.awake = true)
    (hready : s.ready = true) (hidle : (s.box mb).busy = false) (hshort : r.payload.length ≤ 8176)
    (halone : s.pairEn = false) (hrole : s.pair.role = 0)
    (hsess : (s.box mb).sess = .opened ∨ c.closedOk = true) (hfresh : (s.box mb).tagOf r.tag = none) :
    ∃ opened, runCommand c mb r s = .next
      (if c.early (s.accept c.opcode mb) mb r ≠ 0 then
        (s.accept c.opcode mb).finish c.opcode mb r opened true (c.early (s.accept c.opcode mb) mb r) {}
      else if (s.accept c.opcode mb).mustWait c.opcode r then
        { s.accept c.opcode mb with
          deferred := (s.accept c.opcode mb).deferred ++ [⟨c.opcode, mb.val, r, (s.accept c.opcode mb).packetsDue⟩] }
      else c.settle mb r opened (s.accept c.opcode mb)) := by
  refine ⟨(s.box mb).sess == .opened, ?_⟩
  have hlong : ¬ 8176 < r.payload.length := by omega
  have hrole' : (s.accept c.opcode mb).pair.role = 0 := hrole
  have htag : ((s.accept c.opcode mb).box mb).tagOf r.tag = none := by rw [State.box_accept]; exact hfresh
  rw [runCommand, State.doorbell_accepted _ _ hawake hready hidle halone]
  simp only [hlong, if_false, Contract.checked, hrole', htag, State.accept_sess]
  rcases hsess with hopen | hclosed
  · simp [hopen]
  · simp [hclosed]

/-- A command whose body fails is answered with the body's code. -/
theorem settle_fails {c : Contract} {s : State} {mb : Fin 8} {r : Req} {k : Nat} {p : Bytes} (o : Bool)
    (hfail : c.apply s mb r = .fail k p) (halone : s.pairEn = false) :
    Answered s mb r { status := k, payload := p } (c.settle mb r o s) := by
  unfold Contract.settle
  rw [hfail]
  exact State.finish_answers c.opcode r o true { status := k, payload := p } halone

end Sys2Proof.Machine

namespace Sys2Proof

open Machine

/-- Settles O1: both records are what their bodies answer. -/
theorem identityAndCapacity : Obligations.IdentityAndCapacity := by
  unfold Obligations.IdentityAndCapacity
  refine ⟨fun s mb r hpass => ?identity, fun s mb r hpass => Completes.intro hpass rfl rfl hpass.single⟩
  case identity =>
    refine Completes.intro hpass rfl ?_ hpass.single
    have hrole : (s.accept sysGetId.opcode mb).roleByte = 0 := State.roleByte_alone hpass.alone
    simp only [sysGetId] at hrole ⊢
    rw [hrole, State.openMask_accept]
    rfl

/-- Settles O2: each session command by its body on the accepted doorbell's mailbox. -/
theorem sessionLifecycle : Obligations.SessionLifecycle := by
  unfold Obligations.SessionLifecycle
  refine ⟨fun s mb r k key hpass hk hkey hclosed hlock => ?opens, fun s mb r hpass hawait hlocked hproof => ?proves,
    fun s mb r hpass => ?closes, fun s mb hnot => State.closeSession_of_not_open 1 hnot,
    fun s mb hopen _ => ?closed⟩
  case opens =>
    refine ⟨((s.accept sessionOpen.opcode mb).drawBytes 16).1, by simp [State.drawBytes], ?_⟩
    have hkey' : ((s.accept sessionOpen.opcode mb).slot k).key = some key := hkey
    have hlock' : ((s.accept sessionOpen.opcode mb).slot k).lockUntil = none := hlock
    refine Completes.intro hpass rfl ?_ hpass.single
    have hsess : ((s.accept sessionOpen.opcode mb).box mb).sess = .closed := by rw [State.accept_sess, hclosed]
    simp only [sessionOpen] at hkey' hlock' hsess ⊢
    rw [hk]
    simp only [hkey', hlock', hsess]
    rfl
  case proves =>
    refine Completes.intro hpass rfl ?_ hpass.single
    simp only [sessionProve, State.box_accept, hlocked, hawait, hproof]
    rfl
  case closes =>
    exact Completes.intro hpass rfl rfl ((State.pairEn_of_lasting (State.lasting_closeSession _ _ _)).trans hpass.single)
  case closed =>
    obtain ⟨u, hu⟩ := State.closeSession_of_open 1 hopen
    rw [hu, State.box_setBox]
    exact ⟨rfl, rfl⟩

/-- Settles O3: the failed proof by what it leaves of slot and mailbox, the three timers by what their expiry does. -/
theorem sessionTimersAndLocks : Obligations.SessionTimersAndLocks := by
  unfold Obligations.SessionTimersAndLocks
  refine ⟨fun s mb r hpass hawait hlocked hproof hslot => ?wrong, fun s mb hopen hidle hlead => ?idle,
    fun s mb hawait hlapse hlead => ?lapse, fun s k t hlock ht hlead => ?unlock, State.slot_setSlot, State.box_setBox⟩
  case wrong =>
    obtain ⟨u, hu⟩ : ∃ u, u = ((s.accept 3 mb).setBox mb
      { (s.accept 3 mb).box mb with sess := .closed, keySlot := 0, nonce := [], openKey := [] }) := ⟨_, rfl⟩
    have hbody : sessionProve.body (s.accept sessionProve.opcode mb) mb r
        = .done (u.failProof (s.box mb).keySlot) { status := Err.auth } := by
      simp only [hu, sessionProve, State.box_accept, hlocked, hawait, hproof]
      rfl
    have hbox : (u.box mb).sess = .closed := by rw [hu, State.box_setBox]
    have halone : (u.failProof (s.box mb).keySlot).pairEn = false := by
      rw [State.failProof_pairEn, hu]; exact hpass.single
    obtain ⟨t, hrun, hans⟩ := runCommand_completes hpass hbody halone
    have hslots : ∀ k, t.slot k = (u.failProof (s.box mb).keySlot).slot k := fun k => by
      rw [State.slot, State.slot, hans.rest]
    have hbefore : ∀ k, u.slot k = s.slot k := fun k => by rw [hu]; rfl
    have hticks : u.time.ticks = s.time.ticks := by rw [hu]; rfl
    obtain ⟨hcount, hlock⟩ := State.failProof_slot u ⟨(s.box mb).keySlot, hslot⟩
    rw [hbefore] at hcount hlock
    rw [hticks] at hlock
    refine ⟨t, hrun, ?_, hans.status, ?_, ?_⟩
    · rw [hans.box, State.failProof_box_of_closed _ hbox]
      exact hbox
    · rw [hslots]; exact hcount
    · rw [hslots]; exact hlock
  case idle =>
    have hdue : s.expired (.idle mb) = true := by simp [State.expired, hopen, smpPerSecond, hidle]
    exact congrArg _ (State.runExpiry_of_expired hdue hlead)
  case lapse =>
    have hdue : s.expired (.pendingOpen mb) = true := by simp [State.expired, hlapse]
    refine congrArg _ ((State.runExpiry_of_expired hdue hlead).trans ?_)
    simp [State.expire, State.note_box, hawait]
  case unlock =>
    have hdue : s.expired (.lock k) = true := by simp [State.expired, hlock, ht]
    refine congrArg _ ((State.runExpiry_of_expired hdue hlead).trans ?_)
    simp [State.expire, State.note_slot]

/-- Settles O5: a failure of checks 5 and 6, or of the body, is delivered on the state that the accepted doorbell leaves. -/
theorem failuresChangeNothing : Obligations.FailuresChangeNothing := by
  unfold Obligations.FailuresChangeNothing
  intro c s mb r hawake hready hidle hshort halone hrole hsess hfresh
  obtain ⟨opened, hrun⟩ := runCommand_fresh (c := c) hawake hready hidle hshort halone hrole hsess hfresh
  refine ⟨fun hearly => ?early, fun k p hearly hfree hfail => ?late⟩
  case early =>
    rw [if_pos hearly] at hrun
    exact ⟨_, hrun, State.finish_answers c.opcode r opened true { status := _ } halone⟩
  case late =>
    rw [if_neg (not_not.mpr hearly), if_neg (ne_true_of_eq_false hfree)] at hrun
    exact ⟨_, hrun, settle_fails opened hfail halone⟩

end Sys2Proof

/-! Numbering of events and interrupt causes (R111, R113, R124, R125). -/

namespace Sys2Proof.Machine.State

/-- On a device that is ready and decides for itself, an event of a source that is not masked is numbered. -/
theorem raise_of_numbered {s : State} {src : Nat} (code node : Nat) (data : Bytes) (hready : s.ready = true)
    (hopen : s.evq.masked.contains src = false) (hlead : s.following = false) :
    s.raise src code node data =
      s.number { seq := 0, sec := s.secs, ns := s.nanos, source := src, code := code, node := node, data := data } := by
  simp [raise, raiseRec, hready, hlead, forwardsEvent, show src ∉ s.evq.masked by simpa using hopen]

theorem setCause_nextSeq (s : State) (v : Nat) : (s.setCause v).evq.nextSeq = s.evq.nextSeq := by rw [setCause_eq]

theorem setCause_store (s : State) (v : Nat) : (s.setCause v).evq.store = s.evq.store := by rw [setCause_eq]

theorem setCause_gap (s : State) (v : Nat) : (s.setCause v).evq.gap = s.evq.gap := by rw [setCause_eq]

/-- With a store slot free an event takes the next number and is stored last. -/
theorem number_of_room {s : State} (e : EvRec) (hgap : s.evq.gap = none) (hroom : s.evq.store.length < 8192) :
    (s.number e).evq.nextSeq = s.evq.nextSeq + 1 ∧
      (s.number e).evq.store = s.evq.store ++ [{ e with seq := s.evq.nextSeq }] := by
  simp only [number, hgap, storeSize, if_pos hroom]
  split
  · exact ⟨setCause_nextSeq _ _, setCause_store _ _⟩
  · exact ⟨rfl, rfl⟩

/-- With the store full an event only opens a gap. -/
theorem number_of_full {s : State} (e : EvRec) (hgap : s.evq.gap = none) (hfull : 8192 ≤ s.evq.store.length) :
    (s.number e).evq.store = s.evq.store ∧ (s.number e).evq.nextSeq = s.evq.nextSeq + 1 ∧
      (s.number e).evq.gap = some (s.evq.nextSeq, 1, e.sec, e.ns) := by
  simp only [number, hgap, storeSize, if_neg (Nat.not_lt.mpr hfull)]
  exact ⟨setCause_store _ _, setCause_nextSeq _ _, setCause_gap _ _⟩

/-! ### Causes -/

/-- A cause that stands already is set without an effect. -/
theorem setCause_of_set {s : State} {v : Nat} (hset : s.evq.intStatus.getLsbD v = true) : s.setCause v = s := if_pos hset

/-- A rising cause that sends no message sets its bit only. -/
theorem setCause_of_quiet {s : State} {v : Nat} (hrise : s.evq.intStatus.getLsbD v = false)
    (hquiet : s.evq.intEnable.getLsbD v = false ∨ s.evq.msixEnable = false) :
    s.setCause v = { s with evq := { s.evq with intStatus := s.evq.intStatus ||| (1#32 <<< v) } } := by
  rcases hquiet with hoff | hoff <;> simp [setCause, hrise, hoff]

section Message

variable {s : State} {v : Nat} (hrise : s.evq.intStatus.getLsbD v = false) (hon : s.evq.intEnable.getLsbD v = true)
  (hpcie : s.id.straps.hostQspi = false) (hmsix : s.evq.msixEnable = true)
include hrise hon hpcie hmsix

theorem setCause_of_message (hfree : s.evq.holdsVector v = false) :
    s.setCause v = { s with
      evq := { s.evq with intStatus := s.evq.intStatus ||| (1#32 <<< v) }, sent := .msix v :: s.sent } := by
  simpa [setCause, hrise, hon, hpcie, hmsix, Evq.holdsVector, Evq.masksVector] using hfree

theorem setCause_of_held (hheld : s.evq.holdsVector v = true) :
    s.setCause v = { s with evq := { s.evq with
      intStatus := s.evq.intStatus ||| (1#32 <<< v), pba := s.evq.pba ||| (1#32 <<< v) } } := by
  simp only [setCause, hrise, hon, hpcie, hmsix, Bool.not_false, Bool.and_self, if_true, Bool.false_eq_true, if_false]
  exact if_pos hheld

end Message

end Sys2Proof.Machine.State

namespace Sys2Proof

open Machine

/-- Settles O8: an event with a store slot free and one without. -/
theorem eventsAreNumbered : Obligations.EventsAreNumbered := by
  unfold Obligations.EventsAreNumbered
  refine ⟨fun s src code node d hready hopen hlead hgap hroom => ?room,
    fun s src code node d hready hopen hlead hgap hfull => ?full⟩
  case room =>
    rw [State.raise_of_numbered code node d hready hopen hlead]
    exact State.number_of_room _ hgap hroom
  case full =>
    rw [State.raise_of_numbered code node d hready hopen hlead]
    exact State.number_of_full _ hgap hfull

/-- Settles O10: a cause that stands, one that rises in silence, one that sends its message and one whose message is held. -/
theorem interruptCauses : Obligations.InterruptCauses := by
  unfold Obligations.InterruptCauses
  refine fun s v hv => ⟨s.setCause_bit v hv, fun hrise hon hpcie hmsix hfun hvec => ?sends,
    fun hrise hon hpcie hmsix hmask => ?held, fun hquiet => ?quiet⟩
  case sends =>
    rw [State.setCause_of_message hrise hon hpcie hmsix (by simp [Evq.holdsVector, hfun, hvec])]
    exact ⟨rfl, rfl⟩
  case held =>
    rw [State.setCause_of_held hrise hon hpcie hmsix (by simpa [Evq.holdsVector] using hmask)]
    exact ⟨rfl, rfl⟩
  case quiet =>
    cases hset : s.evq.intStatus.getLsbD v with
    | true =>
      rw [State.setCause_of_set hset]
      exact ⟨rfl, rfl⟩
    | false =>
      rw [State.setCause_of_quiet hset (hquiet.resolve_left (ne_true_of_eq_false hset))]
      exact ⟨rfl, rfl⟩

end Sys2Proof

/-! Boot, keys and the update of the image (R519, R522, R526 to R531). -/

namespace Sys2Proof.Machine

/-- What raises events only does so too beside another boot unit. -/
theorem OnlyEvents.withBoot {s t : State} (h : OnlyEvents s t) (b : Boot) :
    OnlyEvents { s with boot := b } { t with boot := b } := by rw [h]; rfl

/-- A state that differs by a boot unit and by events differs so by its own boot unit. -/
theorem OnlyEvents.ownBoot {s t : State} {b : Boot} (h : OnlyEvents { s with boot := b } t) :
    t.boot = b ∧ OnlyEvents { s with boot := t.boot } t := by
  have hb : t.boot = b := h.boot
  exact ⟨hb, hb ▸ h⟩

namespace State

/-- A change of CODE raises its cause and nothing else (R519). -/
theorem setCode_only (c : Nat) (s : State) : OnlyEvents { s with boot := { s.boot with code := c } } (s.setCode c) := by
  unfold setCode
  split
  case isTrue h => rw [← h]; exact .refl s
  case isFalse => exact setCause_only _ _

theorem setCode_of_eq {s : State} {c : Nat} (h : s.boot.code = c) : s.setCode c = s := if_pos h

theorem setCode_setCode_only (c d : Nat) (s : State) :
    OnlyEvents { s with boot := { s.boot with code := d } } ((s.setCode c).setCode d) := by
  have hfirst := s.setCode_only c
  refine OnlyEvents.trans ?_ ((s.setCode c).setCode_only d)
  rw [hfirst.boot]
  exact hfirst.withBoot _

/-! ### Bits of the control registers -/

end State

theorem getLsbD_or_of_set {v c : Word} {i : Nat} (h : c.getLsbD i = true) : (v ||| c).getLsbD i = true := by
  simp [h]

theorem getLsbD_or_of_clear {v c : Word} {i : Nat} (h : c.getLsbD i = false) : (v ||| c).getLsbD i = v.getLsbD i := by
  simp [h]

namespace State

/-! ### The key path (R528) -/

/-- The slot that a write of BOOT_KEY_CTRL names lies below the bits of its commands. -/
theorem keyIndex_or (v : Word) : (v ||| 0x10).toNat % 16 = v.toNat % 16 := by
  rw [BitVec.toNat_or]
  exact (Nat.or_mod_two_pow (n := 4)).trans (by simp)

theorem exec_bootKeyWrite {s : State} {v : Word} (hawake : s.awake = true) (hlock : v.getLsbD 5 = false) :
    exec (.bootKeyWrite v) s = .next (s.registerKey (v.toNat % 16)) := by
  have hwrite : (v ||| 0x10).getLsbD 4 = true := getLsbD_or_of_set (by decide)
  have hlock' : (v ||| 0x10).getLsbD 5 = false := (getLsbD_or_of_clear (by decide)).trans hlock
  change Host.Outcome.next (s.writeKeyCtrl (v ||| 0x10)) = _
  simp only [writeKeyCtrl, hawake, hwrite, hlock', keyIndex_or, if_true, Bool.false_eq_true, if_false]

theorem slot_setKeyRefused (s : State) (b : Bool) (j : Nat) :
    State.slot { s with boot := { s.boot with keyRefused := b } } j = s.slot j := rfl

theorem endOpens_slot (s : State) (k : Nat) (remember : Bool) (j : Nat) : (s.endOpens k remember).slot j = s.slot j := rfl

/-! ### Download (R522) -/

theorem exec_bootDlGo {s : State} {v : Word} (hdown : s.downloading = true) (hcode : s.boot.code = 3)
    (hfinal : v.getLsbD 1 = false) : exec (.bootDlGo v) s = .next s.dlGo := by
  have hgo : (v ||| 1).getLsbD 0 = true := getLsbD_or_of_set (by decide)
  have hfinal' : (v ||| 1).getLsbD 1 = false := (getLsbD_or_of_clear (by decide)).trans hfinal
  change Host.Outcome.next (s.writeDlCtrl (v ||| 1)) = _
  simp only [writeDlCtrl, hdown, setCode_of_eq hcode, hgo, hfinal', if_true, Bool.false_eq_true, if_false]

theorem exec_bootDlFinal {s : State} {v : Word} (hdown : s.downloading = true) (hcode : s.boot.code = 3)
    (hgo : v.getLsbD 0 = false) : exec (.bootDlFinal v) s = .next s.dlFinal := by
  have hfinal : (v ||| 2).getLsbD 1 = true := getLsbD_or_of_set (by decide)
  have hgo' : (v ||| 2).getLsbD 0 = false := (getLsbD_or_of_clear (by decide)).trans hgo
  change Host.Outcome.next (s.writeDlCtrl (v ||| 2)) = _
  simp only [writeDlCtrl, hdown, setCode_of_eq hcode, hgo', hfinal, if_true, Bool.false_eq_true, if_false]

/-- A download that fails a check is rejected for 10 ms with its reason. -/
theorem dlFinal_of_bad {s : State} (hbad : verifyImage s.boot s.boot.dlImage 8388608 ≠ 0) :
    s.dlFinal = { (s.setCode 4).setCode 0x83 with boot := { ((s.setCode 4).setCode 0x83).boot with
      detail := BitVec.ofNat 32 (verifyImage s.boot s.boot.dlImage 8388608)
      dlReturnAt := some (((s.setCode 4).setCode 0x83).time.ticks + 480) } } := by
  unfold dlFinal
  dsimp only
  rw [if_neg hbad]

/-- A download that passes every check runs. -/
theorem dlFinal_of_good {s : State} (hgood : verifyImage s.boot s.boot.dlImage 8388608 = 0) :
    s.dlFinal = { (s.setCode 4).setCode 5 with boot := { ((s.setCode 4).setCode 5).boot with
      running := imageInfo (s.boot.dlImage.readBytes 0 256), kept := imageInfo (s.boot.dlImage.readBytes 0 256)
      source := 2, boardOpen := ((s.setCode 4).setCode 5).boot.rowsBlank } } := by
  unfold dlFinal
  dsimp only
  rw [if_pos hgood]

/-! ### Staging (R530) -/

/-- The reason that the end of the verification gives. -/
def stagedReason (s : State) (ok : Bool) : Nat :=
  if verifyImage s.boot s.boot.staging s.boot.stagedLen ≠ 0 then verifyImage s.boot s.boot.staging s.boot.stagedLen
  else if ok then 0 else 8

/-- The boot unit once the verification of the staged image has ended. -/
def stagedBoot (s : State) (ok : Bool) : Boot :=
  { s.boot with
    updState := if s.stagedReason ok = 0 then 3 else 4, updReason := s.stagedReason ok
    staged := imageInfo (s.boot.staging.readBytes 0 256) }

theorem exec_fwStaged {s : State} (ok : Bool) (hstate : s.boot.updState = 2) (hready : s.ready = true) :
    ∃ t, exec (.fwStaged ok) s = .next t ∧ OnlyEvents { s with boot := s.stagedBoot ok } t := by
  have hgo : (decide (s.boot.updState = 2) && s.ready) = true := by simp [hstate, hready]
  change ∃ t, execFwStaged ok s = .next t ∧ _
  unfold execFwStaged
  dsimp only
  rw [if_pos hgo]
  exact ⟨_, rfl, raise_only _ _ _ _ _⟩

/-! ### Key commands (R527, R529) -/

theorem otpAllowed_accept (s : State) (op : Nat) (mb : Fin 8) : (s.accept op mb).otpAllowed mb = s.otpAllowed mb := by
  unfold otpAllowed
  rw [box_accept]
  rfl

theorem keyChanged_pairEn (s : State) (slot action minimum : Nat) : (s.keyChanged slot action minimum).pairEn = s.pairEn :=
  (raise_only _ _ _ _ s).pairEn

end State

end Sys2Proof.Machine

namespace Sys2Proof

open Machine

/-- Settles O11: each key command by the branch of its body that its premises choose. -/
theorem keyCommands : Obligations.KeyCommands := by
  unfold Obligations.KeyCommands
  have hone (u : State) (slot action minimum : Nat) (h : u.pairEn = false) :
      (u.keyChanged slot action minimum).pairEn = false := (State.keyChanged_pairEn u _ _ _).trans h
  refine ⟨fun s mb r k hpass hk hfree => ?write, fun s mb r k hpass hk ha hvol hopen => ?lock,
    fun s mb r k hpass hk ha hvol hopen hkey => ?clear, fun s mb r k hpass hk ha hotp hallowed hlive => ?revoke,
    fun s mb r x hpass hx hlo hhi hallowed => ⟨fun ha hhash hrow => ?program, fun ha hhash hrow => ?revokeRow⟩,
    fun s mb r x hpass ha hx hlo hhi hhash hallowed hraise hrunning hnone => ?minimum,
    fun s mb r hpass => Completes.intro hpass rfl rfl hpass.single⟩
  case write =>
    refine Completes.intro hpass rfl ?_ (hone _ _ _ _ hpass.single)
    have hslot : (s.accept keyWrite.opcode mb).slot k = s.slot k := rfl
    simp only [keyWrite, State.otpAllowed_accept] at hslot ⊢
    rw [hk, hslot]
    by_cases hotp : k ≤ 7
    · rw [if_pos hotp] at hfree
      simp only [hotp, hfree.1, hfree.2]
      rfl
    · rw [if_neg hotp] at hfree
      simp only [hotp, hfree]
      rfl
  case lock =>
    refine Completes.intro hpass rfl ?_ (hone _ _ _ _ hpass.single)
    have hslot : (s.accept keyLock.opcode mb).slot k = s.slot k := rfl
    simp only [keyLock] at hslot ⊢
    rw [hk, ha, hslot]
    simp only [hopen, Nat.not_le.mpr hvol]
    rfl
  case clear =>
    refine Completes.intro hpass rfl ?_ (hone _ _ _ _ hpass.single)
    have hslot : (s.accept keyLock.opcode mb).slot k = s.slot k := rfl
    simp only [keyLock] at hslot ⊢
    rw [hk, ha, hslot]
    simp only [hopen, Option.isNone_eq_false_iff.mpr hkey, Nat.not_le.mpr hvol]
    rfl
  case revoke =>
    refine Completes.intro hpass rfl ?_ (hone _ _ _ _ hpass.single)
    have hslot : (s.accept keyLock.opcode mb).slot k = s.slot k := rfl
    simp only [keyLock, State.otpAllowed_accept] at hslot ⊢
    rw [hk, ha, hslot]
    simp only [hlive, hallowed, hotp]
    rfl
  case program =>
    refine Completes.intro hpass rfl ?_ (hone _ _ _ _ hpass.single)
    have hrow' : (s.accept keyFuse.opcode mb).boot.rows.getD x 0 = 0 := hrow
    simp only [keyFuse, State.otpAllowed_accept] at hrow' ⊢
    rw [ha, hx, hhash]
    simp only [hallowed, hrow', hlo, hhi]
    rfl
  case revokeRow =>
    refine Completes.intro hpass rfl ?_ (hone _ _ _ _ hpass.single)
    have hrow' : (s.accept keyFuse.opcode mb).boot.rows.getD x 0 = 1 := hrow
    simp only [keyFuse, State.otpAllowed_accept] at hrow' ⊢
    rw [ha, hx, hhash]
    simp only [hallowed, hrow', hlo, hhi]
    rfl
  case minimum =>
    refine Completes.intro hpass rfl ?_ (hone _ _ _ _ hpass.single)
    have hraise' : ¬ x ≤ (s.accept keyFuse.opcode mb).boot.secMin := Nat.not_le.mpr hraise
    have hrunning' : ¬ (s.accept keyFuse.opcode mb).boot.running.secVersion < x := Nat.not_lt.mpr hrunning
    have hnone' : ¬ (s.accept keyFuse.opcode mb).boot.updState = 3 := hnone
    simp only [keyFuse, State.otpAllowed_accept] at hraise' hrunning' hnone' ⊢
    rw [ha, hx, hhash]
    simp only [hallowed, hraise', hrunning', hnone', hlo, hhi]
    rfl

/-- Settles O12: WRITE by what the key path does with the slot it names, LOCK by its bit. -/
theorem keyRegisters : Obligations.KeyRegisters := by
  unfold Obligations.KeyRegisters
  refine ⟨fun s v k hawake hlock hk hvol hempty hopen hpath hkey => ?takes, fun s v hawake hlock hwhy => ?refuses,
    fun s v hawake hwrite => ?locks⟩
  case takes =>
    have hlt : k < 16 := by omega
    rw [State.exec_bootKeyWrite hawake hlock, hk]
    simp only [State.registerKey, hvol, hlt, hempty, hopen, hpath, hkey]
    refine ⟨_, _, rfl, rfl, ?_, rfl, rfl, fun j hj => ?_, rfl⟩
    · rw [State.endOpens_slot, State.slot_setKeyRefused, State.slot_setSlot _ ⟨k, hlt⟩]
    · rw [State.endOpens_slot, State.slot_setKeyRefused, State.slot_setSlot_other _ _ hj]
      rfl
  case refuses =>
    rw [State.exec_bootKeyWrite hawake hlock]
    have hno : (8 ≤ v.toNat % 16 && v.toNat % 16 < 16 && (s.slot (v.toNat % 16)).key.isNone
        && !(s.slot (v.toNat % 16)).locked && !s.boot.keyLocked && s.boot.keyWord.any (· != 0)) = false := by
      rcases hwhy with hotp | hpath | hfull
      · simp [Nat.not_le.mpr hotp]
      · simp [hpath]
      · simp [Option.isNone_eq_false_iff.mpr hfull]
    simp only [State.registerKey, hno, Bool.false_eq_true, if_false]
  case locks =>
    have hlock' : (v ||| 0x20).getLsbD 5 = true := getLsbD_or_of_set (by decide)
    have hwrite' : (v ||| 0x20).getLsbD 4 = false := (getLsbD_or_of_clear (by decide)).trans hwrite
    change Host.Outcome.next (s.writeKeyCtrl (v ||| 0x20)) = _
    simp only [State.writeKeyCtrl, hawake, hlock', hwrite', if_true, Bool.false_eq_true, if_false]

/-- Settles O13: GO and FINAL by what they do with the download, the return and the stop by the change of CODE they make. -/
theorem bootRom : Obligations.BootRom := by
  unfold Obligations.BootRom
  refine ⟨fun s v hdown hcode hfinal hlo hhi haligned => ?go, fun s v hdown hcode hgo hbad => ?rejects,
    fun s v hdown hcode hgo hgood => ?accepts, fun s at_ hreturn hdue hcode => ?returns,
    fun s code unit hawake hboot hwhy => ?stops⟩
  case go =>
    rw [State.exec_bootDlGo hdown hcode hfinal, State.dlGo, if_pos ⟨hlo, hhi, haligned⟩]
  case rejects =>
    rw [State.exec_bootDlFinal hdown hcode hgo]
    have honly := s.setCode_setCode_only 4 0x83
    rw [State.dlFinal_of_bad hbad]
    refine ⟨_, rfl, ?_, ?_, rfl, honly.withBoot _⟩
    · exact congrArg Boot.code honly.boot
    · exact congrArg (fun t : Time => some (t.ticks + 480)) honly.time
  case accepts =>
    rw [State.exec_bootDlFinal hdown hcode hgo]
    have honly := s.setCode_setCode_only 4 5
    rw [State.dlFinal_of_good hgood]
    exact ⟨_, rfl, congrArg Boot.code honly.boot, rfl, rfl, honly.withBoot _⟩
  case returns =>
    have hexec : exec .downloadReturn s
        = .next (State.setCode 3 { s with boot := { s.boot with dlImage := [], dlReturnAt := none } }) := by
      change execDownloadReturn s = _
      simp only [execDownloadReturn, hreturn, hcode, hdue, and_self, if_true]
    exact ⟨_, hexec, (State.setCode_only 3 _).ownBoot⟩
  case stops =>
    have hstop : s.canStop code.toNat = true := by
      rcases hwhy with ⟨rfl, hdl, hqspi⟩ | ⟨rfl | rfl, hdl, hfull⟩ | ⟨rfl | rfl, hfull⟩ <;>
        simp_all [State.canStop]
    have hexec : exec (.bootStop code unit) s = .next (State.setCode code.toNat { s with boot := { s.boot with
        detail := BitVec.ofNat 32
          (if code = 0x82 then unit % 0x10000 else if code = 0x84 ∨ code = 0x85 then 0x10000 * (unit % 256) else 0) } }) := by
      change execBootStop code unit s = _
      simp only [execBootStop, hawake, hboot, hstop, decide_true, Bool.and_self, if_true]
    obtain ⟨hboot', honly⟩ := (State.setCode_only code.toNat { s with boot := { s.boot with
        detail := BitVec.ofNat 32
          (if code = 0x82 then unit % 0x10000 else if code = 0x84 ∨ code = 0x85 then 0x10000 * (unit % 256) else 0) } }).ownBoot
    exact ⟨_, hexec, by rw [hboot'], by rw [hboot'], honly⟩

/-- Settles O14: staging, the end of the verification, and activation. -/
theorem imageUpdate : Obligations.ImageUpdate := by
  unfold Obligations.ImageUpdate
  refine ⟨fun s mb r off n hpass hfirst hoff hn hsource hstate hhits => ?stage, fun s ok hstate hready => ?staged,
    fun s mb r hpass hown hpair hstate => ?activate⟩
  case stage =>
    refine Completes.intro hpass rfl ?_ hpass.single
    have hsource' : ¬ (s.accept fwStage.opcode mb).boot.source = 2 := hsource
    have hstate' : (s.accept fwStage.opcode mb).boot.updState = 1 := hstate
    have hhits' : (s.accept fwStage.opcode mb).hitsAttachment mb (field r.payload 12 4) n = false := hhits
    simp only [fwStage] at hsource' hstate' hhits' ⊢
    rw [hoff, hn]
    simp only [hfirst, hsource', hstate', hhits']
    rfl
  case staged =>
    obtain ⟨t, hexec, honly⟩ := State.exec_fwStaged ok hstate hready
    obtain ⟨hboot, honly⟩ := honly.ownBoot
    refine ⟨t, hexec, ?_, ?_, ?_, ?_, honly⟩
    · rw [hboot]; rfl
    · rw [hboot]; rfl
    · rw [hboot]; simp [State.stagedBoot]
    · rw [hboot]; simp [State.stagedBoot]
  case activate =>
    refine Completes.intro hpass rfl ?_ hpass.single
    have hpair' : ¬ ((s.accept fwActivate.opcode mb).pair.state = 3 ∧ (s.accept fwActivate.opcode mb).pair.role ≠ 2) :=
      fun h => hpair h.1
    have hmine : ¬ (!(decide (field r.payload 0 1 = 0) || field r.payload 0 1 == s.ownSide)) = true := by
      simpa [or_iff_not_imp_left] using hown
    simp only [fwActivate] at hpair' ⊢
    rw [if_neg hpair']
    exact (if_neg hmine).trans (if_neg (not_not.mpr hstate))

end Sys2Proof

/-! The frame of the shared operations, of the event unit, of the packet queues and of the Bench invocations: none of them changes
the queue, the straps, the boot unit or the byte memories. -/

namespace Sys2Proof.Machine

namespace State

/-! ### Free values, records, flags -/

@[simp] theorem lasting_drawFree (s : State) : s.drawFree.2.lasting = s.lasting := by rfl

@[simp] theorem lasting_drawBytes (s : State) (n : Nat) : (s.drawBytes n).2.lasting = s.lasting := by rfl

@[simp] theorem lasting_recordCommand (s : State) (op : Nat) (mb : Fin 8) (r : Req) (before : State) :
    (s.recordCommand op mb r before).lasting = s.lasting := by simp [recordCommand]

@[simp] theorem lasting_flagAccess {f : Ident → Ident} (hf : ∀ i, (f i).straps = i.straps) (off : Nat) (s : State) :
    (s.flagAccess off f).lasting = s.lasting := by simp [flagAccess, hf]

@[simp] theorem lasting_emit (s : State) (x : Sent) :
    (emit s x).lasting = s.lasting := by rfl

@[simp] theorem lasting_number (e : EvRec) (s : State) :
    (number e s).lasting = s.lasting := by
  unfold number
  dsimp only
  split <;> simp

@[simp] theorem lasting_raiseRec (e : EvRec) (s : State) :
    (raiseRec e s).lasting = s.lasting := by simp [raiseRec]

@[simp] theorem lasting_raiseLatched (src code node : Nat) (data : Bytes) (s : State) :
    (raiseLatched src code node data s).lasting = s.lasting := by simp [raiseLatched]

@[simp] theorem lasting_setLatch (l : Latch) (s : State) :
    (setLatch l s).lasting = s.lasting := by rfl

@[simp] theorem lasting_putLatch (l : Latch) (s : State) :
    (putLatch l s).lasting = s.lasting := by simp [putLatch]

@[simp] theorem lasting_crossLatch (l : Latch) (k : Nat) (lowest : Bool) (data : Bytes) (s : State) :
    (crossLatch l k lowest data s).lasting = s.lasting := by simp [crossLatch]

@[simp] theorem lasting_cross (src no node : Nat) (level : Int) (lowest : Bool) (data : Bytes) (s : State) :
    (cross src no node level lowest data s).lasting = s.lasting := by simp [cross]

@[simp] theorem lasting_asBefore (l : Latch) (s : State) :
    (asBefore l s).lasting = s.lasting := by simp [asBefore]

@[simp] theorem lasting_crossWithin (src no node : Nat) (value : Int) (data : Bytes) (s : State) :
    (crossWithin src no node value data s).lasting = s.lasting := by simp [crossWithin]

@[simp] theorem lasting_setLevel (src no : Nat) (level : Int) (holds lowest : Bool) (s : State) :
    (setLevel src no level holds lowest s).lasting = s.lasting := by simp [setLevel]

@[simp] theorem lasting_blockCross (src no node k : Nat) (level : Int) (data : Bytes) (s : State) :
    (blockCross src no node k level data s).lasting = s.lasting := by simp [blockCross]

@[simp] theorem lasting_blockLatch (src no node : Nat) (value : Nat) (data : Bytes) (s : State) :
    (blockLatch src no node value data s).lasting = s.lasting := by simp [blockLatch]

@[simp] theorem lasting_setNode (id : Nat) (n : Node) (s : State) :
    (setNode id n s).lasting = s.lasting := by simp [setNode]

@[simp] theorem lasting_storePar (id pid : Nat) (v : Bytes) (s : State) :
    (storePar id pid v s).lasting = s.lasting := by simp [storePar]

@[simp] theorem lasting_atBoundary (p : Pend) (s : State) :
    (atBoundary p s).lasting = s.lasting := by simp [atBoundary]

@[simp] theorem lasting_produce (n o : Nat) (v : Int) (s : State) :
    (produce n o v s).lasting = s.lasting := by rfl

@[simp] theorem lasting_deliver (mb : Nat) (p : Resp) (s : State) :
    (deliver mb p s).lasting = s.lasting := by simp [deliver]

@[simp] theorem lasting_emitDriven (s : State) (x : Sent) :
    (emitDriven s x).lasting = s.lasting := by simp [emitDriven]

@[simp] theorem lasting_finish (op : Nat) (mb : Fin 8) (r : Req) (opened tagged : Bool) (status : Nat) (rep : Reply) (s : State) :
    (finish op mb r opened tagged status rep s).lasting = s.lasting := by simp [finish]

@[simp] theorem lasting_keepNodes (mb : Fin 8) (nodes : List Nat) (s : State) :
    (keepNodes mb nodes s).lasting = s.lasting := by
  unfold keepNodes
  split <;> rfl

@[simp] theorem lasting_takeEntry (mb n : Nat) (e : Option TagEntry) (s : State) :
    (takeEntry mb n e s).lasting = s.lasting := by simp [takeEntry]

@[simp] theorem lasting_finishWaited (op : Nat) (mb : Fin 8) (r : Req) (status : Nat) (rep : Reply) (s : State) :
    (finishWaited op mb r status rep s).lasting = s.lasting := by simp [finishWaited]

@[simp] theorem lasting_accept (op : Nat) (mb : Fin 8) (s : State) :
    (accept op mb s).lasting = s.lasting := by rfl

@[simp] theorem lasting_raiseHeldLatches (src : Nat) (s : State) :
    (raiseHeldLatches src s).lasting = s.lasting := by simp [raiseHeldLatches]

@[simp] theorem lasting_setSource (mask urgent : Bool) (s : State) (src : Nat) :
    (setSource mask urgent s src).lasting = s.lasting := by simp [setSource]

@[simp] theorem lasting_clearLatch (src no : Nat) (s : State) :
    (clearLatch src no s).lasting = s.lasting := by simp [clearLatch]

@[simp] theorem lasting_updateFull (s : State) :
    (updateFull s).lasting = s.lasting := by simp [updateFull]

@[simp] theorem lasting_setConfigErr (s : State) :
    (setConfigErr s).lasting = s.lasting := by simp [setConfigErr]

@[simp] theorem lasting_setTailErr (s : State) :
    (setTailErr s).lasting = s.lasting := by simp [setTailErr]

@[simp] theorem lasting_startRing (s : State) :
    (startRing s).lasting = s.lasting := by simp [startRing]

@[simp] theorem lasting_writeEvqCtrl (v : Word) (s : State) :
    (writeEvqCtrl v s).lasting = s.lasting := by simp [writeEvqCtrl]

@[simp] theorem lasting_writeTail (v : Word) (s : State) :
    (writeTail v s).lasting = s.lasting := by simp [writeTail]

@[simp] theorem lasting_countRecord (s : State) :
    (countRecord s).lasting = s.lasting := by simp [countRecord]

@[simp] theorem lasting_trackLatch (src no : Nat) (level : Int) (lowest : Bool) (s : State) :
    (trackLatch src no level lowest s).lasting = s.lasting := by simp [trackLatch]

@[simp] theorem lasting_pushPacket (i : Nat) (ws : List (BitVec 64)) (s : State) :
    (pushPacket i ws s).lasting = s.lasting := by simp [pushPacket]

@[simp] theorem lasting_popOne (i : Nat) (s : State) :
    (popOne i s).lasting = s.lasting := by
  unfold popOne
  split <;> simp

@[simp] theorem lasting_dropPoison (q consumer : Nat) (p : QPacket) (s : State) :
    (dropPoison q consumer p s).lasting = s.lasting := by rfl

@[simp] theorem lasting_writeHqCtrl (q : Nat) (v : Word) (s : State) :
    (writeHqCtrl q v s).lasting = s.lasting := by simp [writeHqCtrl]

@[simp] theorem lasting_pushHost (q : Nat) (last : Bool) (w : BitVec 64) (s : State) :
    (pushHost q last w s).lasting = s.lasting := by simp [pushHost]

@[simp] theorem lasting_writeHqData (q : Nat) (last : Bool) (d : DataAccess) (s : State) :
    (writeHqData q last d s).lasting = s.lasting := by
  unfold writeHqData
  split <;> simp

@[simp] theorem lasting_setKrn (x : KernDyn) (s : State) :
    (setKrn x s).lasting = s.lasting := by rfl

@[simp] theorem lasting_disableByDevice (id reason : Nat) (s : State) :
    (disableByDevice id reason s).lasting = s.lasting := by simp [disableByDevice]

@[simp] theorem lasting_krnBegin (i : Nat) (s : State) :
    (krnBegin i s).lasting = s.lasting := by rfl

@[simp] theorem lasting_krnEnd (i : Nat) (s : State) :
    (krnEnd i s).lasting = s.lasting := by rfl

@[simp] theorem lasting_krnStart (i : Nat) (s : State) :
    (krnStart i s).lasting = s.lasting := by rfl

@[simp] theorem lasting_krnSwitch (i m : Nat) (s : State) :
    (krnSwitch i m s).lasting = s.lasting := by rfl

@[simp] theorem lasting_krnLine (i l : Nat) (s : State) :
    (krnLine i l s).lasting = s.lasting := by simp [krnLine]

@[simp] theorem lasting_krnOutputs (r : Run) (s : State) :
    (krnOutputs r s).lasting = s.lasting := by rfl

@[simp] theorem lasting_krnEndRun (r : Run) (s : State) :
    (krnEndRun r s).lasting = s.lasting := by simp [krnEndRun]

@[simp] theorem lasting_krnTrap (i cause user off : Nat) (s : State) :
    (krnTrap i cause user off s).lasting = s.lasting := by simp [krnTrap]

@[simp] theorem lasting_setSlotImage (im : ImageSlot) (s : State) :
    (setSlotImage im s).lasting = s.lasting := by rfl

/-- A register that answers only while CODE is 7 changes no more than its own access does. -/
@[simp] theorem lasting_whenReady {k : State → State} (hk : ∀ s, (k s).lasting = s.lasting) (off : Nat) (s : State) :
    (s.whenReady off k).lasting = s.lasting := by simp [whenReady, hk]

@[simp] theorem lasting_takeHqWord (q : Nat) (s : State) : (s.takeHqWord q).2.lasting = s.lasting := by
  unfold takeHqWord
  dsimp only
  split
  case isTrue => rfl
  case isFalse => split <;> simp

@[simp] theorem lasting_readHqData (q : Nat) (d : DataAccess) (s : State) : (s.readHqData q d).lasting = s.lasting := by
  cases d <;> simp [readHqData]

theorem lasting_withQueues (s : State) (v : Vector HostQueue 16) :
    State.lasting { s with mem := { s.mem with queues := v } } = s.lasting := rfl

@[simp] theorem lasting_queueBlock (s : State) : s.queueBlock.lasting = s.lasting :=
  foldl_lasting (fun s i => (lasting_withQueues _ _).trans (by simp)) _ s

@[simp] theorem lasting_krnWraps (i : Nat) (l : List (Nat × Nat)) (s : State) : (s.krnWraps i l).lasting = s.lasting :=
  foldl_lasting (fun s x => by simp) _ s

@[simp] theorem lasting_krnFinish (i : Nat) (s : State) : (s.krnFinish i).lasting = s.lasting := by
  unfold krnFinish
  dsimp only
  split
  · simp
  · split <;> simp

@[simp] theorem lasting_instr (inst cls op : Nat) (w : IWord) (f : Op) (s : State) :
    (s.instr inst cls op w f).lasting = s.lasting := by
  unfold instr
  dsimp only
  repeat' split
  all_goals simp

theorem lasting_popPacket {i : Nat} {s t : State} {p : QPacket} (h : s.popPacket i = some (p, t)) : t.lasting = s.lasting := by
  unfold popPacket at h
  split at h
  case h_1 => cases h
  case h_2 =>
    cases h
    simp

end State

end Sys2Proof.Machine

/-! The frame of network time, of the front end and of the Gallery. -/

namespace Sys2Proof.Machine

namespace State

@[simp] theorem lasting_setServo (v : Servo) (s : State) :
    (setServo v s).lasting = s.lasting := by simp [setServo]

@[simp] theorem lasting_noteDues (l : List Action) (s : State) :
    (noteDues l s).lasting = s.lasting := by simp [noteDues]

@[simp] theorem lasting_syncSlabs (s : State) :
    (syncSlabs s).lasting = s.lasting := by rfl

@[simp] theorem lasting_restepActions (s : State) :
    (restepActions s).lasting = s.lasting := by simp [restepActions]

@[simp] theorem lasting_stepTime (delta : Int) (s : State) :
    (stepTime delta s).lasting = s.lasting := by simp [stepTime]

@[simp] theorem lasting_applyStep (s : State) :
    (applyStep s).lasting = s.lasting := by
  unfold applyStep
  split <;> simp

@[simp] theorem lasting_lockEpoch (s : State) :
    (lockEpoch s).lasting = s.lasting := by simp [lockEpoch]

@[simp] theorem lasting_measure (offset : Int) (s : State) :
    (measure offset s).lasting = s.lasting := by simp [measure]

@[simp] theorem lasting_acquire (s : State) :
    (acquire s).lasting = s.lasting := by simp [acquire]

@[simp] theorem lasting_parentChange (s : State) :
    (parentChange s).lasting = s.lasting := by simp [parentChange]

@[simp] theorem lasting_setPins (p : TimePins) (s : State) :
    (setPins p s).lasting = s.lasting := by simp [setPins]

@[simp] theorem lasting_setCfg (c : TimeCfg) (s : State) :
    (setCfg c s).lasting = s.lasting := by rfl

@[simp] theorem lasting_timeBoundary (s : State) :
    (timeBoundary s).lasting = s.lasting := by
  unfold timeBoundary
  dsimp only
  split <;> simp

@[simp] theorem lasting_freezeActions (s : State) :
    (freezeActions s).lasting = s.lasting := by simp [freezeActions]

@[simp] theorem lasting_ppsEdge (before : Nat) (s : State) :
    (ppsEdge before s).lasting = s.lasting := by
  unfold ppsEdge
  dsimp only
  repeat' split
  all_goals simp

@[simp] theorem lasting_netStep (s : State) : s.netStep.2.lasting = s.lasting := by
  by_cases hpull : s.time.pull = 0 <;> by_cases hsource : s.time.cfg.mediaSource = 0 <;> simp [netStep, hpull, hsource]

@[simp] theorem lasting_tickSample (s : State) : s.tickSample.lasting = s.lasting := by
  unfold tickSample
  dsimp only
  split
  case isTrue => rfl
  case isFalse => exact (lasting_ppsEdge _ _).trans (lasting_netStep _)

@[simp] theorem lasting_setTdm (t : TdmPort) (s : State) :
    (setTdm t s).lasting = s.lasting := by rfl

@[simp] theorem lasting_tdmClocksOn (p : Nat) (s : State) :
    (tdmClocksOn p s).lasting = s.lasting := by simp [tdmClocksOn]

@[simp] theorem lasting_tdmStartAt (p m : Nat) (s : State) :
    (tdmStartAt p m s).lasting = s.lasting := by simp [tdmStartAt]

@[simp] theorem lasting_tdmPortBegin (p m : Nat) (s : State) :
    (tdmPortBegin p m s).lasting = s.lasting := by simp [tdmPortBegin]

@[simp] theorem lasting_tdmPortEnd (p : Nat) (s : State) :
    (tdmPortEnd p s).lasting = s.lasting := by
  unfold tdmPortEnd
  split <;> simp

@[simp] theorem lasting_tdmClock (kind phase : Nat) (p : Nat) (s : State) :
    (tdmClock kind phase p s).lasting = s.lasting := by simp [tdmClock]

@[simp] theorem lasting_tdmSlip (kind m slips : Nat) (p : Nat) (s : State) :
    (tdmSlip kind m slips p s).lasting = s.lasting := by simp [tdmSlip]

@[simp] theorem lasting_tdmFirst (t : TdmPort) (q phase : Nat) (s : State) :
    (tdmFirst t q phase s).lasting = s.lasting := by
  unfold tdmFirst
  split <;> simp

@[simp] theorem lasting_tdmFast (t : TdmPort) (phase : Nat) (s : State) :
    (tdmFast t phase s).lasting = s.lasting := by simp [tdmFast]

@[simp] theorem lasting_tdmLength (p q bits : Nat) (fast : Bool) (s : State) :
    (tdmLength p q bits fast s).lasting = s.lasting := by simp [tdmLength]

@[simp] theorem lasting_tdmPortIn (io : BlockIn) (s : State) (t : TdmPort) :
    (tdmPortIn io s t).lasting = s.lasting := by simp [tdmPortIn]

@[simp] theorem lasting_tdmLatchBlock (s : State) :
    (tdmLatchBlock s).lasting = s.lasting := by simp [tdmLatchBlock]

@[simp] theorem lasting_setMic (x : Mic) (s : State) :
    (setMic x s).lasting = s.lasting := by rfl

@[simp] theorem lasting_micStart (i m : Nat) (s : State) :
    (micStart i m s).lasting = s.lasting := by rfl

@[simp] theorem lasting_groupStart (g m : Nat) (s : State) :
    (groupStart g m s).lasting = s.lasting := by simp [groupStart]

@[simp] theorem lasting_micBegin (i m : Nat) (s : State) :
    (micBegin i m s).lasting = s.lasting := by simp [micBegin]

@[simp] theorem lasting_micEnd (i : Nat) (s : State) :
    (micEnd i s).lasting = s.lasting := by simp [micEnd]

@[simp] theorem lasting_swapEvent (i kind src dst replaced m : Nat) (s : State) :
    (swapEvent i kind src dst replaced m s).lasting = s.lasting := by simp [swapEvent]

@[simp] theorem lasting_micRespond (i resp m : Nat) (s : State) :
    (micRespond i resp m s).lasting = s.lasting := by
  unfold micRespond
  dsimp only
  repeat' split
  all_goals simp

@[simp] theorem lasting_micFadeEnd (i m : Nat) (s : State) :
    (micFadeEnd i m s).lasting = s.lasting := by
  unfold micFadeEnd
  dsimp only
  repeat' split
  all_goals simp

@[simp] theorem lasting_micResets (first count m : Nat) (s : State) :
    (micResets first count m s).lasting = s.lasting := by simp [micResets]

@[simp] theorem lasting_pdmValid (i kind m : Nat) (s : State) :
    (pdmValid i kind m s).lasting = s.lasting := by
  unfold pdmValid
  split <;> simp

@[simp] theorem lasting_handOver (i m : Nat) (s : State) :
    (handOver i m s).lasting = s.lasting := by
  unfold handOver
  split <;> simp

@[simp] theorem lasting_micBlock (io : BlockIn) (s : State) (x : Mic) :
    (micBlock io s x).lasting = s.lasting := by rfl

@[simp] theorem lasting_setGal (g : Gallery) (s : State) :
    (setGal g s).lasting = s.lasting := by rfl

@[simp] theorem lasting_queueLatch (before : Nat) (s : State) :
    (queueLatch before s).lasting = s.lasting := by simp [queueLatch]

@[simp] theorem lasting_galChange (o i m : Nat) (e : BitVec 32) (s : State) :
    (galChange o i m e s).lasting = s.lasting := by rfl

@[simp] theorem lasting_setGalOut (x : GalOut) (s : State) :
    (setGalOut x s).lasting = s.lasting := by rfl

@[simp] theorem lasting_galOutBegin (o : Nat) (s : State) :
    (galOutBegin o s).lasting = s.lasting := by rfl

@[simp] theorem lasting_galOutEnd (o : Nat) (s : State) :
    (galOutEnd o s).lasting = s.lasting := by rfl

@[simp] theorem lasting_galStandby (s : State) :
    (galStandby s).lasting = s.lasting := by rfl

@[simp] theorem lasting_portStep (o k : Nat) (sum : Int) (s : State) :
    (portStep o k sum s).lasting = s.lasting := by rfl

@[simp] theorem lasting_galPort (k : Nat) (s : State) (o : Nat) :
    (galPort k s o).lasting = s.lasting := by
  unfold galPort
  dsimp only
  split <;> rfl

@[simp] theorem lasting_unproduce (id : Nat) (s : State) :
    (unproduce id s).lasting = s.lasting := by rfl

@[simp] theorem lasting_redoPort (o i : Nat) (s : State) :
    (redoPort o i s).lasting = s.lasting := by simp [redoPort]

@[simp] theorem lasting_galSample (k : Nat) (s : State) :
    (galSample k s).lasting = s.lasting := by simp [galSample]

@[simp] theorem lasting_galBlock (s : State) :
    (galBlock s).lasting = s.lasting := by simp [galBlock]

@[simp] theorem lasting_rampEnd (o i : Nat) (s : State) :
    (rampEnd o i s).lasting = s.lasting := by
  unfold rampEnd
  split <;> rfl

@[simp] theorem lasting_xpCorrected (o i : Nat) (s : State) :
    (xpCorrected o i s).lasting = s.lasting := by simp [xpCorrected]

@[simp] theorem lasting_zeroEntry (o i : Nat) (s : State) :
    (zeroEntry o i s).lasting = s.lasting := by rfl

@[simp] theorem lasting_xpUncorrectable (o i : Nat) (s : State) :
    (xpUncorrectable o i s).lasting = s.lasting := by simp [xpUncorrectable]

@[simp] theorem lasting_placePorts (kept moving : List Nat) (s : State) :
    (placePorts kept moving s).lasting = s.lasting := by rfl

@[simp] theorem lasting_replacePorts (before : Nat) (s : State) :
    (replacePorts before s).lasting = s.lasting := by rfl

@[simp] theorem lasting_xpRun (o first : Nat) (entries : List Nat) (s : State) :
    (xpRun o first entries s).lasting = s.lasting := by simp [xpRun]

@[simp] theorem lasting_tdmSlow (p : Nat) (l : List Nat) (s : State) : (State.tdmSlow p l s).lasting = s.lasting := by
  induction l generalizing s with
  | nil => rfl
  | cons q r ih => simp [tdmSlow, ih]

@[simp] theorem lasting_tdmFrameIn (t : TdmPort) (bits q phase : Nat) (s : State) :
    (s.tdmFrameIn t bits q phase).lasting = s.lasting := by
  unfold tdmFrameIn
  split <;> simp

@[simp] theorem lasting_tdmPortOut (s : State) (t : TdmPort) : (s.tdmPortOut t).lasting = s.lasting := by
  unfold tdmPortOut
  dsimp only
  exact lasting_of_ite (foldl_lasting (fun u ch => by split <;> rfl) _ s) rfl

@[simp] theorem lasting_frontBlock (io : BlockIn) (s : State) : (s.frontBlock io).lasting = s.lasting := by
  unfold frontBlock
  dsimp only
  simp

end State

end Sys2Proof.Machine

/-! The frame of the renderer, of the loudspeaker stage and of capture. -/

namespace Sys2Proof.Machine

namespace State

@[simp] theorem lasting_setRen (r : Renderer) (s : State) :
    (setRen r s).lasting = s.lasting := by rfl

@[simp] theorem lasting_setObj (x : ObjDyn) (s : State) :
    (setObj x s).lasting = s.lasting := by rfl

@[simp] theorem lasting_updateMembers (pick : Nat → Bool) (cause : Nat → List Nat → Nat) (m : Nat) (s : State) :
    (updateMembers pick cause m s).lasting = s.lasting := by simp [updateMembers]

@[simp] theorem lasting_zoneBoundary (s : State) :
    (zoneBoundary s).lasting = s.lasting := by simp [zoneBoundary]

@[simp] theorem lasting_countLate (o n : Nat) (s : State) :
    (countLate o n s).lasting = s.lasting := by simp [countLate]

@[simp] theorem lasting_makeRecord (o start : Nat) (s : State) :
    (makeRecord o start s).lasting = s.lasting := by simp [makeRecord]

@[simp] theorem lasting_dropRecord (o : Nat) (s : State) :
    (dropRecord o s).lasting = s.lasting := by
  unfold dropRecord
  split <;> rfl

@[simp] theorem lasting_recordAll (s : State) :
    (recordAll s).lasting = s.lasting := by simp [recordAll]

@[simp] theorem lasting_zoneChange (cause idx : Nat) (s : State) :
    (zoneChange cause idx s).lasting = s.lasting := by simp [zoneChange]

@[simp] theorem lasting_renHook (id : Nat) (on : Bool) (s : State) :
    (renHook id on s).lasting = s.lasting := by simp [renHook]

@[simp] theorem lasting_recordLatches (o m : Nat) (clamps : List (Nat × Int)) (deferred : Nat) (s : State) :
    (recordLatches o m clamps deferred s).lasting = s.lasting := by simp [recordLatches]

@[simp] theorem lasting_startRecord (o m : Nat) (pos : Bytes) (keep : GeoRec → Bool) (s : State) :
    (startRecord o m pos keep s).lasting = s.lasting := by simp [startRecord]

@[simp] theorem lasting_startPending (o m : Nat) (s : State) :
    (startPending o m s).lasting = s.lasting := by
  unfold startPending
  split <;> simp

@[simp] theorem lasting_objBegin (o m : Nat) (s : State) : (s.objBegin o m).lasting = s.lasting := by
  unfold objBegin
  simp

@[simp] theorem lasting_objEnd (o : Nat) (s : State) :
    (objEnd o s).lasting = s.lasting := by
  unfold objEnd
  split <;> rfl

@[simp] theorem lasting_renStandby (s : State) :
    (renStandby s).lasting = s.lasting := by rfl

@[simp] theorem lasting_feedOut (s : State) (x : Nat × Int) :
    (feedOut s x).lasting = s.lasting := by simp [feedOut]

theorem lasting_foldl_snd {α β : Type} {f : α × State → β → α × State} (hf : ∀ a x, (f a x).2.lasting = a.2.lasting) (l : List β)
    (a : α × State) : (l.foldl f a).2.lasting = a.2.lasting := by
  induction l generalizing a with
  | nil => rfl
  | cons x l ih => exact (ih _).trans (hf a x)

@[simp] theorem lasting_objSample (k : Nat) (acc : List (Nat × Int) × State) (o : Nat) :
    (objSample k acc o).2.lasting = acc.2.lasting := lasting_setObj _ _

@[simp] theorem lasting_renSample (k : Nat) (s : State) : (s.renSample k).lasting = s.lasting := by
  unfold renSample
  dsimp only
  split
  case isTrue => exact (foldl_lasting lasting_feedOut _ _).trans (lasting_foldl_snd (lasting_objSample k) _ _)
  case isFalse => rfl

@[simp] theorem lasting_renBlock (s : State) :
    (renBlock s).lasting = s.lasting := by simp [renBlock]

@[simp] theorem lasting_freeFading (o k : Nat) (s : State) :
    (freeFading o k s).lasting = s.lasting := by rfl

@[simp] theorem lasting_placeObject (s : State) (e : Nat × Bytes × Nat) :
    (placeObject s e).lasting = s.lasting := by simp [placeObject]

@[simp] theorem lasting_applyBatch (p : Bytes) (s : State) :
    (applyBatch p s).lasting = s.lasting := by simp [applyBatch]

@[simp] theorem lasting_discardPacket (q : Nat) (p : Bytes) (k : Nat) (s : State) :
    (discardPacket q p k s).lasting = s.lasting := by simp [discardPacket]

@[simp] theorem lasting_applyPacket (q : Nat) (p : Bytes) (s : State) :
    (applyPacket q p s).lasting = s.lasting := by simp [applyPacket]

@[simp] theorem lasting_packetDone (s : State) :
    (packetDone s).lasting = s.lasting := by rfl

@[simp] theorem lasting_setSpk (x : SpkDyn) (s : State) :
    (setSpk x s).lasting = s.lasting := by rfl

@[simp] theorem lasting_spkClip (k peak : Nat) (s : State) :
    (spkClip k peak s).lasting = s.lasting := by rfl

@[simp] theorem lasting_spkSample (j : Nat) (s : State) (k : Nat) :
    (spkSample j s k).lasting = s.lasting := by simp [spkSample]

@[simp] theorem lasting_zoneSample (s : State) (z : Nat) :
    (zoneSample s z).lasting = s.lasting := by rfl

@[simp] theorem lasting_stageSample (j : Nat) (s : State) :
    (stageSample j s).lasting = s.lasting := by simp [stageSample]

@[simp] theorem lasting_stageBlock (s : State) :
    (stageBlock s).lasting = s.lasting := by simp [stageBlock]

@[simp] theorem lasting_bankEvent (k kind src dst replaced m : Nat) (s : State) :
    (bankEvent k kind src dst replaced m s).lasting = s.lasting := by simp [bankEvent]

@[simp] theorem lasting_bankFadeEnd (k m : Nat) (s : State) :
    (bankFadeEnd k m s).lasting = s.lasting := by
  unfold bankFadeEnd
  dsimp only
  split
  · simp
  · split <;> simp

@[simp] theorem lasting_swapBank (k v m : Nat) (s : State) :
    (swapBank k v m s).lasting = s.lasting := by
  unfold swapBank
  dsimp only
  split
  · simp
  · split <;> simp

@[simp] theorem lasting_delayFadeEnd (k : Nat) (s : State) :
    (delayFadeEnd k s).lasting = s.lasting := by
  unfold delayFadeEnd
  dsimp only
  split
  · simp
  · split <;> simp

@[simp] theorem lasting_moveDelay (k : Nat) (s : State) :
    (moveDelay k s).lasting = s.lasting := by
  unfold moveDelay
  dsimp only
  split <;> simp

@[simp] theorem lasting_moveGain (k : Nat) (s : State) :
    (moveGain k s).lasting = s.lasting := by simp [moveGain]

@[simp] theorem lasting_spkRest (k : Nat) (s : State) :
    (spkRest k s).lasting = s.lasting := by rfl

@[simp] theorem lasting_spkChanged (k pid v m : Nat) (s : State) :
    (spkChanged k pid v m s).lasting = s.lasting := by simp [spkChanged]

@[simp] theorem lasting_spkBegin (k : Nat) (s : State) :
    (spkBegin k s).lasting = s.lasting := by rfl

@[simp] theorem lasting_spkSettle (k : Nat) (s : State) :
    (spkSettle k s).lasting = s.lasting := by simp [spkSettle]

@[simp] theorem lasting_spkEnd (k : Nat) (s : State) :
    (spkEnd k s).lasting = s.lasting := by simp [spkEnd]

@[simp] theorem lasting_spkStandby (s : State) :
    (spkStandby s).lasting = s.lasting := by simp [spkStandby]

@[simp] theorem lasting_bankWordLost (k b i : Nat) (s : State) :
    (bankWordLost k b i s).lasting = s.lasting := by rfl

@[simp] theorem lasting_historyLost (k i : Nat) (s : State) :
    (historyLost k i s).lasting = s.lasting := by rfl

@[simp] theorem lasting_lineLost (k i : Nat) (s : State) :
    (lineLost k i s).lasting = s.lasting := by rfl

@[simp] theorem lasting_setBeam (x : BeamDyn) (s : State) :
    (setBeam x s).lasting = s.lasting := by rfl

@[simp] theorem lasting_micFilterChanged (b : Nat) (s : State) :
    (micFilterChanged b s).lasting = s.lasting := by
  unfold micFilterChanged
  dsimp only
  repeat' split
  all_goals simp

@[simp] theorem lasting_filterFadeEnd (b : Nat) (s : State) :
    (filterFadeEnd b s).lasting = s.lasting := by simp [filterFadeEnd]

@[simp] theorem lasting_beamSample (j : Nat) (s : State) (b : Nat) :
    (beamSample j s b).lasting = s.lasting := by simp [beamSample]

@[simp] theorem lasting_captureSample (j : Nat) (s : State) :
    (captureSample j s).lasting = s.lasting := by simp [captureSample]

@[simp] theorem lasting_refIdleEvent (b r kind m : Nat) (s : State) :
    (refIdleEvent b r kind m s).lasting = s.lasting := by simp [refIdleEvent]

@[simp] theorem lasting_refBlock (b : Nat) (s : State) (r : Nat) :
    (refBlock b s r).lasting = s.lasting := by simp [refBlock]

@[simp] theorem lasting_beamBlock (s : State) (b : Nat) :
    (beamBlock s b).lasting = s.lasting := by simp [beamBlock]

@[simp] theorem lasting_setLocGroup (g : Nat) (v : LocGroup) (s : State) :
    (setLocGroup g v s).lasting = s.lasting := by rfl

@[simp] theorem lasting_setLeader (g : Nat) (leader : Option Nat) (m : Nat) (s : State) :
    (setLeader g leader m s).lasting = s.lasting := by simp [setLeader]

@[simp] theorem lasting_locBlock (s : State) (g : Nat) :
    (locBlock s g).lasting = s.lasting := by
  unfold locBlock
  dsimp only
  split <;> simp

@[simp] theorem lasting_dropLeaders (m : Nat) (s : State) : (s.dropLeaders m).lasting = s.lasting := by
  refine foldl_lasting (fun u g => ?_) _ s
  split
  case h_1 => split <;> simp
  case h_2 => rfl

@[simp] theorem lasting_captureBlock (s : State) :
    (captureBlock s).lasting = s.lasting := by simp [captureBlock]

@[simp] theorem lasting_adapt (b : Nat) (s : State) :
    (adapt b s).lasting = s.lasting := by simp [adapt]

@[simp] theorem lasting_reconverge (b r cause m : Nat) (clear : Bool) (s : State) :
    (reconverge b r cause m clear s).lasting = s.lasting := by simp [reconverge]

@[simp] theorem lasting_refDue (b r cause m : Nat) (clear : Bool) (s : State) :
    (refDue b r cause m clear s).lasting = s.lasting := by rfl

@[simp] theorem lasting_aecMembership (m : Nat) (s : State) (z : Nat) :
    (aecMembership m s z).lasting = s.lasting := by simp [aecMembership]

@[simp] theorem lasting_aecZoneGain (z : Nat) (g1 g2 : Int) (m : Nat) (s : State) :
    (aecZoneGain z g1 g2 m s).lasting = s.lasting := by simp [aecZoneGain]

@[simp] theorem lasting_aecSources (before : List Conn) (m : Nat) (s : State) :
    (aecSources before m s).lasting = s.lasting := by simp [aecSources]

@[simp] theorem lasting_aecReset (b mask m : Nat) (s : State) :
    (aecReset b mask m s).lasting = s.lasting := by simp [aecReset]

@[simp] theorem lasting_diverge (b : Nat) (s : State) :
    (diverge b s).lasting = s.lasting := by simp [diverge]

@[simp] theorem lasting_beamBegin (b m : Nat) (s : State) :
    (beamBegin b m s).lasting = s.lasting := by rfl

@[simp] theorem lasting_beamEnd (b m : Nat) (s : State) : (s.beamEnd b m).lasting = s.lasting :=
  (lasting_dropLeaders _ _).trans (lasting_setBeam _ _)

@[simp] theorem lasting_captureStandby (s : State) :
    (captureStandby s).lasting = s.lasting := by simp [captureStandby]

end State

end Sys2Proof.Machine

/-! The frame of Ethernet frames, of streams and of voice channels. -/

namespace Sys2Proof.Machine

namespace State

@[simp] theorem lasting_setPort (p : Nat) (x : EthPort) (s : State) :
    (setPort p x s).lasting = s.lasting := by rfl

@[simp] theorem lasting_countPort (p : Nat) (f : EthCount → EthCount) (s : State) :
    (countPort p f s).lasting = s.lasting := by rfl

@[simp] theorem lasting_sendFrame (p i : Nat) (own : Bool) (b : Bytes) (s : State) :
    (sendFrame p i own b s).lasting = s.lasting := by simp [sendFrame]

@[simp] theorem lasting_setCall (x : CallDyn) (s : State) :
    (setCall x s).lasting = s.lasting := by rfl

@[simp] theorem lasting_askHop (p i : Nat) (ip : Bytes) (s : State) :
    (askHop p i ip s).lasting = s.lasting := by simp [askHop]

@[simp] theorem lasting_setStream (x : StreamDyn) (s : State) :
    (setStream x s).lasting = s.lasting := by rfl

@[simp] theorem lasting_noteStream (n seq : Nat) (s : State) :
    (noteStream n seq s).lasting = s.lasting := by simp [noteStream]

@[simp] theorem lasting_routeEvent (n kind : Nat) (s : State) :
    (routeEvent n kind s).lasting = s.lasting := by simp [routeEvent]

@[simp] theorem lasting_setHop (n : Nat) (mac : Bytes) (s : State) :
    (setHop n mac s).lasting = s.lasting := by simp [setHop]

@[simp] theorem lasting_resolve (n : Nat) (s : State) :
    (resolve n s).lasting = s.lasting := by
  unfold resolve
  dsimp only
  repeat' split
  all_goals simp

@[simp] theorem lasting_useHop (h : Hop) (s : State) :
    (useHop h s).lasting = s.lasting := by rfl

@[simp] theorem lasting_resolved (h : Hop) (s : State) :
    (resolved h s).lasting = s.lasting := by simp [resolved]

@[simp] theorem lasting_learn (p i : Nat) (ip mac : Bytes) (s : State) :
    (learn p i ip mac s).lasting = s.lasting := by simp [learn]

@[simp] theorem lasting_refreshHop (n : Nat) (s : State) :
    (refreshHop n s).lasting = s.lasting := by
  unfold refreshHop
  dsimp only
  split
  · simp
  · split <;> simp

@[simp] theorem lasting_report (p i : Nat) (join : Bool) (source : Option Bytes) (group : Bytes) (s : State) :
    (report p i join source group s).lasting = s.lasting := by simp [report]

@[simp] theorem lasting_join (n : Nat) (s : State) :
    (join n s).lasting = s.lasting := by
  unfold join
  split <;> simp

@[simp] theorem lasting_leave (n : Nat) (s : State) :
    (leave n s).lasting = s.lasting := by
  unfold leave
  split <;> simp

@[simp] theorem lasting_keyEvent (n dir kind index : Nat) (s : State) :
    (keyEvent n dir kind index s).lasting = s.lasting := by simp [keyEvent]

@[simp] theorem lasting_emitStream (n : Nat) (b : Bytes) (s : State) :
    (emitStream n b s).lasting = s.lasting := by simp [emitStream]

@[simp] theorem lasting_sendRtp (n : Nat) (marker : Bool) (pt ts : Nat) (payload : Bytes) (s : State) :
    (sendRtp n marker pt ts payload s).lasting = s.lasting := by
  unfold sendRtp
  dsimp only
  split <;> simp

@[simp] theorem lasting_sendRtcp (n : Nat) (bye : Bool) (s : State) :
    (sendRtcp n bye s).lasting = s.lasting := by
  unfold sendRtcp
  dsimp only
  split <;> simp

@[simp] theorem lasting_drawRtcp (n : Nat) (s : State) :
    (drawRtcp n s).lasting = s.lasting := by rfl

@[simp] theorem lasting_countStream (n : Nat) (f : StreamCount → StreamCount) (s : State) :
    (countStream n f s).lasting = s.lasting := by rfl

@[simp] theorem lasting_countLoss (n k : Nat) (s : State) :
    (countLoss n k s).lasting = s.lasting := by simp [countLoss]

@[simp] theorem lasting_countAuth (n : Nat) (s : State) :
    (countAuth n s).lasting = s.lasting := by rfl

@[simp] theorem lasting_discardPkt (n : Nat) (s : State) :
    (discardPkt n s).lasting = s.lasting := by rfl

@[simp] theorem lasting_heard (n : Nat) (s : State) :
    (heard n s).lasting = s.lasting := by simp [heard]

@[simp] theorem lasting_jbRestart (n cause : Nat) (s : State) :
    (jbRestart n cause s).lasting = s.lasting := by simp [jbRestart]

@[simp] theorem lasting_jbTake (n c : Nat) (p : JbPacket) (s : State) :
    (jbTake n c p s).lasting = s.lasting := by rfl

@[simp] theorem lasting_jbOffer (n : Nat) (p : JbPacket) (s : State) :
    (jbOffer n p s).lasting = s.lasting := by simp [jbOffer]

@[simp] theorem lasting_jbRelease (n : Nat) (s : State) : (s.jbRelease n).2.2.lasting = s.lasting := by
  unfold jbRelease
  extract_lets
  split
  case isTrue => rfl
  case isFalse =>
    split
    case isTrue => exact lasting_setStream _ _
    case isFalse =>
      dsimp only
      split <;> split <;> exact lasting_setStream _ _

@[simp] theorem lasting_ssrcRule (n ssrc : Nat) (s : State) :
    (ssrcRule n ssrc s).2.lasting = s.lasting := by
  unfold ssrcRule
  dsimp only
  repeat' split
  all_goals simp

@[simp] theorem lasting_unprotect (n seq : Nat) (b : Bytes) (s : State) :
    (unprotect n seq b s).2.lasting = s.lasting := by
  unfold unprotect
  dsimp only
  split
  · simp
  · split <;> simp

@[simp] theorem lasting_rtpMedia (n : Nat) (b : Bytes) (s : State) :
    (rtpMedia n b s).lasting = s.lasting := by
  unfold rtpMedia
  dsimp only
  split <;> simp

@[simp] theorem lasting_unprotectRtcp (n : Nat) (b : Bytes) (s : State) :
    (unprotectRtcp n b s).2.lasting = s.lasting := by
  unfold unprotectRtcp
  dsimp only
  repeat' split
  all_goals simp

@[simp] theorem lasting_rtcpIn (n : Nat) (b : Bytes) (s : State) :
    (rtcpIn n b s).lasting = s.lasting := by
  unfold rtcpIn
  dsimp only
  split <;> simp

@[simp] theorem lasting_aesMedia (n : Nat) (b : Bytes) (inMargin : Bool) (s : State) :
    (aesMedia n b inMargin s).lasting = s.lasting := by
  unfold aesMedia
  dsimp only
  split <;> simp

@[simp] theorem lasting_aesInBlock (s : State) (n : Nat) :
    (aesInBlock s n).lasting = s.lasting := by simp [aesInBlock]

@[simp] theorem lasting_aesGather (j : Nat) (s : State) (n : Nat) :
    (aesGather j s n).lasting = s.lasting := by simp [aesGather]

@[simp] theorem lasting_streamBegin (n m : Nat) (s : State) :
    (streamBegin n m s).lasting = s.lasting := by simp [streamBegin]

@[simp] theorem lasting_streamEnd (n : Nat) (s : State) :
    (streamEnd n s).lasting = s.lasting := by simp [streamEnd]

@[simp] theorem lasting_streamsStandby (s : State) :
    (streamsStandby s).lasting = s.lasting := by rfl

@[simp] theorem lasting_streamsResume (m : Nat) (s : State) :
    (streamsResume m s).lasting = s.lasting := by rfl

@[simp] theorem lasting_remoteChanged (n : Nat) (s : State) :
    (remoteChanged n s).lasting = s.lasting := by simp [remoteChanged]

@[simp] theorem lasting_callGain (c pid : Nat) (s : State) :
    (callGain c pid s).lasting = s.lasting := by simp [callGain]

@[simp] theorem lasting_lecEvent (c kind : Nat) (s : State) :
    (lecEvent c kind s).lasting = s.lasting := by simp [lecEvent]

@[simp] theorem lasting_lecDepth (c : Nat) (d : DepthChange) (s : State) :
    (lecDepth c d s).lasting = s.lasting := by
  unfold lecDepth
  dsimp only
  split
  · simp
  · split <;> simp

@[simp] theorem lasting_countConceal (c : Nat) (s : State) :
    (countConceal c s).lasting = s.lasting := by rfl

@[simp] theorem lasting_rxFresh (c : Nat) (s : State) :
    (rxFresh c s).lasting = s.lasting := by simp [rxFresh]

@[simp] theorem lasting_receiveAudio (c n : Nat) (r : Release) (s : State) :
    (receiveAudio c n r s).2.lasting = s.lasting := by
  unfold receiveAudio
  dsimp only
  repeat' split
  all_goals simp

@[simp] theorem lasting_cancelEcho (c at_ : Nat) (xs : List Int) (s : State) :
    (cancelEcho c at_ xs s).2.lasting = s.lasting := by
  unfold cancelEcho
  dsimp only
  split <;> rfl

@[simp] theorem lasting_playoutNow (c m : Nat) (s : State) :
    (playoutNow c m s).2.lasting = s.lasting := by
  unfold playoutNow
  dsimp only
  split
  · split <;> simp
  · simp

@[simp] theorem lasting_receiveWith (c m : Nat) (r : Release) (depth : DepthChange) (s : State) :
    (receiveWith c m r depth s).lasting = s.lasting := by
  unfold receiveWith
  split <;> simp

@[simp] theorem lasting_receiveFrame (c : Nat) (s : State) : (s.receiveFrame c).lasting = s.lasting := by
  unfold receiveFrame
  split
  case h_1 => simp
  case h_2 n _ _ =>
    have h := lasting_jbRelease n (s.rxFresh c)
    rw [lasting_rxFresh] at h
    simp [h]

@[simp] theorem lasting_digitDone (c code status m : Nat) (s : State) :
    (digitDone c code status m s).lasting = s.lasting := by simp [digitDone]

@[simp] theorem lasting_digitEnd (c m : Nat) (s : State) :
    (digitEnd c m s).lasting = s.lasting := by
  unfold digitEnd
  dsimp only
  split <;> simp

@[simp] theorem lasting_digitOver (c : Nat) (s : State) :
    (digitOver c s).lasting = s.lasting := by
  unfold digitOver
  split <;> simp

@[simp] theorem lasting_beginFrame (c : Nat) (s : State) :
    (beginFrame c s).2.lasting = s.lasting := by rfl

@[simp] theorem lasting_planFrame (c : Nat) (s : State) :
    (planFrame c s).2.lasting = s.lasting := by
  unfold planFrame
  dsimp only
  split
  · simp
  · split <;> simp

@[simp] theorem lasting_callSample (j : Nat) (s : State) (c : Nat) :
    (callSample j s c).lasting = s.lasting := by simp [callSample]

@[simp] theorem lasting_callsSample (j : Nat) (s : State) :
    (callsSample j s).lasting = s.lasting := by simp [callsSample]

@[simp] theorem lasting_callSend (c : Nat) (s : State) :
    (callSend c s).lasting = s.lasting := by
  unfold callSend
  dsimp only
  repeat' split
  all_goals simp

@[simp] theorem lasting_dropDigits (c : Nat) (s : State) :
    (dropDigits c s).lasting = s.lasting := by simp [dropDigits]

@[simp] theorem lasting_cancelDigits (c : Nat) (s : State) :
    (cancelDigits c s).lasting = s.lasting := by
  unfold cancelDigits
  dsimp only
  split <;> simp

@[simp] theorem lasting_lecCleared (c : Nat) (s : State) :
    (lecCleared c s).lasting = s.lasting := by simp [lecCleared]

@[simp] theorem lasting_eventRx (c kind : Nat) (e : RxEvent) (s : State) :
    (eventRx c kind e s).lasting = s.lasting := by simp [eventRx]

@[simp] theorem lasting_eventIn (c : Nat) (p : JbPacket) (s : State) :
    (eventIn c p s).lasting = s.lasting := by
  unfold eventIn
  dsimp only
  split
  · simp
  · split <;> simp

@[simp] theorem lasting_drainEvents (n : Nat) (s : State) :
    (drainEvents n s).lasting = s.lasting := by
  unfold drainEvents
  dsimp only
  split <;> simp

@[simp] theorem lasting_setTone (x : ToneDyn) (s : State) :
    (setTone x s).lasting = s.lasting := by rfl

@[simp] theorem lasting_callBegin (c : Nat) (s : State) :
    (callBegin c s).lasting = s.lasting := by rfl

@[simp] theorem lasting_callEnd (c : Nat) (s : State) :
    (callEnd c s).lasting = s.lasting := by rfl

@[simp] theorem lasting_toneBegin (d : Nat) (s : State) :
    (toneBegin d s).lasting = s.lasting := by rfl

@[simp] theorem lasting_codecChanged (c : Nat) (s : State) :
    (codecChanged c s).lasting = s.lasting := by simp [codecChanged]

@[simp] theorem lasting_lecMoved (c old : Nat) (s : State) :
    (lecMoved c old s).lasting = s.lasting := by rfl

@[simp] theorem lasting_voiceStandby (s : State) : s.voiceStandby.lasting = s.lasting := by
  unfold voiceStandby
  refine (foldl_lasting (fun u c => ?_) _ _).trans rfl
  dsimp only
  rw [lasting_setCall]
  split
  case h_1 => split <;> simp
  case h_2 => simp

@[simp] theorem lasting_voiceBlock (s : State) :
    (voiceBlock s).lasting = s.lasting := by simp [voiceBlock]

end State

end Sys2Proof.Machine

/-! The frame of the Ethernet ports, of host blocks and of the pair. -/

namespace Sys2Proof.Machine

namespace State

@[simp] theorem lasting_hostDrop (p : Nat) (s : State) :
    (hostDrop p s).lasting = s.lasting := by rfl

@[simp] theorem lasting_toHost (p row : Nat) (b : Bytes) (s : State) :
    (toHost p row b s).lasting = s.lasting := by simp [toHost]

@[simp] theorem lasting_discardFrame (p : Nat) (s : State) :
    (discardFrame p s).lasting = s.lasting := by rfl

@[simp] theorem lasting_rxError (p : Nat) (s : State) :
    (rxError p s).lasting = s.lasting := by rfl

@[simp] theorem lasting_addrConflict (p i family : Nat) (mac : Bytes) (s : State) :
    (addrConflict p i family mac s).lasting = s.lasting := by simp [addrConflict]

@[simp] theorem lasting_arpIn (p i : Nat) (b : Bytes) (s : State) :
    (arpIn p i b s).lasting = s.lasting := by simp [arpIn]

@[simp] theorem lasting_advertise (p i : Nat) (mac src dst : Bytes) (solicited : Bool) (dmac : Bytes) (s : State) :
    (advertise p i mac src dst solicited dmac s).lasting = s.lasting := by simp [advertise]

@[simp] theorem lasting_ndIn (p i : Nat) (pkt : Ip) (src : Bytes) (s : State) :
    (ndIn p i pkt src s).lasting = s.lasting := by simp [ndIn]

@[simp] theorem lasting_echoIn (p i row : Nat) (pkt : Ip) (frame : Parsed) (raw : Bytes) (s : State) :
    (echoIn p i row pkt frame raw s).lasting = s.lasting := by simp [echoIn]

@[simp] theorem lasting_streamIn (n : Nat) (rtcp inMargin : Bool) (pkt : Ip) (s : State) :
    (s.streamIn n rtcp inMargin pkt).lasting = s.lasting := by
  unfold streamIn
  dsimp only
  split
  case isTrue => rfl
  case isFalse =>
    split
    case isTrue => split <;> simp
    case isFalse => simp

@[simp] theorem lasting_classify (p : Nat) (b : Bytes) (inMargin : Bool) (s : State) :
    (s.classify p b inMargin).lasting = s.lasting := by
  unfold classify
  extract_lets f
  refine lasting_of_ite (lasting_of_ite (by simp) (by simp)) (lasting_of_ite (by simp) ?_)
  refine lasting_of_ite rfl (lasting_of_ite (by simp) ?_)
  split
  case h_1 => simp
  case h_2 =>
    refine lasting_of_ite (by simp) (lasting_of_ite (by simp) (lasting_of_ite (by simp) (lasting_of_ite (by simp) ?_)))
    refine lasting_of_ite (by simp) (lasting_of_ite (by simp) (lasting_of_ite (by simp) (lasting_of_ite rfl ?_)))
    split
    case h_1 => simp
    case h_2 => simp

@[simp] theorem lasting_linkEvent (p : Nat) (up : Bool) (s : State) :
    (linkEvent p up s).lasting = s.lasting := by simp [linkEvent]

@[simp] theorem lasting_portDown (p : Nat) (s : State) :
    (portDown p s).lasting = s.lasting := by rfl

@[simp] theorem lasting_portEnd (p : Nat) (s : State) :
    (portEnd p s).lasting = s.lasting := by simp [portEnd]

@[simp] theorem lasting_setPtp (p : Nat) (x : PtpPort) (s : State) :
    (setPtp p x s).lasting = s.lasting := by rfl

@[simp] theorem lasting_syncIn (p : Nat) (offset : Int) (s : State) :
    (syncIn p offset s).lasting = s.lasting := by simp [syncIn]

@[simp] theorem lasting_announceIn (p : Nat) (gm : BitVec 64) (steps : Nat) (better : Bool) (path : List (BitVec 64)) (s : State) :
    (announceIn p gm steps better path s).lasting = s.lasting := by simp [announceIn]

@[simp] theorem lasting_syncStamp (p : Nat) (x : PtpPort) (t1 t2 : Int) (s : State) :
    (syncStamp p x t1 t2 s).lasting = s.lasting := by simp [syncStamp]

@[simp] theorem lasting_delayStamp (p : Nat) (x : PtpPort) (t4 : Int) (s : State) :
    (delayStamp p x t4 s).lasting = s.lasting := by
  unfold delayStamp
  split <;> rfl

@[simp] theorem lasting_pdelayStamp (p : Nat) (x : PtpPort) (t2 t3 correction t4 : Int) (s : State) :
    (pdelayStamp p x t2 t3 correction t4 s).lasting = s.lasting := by
  unfold pdelayStamp
  split <;> rfl

@[simp] theorem lasting_ptpIn (i : Nat) (x : PtpPort) (at_ : Int) (b : PtpBody) (s : State) :
    (ptpIn i x at_ b s).lasting = s.lasting := by
  unfold ptpIn
  split <;> simp

@[simp] theorem lasting_ethBlock (s : State) :
    (ethBlock s).lasting = s.lasting := by simp [ethBlock]

@[simp] theorem lasting_setLink (l : Link) (s : State) :
    (setLink l s).lasting = s.lasting := by rfl

@[simp] theorem lasting_farxisEvent (cause : Nat) (s : State) :
    (farxisEvent cause s).lasting = s.lasting := by simp [farxisEvent]

@[simp] theorem lasting_sendRows (rows : List Row) (s : State) :
    (sendRows rows s).lasting = s.lasting := by rfl

@[simp] theorem lasting_emitLink (x : Sent) (s : State) :
    (emitLink x s).lasting = s.lasting := by rfl

@[simp] theorem lasting_linkWake (s : State) :
    (linkWake s).lasting = s.lasting := by simp [linkWake]

@[simp] theorem lasting_sendPacket (vc length : Nat) (p : PairPayload) (s : State) :
    (sendPacket vc length p s).lasting = s.lasting := by simp [sendPacket]

@[simp] theorem lasting_pairEvent (old cause : Nat) (s : State) :
    (pairEvent old cause s).lasting = s.lasting := by simp [pairEvent]

@[simp] theorem lasting_releaseHeld (upTo : Nat) (degraded : Bool) (s : State) :
    (s.releaseHeld upTo degraded).lasting = s.lasting := by
  refine foldl_lasting (fun u mb => ?_) _ s
  split
  case h_1 => split <;> simp
  case h_2 => rfl

@[simp] theorem lasting_settleEvents (s : State) :
    (settleEvents s).lasting = s.lasting := by simp [settleEvents]

@[simp] theorem lasting_pairChange (f : Pair → Pair) (cause : Nat) (s : State) :
    (pairChange f cause s).lasting = s.lasting := by simp [pairChange]

@[simp] theorem lasting_leaveLockstep (cause : Nat) (s : State) :
    (leaveLockstep cause s).lasting = s.lasting := by simp [leaveLockstep]

@[simp] theorem lasting_driveToken (on : Bool) (s : State) :
    (driveToken on s).lasting = s.lasting := by simp [driveToken]

@[simp] theorem lasting_tellPartner (s : State) :
    (tellPartner s).lasting = s.lasting := by rfl

@[simp] theorem lasting_startJoin (cause : Nat) (s : State) :
    (startJoin cause s).lasting = s.lasting := by simp [startJoin]

@[simp] theorem lasting_sendCut (s : State) :
    (sendCut s).lasting = s.lasting := by simp [sendCut]

@[simp] theorem lasting_rejoin (s : State) :
    (rejoin s).lasting = s.lasting := by simp [rejoin]

@[simp] theorem lasting_pairLinkUp (s : State) :
    (pairLinkUp s).lasting = s.lasting := by simp [pairLinkUp]

@[simp] theorem lasting_pairLinkDown (s : State) :
    (pairLinkDown s).lasting = s.lasting := by simp [pairLinkDown]

@[simp] theorem lasting_partnerEvent (src code node : Nat) (data : Bytes) (s : State) :
    (partnerEvent src code node data s).lasting = s.lasting := by simp [partnerEvent]

@[simp] theorem lasting_acknowledge (block : Nat) (s : State) :
    (acknowledge block s).lasting = s.lasting := by simp [acknowledge]

@[simp] theorem lasting_compareCrc (block : Nat) (crc : Word) (s : State) :
    (compareCrc block crc s).lasting = s.lasting := by
  unfold compareCrc
  split <;> simp

@[simp] theorem lasting_pathEvent (path what : Nat) (s : State) :
    (pathEvent path what s).lasting = s.lasting := by simp [pathEvent]

@[simp] theorem lasting_countBeats (s : State) :
    (countBeats s).lasting = s.lasting := by rfl

@[simp] theorem lasting_beat (missed : Bool) (s : State) :
    (beat missed s).lasting = s.lasting := by
  unfold beat
  dsimp only
  split
  · simp
  · split <;> simp

@[simp] theorem lasting_pairHeard (h : Heartbeat) (s : State) :
    (pairHeard h s).lasting = s.lasting := by simp [pairHeard]

@[simp] theorem lasting_tokenHigh (s : State) :
    (tokenHigh s).2.lasting = s.lasting := by
  unfold tokenHigh
  dsimp only
  split
  · simp
  · split <;> simp

@[simp] theorem lasting_takeToken (s : State) :
    (takeToken s).lasting = s.lasting := by simp [takeToken]

@[simp] theorem lasting_declareFailure (s : State) :
    (declareFailure s).lasting = s.lasting := by simp [declareFailure]

@[simp] theorem lasting_announceShared (s : State) :
    (announceShared s).lasting = s.lasting := by rfl

@[simp] theorem lasting_resumeRing (before : Nat) (s : State) :
    (resumeRing before s).lasting = s.lasting := by simp [resumeRing]

@[simp] theorem lasting_takeOver (s : State) :
    (takeOver s).lasting = s.lasting := by simp [takeOver]

@[simp] theorem lasting_answerSwitch (mb : Nat) (r : Req) (s : State) :
    (answerSwitch mb r s).lasting = s.lasting := by simp [answerSwitch]

@[simp] theorem lasting_mismatchSecond (s : State) :
    (mismatchSecond s).lasting = s.lasting := by simp [mismatchSecond]

end State

end Sys2Proof.Machine

/-! The frame of faults and of the Farxis link. -/

namespace Sys2Proof.Machine

namespace State

@[simp] theorem lasting_setFaults (f : Faults) (s : State) :
    (setFaults f s).lasting = s.lasting := by rfl

@[simp] theorem lasting_outputsChanged (s : State) :
    (outputsChanged s).lasting = s.lasting := by simp [outputsChanged]

@[simp] theorem lasting_holdNode (until_ : Nat) (s : State) (id : Nat) :
    (holdNode until_ s id).lasting = s.lasting := by simp [holdNode]

@[simp] theorem lasting_noteHold (id : Nat) (s : State) :
    (noteHold id s).lasting = s.lasting := by
  unfold noteHold
  split <;> simp

@[simp] theorem lasting_holdUntil (id until_ : Nat) (s : State) :
    (holdUntil id until_ s).lasting = s.lasting := by simp [holdUntil]

@[simp] theorem lasting_deviceDisables (id reason : Nat) (s : State) :
    (deviceDisables id reason s).lasting = s.lasting := by simp [deviceDisables]

@[simp] theorem lasting_applyHolds (s : State) :
    (applyHolds s).lasting = s.lasting := by rfl

@[simp] theorem lasting_retireCluster (c cause : Nat) (s : State) :
    (retireCluster c cause s).lasting = s.lasting := by simp [retireCluster]

@[simp] theorem lasting_shed (id : Nat) (s : State) :
    (shed id s).lasting = s.lasting := by simp [shed]

theorem lasting_of_placeAll {s t : State} {l : List (Nat × Node)} (h : s.placeAll l = some t) : t.lasting = s.lasting := by
  induction l generalizing s with
  | nil =>
    cases h
    rfl
  | cons x l ih =>
    unfold placeAll at h
    split at h
    case h_1 => exact (ih h).trans (lasting_setNode _ _ _)
    case h_2 => cases h

theorem lasting_shedLoop_fst (n : Nat) (s : State) : (shedLoop n s).1.lasting = s.lasting := by
  induction n generalizing s with
  | zero => rfl
  | succ n ih =>
    unfold shedLoop
    dsimp only
    split
    case h_1 => rfl
    case h_2 => rfl
    case h_3 => exact (ih _).trans (lasting_shed _ _)

theorem lasting_of_shedLoop {n : Nat} {s t : State} (h : (shedLoop n s).2 = some t) : t.lasting = s.lasting := by
  induction n generalizing s with
  | zero => exact lasting_of_placeAll h
  | succ n ih =>
    unfold shedLoop at h
    dsimp only at h
    split at h
    case h_1 p hp =>
      split at hp
      case isTrue =>
        cases h
        exact lasting_of_placeAll hp
      case isFalse => cases hp
    case h_2 =>
      cases h
      rfl
    case h_3 => exact (ih h).trans (lasting_shed _ _)

@[simp] theorem lasting_moved (f : Nat) (before : State) (s : State) (x : Nat × Node) :
    (moved f before s x).lasting = s.lasting := by simp [moved]

@[simp] theorem lasting_retireStep (s : State) : s.retireStep.lasting = s.lasting := by
  unfold retireStep
  split
  case h_1 => rfl
  case h_2 r _ =>
    refine lasting_of_ite rfl ?_
    extract_lets faults u
    have hu : u.lasting = s.lasting := lasting_setFaults _ _
    split
    case isTrue =>
      split
      case h_1 p hp => exact (foldl_lasting (lasting_moved r.f u) _ p).trans ((lasting_of_placeAll hp).trans hu)
      case h_2 => exact (lasting_leaveLockstep _ _).trans hu
    case isFalse =>
      refine (foldl_lasting (lasting_moved r.f u) _ _).trans ?_
      rw [lasting_raise]
      cases hp : (shedLoop u.nodes.length u).2 with
      | none => exact (lasting_shedLoop_fst _ u).trans hu
      | some p => exact (lasting_of_shedLoop hp).trans hu

@[simp] theorem lasting_holdPort (resume : Nat) (s : State) (o : Nat) :
    (holdPort resume s o).lasting = s.lasting := by simp [holdPort]

@[simp] theorem lasting_sliceFails (k : Nat) (s : State) :
    (sliceFails k s).lasting = s.lasting := by simp [sliceFails]

@[simp] theorem lasting_sliceOut (s : State) (k : Nat) :
    (sliceOut s k).lasting = s.lasting := by simp [sliceOut]

@[simp] theorem lasting_sliceBoundary (s : State) :
    (sliceBoundary s).lasting = s.lasting := by
  unfold sliceBoundary
  dsimp only
  split <;> simp

@[simp] theorem lasting_sramCorrected (s : State) :
    (sramCorrected s).lasting = s.lasting := by rfl

@[simp] theorem lasting_localCorrected (c : Nat) (s : State) :
    (localCorrected c s).lasting = s.lasting := by simp [localCorrected]

@[simp] theorem lasting_localLost (c cause : Nat) (s : State) :
    (localLost c cause s).lasting = s.lasting := by simp [localLost]

@[simp] theorem lasting_sramLost (partition owner node : Nat) (s : State) :
    (sramLost partition owner node s).lasting = s.lasting := by simp [sramLost]

@[simp] theorem lasting_lpddrLost (region node : Nat) (s : State) :
    (lpddrLost region node s).lasting = s.lasting := by simp [lpddrLost]

@[simp] theorem lasting_zeroSample (n o k : Nat) (s : State) :
    (zeroSample n o k s).lasting = s.lasting := by rfl

@[simp] theorem lasting_stagingLost (i : Nat) (s : State) :
    (stagingLost i s).lasting = s.lasting := by
  unfold stagingLost
  dsimp only
  repeat' split
  all_goals simp

@[simp] theorem lasting_poisonQueue (q k : Nat) (s : State) :
    (poisonQueue q k s).lasting = s.lasting := by rfl

@[simp] theorem lasting_contain (s : State) (x : ScrubFinding) :
    (contain s x).lasting = s.lasting := by
  unfold contain
  split <;> simp

@[simp] theorem lasting_inject (s : State) (x : Nat × Nat) :
    (inject s x).lasting = s.lasting := by
  unfold inject
  dsimp only
  repeat' split
  all_goals simp

@[simp] theorem lasting_injectBlock (s : State) :
    (injectBlock s).lasting = s.lasting := by simp [injectBlock]

@[simp] theorem lasting_corrected (src n : Nat) (s : State) :
    (corrected src n s).lasting = s.lasting := by simp [corrected]

@[simp] theorem lasting_faultBlock (s : State) :
    (faultBlock s).lasting = s.lasting := by simp [faultBlock]

@[simp] theorem lasting_restoredEvent (kind i : Nat) (s : State) :
    (restoredEvent kind i s).lasting = s.lasting := by simp [restoredEvent]

@[simp] theorem lasting_restoreBoundary (s : State) :
    (restoreBoundary s).lasting = s.lasting := by simp [restoreBoundary]

@[simp] theorem lasting_arm (t i : Nat) (s : State) :
    (arm t i s).lasting = s.lasting := by rfl

@[simp] theorem lasting_linkDetect (s : State) :
    (linkDetect s).lasting = s.lasting := by rfl

@[simp] theorem lasting_linkStart (s : State) :
    (linkStart s).lasting = s.lasting := by rfl

@[simp] theorem lasting_linkStop (cause : Nat) (s : State) :
    (linkStop cause s).lasting = s.lasting := by simp [linkStop]

@[simp] theorem lasting_linkFail (reason : Nat) (s : State) :
    (linkFail reason s).lasting = s.lasting := by simp [linkFail]

@[simp] theorem lasting_linkSweep (s : State) :
    (linkSweep s).lasting = s.lasting := by rfl

@[simp] theorem lasting_linkRate (r : Nat) (s : State) :
    (linkRate r s).lasting = s.lasting := by rfl

@[simp] theorem lasting_linkUpNow (s : State) :
    (linkUpNow s).lasting = s.lasting := by simp [linkUpNow]

@[simp] theorem lasting_linkGo (s : State) :
    (linkGo s).lasting = s.lasting := by simp [linkGo]

@[simp] theorem lasting_linkDecide (s : State) :
    (linkDecide s).lasting = s.lasting := by
  unfold linkDecide
  dsimp only
  split
  · split <;> simp
  · simp

@[simp] theorem lasting_linkLocked (s : State) :
    (linkLocked s).lasting = s.lasting := by simp [linkLocked]

@[simp] theorem lasting_linkSwept (s : State) :
    (linkSwept s).lasting = s.lasting := by simp [linkSwept]

@[simp] theorem lasting_linkCap (m : TrainMessage) (s : State) :
    (linkCap m s).lasting = s.lasting := by simp [linkCap]

@[simp] theorem lasting_trainRx (m : TrainMessage) (s : State) :
    (trainRx m s).lasting = s.lasting := by
  unfold trainRx
  split <;> simp

@[simp] theorem lasting_pickCodes (masks : List Nat) (s : State) : (s.pickCodes masks).2.lasting = s.lasting := by
  refine lasting_foldl_snd (fun a lane => ?_) _ _
  split
  case isTrue => rfl
  case isFalse => split <;> simp

@[simp] theorem lasting_countPrbs (lanes : List Nat) (mask : Nat) (s : State) :
    (countPrbs lanes mask s).lasting = s.lasting := by simp [countPrbs]

@[simp] theorem lasting_linkDown (cause : Nat) (s : State) :
    (linkDown cause s).lasting = s.lasting := by simp [linkDown]

@[simp] theorem lasting_loseLanes (lanes : List Nat) (s : State) :
    (loseLanes lanes s).lasting = s.lasting := by simp [loseLanes]

@[simp] theorem lasting_resendPacket (v : Nat) (p : SentPacket) (s : State) :
    (resendPacket v p s).lasting = s.lasting := by simp [resendPacket]

@[simp] theorem lasting_sendNew (v : Nat) (s : State) :
    (sendNew v s).lasting = s.lasting := by
  unfold sendNew
  dsimp only
  split <;> simp

@[simp] theorem lasting_errorsOver (s : State) :
    (errorsOver s).lasting = s.lasting := by
  unfold errorsOver
  dsimp only
  repeat' split
  all_goals simp

@[simp] theorem lasting_linkBlock (s : State) :
    (linkBlock s).lasting = s.lasting := by simp [linkBlock]

end State

end Sys2Proof.Machine

/-! The frame of the unit hooks of nodes, Ashlar, Slabs and actions. -/

namespace Sys2Proof.Machine

namespace State

@[simp] theorem lasting_primarySample (s : State) (j : Nat) :
    (primarySample s j).lasting = s.lasting := by simp [primarySample]

@[simp] theorem lasting_sampleStep (s : State) :
    (sampleStep s).lasting = s.lasting := by simp [sampleStep]

theorem lasting_times {f : State → State} (hf : ∀ s, (f s).lasting = s.lasting) (n : Nat) (s : State) :
    (times n f s).lasting = s.lasting := by
  induction n generalizing s with
  | zero => rfl
  | succ n ih => exact (ih _).trans (hf s)

@[simp] theorem lasting_reach (m : Nat) (s : State) : (s.reach m).lasting = s.lasting := lasting_times lasting_sampleStep _ s

@[simp] theorem lasting_driveGpio (g : Nat) (s : State) :
    (driveGpio g s).lasting = s.lasting := by simp [driveGpio]

@[simp] theorem lasting_storeChange (m : Nat) (s : State) (c : Change) :
    (storeChange m s c).lasting = s.lasting := by
  unfold storeChange
  dsimp only
  repeat' split
  all_goals simp

@[simp] theorem lasting_changeHook (m : Nat) (s : State) (x : Change × Bytes) :
    (changeHook m s x).lasting = s.lasting := by simp [changeHook]

@[simp] theorem lasting_applyChanges (m : Nat) (l : List Change) (s : State) :
    (applyChanges m l s).lasting = s.lasting := by simp [applyChanges]

@[simp] theorem lasting_beginHook (m : Nat) (s : State) (id : Nat) :
    (beginHook m s id).lasting = s.lasting := by simp [beginHook]

@[simp] theorem lasting_endHook (m : Nat) (s : State) (id : Nat) :
    (endHook m s id).lasting = s.lasting := by simp [endHook]

@[simp] theorem lasting_forget (s : State) (id : Nat) :
    (forget s id).lasting = s.lasting := by simp [forget]

@[simp] theorem lasting_updateRun (m : Nat) (s : State) :
    (updateRun m s).lasting = s.lasting := by simp [updateRun]

@[simp] theorem lasting_membershipChanged (before : List (Nat × Nat)) (own : List Nat) (m : Nat) (s : State) :
    (membershipChanged before own m s).lasting = s.lasting := by simp [membershipChanged]

@[simp] theorem lasting_zonesAtBoundary (m : Nat) (s : State) :
    (zonesAtBoundary m s).lasting = s.lasting := by simp [zonesAtBoundary]

@[simp] theorem lasting_applySetting (s : State) (p : Pend) :
    (applySetting s p).lasting = s.lasting := by
  unfold applySetting
  split <;> rfl

@[simp] theorem lasting_applyOther (m : Nat) (s : State) (p : Pend) :
    (applyOther m s p).lasting = s.lasting := by
  unfold applyOther
  split <;> simp

@[simp] theorem lasting_applyPend (m : Nat) (s : State) :
    (applyPend m s).lasting = s.lasting := by simp [applyPend]

@[simp] theorem lasting_startRecords (m : Nat) (own objs : List Nat) (keep : GeoRec → Bool) (s : State) :
    (startRecords m own objs keep s).lasting = s.lasting := by simp [startRecords]

@[simp] theorem lasting_applyAt (m : Nat) (l : List Change) (keep : GeoRec → Bool) (s : State) :
    (applyAt m l keep s).lasting = s.lasting := by simp [applyAt]

@[simp] theorem lasting_setAsh (x : AshDyn) (s : State) :
    (setAsh x s).lasting = s.lasting := by rfl

@[simp] theorem lasting_ashClear (i : Nat) (s : State) :
    (ashClear i s).lasting = s.lasting := by rfl

@[simp] theorem lasting_ashFailed (i detail off produced : Nat) (s : State) :
    (ashFailed i detail off produced s).lasting = s.lasting := by simp [ashFailed]

@[simp] theorem lasting_shadow (id : Nat) (s : State) :
    (shadow id s).lasting = s.lasting := by simp [shadow]

@[simp] theorem lasting_makeWay (id : Nat) (s : State) :
    (makeWay id s).lasting = s.lasting := by simp [makeWay]

@[simp] theorem lasting_createNode (id : Nat) (items : List (Nat × Bytes)) (s : State) :
    (createNode id items s).lasting = s.lasting := by simp [createNode]

@[simp] theorem lasting_drawInit (t : Nat) (items : List (Nat × Bytes)) (s : State) :
    (drawInit t items s).2.lasting = s.lasting := by
  unfold drawInit
  split <;> rfl

@[simp] theorem lasting_removeNode (id : Nat) (s : State) :
    (removeNode id s).lasting = s.lasting := by rfl

@[simp] theorem lasting_orphan (z : Nat) (s : State) :
    (orphan z s).lasting = s.lasting := by rfl

@[simp] theorem lasting_destroyHook (id : Nat) (was : Node) (s : State) :
    (destroyHook id was s).lasting = s.lasting := by simp [destroyHook]

@[simp] theorem lasting_setCost (id : Nat) (items : List (Nat × Bytes)) (s : State) :
    (setCost id items s).lasting = s.lasting := by simp [setCost]

@[simp] theorem lasting_setRecords (id : Nat) (items : List (Nat × Bytes)) (s : State) :
    (setRecords id items s).lasting = s.lasting := by
  unfold setRecords
  dsimp only
  repeat' split
  all_goals simp

@[simp] theorem lasting_setItems (id : Nat) (items : List (Nat × Bytes)) (s : State) :
    (setItems id items s).lasting = s.lasting := by simp [setItems]

@[simp] theorem lasting_enableHook (id : Nat) (on : Bool) (s : State) :
    (enableHook id on s).lasting = s.lasting := by simp [enableHook]

@[simp] theorem lasting_enableNode (id : Nat) (cost : Nat) (cluster : Option Nat) (s : State) :
    (enableNode id cost cluster s).lasting = s.lasting := by simp [enableNode]

@[simp] theorem lasting_disableNode (id : Nat) (s : State) :
    (disableNode id s).lasting = s.lasting := by simp [disableNode]

@[simp] theorem lasting_padOutputs (id : Nat) (s : State) :
    (padOutputs id s).lasting = s.lasting := by rfl

@[simp] theorem lasting_markMidway (id : Nat) (on : Bool) (s : State) :
    (markMidway id on s).lasting = s.lasting := by
  unfold markMidway
  dsimp only
  repeat' split
  all_goals simp

@[simp] theorem lasting_beginNow (id : Nat) (s : State) :
    (beginNow id s).lasting = s.lasting := by simp [beginNow]

@[simp] theorem lasting_endNow (id : Nat) (s : State) :
    (endNow id s).lasting = s.lasting := by simp [endNow]

@[simp] theorem lasting_wiresNow (f : List Conn → List Conn) (s : State) :
    (wiresNow f s).lasting = s.lasting := by simp [wiresNow]

@[simp] theorem lasting_setNow (id : Nat) (items : List (Nat × Bytes)) (s : State) :
    (setNow id items s).lasting = s.lasting := by simp [setNow]

@[simp] theorem lasting_commitSlab (sl : Slab) (s : State) :
    (commitSlab sl s).lasting = s.lasting := by rfl

@[simp] theorem lasting_armAction (a : Action) (s : State) :
    (armAction a s).lasting = s.lasting := by rfl

@[simp] theorem lasting_settleCosts (ids : List Nat) (s : State) :
    (settleCosts ids s).lasting = s.lasting := by simp [settleCosts]

@[simp] theorem lasting_commitDone (m ns : Nat) (late : Bool) (nodes : List Nat) (w : Nat × Req) (s : State) :
    (commitDone m ns late nodes w s).lasting = s.lasting := by
  unfold commitDone
  split <;> simp

@[simp] theorem lasting_noteSet (sl : Slab) (s : State) :
    (noteSet sl s).lasting = s.lasting := by rfl

@[simp] theorem lasting_dropAction (i : Nat) (s : State) :
    (dropAction i s).lasting = s.lasting := by rfl

@[simp] theorem lasting_membersNow (cause : Nat) (pick : Nat → Bool) (own : List Nat) (s : State) :
    (membersNow cause pick own s).lasting = s.lasting := by simp [membersNow]

@[simp] theorem lasting_hookNow (id : Nat) (on : Bool) (s : State) :
    (hookNow id on s).lasting = s.lasting := by simp [hookNow]

@[simp] theorem lasting_enableNow (id cost : Nat) (cluster : Option Nat) (s : State) :
    (enableNow id cost cluster s).lasting = s.lasting := by simp [enableNow]

@[simp] theorem lasting_disableNow (id : Nat) (s : State) :
    (disableNow id s).lasting = s.lasting := by simp [disableNow]

theorem lasting_of_embedded {s t : State} {op : Nat} {r : Req} (h : s.embedded op r = .ok t) : t.lasting = s.lasting := by
  unfold embedded at h
  dsimp only at h
  split at h
  case isTrue =>
    split at h <;> cases h
    exact lasting_setNow _ _ _
  split at h
  case isTrue =>
    split at h <;> cases h
    exact lasting_wiresNow _ _
  split at h
  case isTrue =>
    split at h <;> cases h
    exact lasting_wiresNow _ _
  split at h
  case isTrue =>
    split at h
    case isTrue => cases h
    case isFalse =>
      split at h <;> cases h
      exact lasting_enableNow _ _ _ _
  split at h
  case isTrue =>
    split at h <;> cases h
    exact lasting_disableNow _ _
  case isFalse =>
    cases h
    exact lasting_micResets _ _ _ _

@[simp] theorem lasting_runEmbedded (s : State) (mb : Fin 8) (op : Nat) (r : Req) :
    (s.runEmbedded mb op r).2.lasting = s.lasting := by
  unfold runEmbedded
  dsimp only
  split
  case isTrue => rfl
  case isFalse =>
    split
    case isTrue => rfl
    case isFalse =>
      split
      case h_1 u hu => exact lasting_of_embedded hu
      case h_2 => rfl

@[simp] theorem lasting_startPort (id : Nat) (s : State) :
    (startPort id s).lasting = s.lasting := by simp [startPort]

@[simp] theorem lasting_fireBody (s : State) (a : Action) :
    (fireBody s a).2.lasting = s.lasting := by
  unfold fireBody
  dsimp only
  repeat' split
  all_goals simp

end State

end Sys2Proof.Machine

/-! The frame of power, of the block strobe, of the sample instants and of the registers. -/

namespace Sys2Proof.Machine

namespace State

@[simp] theorem lasting_setPower (p : Power) (s : State) :
    (setPower p s).lasting = s.lasting := by rfl

@[simp] theorem lasting_throttleEvent (what causes us : Nat) (s : State) :
    (throttleEvent what causes us s).lasting = s.lasting := by simp [throttleEvent]

@[simp] theorem lasting_followThrottle (s : State) :
    (followThrottle s).lasting = s.lasting := by
  unfold followThrottle
  split <;> simp

@[simp] theorem lasting_logReset (cause detail : Nat) (s : State) :
    (logReset cause detail s).lasting = s.lasting := by rfl

@[simp] theorem lasting_releaseToken (s : State) :
    (releaseToken s).lasting = s.lasting := by simp [releaseToken]

@[simp] theorem lasting_powerDown (s : State) :
    (powerDown s).lasting = s.lasting := by rfl

@[simp] theorem lasting_setRails (l : List Nat) (st : Nat) (s : State) : (s.setRails l st).lasting = s.lasting := by
  refine foldl_lasting (fun u i => ?_) _ s
  split <;> rfl

@[simp] theorem lasting_railsOff (s : State) : s.railsOff.lasting = s.lasting := lasting_setRails _ _ _

@[simp] theorem lasting_settlePend (s : State) : s.settlePend.lasting = s.lasting := by
  unfold settlePend
  dsimp only
  refine (foldl_lasting (fun u p => ?_) _ _).trans ?_
  · split <;> simp
  · refine (foldl_lasting (fun u x => ?_) _ _).trans ?_ <;> simp

@[simp] theorem lasting_writeRstLog (v : Word) (s : State) :
    (writeRstLog v s).lasting = s.lasting := by simp [writeRstLog]

@[simp] theorem lasting_startPair (k : Nat) (s : State) :
    (startPair k s).lasting = s.lasting := by simp [startPair]

@[simp] theorem lasting_wake (source : Nat) (s : State) :
    (wake source s).lasting = s.lasting := by simp [wake]

@[simp] theorem lasting_writePmuWake (v : Word) (viaQspi : Bool) (s : State) :
    (writePmuWake v viaQspi s).lasting = s.lasting := by simp [writePmuWake]

@[simp] theorem lasting_numberOne (s : State) (h : HeldEvent) :
    (numberOne s h).lasting = s.lasting := by simp [numberOne]

@[simp] theorem lasting_numberHeld (s : State) :
    (numberHeld s).lasting = s.lasting := by simp [numberHeld]

@[simp] theorem lasting_readToken (low : Bool) (s : State) :
    (readToken low s).lasting = s.lasting := by simp [readToken]

@[simp] theorem lasting_pairBoot (s : State) :
    (pairBoot s).lasting = s.lasting := by simp [pairBoot]

@[simp] theorem lasting_setRail (i : Nat) (r : Rail) (s : State) :
    (setRail i r s).lasting = s.lasting := by rfl

@[simp] theorem lasting_countDip (i mv : Nat) (s : State) :
    (countDip i mv s).lasting = s.lasting := by rfl

@[simp] theorem lasting_setTj (tj : Int) (s : State) :
    (setTj tj s).lasting = s.lasting := by rfl

@[simp] theorem lasting_tellSleep (old : Power) (s : State) :
    (tellSleep old s).lasting = s.lasting := by
  unfold tellSleep
  dsimp only
  split <;> simp

@[simp] theorem lasting_standbyEntry (s : State) :
    (standbyEntry s).lasting = s.lasting := by simp [standbyEntry]

@[simp] theorem lasting_standbyExit (s : State) :
    (standbyExit s).lasting = s.lasting := by simp [standbyExit]

@[simp] theorem lasting_followEvent (e : EvRec) (s : State) :
    (followEvent e s).lasting = s.lasting := by simp [followEvent]

@[simp] theorem lasting_followDue (i due : Nat) (late : Bool) (s : State) :
    (followDue i due late s).lasting = s.lasting := by rfl

@[simp] theorem lasting_maskMidway (s : State) : s.maskMidway.lasting = s.lasting := by
  unfold maskMidway
  refine (foldl_lasting (fun u x => ?_) _ _).trans ?_ <;> rfl

@[simp] theorem lasting_compareBlock (s : State) :
    (compareBlock s).lasting = s.lasting := by simp [compareBlock]

@[simp] theorem lasting_gpioBlock (s : State) :
    (gpioBlock s).lasting = s.lasting := by simp [gpioBlock]

@[simp] theorem lasting_endBlock (io : BlockIn) (s : State) : (s.endBlock io).lasting = s.lasting := by
  unfold endBlock
  extract_lets s1 active s2 s3 s4 s5
  have h2 : s2.lasting = s1.lasting := lasting_of_ite (foldl_lasting (fun u n => lasting_aesInBlock u n) _ _) rfl
  have h3 : s3.lasting = s2.lasting := lasting_of_ite (foldl_lasting (fun u i => lasting_krnFinish i u) _ _) rfl
  simp [s5, s4, h3, h2, s1]

@[simp] theorem lasting_swapBlocks (s : State) :
    (swapBlocks s).lasting = s.lasting := by rfl

@[simp] theorem lasting_redate (s : State) :
    (redate s).lasting = s.lasting := by rfl

@[simp] theorem lasting_startKernels (s : State) :
    (startKernels s).lasting = s.lasting := by simp [startKernels]

@[simp] theorem lasting_sampleGpio (io : BlockIn) (s : State) :
    (sampleGpio io s).lasting = s.lasting := by rfl

@[simp] theorem lasting_secondEnd (s : State) :
    (secondEnd s).lasting = s.lasting := by simp [secondEnd]

@[simp] theorem lasting_beginBlock (io : BlockIn) (s : State) :
    (beginBlock io s).lasting = s.lasting := by simp [beginBlock]

@[simp] theorem lasting_passBlock (s : State) :
    (passBlock s).lasting = s.lasting := by rfl

theorem lasting_instant {f : Nat → State → State} (hf : ∀ d s, (f d s).lasting = s.lasting) (due : Option Nat) (s : State) :
    (s.instant due f).lasting = s.lasting := by
  unfold instant
  split
  case h_1 => exact lasting_of_ite ((hf _ _).trans (lasting_reach _ _)) rfl
  case h_2 => rfl

@[simp] theorem lasting_writeIdentity (off : Nat) (v : Word) (s : State) :
    (writeIdentity off v s).lasting = s.lasting := by simp [writeIdentity]

@[simp] theorem lasting_holdCauses (s : State) :
    (holdCauses s).lasting = s.lasting := by simp [holdCauses]

@[simp] theorem lasting_writeEvents (off : Nat) (v : Word) (s : State) :
    (writeEvents off v s).lasting = s.lasting := by simp [writeEvents]

@[simp] theorem lasting_writeQueue (q off : Nat) (v : Word) (s : State) :
    (writeQueue q off v s).lasting = s.lasting := by simp [writeQueue]

@[simp] theorem lasting_writePair (off : Nat) (v : Word) (s : State) :
    (writePair off v s).lasting = s.lasting := by simp [writePair]

@[simp] theorem lasting_sendPending (s : State) (n : Nat) :
    (sendPending s n).lasting = s.lasting := by simp [sendPending]

@[simp] theorem lasting_writeMsix (off : Nat) (v : Word) (s : State) :
    (writeMsix off v s).lasting = s.lasting := by simp [writeMsix]

@[simp] theorem lasting_writeMsixControl (v : Nat) (s : State) : (s.writeMsixControl v).lasting = s.lasting :=
  (foldl_lasting lasting_sendPending _ _).trans rfl

@[simp] theorem lasting_writePushed (off : Nat) (w : BitVec 64) (s : State) :
    (writePushed off w s).lasting = s.lasting := by simp [writePushed]

end State

end Sys2Proof.Machine

/-! A step of the block and its reset state. -/

namespace Sys2Proof

open Machine

theorem step_of_pending {c : Instr} {rest : List Instr} {s : State} (h : s.pending = c :: rest) :
    step s = exec c { s with pending := rest } := by
  simp only [step, h]

theorem step_of_empty {s : State} (h : s.pending = []) : step s = .next s.idle := by
  simp only [step, h]

theorem idle_of_no_stored {s : State} (h : s.pair.stored = []) : s.idle = s := by
  simp only [State.idle, h]

/-- Settles O58. -/
theorem stepRunsFrontCommand : Obligations.StepRunsFrontCommand :=
  ⟨fun _ _ _ h => step_of_pending h, fun _ h => step_of_empty h, fun _ h => idle_of_no_stored h⟩

/-- A key slot after reset is an empty one. -/
theorem slot_reset (k : Nat) : State.reset.slot k = {} := by
  change ((Vector.replicate 16 ({} : KeySlot))[k]?).getD {} = {}
  by_cases hk : k < 16 <;> simp [hk]

theorem kept_reset : Kept State.reset where
  rows := rfl
  row := by decide
  minimum := by decide
  revoked k h := by
    rw [slot_reset k] at h
    cases h
  user := rfl
  host := rfl
  bar2 := rfl

/-- Settles O59. -/
theorem resetIsKept : Obligations.ResetIsKept := ⟨kept_reset, rfl⟩

end Sys2Proof

/-! The node commands (R82 to R96): enabling, parameters, connections. -/

namespace Sys2Proof

open Machine

/-- A command completes on a device that runs alone if its effect leaves the straps alone. -/
theorem Completes.of_lasting {c : Contract} {i : Instr} {s : State} {mb : Fin 8} {r : Req} {rep : Reply} {f : State → State}
    (hpass : Passes c s mb r) (hexec : exec i s = runCommand c mb r s)
    (hbody : c.body (s.accept c.opcode mb) mb r = .done (f (s.accept c.opcode mb)) rep)
    (hlast : (f (s.accept c.opcode mb)).lasting = (s.accept c.opcode mb).lasting) : Completes c i s mb r rep f :=
  Completes.intro hpass hexec hbody ((State.pairEn_of_lasting hlast).trans hpass.single)

theorem Waits.of_lasting {c : Contract} {i : Instr} {s : State} {mb : Fin 8} {r : Req} {f : State → State}
    (hpass : Passes c s mb r) (hexec : exec i s = runCommand c mb r s)
    (hbody : c.body (s.accept c.opcode mb) mb r = .wait (f (s.accept c.opcode mb)))
    (hlast : (f (s.accept c.opcode mb)).lasting = (s.accept c.opcode mb).lasting) : Waits c i s mb f :=
  Waits.intro hpass hexec hbody ((State.pairEn_of_lasting hlast).trans hpass.single)

namespace Machine

theorem State.setNode_eq (s : State) (id : Nat) (n : Node) : s.setNode id n = { s with nodes := (s.setNode id n).nodes } := by
  unfold setNode
  split <;> rfl

theorem State.getA_setNode_other (s : State) (id : Nat) (n : Node) {k : Nat} (h : k ≠ id) :
    getA k (s.setNode id n).nodes = getA k s.nodes := by
  unfold setNode
  split
  case isTrue => exact getA_delA_other _ _ _ h
  case isFalse => exact getA_setA_other _ _ _ _ h

theorem State.node_setNode (s : State) (id : Nat) (n : Node) : (s.setNode id n).node id = n ∨
    (isFixed (nodeType id) = true ∧ n = {} ∧ (s.setNode id n).node id = (getA id s.leaving).getD {}) := by
  unfold setNode
  split
  case isTrue h =>
    obtain ⟨hfixed, hn⟩ := Bool.and_eq_true_iff.mp h
    exact .inr ⟨hfixed, eq_of_beq hn, by simp [node]⟩
  case isFalse => exact .inl (by simp [node])

theorem State.enableHook_of_other {id : Nat} {on : Bool} {s : State} (hspk : nodeType id ≠ Ty.spk) (hzone : nodeType id ≠ Ty.zone)
    (hobj : nodeType id ≠ Ty.obj) (hlink : nodeType id ≠ Ty.link) (hash : nodeType id ≠ Ty.ash) : s.enableHook id on = s := by
  simp [enableHook, renHook, hspk, hzone, hobj, hlink, hash]

end Machine

/-- Settles O16. -/
theorem enableAndDisable : Obligations.EnableAndDisable := by
  unfold Obligations.EnableAndDisable
  refine ⟨fun s mb r id cost c hpass hid hcheck hadmit => ?enables, fun s mb r id hpass hid hcheck => ?disables,
    fun s id n => s.node_setNode id n, fun s id n => ⟨s.setNode_eq id n, fun k hk => s.getA_setNode_other id n hk⟩,
    fun s id on hspk hzone hobj hlink hash => State.enableHook_of_other hspk hzone hobj hlink hash⟩
  case enables =>
    refine Completes.of_lasting hpass rfl ?_ (State.lasting_enableNode id cost c _)
    have hcheck' : (s.accept nodeEnable.opcode mb).enableCheck r.node.toNat = 0 := hid ▸ hcheck
    have hadmit' : (s.accept nodeEnable.opcode mb).admission r.node.toNat = some (cost, c) := hid ▸ hadmit
    simp only [nodeEnable] at hcheck' hadmit' ⊢
    rw [if_neg (not_not.mpr hcheck'), hadmit', hid]
    rfl
  case disables =>
    refine Completes.of_lasting hpass rfl ?_ (State.lasting_disableNode id _)
    have hcheck' : (s.accept nodeDisable.opcode mb).disableCheck r.node.toNat = 0 := hid ▸ hcheck
    simp only [nodeDisable] at hcheck' ⊢
    rw [if_neg (not_not.mpr hcheck'), hid]
    rfl

namespace Machine

/-- Changes for the next boundary join the ones that wait while no view of the block's end stands. -/
theorem State.foldl_atBoundary {α : Type} (p : α → Pend) {s : State} (h : s.closedView = none) (l : List α) :
    l.foldl (fun s x => s.atBoundary (p x)) s = { s with pend := s.pend ++ l.map p } := by
  induction l generalizing s with
  | nil => simp
  | cons x l ih =>
    have hstep : s.atBoundary (p x) = { s with pend := s.pend ++ [p x] } := by simp [atBoundary, h]
    rw [List.foldl_cons, hstep]
    exact (ih (by exact h)).trans (by simp)

theorem State.setItems_of_plain {s : State} {id : Nat} (items : List (Nat × Bytes)) (hobj : nodeType id ≠ Ty.obj)
    (hspk : nodeType id ≠ Ty.spk) (hoff : s.enabled id = false) (hview : s.closedView = none) :
    s.setItems id items = { s with pend := s.pend ++ (setChanges id items).map .change } := by
  have hcost : s.setCost id items = s := by simp [setCost, hoff]
  have hrecords : s.setRecords id items = s := by simp [setRecords, hobj, hspk]
  simp only [setItems, hcost, beq_false_of_ne hobj, Bool.false_and, List.filter_false, List.foldl_nil, hrecords, Bool.not_false,
    List.filter_true]
  exact foldl_atBoundary .change hview _

/-- A connection that passes R95 goes to an input that none has. -/
theorem State.input_free_of_connectCheck {s : State} {c : Conn} (h : s.connectCheck c = 0) :
    (s.conns.any fun d => d.dst == c.dst && d.dstIn == c.dstIn) = false := by
  by_contra htaken
  simp only [connectCheck, Bool.not_eq_false] at h htaken
  repeat' split at h
  all_goals simp_all [Err.noNode, Err.nodeType, Err.range, Err.conflict]

end Machine

/-- Settles O17. -/
theorem parametersAndConnections : Obligations.ParametersAndConnections := by
  unfold Obligations.ParametersAndConnections
  refine ⟨fun s mb r id items hpass hid hitems hcheck => ?sets,
    fun s id items hobj hspk hoff hview => State.setItems_of_plain items hobj hspk hoff hview,
    fun s mb r id ids hpass hid hids hknown hlen => ?gets, fun s mb r hpass hcheck => ?connects,
    fun s mb r hpass hmem => ?disconnects, fun s c d hcheck hd => ?inputs⟩
  case sets =>
    refine Completes.of_lasting hpass rfl ?_ (State.lasting_setItems id items _)
    have hcheck' : (s.accept nodeSet.opcode mb).setCheck r.node.toNat r.payload = 0 := hid ▸ hcheck
    simp only [nodeSet] at hcheck' ⊢
    rw [if_neg (not_not.mpr hcheck'), hid, hitems]
    rfl
  case gets =>
    refine Completes.of_lasting hpass rfl ?_ rfl
    have hids' : (s.accept nodeGet.opcode mb).namedPars r.node.toNat r.payload = ids := by rw [hid]; exact hids
    have hknown' : ¬ (ids.any fun pid => ((s.accept nodeGet.opcode mb).par? r.node.toNat pid).isNone) = true := by
      rw [List.any_eq_true]
      rintro ⟨pid, hpid, hnone⟩
      have hsome := hknown pid hpid
      rw [hid] at hnone
      have hnone' : (s.par? id pid).isNone = true := hnone
      rw [Option.isNone_iff_eq_none.mp hnone'] at hsome
      cases hsome
    have hlen' : ¬ 8176 < ((s.accept nodeGet.opcode mb).statusRecord r.node.toNat ++ ids.flatMap fun pid =>
        itemBytes pid ((s.accept nodeGet.opcode mb).getPar r.node.toNat pid)).length := by
      rw [hid]
      exact Nat.not_lt.mpr hlen
    simp only [nodeGet] at hids' hknown' hlen' ⊢
    rw [hids', if_neg hknown', if_neg hlen', hid]
    rfl
  case connects =>
    refine Completes.of_lasting hpass rfl ?_ rfl
    have hcheck' : (s.accept nodeConnect.opcode mb).connectCheck (connOf r) = 0 := hcheck
    simp only [nodeConnect] at hcheck' ⊢
    rw [if_neg (not_not.mpr hcheck')]
    rfl
  case disconnects =>
    refine Completes.of_lasting hpass rfl ?_ rfl
    have hmem' : (s.accept nodeDisconnect.opcode mb).conns.contains (connOf r) = true := List.contains_iff_mem.mpr hmem
    simp only [nodeDisconnect] at hmem' ⊢
    rw [if_pos hmem']
    rfl
  case inputs =>
    rintro ⟨hdst, hin⟩
    have hfree := State.input_free_of_connectCheck hcheck
    rw [List.any_eq_false] at hfree
    exact hfree d hd (by simp [hdst, hin])

end Sys2Proof

/-! Slabs and scheduled actions (R97 to R108, R144 to R149). -/

namespace Sys2Proof

open Machine

namespace Machine

theorem State.slabOwned_eq {s : State} {mb : Fin 8} {i : Nat} {sl : Slab} (hslab : s.slab? i = some sl)
    (hstate : sl.state = .open_) (hown : sl.session = mb.val) : s.slabOwned mb i = 0 := by
  simp [slabOwned, hslab, hstate, hown]

theorem State.slab?_dropSlab (i : Nat) (s : State) : (s.dropSlab i).slab? i = none := findKey_dropKey _ _ _

theorem State.body_of_mem_dropSlab {i : Nat} {s : State} {a : Action} (h : a ∈ (s.dropSlab i).time.actions) :
    a.body ≠ .slab i := by
  have hbody := (List.mem_filter.mp h).2
  simpa using hbody

@[simp] theorem State.slabItem_accept (op : Nat) (mb : Fin 8) (s : State) (p : Bytes) :
    (s.accept op mb).slabItem mb p = s.slabItem mb p := rfl

@[simp] theorem State.slabItems_accept (op : Nat) (mb : Fin 8) (s : State) (f : Nat) (p : Bytes) :
    (s.accept op mb).slabItems mb f p = s.slabItems mb f p := by
  induction f generalizing p with
  | zero => rfl
  | succ f ih => simp only [slabItems, slabItem_accept, ih]

@[simp] theorem State.hitsAttachment_accept (op : Nat) (mb : Fin 8) (s : State) (a n : Nat) :
    (s.accept op mb).hitsAttachment mb a n = s.hitsAttachment mb a n := rfl

@[simp] theorem State.slabHits_accept (op : Nat) (mb : Fin 8) (s : State) (f : Nat) (p : Bytes) :
    (s.accept op mb).slabHits mb f p = s.slabHits mb f p := by
  induction f generalizing p with
  | zero => rfl
  | succ f ih => simp only [slabHits, hitsAttachment_accept, ih]

end Machine

/-- Settles O18. -/
theorem slabCommands : Obligations.SlabCommands := by
  unfold Obligations.SlabCommands
  refine ⟨fun s mb r i hpass hfree hown hroom hlive => ?opens,
    fun s mb r i sl cs xp par bytes hpass hi hslab hstate hown hitems hnodes hcombo hbytes hhits => ?writes,
    fun s mb r i sl k hpass hi hslab hstate hown hmode htime hconflict hadmits hindex hpending => ?timed,
    fun s mb r i sl hpass hi hslab hstate hown hmode hconflict hadmits => ?now,
    fun s mb r sl hpass hslab hmay => ?aborts,
    fun s i => ⟨State.slab?_dropSlab i s, fun a ha => State.body_of_mem_dropSlab ha⟩⟩
  case opens =>
    refine Completes.of_lasting hpass rfl ?_ rfl
    have hfree' : lowestFree ((s.accept slabOpen.opcode mb).slabs.map Slab.index) 64 = some i := hfree
    have hroom' : ¬ (16 ≤ ((s.accept slabOpen.opcode mb).slabs.filter fun sl => sl.session == mb.val && sl.isOpen).length ||
        stagingKiB < sumN ((s.accept slabOpen.opcode mb).slabs.map Slab.reserveKiB) + field r.payload 0 4 ||
        liveLimit ≤ (s.accept slabOpen.opcode mb).liveCount) = true := by
      have hown' : ((s.accept slabOpen.opcode mb).slabs.filter fun sl => sl.session == mb.val && sl.isOpen).length < 16 := hown
      have hsum' : sumN ((s.accept slabOpen.opcode mb).slabs.map Slab.reserveKiB) + field r.payload 0 4 ≤ 65536 := hroom
      have hlive' : (s.accept slabOpen.opcode mb).liveCount < 131072 := hlive
      have hstaging : stagingKiB = 65536 := rfl
      have hlimit : liveLimit = 131072 := rfl
      simp only [Bool.or_eq_true, decide_eq_true_eq]
      omega
    simp only [slabOpen] at hfree' hroom' ⊢
    rw [hfree']
    exact if_neg hroom'
  case writes =>
    refine Completes.of_lasting hpass rfl ?_ rfl
    have hslab' : (s.accept slabWrite.opcode mb).slab? (nodeIdx r.node.toNat) = some sl := by rw [hi]; exact hslab
    have hown' := State.slabOwned_eq hslab' hstate hown
    have hitems' : (s.accept slabWrite.opcode mb).slabItems mb r.payload.length r.payload = some (cs, xp, par, bytes) :=
      (State.slabItems_accept _ _ _ _ _).trans hitems
    have hnodes' : ¬ (cs.any fun c => !(s.accept slabWrite.opcode mb).live c.node) = true := by
      rw [List.any_eq_true]
      rintro ⟨c, hc, hdead⟩
      have hlive : (s.accept slabWrite.opcode mb).live c.node = true := hnodes c hc
      rw [hlive] at hdead
      cases hdead
    have hcombo' : ((cs.map fun c => if nodeType c.node = Ty.spk then
        (s.accept slabWrite.opcode mb).comboCheck c.node [(c.pid, c.val)] else 0).filter (· != 0)) = [] := by
      rw [List.filter_eq_nil_iff]
      intro k hk
      obtain ⟨c, hc, rfl⟩ := List.mem_map.mp hk
      split
      case isTrue h =>
        have hzero : (s.accept slabWrite.opcode mb).comboCheck c.node [(c.pid, c.val)] = 0 := hcombo c hc h
        simp [hzero]
      case isFalse => simp
    have hhits' : ¬ (s.accept slabWrite.opcode mb).slabHits mb r.payload.length r.payload = true :=
      ne_true_of_eq_false ((State.slabHits_accept _ _ _ _ _).trans hhits)
    simp only [slabWrite] at hslab' hown' hitems' hnodes' hcombo' hhits' ⊢
    rw [if_neg (not_not.mpr hown'), hitems', hslab']
    simp only [hcombo']
    rw [if_neg hnodes', if_neg (not_not.mpr rfl), if_neg (Nat.not_lt.mpr hbytes), if_neg hhits']
    rfl
  case timed =>
    refine Completes.of_lasting hpass rfl ?_ rfl
    have hslab' : (s.accept slabCommit.opcode mb).slab? (nodeIdx r.node.toNat) = some sl := by rw [hi]; exact hslab
    have hown' := State.slabOwned_eq hslab' hstate hown
    have hlate : decide (field r.payload 4 8 < (s.accept slabCommit.opcode mb).slabEarliest sl) = false :=
      decide_eq_false (Nat.not_lt.mpr htime)
    have hconflict' : (s.accept slabCommit.opcode mb).slabConflict sl (field r.payload 4 8) = false := hconflict
    have hadmits' : (s.accept slabCommit.opcode mb).slabAdmits sl = true := hadmits
    have hindex' : (s.accept slabCommit.opcode mb).actionIndex = some k := hindex
    have hpending' : decide (16 ≤ ((s.accept slabCommit.opcode mb).slabs.filter fun x => x.state == .pending).length) = false :=
      decide_eq_false (Nat.not_le.mpr hpending)
    simp only [slabCommit] at hslab' hown' hlate hconflict' hadmits' hindex' hpending' ⊢
    rw [if_neg (not_not.mpr hown'), hslab']
    simp only [hmode, State.dueOf, OfNat.ofNat_ne_zero, OfNat.ofNat_ne_one, decide_false, Bool.false_eq_true, reduceIte, hlate,
      Bool.false_and, hconflict', hadmits', hindex', hpending']
    rw [hi]
    rfl
  case now =>
    refine Waits.of_lasting hpass rfl ?_ rfl
    have hslab' : (s.accept slabCommit.opcode mb).slab? (nodeIdx r.node.toNat) = some sl := by rw [hi]; exact hslab
    have hown' := State.slabOwned_eq hslab' hstate hown
    have hconflict' : (s.accept slabCommit.opcode mb).slabConflict sl ((s.accept slabCommit.opcode mb).slabEarliest sl) = false :=
      hconflict
    have hadmits' : (s.accept slabCommit.opcode mb).slabAdmits sl = true := hadmits
    simp only [slabCommit] at hslab' hown' hconflict' hadmits' ⊢
    rw [if_neg (not_not.mpr hown'), hslab']
    simp only [hmode, reduceIte, lt_irrefl, decide_false, Bool.false_and, Bool.false_eq_true, ne_eq, not_true, hconflict', hadmits']
    rfl
  case aborts =>
    refine Completes.of_lasting hpass rfl ?_ rfl
    have hslab' : (s.accept slabAbort.opcode mb).slab? (nodeIdx r.node.toNat) = some sl := hslab
    simp only [slabAbort] at hslab' ⊢
    rw [hslab']
    rcases hmay with ⟨hopen, hown⟩ | ⟨hstate, hblock⟩
    · exact (if_pos hopen).trans (if_pos hown)
    · have hclosed : ¬ sl.isOpen = true := by simp [Slab.isOpen, hstate]
      exact (if_neg hclosed).trans (if_pos (by rw [hstate, decide_eq_true (by exact hblock)]; rfl))

namespace Machine

theorem embeddedContract_cases {p : Contract → Prop} (op : Nat) (hset : p nodeSet) (hconnect : p nodeConnect)
    (hdisconnect : p nodeDisconnect) (henable : p nodeEnable) (hdisable : p nodeDisable) (hresync : p feResync) :
    p (embeddedContract op) := by
  unfold embeddedContract
  repeat' split
  all_goals assumption

/-- The body of an action does not care that its command's doorbell was accepted. -/
theorem State.bodyCheck_accept (op : Nat) (mb : Fin 8) (s : State) (kind : Nat) (b : Bytes) :
    (s.accept op mb).bodyCheck mb kind b = s.bodyCheck mb kind b := by
  have hfixed (r : Req) (k : Nat) : (embeddedContract k).fixed (s.accept op mb) mb r = (embeddedContract k).fixed s mb r :=
    embeddedContract_cases (p := fun c => c.fixed (s.accept op mb) mb r = c.fixed s mb r) k rfl rfl rfl rfl rfl rfl
  have hfields (r : Req) (k : Nat) : (embeddedContract k).fields (s.accept op mb) mb r = (embeddedContract k).fields s mb r :=
    embeddedContract_cases (p := fun c => c.fields (s.accept op mb) mb r = c.fields s mb r) k rfl rfl rfl rfl rfl rfl
  have hnode (r : Req) (k : Nat) : (embeddedContract k).node (s.accept op mb) mb r = (embeddedContract k).node s mb r :=
    embeddedContract_cases (p := fun c => c.node (s.accept op mb) mb r = c.node s mb r) k rfl rfl rfl rfl rfl rfl
  simp only [bodyCheck, embeddedLegal, hfixed, hfields, hnode]
  rfl

end Machine

/-- Settles O19. -/
theorem slabTakesEffect : Obligations.SlabTakesEffect := by
  unfold Obligations.SlabTakesEffect
  intro s i sl hslab hwaits hdue hawake hnext hwaiter
  refine ⟨_, _, rfl, ?_, rfl⟩
  change execSlabApplied i s = _
  have hnow : (sl.waits && sl.due < s.blockEnd && s.awake && s.slabNext sl) = true := by
    rw [hwaits, decide_eq_true hdue, hawake, hnext]
    rfl
  simp only [execSlabApplied, hslab]
  rw [if_pos hnow, hwaiter]

/-- Settles O20. -/
theorem scheduledActions : Obligations.ScheduledActions := by
  unfold Obligations.ScheduledActions
  refine ⟨fun s mb r i hpass hnet hbody hindex htime => ?arms, fun s mb r a hpass haction hslab hdue => ?cancels,
    fun s a v haction hnext hbody hdue hawake hlate => ?fires, fun s a g level hbody hon hout => ?drives,
    fun s a id hbody hon hstarted => ?starts, fun s a => by simp [State.armAction]⟩
  case arms =>
    refine Completes.of_lasting hpass rfl ?_ rfl
    have hbody' : (s.accept timeSchedule.opcode mb).bodyCheck mb (field r.payload 1 1) (r.payload.drop 20) = 0 :=
      (State.bodyCheck_accept _ _ _ _ _).trans hbody
    have hindex' : (s.accept timeSchedule.opcode mb).actionIndex = some i := hindex
    have hlate : decide (field r.payload 4 8 < (s.accept timeSchedule.opcode mb).actionEarliest (field r.payload 1 1)) = false :=
      decide_eq_false (Nat.not_lt.mpr htime)
    simp only [timeSchedule] at hbody' hindex' hlate ⊢
    rw [if_neg (not_not.mpr hbody'), hindex']
    simp only [hnet, State.dueOf, OfNat.ofNat_ne_one, decide_false, Bool.false_eq_true, reduceIte, hlate, Bool.false_and]
  case cancels =>
    refine Completes.of_lasting hpass rfl ?_ rfl
    have haction' : (s.accept timeCancel.opcode mb).action? (nodeIdx r.node.toNat) = some a := haction
    simp only [timeCancel] at haction' ⊢
    rw [haction']
    dsimp only
    split
    case h_1 hbody => simp [Action.isSlab, hbody] at hslab
    case h_2 => exact if_pos hdue
  case fires =>
    have hnow : ¬ a.isSlab = true ∧ s.isNext a.turn = true ∧ a.due < s.blockEnd ∧ s.awake = true :=
      ⟨by simp [Action.isSlab, hbody], hnext, hdue, hawake⟩
    change execActionFired a.index s = _
    simp only [execActionFired, haction]
    rw [if_pos (by simpa using hnow)]
    simp only [State.fireBody, State.waitLate, State.actionLate, hbody, hlate]
    rfl
  case drives =>
    have hmay : (s.enabled (mkNode Ty.gpio g) && s.parN (mkNode Ty.gpio g) 1 == 1) = true := by rw [hon, hout]; rfl
    simp only [State.fireBody, hbody]
    rw [if_pos hmay]
  case starts =>
    have hmay : (s.enabled id && !s.portStarted id) = true := by rw [hon, hstarted]; rfl
    simp only [State.fireBody, hbody]
    rw [if_pos hmay]

end Sys2Proof

/-! Network time: its commands and the rows of the servo (R131 to R154). -/

namespace Sys2Proof

open Machine

namespace Machine

/-! ### Rules about events beside a change of network time -/

theorem OnlyEvents.withTime {s t : State} (h : OnlyEvents s t) (v : Time) :
    OnlyEvents { s with time := v } { t with time := v } := by
  rw [h]
  rfl

theorem OnlyEvents.ownTime {s t : State} {v : Time} (h : OnlyEvents { s with time := v } t) :
    t.time = v ∧ OnlyEvents { s with time := t.time } t := by
  have htime : t.time = v := h.time
  exact ⟨htime, by rw [htime]; exact h⟩

/-! ### The servo (R139, R140, R151) -/

theorem State.noteDues_only (l : List Action) (s : State) : OnlyEvents s (s.noteDues l) :=
  OnlyEvents.foldl (f := fun s (a : Action) => s.note (.due a.index a.due a.late)) (fun _ _ => note_only _ _) l s

/-- A step re-dates actions; nothing else of network time changes with them. -/
theorem State.restepActions_time (s : State) : ∃ l, s.restepActions.time = { s.time with actions := l } := by
  unfold restepActions
  split
  case isTrue => exact ⟨s.time.actions, rfl⟩
  case isFalse =>
    dsimp only
    refine ⟨_, (State.noteDues_only _ _).time.trans ((note_only _ _).time.trans rfl)⟩

/-- What a step leaves of network time, but for the actions (R140). -/
def Time.stepped (following : Bool) (delta : Int) (t : Time) : Time :=
  { t with
    net := (t.net + delta).toNat, epoch := if following then t.epoch else t.epoch + divEven delta netPerSmp, pendStep := none
    residual := if delta - divEven delta netPerSmp * netPerSmp = 0 then none
      else some ((delta - divEven delta netPerSmp * netPerSmp) / netPerNs)
    pull := t.pull + (delta - divEven delta netPerSmp * netPerSmp) }

theorem State.stepTime_time (delta : Int) (s : State) :
    ∃ l, (s.stepTime delta).time = { s.time.stepped s.following delta with actions := l } := by
  obtain ⟨l, hl⟩ := State.restepActions_time { s with time := s.time.stepped s.following delta }
  have honly : OnlyEvents (State.restepActions { s with time := s.time.stepped s.following delta }) (s.stepTime delta) := by
    unfold stepTime
    exact (raise_only _ _ _ _ _).trans (OnlyEvents.ite (raise_only _ _ _ _ _) (OnlyEvents.refl _))
  exact ⟨l, honly.time.trans hl⟩

theorem State.acquire_time (s : State) : s.acquire.time.servo = .acquiring ∧ s.acquire.time.parentPort = s.time.parentPort ∧
    s.acquire.time.gm = s.time.gm ∧ s.acquire.time.steps = s.time.steps ∧ s.acquire.time.lastAnnounce = s.time.lastAnnounce ∧
    OnlyEvents { s with time := s.acquire.time } s.acquire := by
  unfold acquire
  split
  case isTrue h => exact ⟨h, rfl, rfl, rfl, rfl, rfl⟩
  case isFalse h =>
    rw [setServo, if_neg h]
    have honly := (raise_only 128 0x0200 0 (evData [(0, leBytes 1 s.time.servo.code), (1, leBytes 1 Servo.acquiring.code),
      (2, leBytes 1 s.time.parentPort), (4, signedNs s.time.offset)]) { s with time := s.time.enterServo .acquiring }).ownTime
    obtain ⟨htime, honly⟩ := honly
    refine ⟨?_, ?_, ?_, ?_, ?_, honly⟩ <;> rw [htime] <;> rfl

theorem State.pull_of_alignedAt {s t : State} {n : Nat} (h : State.alignedAt n s = some t) : t.time.pull = 0 := by
  induction n generalizing s with
  | zero =>
    unfold alignedAt at h
    split at h
    case isTrue hpull =>
      cases h
      exact hpull
    case isFalse => cases h
  | succ n ih =>
    unfold alignedAt at h
    split at h
    case isTrue hpull =>
      cases h
      exact hpull
    case isFalse => exact ih h

end Machine

/-- Settles O21. -/
theorem timeCommands : Obligations.TimeCommands := by
  unfold Obligations.TimeCommands
  refine ⟨fun s mb r hpass => ?gets, fun s mb r hpass hports hmclk => ?configures,
    fun s mb r i n hpass hi hn hprofile hptp hclock => ?ports, fun s mb r hpass hsource hpps => ?sets,
    fun s mb r hpass hmay => ?pins⟩
  case gets =>
    refine ⟨Config.freeValue s.free % 20834, Nat.mod_lt _ (by decide), Completes.of_lasting hpass rfl ?_ rfl⟩
    rfl
  case configures =>
    refine Completes.of_lasting hpass rfl ?_ rfl
    have hoff : ((List.range 4).any fun p => ((s.accept timeConfig.opcode mb).latestPort p).enable) = false := by
      rw [List.any_eq_false]
      intro p hp
      exact ne_true_of_eq_false (hports p (List.mem_range.mp hp))
    have hmclk' : ¬ (decide ((timeCfgOf r.payload).mediaSource = 1) && decide ((s.accept timeConfig.opcode mb).latestPins.mclkIn = 0))
        = true := by
      intro hboth
      obtain ⟨hmedia, hin⟩ := Bool.and_eq_true_iff.mp hboth
      exact hmclk (of_decide_eq_true hmedia) (of_decide_eq_true hin)
    simp only [timeConfig] at hoff hmclk' ⊢
    simp only [hoff, Bool.false_and]
    rw [if_neg Bool.false_ne_true, if_neg hmclk']
    rfl
  case ports =>
    refine Completes.of_lasting hpass rfl ?_ rfl
    have hn' : ptpPortOf ((s.accept timePortSet.opcode mb).latestPort (nodeIdx r.node.toNat)) r.payload = n := by
      rw [hi]; exact hn
    have hprofile' : ¬ (!profileOk (s.accept timePortSet.opcode mb).latestCfg.profile n) = true := by
      have h : profileOk (s.accept timePortSet.opcode mb).latestCfg.profile n = true := hprofile
      simp [h]
    have hfree : ¬ ((n.enable && decide ((s.accept timePortSet.opcode mb).latestCfg.clockType = 0) &&
        (List.range 4).any fun j => j != nodeIdx r.node.toNat && ((s.accept timePortSet.opcode mb).latestPort j).enable) ||
        decide ((s.accept timePortSet.opcode mb).latestCfg.profile = 0)) = true := by
      intro hbad
      rcases Bool.or_eq_true_iff.mp hbad with hall | hnone
      · obtain ⟨hpair, hother⟩ := Bool.and_eq_true_iff.mp hall
        obtain ⟨hon, hordinary⟩ := Bool.and_eq_true_iff.mp hpair
        obtain ⟨j, hj, hboth⟩ := List.any_eq_true.mp hother
        obtain ⟨hne, henable⟩ := Bool.and_eq_true_iff.mp hboth
        rcases hclock with hoff | hboundary | hothers
        · exact ne_true_of_eq_false hoff hon
        · exact hboundary (of_decide_eq_true hordinary)
        · exact ne_true_of_eq_false (hothers j (List.mem_range.mp hj) (by rw [← hi]; exact bne_iff_ne.mp hne)) henable
      · exact hptp (of_decide_eq_true hnone)
    simp only [timePortSet] at hn' hprofile' hfree ⊢
    rw [hn', if_neg hprofile', if_neg hfree, hi]
    rfl
  case sets =>
    refine Completes.of_lasting hpass rfl ?_ rfl
    have hsource' : ¬ (s.accept timeSet.opcode mb).latestCfg.servoSource = 0 := hsource
    have hpps' : ¬ (decide ((s.accept timeSet.opcode mb).latestCfg.servoSource = 1) &&
        (decide (field r.payload 8 4 ≠ 0) || decide (field r.payload 12 2 ≠ 0))) = true := by
      intro hbad
      obtain ⟨hsrc, hfields⟩ := Bool.and_eq_true_iff.mp hbad
      obtain ⟨hns, hsub⟩ := hpps (of_decide_eq_true hsrc)
      simp [hns, hsub] at hfields
    simp only [timeSet] at hsource' hpps' ⊢
    rw [if_neg hsource', if_neg hpps']
    rfl
  case pins =>
    refine ⟨{ ppsOut := field r.payload 0 1, ppsWidth := field r.payload 2 2, ppsIn := field r.payload 4 1
              mclkOut := field r.payload 5 1, mclkIn := field r.payload 6 1, cableDelay := sfield r.payload 8 4 },
      rfl, rfl, rfl, rfl, rfl, rfl, ?_⟩
    refine Completes.of_lasting hpass rfl ?_ rfl
    have hmay' : ¬ (decide (field r.payload 6 1 = 0) && decide ((s.accept timePinSet.opcode mb).latestCfg.mediaSource = 1)) = true := by
      intro hbad
      obtain ⟨hin, hmedia⟩ := Bool.and_eq_true_iff.mp hbad
      rcases hmay with h | h
      · exact h (of_decide_eq_true hin)
      · exact h (of_decide_eq_true hmedia)
    simp only [timePinSet] at hmay' ⊢
    rw [if_neg hmay']
    rfl

/-- Settles O22. -/
theorem servoRows : Obligations.ServoRows := by
  unfold Obligations.ServoRows
  refine ⟨fun s d hstep hawake => ?steps, fun s u delta hu => ?stepped, fun s hservo hsource hlast => ?ppsHold,
    fun s hservo hsource hparent => ?ptpHold, fun s stamp hin hsource => ?edge, fun s hin hrun hlost hlast => ?lost,
    fun s t r hres hawake ht => ?aligned, fun s t n ht => State.pull_of_alignedAt ht,
    fun s phase hslew hpulled hpull => ?slewEnd, fun s hsource hparent hlast => ?receipt⟩
  case steps =>
    have hmay : (s.time.pendStep.isSome && s.awake) = true := by rw [hstep, hawake]; rfl
    refine ⟨_, rfl, ?_⟩
    change execTimeStep s = _
    rw [execTimeStep, if_pos hmay]
  case stepped =>
    subst hu
    obtain ⟨l, hl⟩ := s.stepTime_time delta
    rw [hl]
    refine ⟨fun halone => ?_, fun hpos => ?_, rfl, rfl⟩
    · exact if_neg (ne_true_of_eq_false halone)
    · exact Int.toNat_of_nonneg hpos
  case ppsHold =>
    change execHoldoverEntry s = _
    have hgone : decide (s.time.lastPps + 3 * smpPerSecond ≤ s.time.ticks) = true := decide_eq_true hlast
    simp [execHoldoverEntry, hservo, hsource, hgone]
  case ptpHold =>
    change execHoldoverEntry s = _
    simp [execHoldoverEntry, hservo, hsource, hparent]
  case edge =>
    have hexec : ∃ run sec, exec (.ppsInEdge stamp) s = .next { s with time := { s.time with
        lastPps := s.time.ticks, ppsRun := run, ppsSeconds := sec, ppsLost := false } } := by
      change ∃ run sec, execPpsInEdge stamp s = _
      simp only [execPpsInEdge]
      rw [if_neg hin, if_neg hsource]
      exact ⟨_, _, if_pos hsource⟩
    obtain ⟨run, sec, hexec⟩ := hexec
    exact ⟨_, hexec, rfl, rfl, rfl⟩
  case lost =>
    have hlong : s.time.lastPps + 3 * smpPerSecond ≤ s.time.ticks := hlast
    have hmay : (decide (s.time.pins.ppsIn ≠ 0) && decide (0 < s.time.ppsRun) && !s.time.ppsLost &&
        decide (s.time.lastPps + 3 * smpPerSecond ≤ s.time.ticks)) = true := by
      rw [decide_eq_true hin, decide_eq_true hrun, hlost, decide_eq_true hlong]
      rfl
    change execPpsInLost s = _
    simp only [execPpsInLost]
    rw [if_pos hmay]
  case aligned =>
    change execMediaAligned s = _
    simp only [execMediaAligned, hres, hawake, ht]
  case slewEnd =>
    have hmay : (s.time.slewing && s.pulled s.time.slewFrom phase &&
        (decide (s.time.cfg.mediaSource ≠ 0) || decide (s.time.pull = 0))) = true := by
      have hdone : s.pulled s.time.slewFrom phase = true := decide_eq_true hpulled
      rw [hslew, hdone]
      by_cases hmedia : s.time.cfg.mediaSource = 0
      · simp [hpull hmedia]
      · simp [hmedia]
    have hexec : exec (.mediaSourceSlewEnd phase) s = .next (State.raise 134 0x0206 0
        (evData [(0, leSigned 8 s.time.epoch), (8, signedNs phase), (12, leBytes 1 2)])
        { s with time := { s.time with slewing := false } }) := by
      change execMediaSourceSlewEnd phase s = _
      rw [execMediaSourceSlewEnd, if_pos hmay]
    obtain ⟨htime, honly⟩ := (State.raise_only 134 0x0206 0
      (evData [(0, leSigned 8 s.time.epoch), (8, signedNs phase), (12, leBytes 1 2)])
      { s with time := { s.time with slewing := false } }).ownTime
    exact ⟨_, hexec, htime, honly⟩
  case receipt =>
    have hmay : (decide (s.time.cfg.servoSource = 0) && decide (s.time.parentPort < 4) && decide (s.time.lastAnnounce
        + (s.time.ports.getD s.time.parentPort {}).announceTimeout
          * logInterval (s.time.ports.getD s.time.parentPort {}).logAnnounce ≤ s.time.ticks + 15)) = true := by
      rw [decide_eq_true hsource, decide_eq_true hparent, decide_eq_true hlast]
      rfl
    constructor
    · have hexec : exec (.announceReceiptTimeout none) s
          = .next (State.parentChange { s with time := { s.time with parentPort := 0xFF } }) := by
        change execAnnounceReceiptTimeout none s = _
        simp only [execAnnounceReceiptTimeout]
        rw [if_pos hmay]
      obtain ⟨htime, honly⟩ := OnlyEvents.ownTime (State.raise_only _ _ _ _ _ : OnlyEvents
        { s with time := { s.time with parentPort := 0xFF } }
        (State.parentChange { s with time := { s.time with parentPort := 0xFF } }))
      exact ⟨_, hexec, htime, honly⟩
    · intro a
      have hexec : exec (.announceReceiptTimeout (some a)) s = .next (State.parentChange { s with time := { s.time with
          parentPort := a.port, gm := a.gm, steps := a.steps, lastAnnounce := s.time.ticks } }).acquire := by
        change execAnnounceReceiptTimeout (some a) s = _
        simp only [execAnnounceReceiptTimeout]
        rw [if_pos hmay]
      have hparent' : OnlyEvents { s with time := { s.time with
          parentPort := a.port, gm := a.gm, steps := a.steps, lastAnnounce := s.time.ticks } }
          (State.parentChange { s with time := { s.time with
            parentPort := a.port, gm := a.gm, steps := a.steps, lastAnnounce := s.time.ticks } }) :=
        State.raise_only _ _ _ _ _
      obtain ⟨hservo, hport, hgm, hsteps, hlastA, honly⟩ := State.acquire_time (State.parentChange { s with time := { s.time with
          parentPort := a.port, gm := a.gm, steps := a.steps, lastAnnounce := s.time.ticks } })
      rw [hparent'.time] at hport hgm hsteps hlastA
      have hall := (hparent'.withTime _).trans honly
      refine ⟨_, hexec, hport, hgm, hsteps, hlastA, hservo, ?_⟩
      rw [hall.free]
      exact hall

end Sys2Proof

/-! PTP messages of a port (R135 to R138). -/

namespace Sys2Proof

open Machine

namespace Machine

/-! ### The ports -/

theorem State.port_setPort (port : Fin 4) (x : EthPort) (s : State) : (s.setPort port.val x).port port.val = x := by
  simp [setPort, State.port]

theorem State.port_setPort_other {p k : Fin 4} (h : k ≠ p) (x : EthPort) (s : State) :
    (s.setPort p.val x).port k.val = s.port k.val := by
  have hne : p.val ≠ k.val := fun e => h (Fin.ext e.symm)
  simp [setPort, State.port, hne]

theorem State.ptp_setPtp (port : Fin 4) (x : PtpPort) (s : State) : (s.setPtp port.val x).time.ports[port.val]?.getD {} = x := by
  simp [setPtp]

/-! ### What a message carries (R138) -/

theorem ptpSent_followUp_isSome (x : PtpPort) (kind : PtpKind) (at_ : Int) (path : List (BitVec 64)) :
    (ptpSent x kind at_ path).followUp.isSome = true ↔ x.step ≠ 1 ∧ (kind = .sync ∨ kind = .pdelayResp) := by
  by_cases hone : x.step = 1 <;> cases kind <;> simp [ptpSent, hone]

/-- PTP uses the port: it is enabled for it, its link is up, and a profile is chosen. -/
structure PtpOpen (s : State) (port : Fin 4) (x : PtpPort) : Prop where
  is : s.time.ports[port.val]?.getD {} = x
  on : x.enable = true
  profile : s.time.cfg.profile ≠ 0
  link : s.linkUp port.val = true
  ready : s.ready = true

theorem PtpOpen.not_shut {s : State} {port : Fin 4} {x : PtpPort} (h : PtpOpen s port x) :
    ¬ (!x.enable || decide (s.time.cfg.profile = 0) || !s.linkUp port.val || !s.ready) = true := by
  simp [h.on, h.profile, h.link, h.ready]

theorem PtpOpen.receives_authenticated {s : State} {p : PtpMessage} {x : PtpPort} (h : PtpOpen s p.port x)
    (hb : p.body = .authenticated) :
    exec (.ptpMessageRx p) s = .next (s.setPtp p.port.val { x with authDropped := satAdd32 x.authDropped 1 }) := by
  change execPtpMessageRx p s = _
  simp only [execPtpMessageRx, h.is, hb]
  exact if_neg h.not_shut

theorem PtpOpen.receives_management {s : State} {p : PtpMessage} {x : PtpPort} (h : PtpOpen s p.port x) {f : Bytes}
    (hb : p.body = .management f) :
    exec (.ptpMessageRx p) s = .next (s.toHost p.port.val (if (parseEth f).type = 0x88F7 then 3 else 10) f) := by
  change execPtpMessageRx p s = _
  simp only [execPtpMessageRx, h.is, hb]
  exact if_neg h.not_shut

/-- A message that is neither is counted under another domain, or taken under the device's own (R135). -/
theorem PtpOpen.receives_other {s : State} {p : PtpMessage} {x : PtpPort} (h : PtpOpen s p.port x)
    (hauth : p.body ≠ .authenticated) (hmanage : ∀ f, p.body ≠ .management f) :
    exec (.ptpMessageRx p) s =
      if p.domain ≠ s.time.cfg.domain then .next (s.setPtp p.port.val { x with otherDomain := satAdd32 x.otherDomain 1 })
      else .next (s.ptpIn p.port.val x (x.rxStamp p.stamp) p.body) := by
  change execPtpMessageRx p s = _
  simp only [execPtpMessageRx, h.is]
  exact if_neg h.not_shut

theorem PtpOpen.receives_own {s : State} {p : PtpMessage} {x : PtpPort} (h : PtpOpen s p.port x)
    (hauth : p.body ≠ .authenticated) (hmanage : ∀ f, p.body ≠ .management f) (hdomain : p.domain = s.time.cfg.domain) :
    exec (.ptpMessageRx p) s = .next (s.ptpIn p.port.val x (x.rxStamp p.stamp) p.body) :=
  (h.receives_other hauth hmanage).trans (if_neg (not_not.mpr hdomain))

/-- A calibrated port sends (R136, R138): the message and what it leaves. -/
theorem PtpOpen.sends {port : Fin 4} {kind : PtpKind} {s : State} {x : PtpPort} (h : PtpOpen s port x)
    (hsends : x.sends kind = true) :
    ∃ (t : State) (at_ : Int) (path : List (BitVec 64)), exec (.ptpMessageTx port kind) s = .next t ∧
      at_ = x.txStamp ((s.time.net / 768 + Config.freeValue s.free % 5333333 : Nat) : Int) ∧
      t.sent = .ptp port.val (ptpSent x kind at_ path) :: s.sent ∧
      t = { s with time := t.time, eth := t.eth, sent := t.sent, free := s.free + 1 } := by
  have hopen : ¬ (!x.enable || decide (s.time.cfg.profile = 0) || !s.linkUp port.val || !s.ready || !x.sends kind) = true := by
    simp [h.on, h.profile, h.link, h.ready, hsends]
  have hexec : exec (.ptpMessageTx port kind) s = execPtpMessageTx port kind s := rfl
  simp only [execPtpMessageTx, h.is] at hexec
  rw [if_neg hopen] at hexec
  exact ⟨_, _, _, hexec, rfl, rfl, rfl⟩

/-- PORT_CALIBRATED (R137): the port's PTP state and its link, with an event. -/
theorem State.execPortCalibrated_of_up {s : State} (port : Fin 4) (phy : Nat) (h : (s.port port.val).link = 1) :
    ∃ t, exec (.portCalibrated port phy) s = .next t ∧
      OnlyEvents ((s.setPtp port.val { s.time.ports[port.val]?.getD {} with calibrated := true, phy := phy }).setPort port.val
        { s.port port.val with link := 2 }) t := by
  have hexec : exec (.portCalibrated port phy) s = execPortCalibrated port phy s := rfl
  simp only [execPortCalibrated] at hexec
  rw [if_pos h] at hexec
  exact ⟨_, hexec, raise_only _ _ _ _ _⟩

end Machine

/-- Settles O23. -/
theorem ptpMessages : Obligations.PtpMessages := by
  unfold Obligations.PtpMessages
  refine ⟨fun s p x hx hon hprofile hlink hready => ?receives,
    fun s port kind x hx hon hcal hprofile hlink hready hdelay hpdelay => ?sends, fun s port phy hlink => ?calibrated⟩
  case receives =>
    have hopen : PtpOpen s p.port x := ⟨hx, hon, hprofile, hlink, hready⟩
    refine ⟨fun hb => hopen.receives_authenticated hb, fun f hb => hopen.receives_management hb,
      fun hauth hmanage hother => (hopen.receives_other hauth hmanage).trans (if_pos hother),
      fun gm steps better path hb hdomain => ?_, fun origin correction t2 hb hdomain hcal ht2 => ?_, fun hb hdomain hcal => ?_,
      fun hb hdomain hcal => ?_, fun hcal hdomain hb => ?_⟩
    · rw [hopen.receives_own (by simp [hb]) (by simp [hb]) hdomain, hb]
      rfl
    · rw [hopen.receives_own (by simp [hb]) (by simp [hb]) hdomain, hb, ht2]
      exact congrArg _ (if_pos hcal)
    · rw [hopen.receives_own (by simp [hb]) (by simp [hb]) hdomain, hb]
      exact congrArg _ (if_pos hcal)
    · rw [hopen.receives_own (by simp [hb]) (by simp [hb]) hdomain, hb]
      exact congrArg _ (if_pos hcal)
    · rcases hb with ⟨o, c, hb⟩ | hb | hb | ⟨a, b, c, hb⟩ <;>
      · rw [hopen.receives_own (by simp [hb]) (by simp [hb]) hdomain, hb]
        exact congrArg _ (if_neg (ne_true_of_eq_false hcal))
  case sends =>
    have hsends : x.sends kind = true := by
      cases kind <;> simp_all [PtpPort.sends]
    obtain ⟨t, at_, path, hexec, hat, hsent, hrest⟩ := PtpOpen.sends ⟨hx, hon, hprofile, hlink, hready⟩ hsends
    have hphase : Config.freeValue s.free % 5333333 < 5333333 := Nat.mod_lt _ (by decide)
    refine ⟨t, at_, ptpSent x kind at_ path, hexec, ?_, ?_, hsent, rfl, rfl, ptpSent_followUp_isSome x kind at_ path, ?_, ?_, ?_,
      ?_, ?_, ?_, hrest⟩
    · rw [hat, PtpPort.txStamp]
      omega
    · rw [hat, PtpPort.txStamp]
      omega
    · rintro rfl hone
      simp [ptpSent, hone]
    · rintro rfl htwo
      simp [ptpSent, htwo]
    · rintro rfl
      rfl
    · rintro t0 rfl hreq hone
      simp [ptpSent, hreq, hone]
    · intro hudp
      simp [ptpSent, hudp]
    · intro hother
      simp [ptpSent, hother]
  case calibrated =>
    obtain ⟨t, hexec, honly⟩ := State.execPortCalibrated_of_up port phy hlink
    have htime := honly.time
    have heth := honly.eth
    have hport (k : Fin 4) : t.port k.val = (State.setPort port.val { s.port port.val with link := 2 } s).port k.val := by
      unfold State.port
      rw [heth]
      rfl
    refine ⟨t, hexec, ?_, ?_, ?_, fun k hk => ?_, ?_⟩
    · rw [hport, State.port_setPort]
    · rw [htime]
      exact congrArg PtpPort.calibrated (State.ptp_setPtp port _ s)
    · rw [htime]
      exact congrArg PtpPort.phy (State.ptp_setPtp port _ s)
    · rw [hport, State.port_setPort_other hk]
    · rw [htime, heth]
      exact honly

end Sys2Proof

/-! Audio ports and microphones (R162 to R180). -/

namespace Sys2Proof

open Machine

namespace Machine

/-- A row whose instant lies in this strobe period has its effect there. -/
theorem State.instant_of_due {s u : State} {due : Option Nat} {d : Nat} (f : Nat → State → State) (hdue : due = some d)
    (hawake : s.awake = true) (hblock : d < s.blockEnd) (hu : s.reach d = u) : s.instant due f = f d u := by
  subst hdue hu
  exact if_pos (by rw [hawake, decide_eq_true hblock]; rfl)

theorem State.tdm?_setTdm (s : State) (t : TdmPort) : (s.setTdm t).tdm? t.port = some t := findKey_putKey _ _ _

theorem State.mic?_setMic (s : State) (x : Mic) : (s.setMic x).mic? x.mic = some x := findKey_putKey _ _ _

/-- A frame-start edge of this strobe period at a slave port reaches the port. -/
theorem exec_tdmFrame {s u : State} {port : Fin 32} {bits m phase edge : Nat} {t : TdmPort} (hawake : s.awake = true)
    (hnow : s.m ≤ m) (hedge : edge = (if phase = 0 then m else m - 1)) (hblock : 16 * s.time.block ≤ edge) (hend : m ≤ s.blockEnd)
    (hslave : s.tdmPar port 1 = 0) (hu : s.reach edge = u) (ht : u.tdm? port = some t) :
    exec (.tdmFrame port bits ⟨m, phase⟩) s = .next (u.tdmFrameIn t bits (u.frameSample m phase) phase) := by
  subst hedge
  have hmay : (s.awake && decide (s.m ≤ m) && decide (16 * s.time.block ≤ if phase = 0 then m else m - 1) &&
      decide (m ≤ s.blockEnd) && s.tdmPar port 1 == 0) = true := by
    rw [hawake, decide_eq_true hnow, decide_eq_true hblock, decide_eq_true hend, hslave]
    rfl
  change execTdmFrame port bits ⟨m, phase⟩ s = _
  simp only [execTdmFrame]
  rw [if_pos hmay, hu, ht]
  rfl

end Machine

/-- Settles O24. -/
theorem audioPorts : Obligations.AudioPorts := by
  unfold Obligations.AudioPorts
  refine ⟨fun s mb r hpass => ?resync,
    fun s u port bits m phase edge m0 q t hawake hnow hedge hblock hend hslave hu ht hq => ?frames,
    fun s port t ht hrun hslave => ?lost, fun s t => s.tdm?_setTdm t⟩
  case resync => exact Completes.of_lasting hpass rfl rfl (State.lasting_atBoundary _ _)
  case frames =>
    rw [exec_tdmFrame hawake hnow hedge hblock hend hslave hu ht, hq]
    refine ⟨fun hrun hstart => ?_, fun hrun => ?_, fun hrun hnext => ?_⟩
    · simp only [State.tdmFrameIn, hrun, State.tdmFirst, hstart]
    · simp only [State.tdmFrameIn, hrun]
      rfl
    · have hlater : ¬ q ≤ t.lastFrame := by omega
      have hgap : q - t.lastFrame - 1 = 0 := by omega
      simp only [State.tdmFrameIn, hrun]
      rw [if_neg hlater, hgap]
      rfl
  case lost =>
    change execTdmClockLost port s = _
    simp only [execTdmClockLost, ht]
    rw [if_pos (by rw [hrun, decide_eq_true hslave]; rfl)]
    rfl

/-- Settles O25. -/
theorem microphoneInstants : Obligations.MicrophoneInstants := by
  unfold Obligations.MicrophoneInstants
  refine ⟨fun s u mic kind d x hdue hawake hblock hu hx => ?valid, fun s u mic d x hdue hawake hblock hu hx => ?handOver,
    fun s u mic d x f hdue hawake hblock hu hx hfade hswap => ?swap, fun s x => s.mic?_setMic x⟩
  case valid =>
    change execPdmValid mic s = _
    simp only [execPdmValid, hdue]
    rw [State.instant_of_due _ rfl hawake hblock hu, State.pdmValid, hx]
    by_cases hkind : kind = 1
    · simp only [if_pos hkind]
    · simp only [if_neg hkind]
  case handOver =>
    change execHandOverComplete mic s = _
    rw [execHandOverComplete, State.instant_of_due _ hdue hawake hblock hu, State.handOver, hx]
  case swap =>
    change execResponseSwap mic s = _
    rw [execResponseSwap, State.instant_of_due _ hdue hawake hblock hu]
    simp only [State.micFadeEnd, hx, hfade, hswap]

end Sys2Proof

/-! The Gallery's commands (R190, R206). -/

namespace Sys2Proof

open Machine

namespace Machine

theorem not_any_le_of_lt {n : Nat} {l : List Nat} (h : ∀ e ∈ l, e < n) : ¬ (l.any (n ≤ ·)) = true := by
  rw [List.any_eq_true]
  rintro ⟨e, he, hle⟩
  exact absurd (of_decide_eq_true hle) (Nat.not_le.mpr (h e he))

theorem State.xpRun_of_open {s : State} (o first : Nat) (es : List Nat) (h : s.closedView = none) :
    s.xpRun o first es = { s with pend := s.pend ++ (List.range es.length).map (fun j =>
      Pend.change ⟨mkNode Ty.galOut o, 0x1000 + first + j, leBytes 4 (es.getD j 0)⟩) } :=
  foldl_atBoundary (fun j => .change ⟨mkNode Ty.galOut o, 0x1000 + first + j, leBytes 4 (es.getD j 0)⟩) h _

theorem State.atBoundary_of_open {s : State} (p : Pend) (h : s.closedView = none) :
    s.atBoundary p = { s with pend := s.pend ++ [p] } := by
  simp [atBoundary, h]

theorem State.atBoundary_of_closed {s : State} (p : Pend) (h : s.closedView ≠ none) :
    s.atBoundary p = { s with pendLate := s.pendLate ++ [p] } := by
  simp [atBoundary, Option.isSome_iff_ne_none.mpr h]

end Machine

/-- Settles O26. -/
theorem galleryCommands : Obligations.GalleryCommands := by
  unfold Obligations.GalleryCommands
  refine ⟨fun s mb r n o hpass ho hn hlen hin hlegal => ?writes, fun s mb r on n es hpass hon hn hes hlegal hhits => ?bulk,
    fun s o first es hview l hl => hl ▸ State.xpRun_of_open o first es hview, fun s mb r hpass => ?reads,
    fun s mb r hpass => ?profiles, fun s mb r hpass => ?status,
    fun s p => ⟨State.atBoundary_of_open p, State.atBoundary_of_closed p⟩⟩
  case writes =>
    refine Completes.of_lasting hpass rfl ?_ (State.lasting_xpRun _ _ _ _)
    have hrange : ¬ (decide (4096 < field r.payload 0 2 + n) || (words32 n (r.payload.drop 8)).any (0x20000000 ≤ ·)) = true := by
      rw [Bool.or_eq_true]
      rintro (hover | hbad)
      · exact absurd (of_decide_eq_true hover) (Nat.not_lt.mpr hin)
      · exact not_any_le_of_lt hlegal hbad
    simp only [galXpWrite]
    rw [hn, if_neg (not_not.mpr hlen), if_neg hrange, ho]
    rfl
  case bulk =>
    refine Completes.of_lasting hpass rfl ?_ (State.foldl_lasting (fun u k => State.lasting_xpRun _ _ _ u) _ _)
    have hes' : words32 (on * n) ((s.accept galXpBulk.opcode mb).readBulk mb (field r.payload 8 4) (4 * on * n)) = es := hes
    have hhits' : ¬ (s.accept galXpBulk.opcode mb).hitsAttachment mb (field r.payload 8 4) (4 * on * n) = true :=
      ne_true_of_eq_false hhits
    simp only [galXpBulk] at hes' hhits' ⊢
    rw [hon, hn, hes', if_neg (not_any_le_of_lt hlegal), if_neg hhits']
    rfl
  case reads => exact Completes.of_lasting hpass rfl rfl rfl
  case profiles => exact Completes.of_lasting hpass rfl rfl (State.lasting_atBoundary _ _)
  case status => exact Completes.of_lasting hpass rfl rfl rfl

end Sys2Proof

/-! The renderer's commands (R217, R224, R235), the loudspeaker banks (R257 to R259), the stage's instants (R247, R261). -/

namespace Sys2Proof

open Machine

namespace Machine

/-! ### Node IDs (R82) -/

theorem nodeType_mkNode (t : Nat) {i : Nat} (h : i < 0x1000000) : nodeType (mkNode t i) = t := by
  unfold nodeType mkNode
  omega

theorem nodeIdx_mkNode (t : Nat) {i : Nat} (h : i < 0x1000000) : nodeIdx (mkNode t i) = i := by
  unfold nodeIdx mkNode
  omega

/-- An entry found under a key has that key, as has the default entry. -/
theorem key_getD_findKey {α : Type} {key : α → Nat} {k : Nat} {l : List α} {d : α} (hd : key d = k) :
    key ((findKey key k l).getD d) = k := by
  cases hfind : findKey key k l with
  | none => exact hd
  | some x => simpa using List.find?_some hfind

/-! ### The renderer -/

theorem State.obj_objDyn (s : State) (o : Nat) : (s.objDyn o).obj = o := key_getD_findKey rfl

theorem State.objDyn_setObj_of_key {s : State} {x : ObjDyn} {o : Nat} (h : x.obj = o) : (s.setObj x).objDyn o = x := by
  have hfind : (s.setObj x).obj? o = some x := h ▸ findKey_putKey _ _ _
  rw [objDyn, hfind]
  rfl

theorem State.objDyn_countLate (o n k : Nat) (s : State) : (s.countLate o n).objDyn k = s.objDyn k := by
  unfold countLate
  split <;> rfl

theorem State.pend_makeRecord {s : State} {o : Nat} (start : Nat) (hon : s.enabled (objId o) = true) :
    ((s.makeRecord o start).objDyn o).pend = some { pos := s.par (objId o) 1, start := start, order := s.commits } := by
  rw [makeRecord, if_pos hon]
  dsimp only
  rw [objDyn_countLate]
  exact congrArg ObjDyn.pend (objDyn_setObj_of_key (by exact s.obj_objDyn o))

/-! ### The loudspeaker stage -/

/-- An inline load of a bank (source 0) that passes the checks of R257. -/
theorem spkBankLoad_body {s : State} {mb : Fin 8} {r : Req} {k b : Nat} {data : Bytes} (hk : nodeIdx r.node.toNat = k)
    (hb : field r.payload 0 1 = b) (hsource : field r.payload 1 1 = 0)
    (hlen : r.payload.length = 24 + 4 * field r.payload 6 2) (hrange : bankRangeOk r.payload = true)
    (hdata : slice r.payload 24 (4 * field r.payload 6 2) = data) (hfree : s.bankLocked k b = false)
    (hfirst : bit (field r.payload 2 1) 0 = true)
    (hmax : bit (field r.payload 2 1) 1 = true → field r.payload 8 2 ≤ s.latestN (spkId k) 0x108) :
    spkBankLoad.body s mb r = .done (if bit (field r.payload 2 1) 1 then
        (s.setSpk ((s.spkDyn k).setBank b (bankLoaded r.payload data ((s.spkDyn k).bank b)))).raise 582 0x0600 (spkId k)
          (evData [(0, leBytes 1 b), (2, leBytes 2 (field r.payload 8 2)), (4, leBytes 1 0), (8, leBytes 8 (16 * s.time.block))])
      else s.setSpk ((s.spkDyn k).setBank b (bankLoaded r.payload data ((s.spkDyn k).bank b)))) {} := by
  subst hk hb hdata
  have hlen' : ¬ r.payload.length ≠ 24 + if field r.payload 1 1 = 0 then 4 * field r.payload 6 2 else 0 := by
    rw [if_pos hsource]
    exact not_not.mpr hlen
  have hrange' : ¬ (!bankRangeOk r.payload) = true := by simp [hrange]
  have hdata' : s.bankData mb r.payload = some (slice r.payload 24 (4 * field r.payload 6 2)) := if_pos hsource
  have hconflict : ¬ (bit (field r.payload 2 1) 1 &&
      decide (s.latestN (spkId (nodeIdx r.node.toNat)) 0x108 < field r.payload 8 2)) = true := by
    intro hbad
    obtain ⟨hfinal, hover⟩ := Bool.and_eq_true_iff.mp hbad
    exact absurd (of_decide_eq_true hover) (Nat.not_lt.mpr (hmax hfinal))
  simp only [spkBankLoad]
  rw [if_neg hlen', if_neg hrange', hdata']
  dsimp only
  rw [if_neg (ne_true_of_eq_false hfree), if_neg (by simp [hfirst]), if_neg hconflict, if_neg (by simp [hsource])]
  rw [hsource]
  rfl

end Machine

/-- Settles O28. -/
theorem rendererCommands : Obligations.RendererCommands := by
  unfold Obligations.RendererCommands
  refine ⟨fun s mb r hpass => ?config, fun s mb r hpass hcheck => ?batch,
    fun s o start hon => State.pend_makeRecord start hon, fun s mb r q hpass hid hlo hhi hnone => ?binds,
    fun s mb r hpass hid hbound => ?unbinds, fun s mb r x hpass hx => ?footprint⟩
  case config =>
    exact Completes.of_lasting hpass rfl rfl ((State.lasting_recordAll _).trans (State.lasting_atBoundary _ _))
  case batch =>
    refine Completes.of_lasting hpass rfl ?_ (State.foldl_lasting State.lasting_placeObject _ _)
    have hcheck' : (s.accept renPosBatch.opcode mb).batchCheck r.payload = 0 := hcheck
    simp only [renPosBatch] at hcheck' ⊢
    exact if_neg (not_not.mpr hcheck')
  case binds =>
    refine Completes.of_lasting hpass rfl ?_ rfl
    have hidx : nodeIdx (field r.payload 0 4) = q := by rw [hid, nodeIdx_mkNode _ (by omega)]
    have htype : nodeType (field r.payload 0 4) = Ty.queue := by rw [hid, nodeType_mkNode _ (by omega)]
    have hzero : ¬ field r.payload 0 4 = 0 := by
      intro h
      rw [h] at htype
      exact absurd htype (by decide)
    have hnone' : (s.accept renPosQueue.opcode mb).ren.posQueue = none := hnone
    simp only [renPosQueue] at hnone' ⊢
    rw [if_neg hzero, if_neg (not_not.mpr htype), hidx, if_neg (by omega), hnone']
    rfl
  case unbinds =>
    refine Completes.of_lasting hpass rfl ?_ rfl
    have hbound' : (s.accept renPosQueue.opcode mb).ren.posQueue.isSome = true := hbound
    simp only [renPosQueue] at hbound' ⊢
    rw [if_pos hid, if_pos hbound']
    rfl
  case footprint =>
    subst hx
    exact Completes.of_lasting hpass rfl rfl rfl

/-- Settles O30. -/
theorem bankCommands : Obligations.BankCommands := by
  unfold Obligations.BankCommands
  refine ⟨fun s mb r k b data hpass hk hb hsource hlen hrange hdata hfree hfirst hfinal => ?loads,
    fun s mb r k b data hpass hk hb hsource hlen hrange hdata hfree hfirst hfinal hmax => ?finals,
    fun s mb r hpass hin => ?reads, fun s mb r k b hpass hk hb hfree => ?clears, fun s x => s.spkDyn_setSpk x⟩
  case loads =>
    refine Completes.of_lasting hpass rfl ?_ rfl
    have hfree' : (s.accept spkBankLoad.opcode mb).bankLocked k b = false := hfree
    rw [spkBankLoad_body hk hb hsource hlen hrange hdata hfree' hfirst (by simp [hfinal]), hfinal, bankLoaded, hfirst, hfinal]
    rfl
  case finals =>
    refine Completes.of_lasting hpass rfl ?_ (State.lasting_raise _ _ _ _ _)
    have hfree' : (s.accept spkBankLoad.opcode mb).bankLocked k b = false := hfree
    rw [spkBankLoad_body hk hb hsource hlen hrange hdata hfree' hfirst (fun _ => hmax), hfinal, bankLoaded, hfirst, hfinal]
    rfl
  case reads =>
    refine Completes.of_lasting hpass rfl ?_ rfl
    simp only [spkBankRead]
    rw [if_neg (Nat.not_lt.mpr hin)]
    rfl
  case clears =>
    subst hk hb
    refine Completes.of_lasting hpass rfl ?_ rfl
    have hfree' : (s.accept spkBankClear.opcode mb).bankLocked (nodeIdx r.node.toNat) (field r.payload 0 1) = false := hfree
    simp only [spkBankClear] at hfree' ⊢
    rw [if_neg (ne_true_of_eq_false hfree')]
    rfl

/-- Settles O31. -/
theorem stageInstants : Obligations.StageInstants := by
  unfold Obligations.StageInstants
  refine ⟨fun s u k d a b f n hactive hdue hawake hblock hu hfade hswap => ?bank,
    fun s u k d a b n hactive hdue hawake hblock hu hfade hwait => ?delay⟩
  case bank =>
    change execSpkBankSwap k s = _
    rw [execSpkBankSwap, if_pos (by rw [State.isActive, hactive]; rfl), State.instant_of_due _ hdue hawake hblock hu]
    simp only [State.bankFadeEnd, hfade, hswap]
  case delay =>
    change execDelayXfadeEnd k s = _
    rw [execDelayXfadeEnd, if_pos (by rw [State.isActive, hactive]; rfl), State.instant_of_due _ hdue hawake hblock hu]
    simp only [State.delayFadeEnd, hfade, hwait]

end Sys2Proof

/-! Capture (R268 to R295): its commands, and the instants of the canceller and of the locator. -/

namespace Sys2Proof

open Machine

namespace Machine

/-! ### Rules about events beside a change of the capture stage -/

theorem OnlyEvents.withCap {s t : State} (h : OnlyEvents s t) (v : Capture) :
    OnlyEvents { s with cap := v } { t with cap := v } := by
  rw [h]
  rfl

/-- Nothing but the capture stage differs, and events. -/
theorem OnlyEvents.transCap {s t u : State} (h : OnlyEvents { s with cap := t.cap } t) (k : OnlyEvents { t with cap := u.cap } u) :
    OnlyEvents { s with cap := u.cap } u :=
  (h.withCap u.cap).trans k

theorem OnlyEvents.ownCap {s t : State} {v : Capture} (h : OnlyEvents { s with cap := v } t) : OnlyEvents { s with cap := t.cap } t := by
  have hcap : t.cap = v := h.cap
  rw [hcap]
  exact h

/-! ### Beams and references -/

theorem State.beam_beamDyn (s : State) (b : Nat) : (s.beamDyn b).beam = b := key_getD_findKey rfl

theorem State.beamDyn_setBeam_of_key {s : State} {x : BeamDyn} {b : Nat} (h : x.beam = b) : (s.setBeam x).beamDyn b = x :=
  h ▸ s.beamDyn_setBeam x

theorem State.beamDyn_of_only {s t : State} (h : OnlyEvents s t) (b : Nat) : t.beamDyn b = s.beamDyn b := by
  unfold beamDyn
  rw [h.cap]

theorem BeamDyn.ref_setRef {x : BeamDyn} {r : Nat} (v : RefDyn) (h : r < x.refs.length) : (x.setRef r v).ref r = v := by
  simp [ref, setRef, List.getD_eq_getElem?_getD, h]

theorem BeamDyn.ref_setRef_other {x : BeamDyn} {r k : Nat} (v : RefDyn) (h : k ≠ r) : (x.setRef r v).ref k = x.ref k := by
  simp [ref, setRef, List.getD_eq_getElem?_getD, h.symm]

/-- Clearing one reference keeps the others cleared. -/
theorem BeamDyn.filter_setRef_zero {x : BeamDyn} {r : Nat} {v : RefDyn} (hx : ∀ k, (x.ref k).filter = 0) (hv : v.filter = 0) (k : Nat) :
    ((x.setRef r v).ref k).filter = 0 := by
  by_cases hk : k = r
  · subst hk
    by_cases hlen : k < x.refs.length
    · rw [ref_setRef v hlen, hv]
    · simp [ref, setRef, List.getD_eq_getElem?_getD, Nat.not_lt.mp hlen]
  · rw [ref_setRef_other v hk, hx]

/-! ### Periods (R278) -/

theorem getD_map_range {α : Type} (f : Nat → α) (d : α) {n r : Nat} (h : r < n) : ((List.range n).map f).getD r d = f r := by
  simp [List.getD_eq_getElem?_getD, h]

/-- That a convergence has been told leaves the filters (R284). -/
theorem RefDyn.filter_getD_settled (p : Prop) [Decidable p] (l : List RefDyn) (r : Nat) :
    ((if p then l.map (fun c => { c with awaitConv := false }) else l).getD r {}).filter = (l.getD r {}).filter := by
  split
  case isTrue =>
    rw [List.getD_eq_getElem?_getD, List.getD_eq_getElem?_getD, List.getElem?_map]
    cases l[r]? <;> rfl
  case isFalse => rfl

/-- What the end of a period leaves of a beam (R278): the filters that may adapt are updated. -/
theorem State.adapt_only (b : Nat) (s : State) : ∃ x : BeamDyn, OnlyEvents (s.setBeam x) (s.adapt b) ∧ x.beam = (s.beamDyn b).beam ∧
    x.errs = [] ∧ x.curY = 0 ∧ x.curE = 0 ∧ ∀ r, r < 8 → (x.ref r).filter =
      if s.beamPar b 3 == 1 && !(s.beamDyn b).dtInPeriod && !(s.beamDyn b).idleInPeriod.contains r then
        Config.aecUpdate ((s.beamDyn b).ref r).filter
          (if (s.beamDyn b).reconverging s.m then min 4096 (2 * s.beamPar b 4) else s.beamPar b 4) (s.beamDyn b).errs
          ((s.beamDyn b).ref r).hist
      else ((s.beamDyn b).ref r).filter := by
  unfold adapt
  extract_lets x mu step go
  refine ⟨_, OnlyEvents.ite (raise_only _ _ _ _ _) (OnlyEvents.refl _), rfl, rfl, rfl, rfl, fun r hr => ?_⟩
  refine (RefDyn.filter_getD_settled _ _ r).trans ?_
  rw [getD_map_range _ _ hr]
  exact (apply_ite RefDyn.filter _ _ _)

/-! ### Divergence and re-convergence (R281 to R283) -/

theorem State.reconverge_only (b r cause m : Nat) (clear : Bool) (s : State) :
    OnlyEvents (s.setBeam ((s.beamDyn b).setRef r { (s.beamDyn b).ref r with
      due := none, filter := if clear then 0 else ((s.beamDyn b).ref r).filter, awaitConv := false
      reconv := some (m + 48 * s.beamPar b 8) })) (s.reconverge b r cause m clear) :=
  raise_only _ _ _ _ _

theorem State.beamDyn_reconverge (b r cause m : Nat) (clear : Bool) (s : State) :
    (s.reconverge b r cause m clear).beamDyn b = (s.beamDyn b).setRef r { (s.beamDyn b).ref r with
      due := none, filter := if clear then 0 else ((s.beamDyn b).ref r).filter, awaitConv := false
      reconv := some (m + 48 * s.beamPar b 8) } :=
  (beamDyn_of_only (s.reconverge_only b r cause m clear) b).trans (beamDyn_setBeam_of_key (s.beam_beamDyn b))

/-- What divergence has cleared of a beam (R281): its filters and its count of worse periods. -/
structure Cleared (b n : Nat) (s : State) : Prop where
  worse : (s.beamDyn b).worse = 0
  clears : (s.beamDyn b).clears = n
  filters : ∀ r, ((s.beamDyn b).ref r).filter = 0

theorem Cleared.reconverge {b n : Nat} {s : State} (h : Cleared b n s) (r cause m : Nat) :
    Cleared b n (s.reconverge b r cause m true) := by
  have hbeam := s.beamDyn_reconverge b r cause m true
  refine ⟨?_, ?_, fun k => ?_⟩
  · rw [hbeam]
    exact h.worse
  · rw [hbeam]
    exact h.clears
  · rw [hbeam]
    exact BeamDyn.filter_setRef_zero h.filters rfl k

theorem Cleared.reconvergeAll {b n cause : Nat} {s : State} (h : Cleared b n s) (l : List Nat) :
    Cleared b n (l.foldl (fun s r => s.reconverge b r cause s.m true) s) := by
  induction l generalizing s with
  | nil => exact h
  | cons r l ih => exact ih (h.reconverge r cause s.m)

theorem State.reconvergeAll_cap (b cause : Nat) (l : List Nat) (s : State) :
    OnlyEvents { s with cap := (l.foldl (fun s r => s.reconverge b r cause s.m true) s).cap }
      (l.foldl (fun s r => s.reconverge b r cause s.m true) s) := by
  induction l generalizing s with
  | nil => exact OnlyEvents.refl s
  | cons r l ih =>
    have hstep : OnlyEvents { s with cap := (s.reconverge b r cause s.m true).cap } (s.reconverge b r cause s.m true) :=
      OnlyEvents.ownCap (s.reconverge_only b r cause s.m true)
    exact hstep.transCap (ih _)

/-- The state with the beam's filters cleared, before its references re-converge. -/
theorem State.diverge_cleared (b : Nat) (s : State) : Cleared b (((s.beamDyn b).clears + 1) % 2 ^ 32) (s.diverge b) ∧
    OnlyEvents { s with cap := (s.diverge b).cap } (s.diverge b) := by
  unfold diverge
  extract_lets x n u v
  have honly : OnlyEvents u v := cross_only _ _ _ _ _ _ _
  have hbeam : v.beamDyn b = { x with refs := x.refs.map fun c => { c with filter := 0 }, worse := 0, clears := n } :=
    (beamDyn_of_only honly b).trans (beamDyn_setBeam_of_key (by exact s.beam_beamDyn b))
  have hcleared : Cleared b n v := by
    refine ⟨by rw [hbeam], by rw [hbeam], fun r => ?_⟩
    rw [hbeam, BeamDyn.ref, List.getD_eq_getElem?_getD, List.getElem?_map]
    cases x.refs[r]? <;> rfl
  have hcap : OnlyEvents { s with cap := v.cap } v := OnlyEvents.ownCap honly
  exact ⟨hcleared.reconvergeAll _, hcap.transCap (State.reconvergeAll_cap _ _ _ _)⟩

/-! ### The locator (R275) -/

theorem State.locGroup_setLocGroup (g : Fin 16) (v : LocGroup) (s : State) : (s.setLocGroup g.val v).locGroup g.val = v := by
  simp [setLocGroup, locGroup]

theorem State.setLeader_only (g : Nat) (leader : Option Nat) (m : Nat) (s : State) :
    OnlyEvents (s.setLocGroup g { s.locGroup g with leader := leader, cand := none, lastChange := m }) (s.setLeader g leader m) :=
  raise_only _ _ _ _ _

theorem State.locGroup_setLeader (g : Fin 16) (leader : Option Nat) (m : Nat) (s : State) :
    (s.setLeader g.val leader m).locGroup g.val = { s.locGroup g.val with leader := leader, cand := none, lastChange := m } := by
  have hcap := (s.setLeader_only g.val leader m).cap
  unfold locGroup at *
  rw [hcap]
  exact s.locGroup_setLocGroup g _

end Machine

/-- Settles O32. -/
theorem captureCommands : Obligations.CaptureCommands := by
  unfold Obligations.CaptureCommands
  refine ⟨fun s mb r hpass => ?config, fun s mb r g l hpass hg hl => ?reads, fun s g b hlead henergy => ?level,
    fun s mb r hpass hon haec => ?resets, fun s mb r hpass haec => ?status⟩
  case config => exact Completes.of_lasting hpass rfl rfl (State.lasting_atBoundary _ _)
  case reads =>
    subst hg hl
    exact Completes.of_lasting hpass rfl rfl rfl
  case level => simp only [State.leaderLevel, hlead, if_pos henergy]
  case resets =>
    refine Completes.of_lasting hpass rfl ?_ (State.lasting_atBoundary _ _)
    have hmay : ¬ (!(s.accept capAecReset.opcode mb).enabled r.node.toNat ||
        decide ((s.accept capAecReset.opcode mb).latestN r.node.toNat 1 = 0)) = true := by
      have hon' : (s.accept capAecReset.opcode mb).enabled r.node.toNat = true := hon
      have haec' : ¬ (s.accept capAecReset.opcode mb).latestN r.node.toNat 1 = 0 := haec
      simp [hon', haec']
    simp only [capAecReset] at hmay ⊢
    exact if_neg hmay
  case status =>
    refine Completes.of_lasting hpass rfl ?_ rfl
    have haec' : ¬ (s.accept capAecStatus.opcode mb).latestN r.node.toNat 1 = 0 := haec
    simp only [capAecStatus] at haec' ⊢
    rw [if_neg haec']
    rfl

/-- Settles O33. -/
theorem captureInstants : Obligations.CaptureInstants := by
  unfold Obligations.CaptureInstants
  refine ⟨fun s b hactive hdue => ?period, fun s b => ?settled, fun s b r step x hx hr hstep => ?filters,
    fun s u b d hactive hdue hawake hblock hu => ?fade, fun s b x hrun hstate hx hfade => ?changed,
    fun s b hactive hpos haec hworse => ?diverged, fun s b => ?cleared, fun s b r cause m clear hr => ?reconverges,
    fun s b k hactive haec hk hzone hquiet hidle => ?idle, fun s u b d hactive hdue hawake hblock hu => ?doubleTalk,
    fun s u b k d hactive hdue hawake hblock hu => ?reconverged,
    fun s u b k d cause clear hactive hdue hawake hblock hu => ?change, fun s g c n hactive hcand hlong => ?leader⟩
  case period =>
    change execAdaptationPeriod b s = _
    rw [execAdaptationPeriod, if_pos (by rw [State.isActive, hactive, hdue]; rfl)]
  case settled =>
    obtain ⟨x, honly, hbeam, herrs, hy, he, -⟩ := s.adapt_only b
    rw [State.beamDyn_of_only honly, State.beamDyn_setBeam_of_key (hbeam.trans (s.beam_beamDyn b))]
    exact ⟨herrs, hy, he⟩
  case filters =>
    subst hx hstep
    obtain ⟨x, honly, hbeam, -, -, -, hfilter⟩ := s.adapt_only b
    rw [State.beamDyn_of_only honly, State.beamDyn_setBeam_of_key (hbeam.trans (s.beam_beamDyn b)), hfilter r hr]
    refine ⟨fun hkeeps => if_neg ?_, fun hmode htalk hidle => if_pos ?_⟩
    · rcases hkeeps with h | h | h
      · simp [h]
      · simp [h]
      · simp only [h, Bool.not_true, Bool.and_false, Bool.false_eq_true, not_false_eq_true]
    · simp only [hmode, htalk, hidle, beq_self_eq_true, Bool.not_false, Bool.and_true]
  case fade =>
    change execMicFilterFadeEnd b s = _
    rw [execMicFilterFadeEnd, if_pos (by rw [State.isActive, hactive]; rfl), State.instant_of_due _ hdue hawake hblock hu]
    rfl
  case changed =>
    subst hx
    have hactive : ¬ (s.power.state == .standby) = true := fun h => hstate (eq_of_beq h)
    rw [State.micFilterChanged, if_neg (by simp [hrun])]
    dsimp only
    rw [if_neg hactive, hfade]
  case diverged =>
    change execAecDiverged b s = _
    rw [execAecDiverged, if_pos (by rw [State.isActive, hactive, hpos, haec, decide_eq_true hworse]; rfl)]
  case cleared =>
    obtain ⟨hcleared, honly⟩ := s.diverge_cleared b
    exact ⟨hcleared.worse, hcleared.clears, hcleared.filters, honly⟩
  case reconverges =>
    rw [s.beamDyn_reconverge b r cause m clear]
    exact ⟨BeamDyn.ref_setRef _ hr, fun k hk => BeamDyn.ref_setRef_other _ hk⟩
  case idle =>
    change execAecRefIdle b k s = _
    simp only [execAecRefIdle]
    rw [if_pos (by rw [State.isActive, hactive, haec, decide_eq_true hk, hzone, decide_eq_true hquiet, hidle]; rfl)]
    rfl
  case doubleTalk =>
    change execDoubleTalkEnd b s = _
    rw [execDoubleTalkEnd, if_pos (by rw [State.isActive, hactive]; rfl), State.instant_of_due _ hdue hawake hblock hu]
  case reconverged =>
    change execReconvergenceEnd b k s = _
    rw [execReconvergenceEnd, if_pos (by rw [State.isActive, hactive]; rfl), State.instant_of_due _ hdue hawake hblock hu]
  case change =>
    change execAecReconverge b k s = _
    simp only [execAecReconverge, hdue]
    rw [if_pos (by rw [State.isActive, hactive]; rfl), State.instant_of_due _ rfl hawake hblock hu]
  case leader =>
    have hexec : exec (.locatorChange g) s = .next (s.setLeader g.val (some c) (16 * s.time.block)) := by
      change execLocatorChange g s = _
      simp only [execLocatorChange, hcand]
      rw [if_pos (by rw [State.isActive, hactive, decide_eq_true hlong]; rfl)]
    have hgroup := s.locGroup_setLeader g (some c) (16 * s.time.block)
    exact ⟨_, hexec, by rw [hgroup], by rw [hgroup], by rw [hgroup], OnlyEvents.ownCap (s.setLeader_only g.val (some c) _)⟩

end Sys2Proof

/-! Ethernet and streams (R299 to R327): their commands, and the rows of a stream. -/

namespace Sys2Proof

open Machine

namespace Machine

theorem State.streamDyn_node (s : State) (n : Nat) : (s.streamDyn n).node = n := key_getD_findKey rfl

theorem State.streamDyn_setStream_of_key {s : State} {x : StreamDyn} {n : Nat} (h : x.node = n) :
    (s.setStream x).streamDyn n = x :=
  h ▸ s.streamDyn_setStream x

/-- An interface that is enabled beside another one shares neither its VLAN nor its addresses (R299). -/
theorem State.no_clash {s : State} {p i : Nat} {x : Iface}
    (h : ∀ j y, j < 8 → j ≠ i → s.iface p j = y → y.enable = true → y.vlan ≠ x.vlan ∧
      (x.v4 = true → y.v4 = true → x.ip4 ≠ y.ip4) ∧ (x.v6 = true → y.v6 = true → x.ip6 ≠ y.ip6)) :
    ¬ (((List.range 8).filter (· != i)).any fun j =>
      (s.iface p j).enable && ((s.iface p j).vlan == x.vlan || (x.v4 && (s.iface p j).v4 && x.ip4 == (s.iface p j).ip4) ||
        (x.v6 && (s.iface p j).v6 && x.ip6 == (s.iface p j).ip6))) = true := by
  intro hany
  obtain ⟨j, hj, hsame⟩ := List.any_eq_true.mp hany
  obtain ⟨hj8, hji⟩ := List.mem_filter.mp hj
  obtain ⟨hen, hclash⟩ := Bool.and_eq_true_iff.mp hsame
  obtain ⟨hvlan, h4, h6⟩ := h j _ (List.mem_range.mp hj8) (bne_iff_ne.mp hji) rfl hen
  simp only [Bool.or_eq_true, Bool.and_eq_true, beq_iff_eq] at hclash
  rcases hclash with (hv | ⟨⟨hx, hy⟩, ha⟩) | ⟨⟨hx, hy⟩, ha⟩
  · exact hvlan hv
  · exact h4 hx hy ha
  · exact h6 hx hy ha

/-- No enabled stream uses an interface of a device without an enabled stream (R299). -/
theorem State.no_stream_uses {s : State} (p i : Nat)
    (h : ∀ n, n ∈ s.nodes → nodeType n.1 = Ty.rtp ∨ nodeType n.1 = Ty.aes → n.2.state ≠ .enabled) :
    ¬ ((s.nodesOf Ty.rtp ++ s.nodesOf Ty.aes).any fun n =>
      n.2.state == .enabled && s.latestN n.1 1 == p && s.latestN n.1 2 == i) = true := by
  intro hany
  obtain ⟨n, hn, huses⟩ := List.any_eq_true.mp hany
  obtain ⟨⟨hen, -⟩, -⟩ := And.imp_left Bool.and_eq_true_iff.mp (Bool.and_eq_true_iff.mp huses)
  refine absurd (eq_of_beq hen) ?_
  rcases List.mem_append.mp hn with hr | ha
  · obtain ⟨hmem, hty⟩ := List.mem_filter.mp hr
    exact h n hmem (.inl (eq_of_beq hty))
  · obtain ⟨hmem, hty⟩ := List.mem_filter.mp ha
    exact h n hmem (.inr (eq_of_beq hty))

/-- The next RTCP packet is due half to three halves of the interval from now (R310). -/
theorem State.rtcpAt_drawRtcp (s : State) (n : Nat) : ((s.drawRtcp n).streamDyn n).rtcpAt = s.time.ticks + s.parN n 19 * 48000 / 2 +
    s.parN n 19 * 48000 * (Config.freeValue s.free % 65537) / 65536 := by
  rw [drawRtcp, streamDyn_setStream_of_key]
  · rfl
  · exact State.streamDyn_node _ n

theorem scaled_le (iv v : Nat) : iv * (v % 65537) / 65536 ≤ iv := by
  rw [Nat.div_le_iff_le_mul (by omega)]
  have hv : v % 65537 ≤ 65536 := Nat.le_of_lt_succ (Nat.mod_lt v (by omega))
  exact (Nat.mul_le_mul_left iv hv).trans (Nat.le_add_right _ _)

theorem State.packetReady_of {s : State} {n count : Nat} {x : StreamDyn} (hx : s.streamDyn n = x)
    (hcount : ptimeSmp (s.parN n 6) * s.perSmp = count) (hlen : x.txSamples.length = s.parN n 4)
    (hall : ∀ c ∈ x.txSamples, count ≤ c.2.length) : s.packetReady n = true := by
  subst hcount hx
  exact Bool.and_eq_true_iff.mpr ⟨decide_eq_true hlen, List.all_eq_true.mpr fun c hc => decide_eq_true (hall c hc)⟩

end Machine

/-- Settles O34. -/
theorem ethernetCommands : Obligations.EthernetCommands := by
  unfold Obligations.EthernetCommands
  refine ⟨fun s mb r p i x hpass hp hi hx hshared hclash hused => ?iface,
    fun s mb r n k hpass hn hrtp hrx hk hsuite hflag hdir => ?key, fun s mb r n hpass hn hclear => ?stats,
    fun s mb r n hpass hn hclear => ?statsClear, fun s mb r p c hpass hp hc hclear => ?counters,
    fun s p x => s.port_setPort p x⟩
  case iface =>
    subst hx hi
    refine Completes.of_lasting hpass rfl ?_ (State.lasting_setPort _ _ _)
    have hclash' := State.no_clash (s := s.accept ethIfSet.opcode mb) hclash
    have hused' := State.no_stream_uses (s := s.accept ethIfSet.opcode mb) p (field r.payload 0 1) hused
    have hshared' : ¬ ((ifaceOf r.payload).shared && ((s.accept ethIfSet.opcode mb).latest (ethId p) 4).all (· == 0)) = true := by
      rintro hboth
      obtain ⟨hsh, hall⟩ := Bool.and_eq_true_iff.mp hboth
      obtain ⟨b, hb, hne⟩ := List.any_eq_true.mp (hshared hsh)
      exact absurd (eq_of_beq (List.all_eq_true.mp hall b hb)) (bne_iff_ne.mp hne)
    simp only [ethIfSet] at hclash' hused' hshared' ⊢
    rw [hp, if_neg hclash', if_neg hshared', if_neg hused']
    rfl
  case key =>
    refine Completes.of_lasting hpass rfl ?_ (State.lasting_setStream _ _)
    have hflag' : bit ((s.accept streamKeySet.opcode mb).latestN n 4) 1 = true := hflag
    have hdir' : bit ((s.accept streamKeySet.opcode mb).latestN n 3) 0 = true := hdir
    have hsuite' : ∀ c, ((s.accept streamKeySet.opcode mb).streamDyn n).rx.suite? = some c → c = field r.payload 1 1 := hsuite
    simp only [streamKeySet] at hflag' hdir' hsuite' ⊢
    simp only [hn, hrx, hrtp, hflag', hdir', if_true, Bool.not_true, Bool.or_self, hk]
    cases hs : ((s.accept 2050 mb).streamDyn n).rx.suite? with
    | none => rfl
    | some c =>
      rw [if_neg (by rw [hsuite' c hs]; simp)]
      rfl
  case stats =>
    subst hn
    refine Completes.of_lasting hpass rfl ?_ rfl
    exact if_neg (ne_true_of_eq_false hclear)
  case statsClear =>
    subst hn
    refine Completes.of_lasting hpass rfl ?_ (State.lasting_setStream _ _)
    exact if_pos hclear
  case counters =>
    subst hp hc
    refine Completes.of_lasting hpass rfl ?_ (State.lasting_setPort _ _ _)
    exact if_pos hclear

/-- Settles O36. -/
theorem streamRows : Obligations.StreamRows := by
  unfold Obligations.StreamRows
  refine ⟨fun s n x hx hrun hsends hhop hnot hlong => ?noRoute,
    fun s n x hx hrtp hrun htime hnot hlong hlead => ?timeout, fun s n hrtp hrun hflag hactive hdue hlead => ?rtcp,
    fun s n => ?interval, fun s n t x hx hempty hrun hlong hlead => ?resync,
    fun s n count p x hx haes hrun hsends hactive hp hcount hlen hall => ?packet⟩
  case noRoute =>
    have hlong' : x.noHopSince + 3 * smpPerSecond ≤ s.time.ticks := hlong
    change execStreamNoRoute n s = _
    simp only [execStreamNoRoute, hx]
    rw [if_pos (by rw [hrun, hsends, hhop, hnot, decide_eq_true hlong']; rfl)]
    rfl
  case timeout =>
    change execStreamTimeout n s = _
    simp only [execStreamTimeout, hx]
    rw [if_pos (by rw [hrtp, hrun, hnot, hlead, decide_eq_true htime, decide_eq_true hlong]; rfl)]
    rfl
  case rtcp =>
    change execRtcpSend n s = _
    rw [execRtcpSend, if_pos (by rw [hrtp, hrun, hflag, hactive, hlead, decide_eq_true hdue]; rfl)]
  case interval =>
    rw [s.rtcpAt_drawRtcp n]
    have hpart := scaled_le (s.parN n 19 * 48000) (Config.freeValue s.free)
    omega
  case resync =>
    change execJbResync n s = _
    simp only [execJbResync, hx, hempty]
    rw [if_pos (by rw [hrun, hlead, decide_eq_true hlong]; rfl), State.jbRestart, hx]
    rfl
  case packet =>
    have hready := State.packetReady_of hx (hp ▸ hcount) hlen hall
    have hexec : exec (.aes67PacketSend n) s = execAes67PacketSend n s := rfl
    simp only [execAes67PacketSend, hx, hp, hcount] at hexec
    rw [if_pos (by rw [haes, hrun, hsends, hactive, hready]; rfl)] at hexec
    exact ⟨_, hexec, Int.toNat_of_nonneg (Int.emod_nonneg _ (by decide))⟩

end Sys2Proof

/-! Voice (R341 to R348): its commands, and what tone detectors decide. -/

namespace Sys2Proof

open Machine

namespace Machine

theorem State.isActive_of {s : State} (h : s.power.state = .active) : s.isActive = true := by
  rw [isActive, h]
  rfl

theorem State.callDyn_ch (s : State) (c : Nat) : (s.callDyn c).ch = c := key_getD_findKey rfl

theorem State.callDyn_setCall_of_key {s : State} {x : CallDyn} {c : Nat} (h : x.ch = c) : (s.setCall x).callDyn c = x :=
  h ▸ s.callDyn_setCall x

theorem State.callDyn_of_only {s t : State} (h : OnlyEvents s t) (c : Nat) : t.callDyn c = s.callDyn c := by
  unfold callDyn
  rw [h.voice]

theorem State.digitDone_only (c code status m : Nat) (s : State) : OnlyEvents s (s.digitDone c code status m) :=
  raise_only _ _ _ _ _

/-- A channel without queued digits loses none. -/
theorem State.dropDigits_of_empty {s : State} {c : Nat} (h : (s.callDyn c).digits = []) :
    s.dropDigits c = s.setCall { s.callDyn c with digits := [] } := by
  simp only [dropDigits, h, List.foldl_nil]

theorem not_any_gt_of_le {n : Nat} {l : Bytes} (h : ∀ b ∈ l, b.toNat ≤ n) : ¬ (l.any fun b => decide (n < b.toNat)) = true := by
  rw [List.any_eq_true]
  rintro ⟨b, hb, hlt⟩
  exact absurd (of_decide_eq_true hlt) (Nat.not_lt.mpr (h b hb))

end Machine

/-- Settles O37. -/
theorem voiceCommands : Obligations.VoiceCommands := by
  unfold Obligations.VoiceCommands
  refine ⟨fun s mb r c n f hpass hc hn hf hlen hcodes hen hmode hroom => ?send, fun s mb r hpass hen => ?cancel,
    fun s c d hdigits hsending hon => ?cut, fun s mb r hpass hen hlec => ?reset⟩
  case send =>
    refine Completes.of_lasting hpass rfl ?_ (State.lasting_setCall _ _)
    have hf' : (s.accept voiceDigitSend.opcode mb).callPar c 2 = f := hf
    have hen' : (s.accept voiceDigitSend.opcode mb).enabled r.node.toNat = true := hen
    have hmode' : (s.accept voiceDigitSend.opcode mb).latestN r.node.toNat 13 = 2 := hmode
    have hroom' : ¬ 32 < ((s.accept voiceDigitSend.opcode mb).callDyn c).digits.length + n := Nat.not_lt.mpr hroom
    simp only [voiceDigitSend] at hf' hen' hmode' hroom' ⊢
    rw [hc, hn, hf', if_neg (not_not.mpr hlen), if_neg (not_any_gt_of_le hcodes), hen', hmode']
    exact if_neg hroom'
  case cancel =>
    exact Completes.of_lasting hpass rfl (if_pos hen) (State.lasting_cancelDigits _ _)
  case cut =>
    have hcall : (s.dropDigits c).callDyn c = { s.callDyn c with digits := [] } := by
      rw [State.dropDigits_of_empty hdigits]
      exact State.callDyn_setCall_of_key (s.callDyn_ch c)
    simp only [State.cancelDigits, hcall, hsending]
    rw [if_pos hon, State.callDyn_of_only (State.digitDone_only _ _ _ _ _), State.callDyn_setCall_of_key]
    exact s.callDyn_ch c
  case reset =>
    have hmay : ¬ (!s.enabled r.node.toNat || decide (s.latestN r.node.toNat 7 = 0)) = true := by
      rw [hen, decide_eq_false hlec]
      exact Bool.false_ne_true
    exact Completes.of_lasting hpass rfl (if_neg hmay) (State.lasting_atBoundary _ _)

/-- Settles O38. -/
theorem toneRows : Obligations.ToneRows := by
  unfold Obligations.ToneRows
  refine ⟨fun s det d hdet hmay => ?digit, fun s det d x hdet hmode hx hcp hlo1 hhi1 hf2 hlevel => ?tone,
    fun s det kind begins x hdet hx hmay => ?fax, fun s ch x hx hrun hmode => ⟨fun hby => ?bypass, fun hnlp => ?nlp, fun hby => ?release⟩,
    fun s ch x e hx hevent hopen hlong => ?silence,
    fun s u ch d x hactive hrun hdue hawake hblock hu hsending => ?done⟩
  case digit =>
    change execVoiceDigit det d s = _
    rw [execVoiceDigit, if_pos (by rw [hdet, hmay]; rfl)]
  case tone =>
    have hf1 : cpFrequency d.f1 = true := by rw [cpFrequency, decide_eq_true hlo1, decide_eq_true hhi1]; rfl
    have hf2' : (decide (d.f2 = 0) || cpFrequency d.f2) = true := by
      rw [Bool.or_eq_true, decide_eq_true_iff, cpFrequency, Bool.and_eq_true, decide_eq_true_iff, decide_eq_true_iff]
      exact hf2
    change execVoiceCpTone det d s = _
    simp only [execVoiceCpTone, hx]
    rw [if_pos (by rw [hdet, hmode, bne_iff_ne.mpr hcp, hf1, hf2', decide_eq_true hlevel]; rfl)]
    rfl
  case fax =>
    change execVoiceFaxTone det kind begins s = _
    simp only [execVoiceFaxTone, hx]
    rw [if_pos (by rw [hdet, hmay]; rfl)]
    rfl
  case bypass =>
    change execVoiceLec ch 1 s = _
    simp only [execVoiceLec, hx, hrun, decide_eq_false hmode, hby]
    rfl
  case nlp =>
    change execVoiceLec ch 2 s = _
    simp only [execVoiceLec, hx, hrun, decide_eq_false hmode, hnlp]
    rfl
  case release =>
    change execVoiceLec ch 3 s = _
    simp only [execVoiceLec, hx, hrun, decide_eq_false hmode, hby]
    rfl
  case silence =>
    change execEventTimeout ch s = _
    simp only [execEventTimeout, hx, hevent]
    rw [if_pos (by rw [hopen, decide_eq_true hlong]; rfl)]
    rfl
  case done =>
    change execVoiceDigitDone ch s = _
    rw [execVoiceDigitDone, if_pos (by rw [State.isActive_of hactive, hrun]; rfl),
      State.instant_of_due _ hdue hawake hblock hu]
    simp only [State.digitEnd, hsending]
    rfl

end Sys2Proof

/-! The Bench (R356 to R376): control and scalar instructions, traps, the budget, and the image slots. -/

namespace Sys2Proof

open Machine

namespace Machine

/-! ### Control (class 0x0) -/

theorem iNop_eq (w : IWord) (r : Run) : iNop w r = .ok (r.puts [] 1 [] fun c => c) := rfl

/-- END leaves the run as it is, marked as ended; no body of a LOOP repeats after it. -/
theorem instr_end {s : State} {inst : Nat} {w : IWord} {r : Run} (h : Issues s inst 0 1 w r) :
    s.instr inst 0 1 w iEnd = State.krnEndRun { r.puts [] 1 [] (fun c => c) with ended := true }
      (s.setKrn { r.k with ctx := some (r.c.issue [] 1 []) }) := by
  obtain ⟨⟨c, hc, rfl⟩, hbudget, hword, hlegal⟩ := h
  simp only [State.instr, hc]
  rw [if_pos ⟨hbudget, hword⟩]
  simp only [Run.exec1, hlegal, Bool.not_true, Bool.false_eq_true, if_false]
  rfl

/-- The context that a branch outside every LOOP body leaves. -/
def branchCtx (taken : Bool) (reads : List Nat) (w : IWord) (c : Ctx) : Ctx :=
  { c.issue reads (if taken then 3 else 1) [] with
    pc := if taken then (BitVec.ofNat 32 c.pc + 8 * w.imm).toNat else c.pc + 8 }

theorem branch_of_no_loop {r : Run} (taken : Bool) (reads : List Nat) (w : IWord) (hloops : r.c.loops = [])
    (hnext : r.next = r.c.pc + 8) : r.branch taken reads w = .ok { r with
      c := r.c.issue reads (if taken then 3 else 1) []
      next := (branchCtx taken reads w r.c).pc } := by
  rw [Run.branch, hloops]
  cases taken
  case false =>
    rw [branchCtx, if_neg Bool.false_ne_true, if_neg Bool.false_ne_true, if_neg Bool.false_ne_true, ← hnext]
    rfl
  case true => rfl

theorem branch_in_loop {r : Run} (taken : Bool) (reads : List Nat) (w : IWord) (hloops : r.c.loops ≠ []) :
    r.branch taken reads w = .error (Trap.illegal, 0) :=
  if_pos (by rw [List.isEmpty_eq_false_iff.mpr hloops]; rfl)

theorem instr_branch {s : State} {inst op : Nat} {w : IWord} {r : Run} {f : Op} {taken : Bool} {reads : List Nat}
    (h : Issues s inst 0 op w r) (hf : f w r = r.branch taken reads w) (hloops : r.c.loops = []) :
    s.instr inst 0 op w f = s.setKrn { s.krn inst with ctx := some (branchCtx taken reads w r.c) } := by
  obtain ⟨hended, hnext, hwraps, hk⟩ := h.fresh
  rw [instr_ran h (hf.trans (branch_of_no_loop taken reads w hloops hnext)) hended]
  have hclose : closeLoops (r.c.issue reads (if taken then 3 else 1) []).loops (branchCtx taken reads w r.c).pc =
      ([], (branchCtx taken reads w r.c).pc) := by
    rw [show (r.c.issue reads (if taken then 3 else 1) []).loops = [] from hloops]
    rfl
  simp only [Ran, hclose, hwraps, hk]
  have hctx : branchCtx taken reads w r.c = { branchCtx taken reads w r.c with loops := [] } := by
    rw [← show (branchCtx taken reads w r.c).loops = [] from hloops]
  rw [hctx]
  rfl

theorem branchCtx_frame (taken : Bool) (reads : List Nat) (w : IWord) (c : Ctx) : branchCtx taken reads w c = { c with
    pc := (branchCtx taken reads w c).pc, cycles := (branchCtx taken reads w c).cycles, last := c.pc } := rfl

theorem exec_br (inst : Nat) (w : IWord) (s : State) : exec (.br inst w) s = .next (s.instr inst 0 2 w iBr) := rfl
theorem exec_brz (inst : Nat) (w : IWord) (s : State) : exec (.brz inst w) s = .next (s.instr inst 0 3 w iBrz) := rfl
theorem exec_brnz (inst : Nat) (w : IWord) (s : State) : exec (.brnz inst w) s = .next (s.instr inst 0 4 w iBrnz) := rfl
theorem exec_loop (inst : Nat) (w : IWord) (s : State) : exec (.loop inst w) s = .next (s.instr inst 0 5 w iLoop) := rfl
theorem exec_trap (inst : Nat) (w : IWord) (s : State) : exec (.trap inst w) s = .next (s.instr inst 0 6 w iTrap) := rfl

/-- LOOP with a body and a count enters the body (R368). -/
theorem iLoop_enters {w : IWord} {r : Run} (hdepth : r.c.loops.length < 4) (hn : (r.c.sr w.a.toNat).toNat ≠ 0)
    (hbody : w.imm.toNat % 65536 ≠ 0) : iLoop w r = .ok (r.puts [keyS w.a.toNat] 1 [] fun c =>
      { c with loops := (r.c.pc + 8, r.c.pc + 8 + 8 * (w.imm.toNat % 65536), (r.c.sr w.a.toNat).toNat) :: c.loops }) := by
  simp only [iLoop]
  rw [if_neg hdepth.ne, if_neg (not_or.mpr ⟨hn, hbody⟩)]
  rfl

/-- LOOP with a count of 0 skips the body. -/
theorem iLoop_skips {w : IWord} {r : Run} (hdepth : r.c.loops.length < 4) (hn : (r.c.sr w.a.toNat).toNat = 0) :
    iLoop w r = .ok { r.puts [keyS w.a.toNat] 1 [] (fun c => c) with
      next := r.c.pc + 8 + 8 * (w.imm.toNat % 65536) } := by
  simp only [iLoop]
  rw [if_neg hdepth.ne, if_pos (.inl hn), if_pos hn]
  rfl

theorem iLoop_too_deep {w : IWord} {r : Run} (hdepth : r.c.loops.length = 4) : iLoop w r = .error (Trap.illegal, 0) :=
  if_pos hdepth

/-! ### Traps (R376) -/

theorem State.node_setNode_of_ne (s : State) (id : Nat) {n : Node} (h : n ≠ {}) : (s.setNode id n).node id = n := by
  rcases s.node_setNode id n with hnode | ⟨-, hn, -⟩
  · exact hnode
  · exact absurd hn h

theorem State.node_of_only {s t : State} (h : OnlyEvents s t) (id : Nat) : t.node id = s.node id := by
  unfold node
  rw [h.nodes, h.leaving]

/-- What disabling by the device leaves of an enabled node (R85). -/
theorem State.node_disableByDevice {s : State} {id : Nat} (reason : Nat) (h : s.enabled id = true) :
    (s.disableByDevice id reason).node id = { s.node id with
      state := .byDevice, reason := reason, cluster := none, bcu := 0 } := by
  have hen : ((s.node id).state == .enabled) = true := h
  simp only [disableByDevice]
  rw [if_pos hen, node_of_only (State.raise_only _ _ _ _ _), node_setNode_of_ne]
  intro heq
  exact NodeState.noConfusion (congrArg Node.state heq)

theorem State.krn_of_only {s t : State} (h : OnlyEvents s t) (inst : Nat) : t.krn inst = s.krn inst := by
  unfold krn
  rw [h.bench]

theorem State.inst_krn (s : State) (inst : Nat) : (s.krn inst).inst = inst := key_getD_findKey rfl

theorem State.disableByDevice_bench (id reason : Nat) (s : State) : (s.disableByDevice id reason).bench = s.bench := by
  simp only [disableByDevice]
  rw [apply_ite State.bench, (State.raise_only _ _ _ _ _).bench, setNode_eq, ite_self]

theorem State.node_krnTrap {s : State} {inst : Nat} (cause user off : Nat) (h : s.enabled (krnId inst) = true) :
    (s.krnTrap inst cause user off).node (krnId inst) = { s.node (krnId inst) with
      state := .byDevice, reason := 2, cluster := none, bcu := 0 } :=
  (node_of_only (State.raise_only _ _ _ _ _) _).trans (node_disableByDevice (s := { s.setKrn _ with wr := _ }) 2 h)

theorem State.krn_krnTrap (s : State) (inst cause user off : Nat) :
    (s.krnTrap inst cause user off).krn inst = { s.krn inst with ctx := none } := by
  unfold krnTrap
  rw [krn_of_only (State.raise_only _ _ _ _ _), krn, disableByDevice_bench]
  exact congrArg (Option.getD · _) ((congrArg (findKey KernDyn.inst · _) (s.inst_krn inst).symm).trans
    (findKey_putKey KernDyn.inst { s.krn inst with ctx := none } s.bench.insts))

end Machine

/-- Settles O40. -/
theorem benchControl : Obligations.BenchControl := by
  unfold Obligations.BenchControl
  refine ⟨fun s inst w r h => ?nop, fun s inst w r h => ⟨_, rfl, congrArg _ (instr_end h)⟩,
    fun s inst w r op taken i a h hloops ha hi => ?branch, fun s inst w r op i h hloops hi => ?inLoop,
    fun s inst w r n h hn hdepth hpos hbody => ?loop, fun s inst w r h hdepth hzero => ?skip,
    fun s inst w r h hdepth => ?deep, fun s inst w r h => ?trap, fun f l n rest hn => ?again, fun f l => ?leaves,
    fun s inst c hctx hbudget => ?budget, fun s inst cause user off hen => ?disabled⟩
  case nop => exact congrArg _ (instr_of_puts h (iNop_eq w r))
  case branch =>
    subst ha
    rcases hi with hi | hi | hi
    all_goals obtain ⟨rfl, rfl, rfl⟩ := hi
    · exact ⟨_, congrArg _ (instr_branch (f := iBr) h rfl hloops), rfl, fun _ => rfl, branchCtx_frame _ _ _ _⟩
    · exact ⟨_, congrArg _ (instr_branch (f := iBrz) h rfl hloops), rfl, fun hop => absurd hop (by decide),
        branchCtx_frame _ _ _ _⟩
    · exact ⟨_, congrArg _ (instr_branch (f := iBrnz) h rfl hloops), rfl, fun hop => absurd hop (by decide),
        branchCtx_frame _ _ _ _⟩
  case inLoop =>
    rcases hi with hi | hi | hi
    all_goals obtain ⟨rfl, rfl⟩ := hi
    · exact congrArg _ (instr_trap (f := iBr) h (branch_in_loop _ _ _ hloops))
    · exact congrArg _ (instr_trap (f := iBrz) h (branch_in_loop _ _ _ hloops))
    · exact congrArg _ (instr_trap (f := iBrnz) h (branch_in_loop _ _ _ hloops))
  case loop =>
    subst hn
    exact congrArg _ (instr_of_puts h (iLoop_enters hdepth hpos hbody))
  case skip =>
    have hcount : (r.c.sr w.a.toNat).toNat = 0 := by rw [hzero]; rfl
    exact congrArg _ (instr_ran h (iLoop_skips hdepth hcount) h.fresh.1)
  case deep => exact congrArg _ (instr_trap h (iLoop_too_deep hdepth))
  case trap => exact congrArg _ (instr_trap (f := iTrap) h rfl)
  case again => rw [closeLoops, if_pos rfl, if_pos hn]
  case leaves => rw [closeLoops, if_pos rfl, if_neg (Nat.lt_irrefl 1), closeLoops]
  case budget =>
    change execBudgetTrap inst s = _
    simp only [execBudgetTrap, hctx]
    rw [if_pos hbudget]
  case disabled =>
    have hnode := State.node_krnTrap cause user off hen
    exact ⟨congrArg Node.state hnode, congrArg Node.reason hnode, congrArg KernDyn.ctx (s.krn_krnTrap inst cause user off)⟩

namespace Machine

/-! ### Scalars (class 0x1) -/

theorem scalarOp_eq (f : Word → Word → Word) (w : IWord) (r : Run) :
    scalarOp f w r = .ok (r.puts [keyS w.a.toNat, keyS w.b.toNat] 1 [(keyS w.d.toNat, 1)]
      (Ctx.setS w.d.toNat (f (r.c.sr w.a.toNat) (r.c.sr w.b.toNat)))) := rfl

theorem scalarImmOp_eq (f : Word → Word → Word) (w : IWord) (r : Run) :
    scalarImmOp f w r = .ok (r.puts [keyS w.a.toNat] 1 [(keyS w.d.toNat, 1)]
      (Ctx.setS w.d.toNat (f (r.c.sr w.a.toNat) w.imm))) := rfl

/-- SLT compares as signed numbers. -/
theorem slt_value (x y : Word) : (if x.slt y then 1 else 0 : Word) = if x.toInt < y.toInt then 1 else 0 := by
  simp only [BitVec.slt, decide_eq_true_eq]

theorem Ctx.setS_frame (c : Ctx) (d : Nat) (v : Word) : c.setS d v = { c with sreg := (c.setS d v).sreg } := by
  unfold Ctx.setS
  split <;> rfl

end Machine

/-- Settles O41. -/
theorem benchScalars : Obligations.BenchScalars := by
  unfold Obligations.BenchScalars
  refine ⟨fun s inst w r op i v x y h hx hy hi => ?registers, fun s inst w r op i v x h hx hi => ?immediates, Ctx.sr_setS,
    Ctx.setS_frame⟩
  case registers =>
    subst hx hy
    simp only [List.mem_cons, Prod.mk.injEq, List.not_mem_nil, or_false] at hi
    rcases hi with hi | hi | hi | hi | hi | hi | hi | hi | hi | hi
    all_goals obtain ⟨rfl, rfl, rfl⟩ := hi
    case inr.inr.inr.inr.inr.inr.inr.inr.inr =>
      rw [← slt_value]
      exact congrArg _ (instr_of_puts h (scalarOp_eq _ w r))
    all_goals exact congrArg _ (instr_of_puts h (scalarOp_eq _ w r))
  case immediates =>
    subst hx
    simp only [List.mem_cons, Prod.mk.injEq, List.not_mem_nil, or_false] at hi
    rcases hi with hi | hi
    all_goals
      obtain ⟨rfl, rfl, rfl⟩ := hi
      exact congrArg _ (instr_of_puts h (scalarImmOp_eq _ w r))

namespace Machine

/-! ### Image slots (R371, R372) -/

theorem ImageSlot.of_putKey (im : ImageSlot) (l : List ImageSlot) : ImageSlot.of (putKey ImageSlot.slot im l) im.slot = im := by
  rw [ImageSlot.of, findKey_putKey]
  rfl

theorem ImageSlot.of_dropKey (n : Nat) (l : List ImageSlot) : ImageSlot.of (dropKey ImageSlot.slot n l) n = { slot := n } := by
  rw [ImageSlot.of, findKey_dropKey]
  rfl

end Machine

/-- Settles O46. -/
theorem kernelImages : Obligations.KernelImages := by
  unfold Obligations.KernelImages
  refine ⟨fun s mb r n first final old base im hpass hn husers hfirst hfinal hold hloading hhits hbase him => ?load,
    fun s mb r n hpass hn husers => ?clear, fun s mb r n im hpass hn him => ?info,
    fun s im => ImageSlot.of_putKey im s.bench.slots, fun s n => ImageSlot.of_dropKey n s.bench.slots⟩
  case load =>
    have husers' : (s.accept krnImageLoad.opcode mb).slotUsers n = 0 := husers
    have hhits' : ¬ (s.accept krnImageLoad.opcode mb).hitsAttachment mb (field r.payload 12 4) (field r.payload 8 4) = true :=
      ne_true_of_eq_false hhits
    have hold' : ImageSlot.of (s.accept krnImageLoad.opcode mb).bench.slots n = old := hold.symm
    have hbulk' : (s.accept krnImageLoad.opcode mb).readBulk mb (field r.payload 12 4) (field r.payload 8 4) =
      s.readBulk mb (field r.payload 12 4) (field r.payload 8 4) := rfl
    have hmay : ¬ (!first && old.state != .loading) = true := by
      rcases hloading with rfl | hl
      · exact Bool.false_ne_true
      · rw [hl, Bool.and_comm]
        exact Bool.false_ne_true
    refine Completes.of_lasting hpass rfl ?_ (State.lasting_setSlotImage _ _)
    simp only [krnImageLoad] at husers' hhits' hold' hbulk' ⊢
    rw [hn, if_neg (not_not.mpr husers'), hold', hfirst, if_neg hmay, if_neg hhits', hbulk', ← hbase, hfinal, ← him]
    cases final with
    | false => rfl
    | true =>
      cases hok : im.imageOk with
      | false => rfl
      | true =>
        rw [him]
        rfl
  case clear =>
    have husers' : ¬ s.slotUsers (field r.payload 0 1) ≠ 0 := not_not.mpr (hn ▸ husers)
    subst hn
    exact Completes.of_lasting hpass rfl (if_neg husers') rfl
  case info =>
    subst hn him
    refine Completes.of_lasting hpass rfl ?_ rfl
    simp only [krnImageInfo, beq_iff_eq]
    rfl

end Sys2Proof

/-! The Bench's vector, accumulator and memory instructions (R359 to R365, R368). -/

namespace Sys2Proof

open Machine

namespace Machine

/-! ### Lanes (R363) -/

/-- Lane `k + l` of the registers is element `l` of lists that start at lane `k`. -/
theorem laneMap_getD (m : BitVec 128) (f : Nat → Word → Word → Word) (k : Nat) (o x y : List Word) (l : Nat) (ho : l < o.length)
    (hx : l < x.length) (hy : l < y.length) : (laneMap m f k o x y).getD l 0 =
      if m.getLsbD (k + l) then f (k + l) (x.getD l 0) (y.getD l 0) else o.getD l 0 := by
  induction o generalizing k x y l with
  | nil => exact absurd ho (Nat.not_lt_zero l)
  | cons o os ih =>
    cases x with
    | nil => exact absurd hx (Nat.not_lt_zero l)
    | cons x xs =>
      cases y with
      | nil => exact absurd hy (Nat.not_lt_zero l)
      | cons y ys =>
        cases l with
        | zero => rfl
        | succ l =>
          have hrest := ih (k + 1) xs ys l (Nat.lt_of_succ_lt_succ ho) (Nat.lt_of_succ_lt_succ hx) (Nat.lt_of_succ_lt_succ hy)
          rw [Nat.add_assoc k 1 l, Nat.add_comm 1 l] at hrest
          exact hrest

/-- What one pair of lanes makes of the mask under test. -/
def testLane (m : BitVec 128) (t : Word → Word → Bool) (acc : BitVec 128) (z : (Word × Word) × Nat) : BitVec 128 :=
  if m.getLsbD z.2 then (if t z.1.1 z.1.2 then acc ||| (1#128 <<< z.2) else acc &&& ~~~(1#128 <<< z.2)) else acc

theorem laneTest_eq_foldl (m old : BitVec 128) (t : Word → Word → Bool) (x y : List Word) :
    laneTest m old t x y = (x.zip y).zipIdx.foldl (testLane m t) old := rfl

theorem getLsbD_one_shiftLeft (i l : Nat) (hl : l < 128) : (1#128 <<< i).getLsbD l = decide (l = i) := by
  rw [BitVec.getLsbD_shiftLeft, BitVec.getLsbD_one]
  by_cases h : l = i
  · subst h
    simp [hl]
  · have hne : ¬ (i ≤ l ∧ l - i = 0) := by omega
    simp only [h, hl, decide_true, decide_false, Bool.true_and]
    by_cases hle : l < i
    · simp [hle]
    · have hpos : l - i ≠ 0 := by omega
      simp [hpos]

theorem getLsbD_set (acc : BitVec 128) (i l : Nat) (hl : l < 128) :
    (acc ||| (1#128 <<< i)).getLsbD l = (acc.getLsbD l || decide (l = i)) := by
  rw [BitVec.getLsbD_or, getLsbD_one_shiftLeft i l hl]

theorem getLsbD_clear (acc : BitVec 128) (i l : Nat) (hl : l < 128) :
    (acc &&& ~~~(1#128 <<< i)).getLsbD l = (acc.getLsbD l && !decide (l = i)) := by
  rw [BitVec.getLsbD_and, BitVec.getLsbD_not, getLsbD_one_shiftLeft i l hl, decide_eq_true hl, Bool.true_and]

theorem testLane_same {m : BitVec 128} (t : Word → Word → Bool) (acc : BitVec 128) (z : Word × Word) {l : Nat} (hl : l < 128) :
    (testLane m t acc (z, l)).getLsbD l = if m.getLsbD l then t z.1 z.2 else acc.getLsbD l := by
  unfold testLane
  cases m.getLsbD l with
  | false => rfl
  | true =>
    cases t z.1 z.2 with
    | false => exact (getLsbD_clear acc l l hl).trans (by simp)
    | true => exact (getLsbD_set acc l l hl).trans (by simp)

theorem testLane_other {m : BitVec 128} (t : Word → Word → Bool) (acc : BitVec 128) (z : Word × Word) {i l : Nat} (hl : l < 128)
    (h : l ≠ i) : (testLane m t acc (z, i)).getLsbD l = acc.getLsbD l := by
  unfold testLane
  cases m.getLsbD i with
  | false => rfl
  | true =>
    cases t z.1 z.2 with
    | false => exact (getLsbD_clear acc i l hl).trans (by simp [h])
    | true => exact (getLsbD_set acc i l hl).trans (by simp [h])

/-- The lanes of the mask that both lists hold are tested, the others stay. -/
theorem testLanes_getLsbD (m old : BitVec 128) (t : Word → Word → Bool) (zs : List (Word × Word)) {l : Nat} (hl : l < 128) :
    (zs.zipIdx.foldl (testLane m t) old).getLsbD l =
      (zs[l]?).elim (old.getLsbD l) fun z => if m.getLsbD l then t z.1 z.2 else old.getLsbD l := by
  induction zs using List.reverseRecOn with
  | nil => rfl
  | append_singleton zs z ih =>
    rw [List.zipIdx_append, List.zipIdx_singleton, List.foldl_append, List.foldl_cons, List.foldl_nil, Nat.zero_add]
    rcases Nat.lt_trichotomy l zs.length with hlt | rfl | hgt
    · rw [testLane_other t _ z hl hlt.ne, ih, List.getElem?_append_left hlt]
    · rw [testLane_same t _ z hl, ih]
      simp
    · rw [testLane_other t _ z hl hgt.ne', ih]
      simp [List.getElem?_append_right hgt.le, Nat.sub_ne_zero_of_lt hgt, List.getElem?_eq_none hgt.le]

theorem laneTest_getLsbD (m old : BitVec 128) (t : Word → Word → Bool) {x y : List Word} {l : Nat} (hl : l < 128)
    (hx : l < x.length) (hy : l < y.length) :
    (laneTest m old t x y).getLsbD l = if m.getLsbD l then t (x.getD l 0) (y.getD l 0) else old.getLsbD l := by
  rw [laneTest_eq_foldl, testLanes_getLsbD m old t _ hl]
  simp [List.getElem_zip, hx, hy, List.getD_eq_getElem?_getD]

/-- An operation without saturation marks no lane. -/
theorem laneTest_never (m : BitVec 128) (x y : List Word) {l : Nat} (hl : l < 128) :
    (laneTest m 0 (fun _ _ => false) x y).getLsbD l = false := by
  rw [laneTest_eq_foldl, testLanes_getLsbD m 0 _ _ hl]
  cases (x.zip y)[l]? with
  | none => exact BitVec.getLsbD_zero
  | some z =>
    show (if m.getLsbD l then false else (0 : BitVec 128).getLsbD l) = false
    rw [show (0 : BitVec 128).getLsbD l = false from BitVec.getLsbD_zero, ite_self]

/-! ### Vector operations (class 0x4) -/

/-- The registers a vector operation reads. -/
def vectorReads (two : Bool) (w : IWord) : List Nat :=
  keyV w.a.toNat :: if two then [keyV w.b.toNat, keyM w.m.toNat] else [keyM w.m.toNat]

/-- The context that a vector operation leaves. -/
def vectorCtx (f : Nat → Word → Word → Word) (sat : Word → Word → Bool) (w : IWord) (c d : Ctx) : Ctx :=
  { d.setV w.d.toNat (laneMap (c.mr w.m.toNat) f 0 (c.vr w.d.toNat) (c.vr w.a.toNat) (c.vr w.b.toNat)) with
    sat := c.sat ||| laneTest (c.mr w.m.toNat) 0 sat (c.vr w.a.toNat) (c.vr w.b.toNat) }

theorem vectorOp_eq (two : Bool) (f : Nat → Word → Word → Word) (sat : Word → Word → Bool) (w : IWord) (r : Run) :
    vectorOp two f sat w r = .ok (r.puts (vectorReads two w) 1 [(keyV w.d.toNat, 1), (keySat, 1)]
      (vectorCtx f sat w r.c)) := rfl

theorem satOp_eq (two : Bool) (f : Int → Int → Int) (w : IWord) (r : Run) :
    satOp two f w r = .ok (r.puts (vectorReads two w) 1 [(keyV w.d.toNat, 1), (keySat, 1)]
      (vectorCtx (fun _ x y => lane31 (f x.toInt y.toInt)) (fun x y => overflows31 (f x.toInt y.toInt)) w r.c)) := rfl

/-- The context that an operation without saturation leaves. -/
def bitCtx (two : Bool) (f : Word → Word → Word) (w : IWord) (c : Ctx) : Ctx :=
  vectorCtx (fun _ => f) (fun _ _ => false) w c (c.issue (vectorReads two w) 1 [(keyV w.d.toNat, 1), (keySat, 1)])

theorem bitOp_eq (two : Bool) (f : Word → Word → Word) (w : IWord) (r : Run) :
    bitOp two f w r = .ok { r with c := bitCtx two f w r.c } := rfl

section BitCtx

variable (two : Bool) (f : Word → Word → Word) (w : IWord) (c : Ctx)

theorem bitCtx_value : (bitCtx two f w c).vr w.d.toNat =
    laneMap (c.mr w.m.toNat) (fun _ => f) 0 (c.vr w.d.toNat) (c.vr w.a.toNat) (c.vr w.b.toNat) :=
  Ctx.vr_setV _ _ _

theorem bitCtx_vr_other (j : Nat) (h : j ≠ w.d.toNat) : (bitCtx two f w c).vr j = c.vr j :=
  Ctx.vr_setV_other _ _ _ _ h

theorem bitCtx_sat (l : Nat) (h : l < 128) : (bitCtx two f w c).sat.getLsbD l = c.sat.getLsbD l := by
  show (c.sat ||| laneTest _ 0 (fun _ _ => false) _ _).getLsbD l = _
  rw [BitVec.getLsbD_or, laneTest_never _ _ _ h, Bool.or_false]

theorem bitCtx_frame : bitCtx two f w c = { c with
    v := (bitCtx two f w c).v, sat := (bitCtx two f w c).sat, cycles := (bitCtx two f w c).cycles
    ready := (bitCtx two f w c).ready, last := (bitCtx two f w c).last } := rfl

end BitCtx

/-- What an operation without saturation leaves of the state. -/
theorem instr_bit {s : State} {inst op : Nat} {w : IWord} {r : Run} {two : Bool} {f : Word → Word → Word} {g : Op}
    (h : Issues s inst 4 op w r) (hg : g w r = bitOp two f w r) :
    s.instr inst 4 op w g = Ran s inst { r with c := bitCtx two f w r.c } :=
  instr_ran h (hg.trans (bitOp_eq two f w r)) h.fresh.1

end Machine

/-- Settles O43. -/
theorem benchVectors : Obligations.BenchVectors := by
  unfold Obligations.BenchVectors
  refine ⟨fun s inst w r op i f h hi => ?saturating, fun s inst w r h => ?vshl, fun s inst w r op i f h hi => ?bits,
    fun s inst w r h => congrArg _ (instr_of_puts (f := iVbc) h rfl),
    fun s inst w r h => congrArg _ (instr_of_puts (f := iVcmplt) h rfl),
    fun s inst w r h => congrArg _ (instr_of_puts (f := iVsel) h rfl),
    fun s inst w r h => congrArg _ (instr_of_puts (f := iVlane) h rfl),
    fun m f o x y l ho hx hy hl => ?map, fun m old t x y l hx hy hl => ?test⟩
  case saturating =>
    simp only [List.mem_cons, Prod.mk.injEq, List.not_mem_nil, or_false] at hi
    rcases hi with hi | hi | hi
    all_goals obtain ⟨rfl, rfl, rfl⟩ := hi
    · exact congrArg _ (instr_of_puts (f := iVadd) h (satOp_eq _ _ w r))
    · exact congrArg _ (instr_of_puts (f := iVsub) h (satOp_eq _ _ w r))
    · exact congrArg _ (instr_of_puts (f := iVmul) h (satOp_eq _ _ w r))
  case vshl => exact congrArg _ (instr_of_puts (f := iVshl) h (satOp_eq _ _ w r))
  case bits =>
    simp only [List.mem_cons, Prod.mk.injEq, List.not_mem_nil, or_false] at hi
    rcases hi with hi | hi | hi | hi | hi
    all_goals
      obtain ⟨rfl, rfl, rfl⟩ := hi
      refine ⟨_, congrArg _ (instr_bit h rfl), bitCtx_value _ _ _ _, bitCtx_vr_other _ _ _ _, bitCtx_sat _ _ _ _,
        bitCtx_frame _ _ _ _⟩
  case map =>
    have hmap := laneMap_getD m f 0 o x y l (ho ▸ hl) (hx ▸ hl) (hy ▸ hl)
    rwa [Nat.zero_add] at hmap
  case test => exact laneTest_getLsbD m old t hl (hx ▸ hl) (hy ▸ hl)

end Sys2Proof

/-! The Bench's accumulators (R361, R362) and its loads and stores (R360, R364, R365). -/

namespace Sys2Proof

open Machine

namespace Machine

/-! ### P registers and the run -/

/-- What a step through a P register may change of a run (R364, R365). -/
theorem Run.stepP_frame (n : Nat) (inc : Int) (r : Run) : ∃ preg k wraps, Run.stepP n inc r = { r with
    c := { r.c with preg := preg }, k := k, wraps := wraps } := by
  unfold Run.stepP
  extract_lets p q
  split
  case h_1 =>
    split
    case isTrue => exact ⟨_, _, _, rfl⟩
    case isFalse => exact ⟨_, _, _, rfl⟩
  case h_2 => exact ⟨_, _, _, rfl⟩

theorem Run.stepP_ended (n : Nat) (inc : Int) (r : Run) : (Run.stepP n inc r).ended = r.ended := by
  obtain ⟨_, _, _, hr⟩ := stepP_frame n inc r
  rw [hr]

theorem Run.stepP_mr (n : Nat) (inc : Int) (r : Run) (i : Nat) : (Run.stepP n inc r).c.mr i = r.c.mr i := by
  obtain ⟨_, _, _, hr⟩ := stepP_frame n inc r
  rw [hr]
  rfl

theorem Run.stepP_of_no_pending {n : Nat} {r : Run} (inc : Int) (h : n < 8 ∨ getA (n - 8) r.k.linePend = none) :
    r.stepP n inc = { r with c := r.c.setP n ((r.c.pr n).norm.bump inc) } := by
  have hnone : (if 8 ≤ n then getA (n - 8) r.k.linePend else none) = none := by
    rcases h with hlt | hnone
    · exact if_neg (Nat.not_le.mpr hlt)
    · rw [hnone, ite_self]
  simp only [stepP, hnone]

/-! ### Accumulators (classes 0x5 and 0x6) -/

theorem iMacm_eq {w : IWord} {r : Run} {y : List Word}
    (h : r.gather (r.c.mr w.m.toNat) zeroLanes (r.pAddr w.b.toNat) = .ok y) :
    iMacm w r = .ok (Run.stepP w.b.toNat w.imm.toInt
      (macOp 1 (r.c.vr w.a.toNat) y [keyV w.a.toNat, keyP w.b.toNat] [(keyP w.b.toNat, 1)] w r)) := by
  unfold iMacm
  rw [h]
  rfl

theorem iMacmm_eq {w : IWord} {r t : Run} {x y : List Word}
    (hx : r.gather (r.c.mr w.m.toNat) zeroLanes (r.pAddr w.a.toNat) = .ok x)
    (ht : t = Run.stepP w.a.toNat (w.imm.extractLsb' 0 16).toInt r)
    (hy : t.gather (t.c.mr w.m.toNat) zeroLanes (t.pAddr w.b.toNat) = .ok y) :
    iMacmm w r = .ok (Run.stepP w.b.toNat (w.imm.extractLsb' 16 16).toInt
      (macOp 1 x y [keyP w.a.toNat, keyP w.b.toNat] [(keyP w.a.toNat, 1), (keyP w.b.toNat, 1)] w t)) := by
  subst ht
  rw [Run.stepP_mr] at hy
  unfold iMacmm
  rw [hx]
  simp only [bind, Except.bind]
  rw [hy]

theorem Acc.add_of_ovf (p : Int) {a : Acc} (h : a.ovf = true) : a.add p = a := if_pos h

theorem Acc.add_in_range {p : Int} {a : Acc} (h : a.ovf = false) (hlow : -(2 ^ 71) ≤ a.val + p) (hhigh : a.val + p < 2 ^ 71) :
    a.add p = { val := a.val + p } := by
  have hmax : accMax = 2 ^ 71 - 1 := rfl
  simp only [Acc.add]
  rw [if_neg (ne_true_of_eq_false h), if_neg (by omega), if_neg (by omega), h]

theorem Acc.add_above {p : Int} {a : Acc} (h : a.ovf = false) (hhigh : 2 ^ 71 ≤ a.val + p) :
    a.add p = { val := 2 ^ 71 - 1, ovf := true } := by
  have hmax : accMax = 2 ^ 71 - 1 := rfl
  simp only [Acc.add]
  rw [if_neg (ne_true_of_eq_false h), if_neg (by omega), if_pos (by omega), hmax]

theorem Acc.add_below {p : Int} {a : Acc} (h : a.ovf = false) (hlow : a.val + p < -(2 ^ 71)) :
    a.add p = { val := -(2 ^ 71), ovf := true } := by
  have hmin : -accMax - 1 = -(2 ^ 71) := rfl
  simp only [Acc.add]
  rw [if_neg (ne_true_of_eq_false h), hmin, if_pos hlow]

/-- The context that EXTW leaves (R362). -/
def extwCtx (w : IWord) (c : Ctx) : Ctx :=
  ((c.issue [keyA w.a.toNat, keyM w.m.toNat] 1 [(keyV w.d.toNat, 3), (keyV (w.d.toNat + 1), 3)]).setV w.d.toNat
    (accOut (c.mr w.m.toNat) (fun a => (extwVal a).extractLsb' 0 32) 0 (c.vr w.d.toNat) (c.ar w.a.toNat))).setV (w.d.toNat + 1)
    (accOut (c.mr w.m.toNat) (fun a => (extwVal a).extractLsb' 32 32) 0 (c.vr (w.d.toNat + 1)) (c.ar w.a.toNat))

theorem iExtw_eq (w : IWord) (r : Run) : iExtw w r = .ok { r with c := extwCtx w r.c } := rfl

section ExtwCtx

variable (w : IWord) (c : Ctx)

theorem extwCtx_low : (extwCtx w c).vr w.d.toNat =
    accOut (c.mr w.m.toNat) (fun a => (extwVal a).extractLsb' 0 32) 0 (c.vr w.d.toNat) (c.ar w.a.toNat) := by
  rw [extwCtx, Ctx.vr_setV_other _ _ _ _ (Nat.succ_ne_self _).symm, Ctx.vr_setV]

theorem extwCtx_high : (extwCtx w c).vr (w.d.toNat + 1) =
    accOut (c.mr w.m.toNat) (fun a => (extwVal a).extractLsb' 32 32) 0 (c.vr (w.d.toNat + 1)) (c.ar w.a.toNat) :=
  Ctx.vr_setV _ _ _

theorem extwCtx_vr_other (j : Nat) (hd : j ≠ w.d.toNat) (hd' : j ≠ w.d.toNat + 1) : (extwCtx w c).vr j = c.vr j := by
  rw [extwCtx, Ctx.vr_setV_other _ _ _ _ hd', Ctx.vr_setV_other _ _ _ _ hd]
  rfl

theorem extwCtx_frame : extwCtx w c = { c with
    v := (extwCtx w c).v, cycles := (extwCtx w c).cycles, ready := (extwCtx w c).ready, last := (extwCtx w c).last } := rfl

end ExtwCtx

end Machine

/-- Settles O44. -/
theorem benchAccumulators : Obligations.BenchAccumulators := by
  unfold Obligations.BenchAccumulators
  refine ⟨fun s inst w r op i sign y key h hi => ?mac, fun s inst w r y h hy => ?macm,
    fun s inst w r t x y h hx ht hy => ?macmm, fun s inst w r h => congrArg _ (instr_of_puts (f := iAclr) h rfl),
    fun s inst w r h => congrArg _ (instr_of_puts (f := iExt) h rfl), fun s inst w r h => ?extw,
    fun s inst w r h => congrArg _ (instr_of_puts (f := iAld) h rfl),
    fun s inst w r h => congrArg _ (instr_of_puts (f := iOvfm) h rfl),
    fun s inst w r h => congrArg _ (instr_of_puts (f := iSatm) h rfl), fun p a => Acc.add_of_ovf p, fun p a => Acc.add_in_range,
    fun p a => Acc.add_above, fun p a => Acc.add_below⟩
  case mac =>
    simp only [List.mem_cons, Prod.mk.injEq, List.not_mem_nil, or_false] at hi
    rcases hi with hi | hi | hi
    all_goals obtain ⟨rfl, rfl, rfl, rfl, rfl⟩ := hi
    · exact congrArg _ (instr_of_puts (f := iMac) h rfl)
    · exact congrArg _ (instr_of_puts (f := iMsu) h rfl)
    · exact congrArg _ (instr_of_puts (f := iMacs) h rfl)
  case macm =>
    exact congrArg _ (instr_ran (f := iMacm) h (iMacm_eq hy) ((Run.stepP_ended _ _ _).trans h.fresh.1))
  case macmm =>
    have hended : t.ended = false := by
      rw [ht, Run.stepP_ended]
      exact h.fresh.1
    exact congrArg _ (instr_ran (f := iMacmm) h (iMacmm_eq hx ht hy) ((Run.stepP_ended _ _ _).trans hended))
  case extw =>
    exact ⟨_, congrArg _ (instr_ran (f := iExtw) h (iExtw_eq w r) h.fresh.1), extwCtx_low w r.c, extwCtx_high w r.c,
      extwCtx_vr_other w r.c, extwCtx_frame w r.c⟩

namespace Machine

/-! ### Loads and stores (R360) -/

theorem KrnHeader.areas_ordered (h : KrnHeader) (n : Nat) : (h.areas n).const ≤ (h.areas n).par ∧ (h.areas n).par ≤ (h.areas n).state :=
  ⟨Nat.le_add_right _ _, Nat.le_add_right _ _⟩

theorem Run.load_unaligned {r : Run} {a : Nat} (h : a % 4 ≠ 0) : r.load a = .error (Trap.align, 0) := if_pos h

theorem Run.store_unaligned {r : Run} {a : Nat} (v : Word) (h : a % 4 ≠ 0) : r.store a v = .error (Trap.align, 0) := if_pos h

theorem Run.load_beyond {r : Run} {a : Nat} (halign : a % 4 = 0) (h : r.areas.stop ≤ a) :
    r.load a = .error (Trap.address, 0) := by
  simp only [load]
  rw [if_neg (not_not.mpr halign), if_pos (.inr h)]

theorem Run.store_outside {r : Run} {a : Nat} (v : Word) (halign : a % 4 = 0) (h : a < r.areas.state ∨ r.areas.stop ≤ a) :
    r.store a v = .error (Trap.address, 0) := by
  simp only [store]
  rw [if_neg (not_not.mpr halign), if_pos h]

/-- A load of the state area, the scratch area or an area of samples. -/
theorem Run.load_data {r : Run} {a : Nat} (hconst : r.areas.const ≤ r.areas.par) (hpar : r.areas.par ≤ r.areas.state)
    (halign : a % 4 = 0) (hlow : r.areas.state ≤ a) (hhigh : a < r.areas.stop) :
    r.load a = .ok (if a < r.areas.scratch then (getA a r.c.stateW).getD ((getA a r.k.stateMem).getD 0)
      else (getA a r.c.data).getD 0) := by
  simp only [load]
  rw [if_neg (not_not.mpr halign), if_neg (by omega), if_neg (by omega), if_neg (by omega)]
  exact (apply_ite Except.ok _ _ _).symm

/-- A load away from the word that differs. -/
theorem Run.load_congr {r t : Run} {a : Nat} (hframe : t = { r with c := { r.c with
      data := t.c.data, stateW := t.c.stateW, lines := t.c.lines } })
    (hstate : getA a t.c.stateW = getA a r.c.stateW) (hdata : getA a t.c.data = getA a r.c.data) : t.load a = r.load a := by
  have hpar : t.parWord = r.parWord := by
    rw [hframe]
    rfl
  simp only [load, hstate, hdata, hpar]
  rw [hframe]

/-- What a store leaves of the run: the word, in the memory its address lies in (R360). -/
structure Run.Stored (r t : Run) (a : Nat) (v : Word) : Prop where
  align : a % 4 = 0
  low : r.areas.state ≤ a
  high : a < r.areas.stop
  state : ∀ b, getA b t.c.stateW = if a < r.areas.scratch ∧ b = a then some v else getA b r.c.stateW
  data : ∀ b, (b ≠ a → getA b t.c.data = getA b r.c.data) ∧ (r.areas.scratch ≤ a → (getA a t.c.data).getD 0 = v)
  frame : t = { r with c := { r.c with data := t.c.data, stateW := t.c.stateW, lines := t.c.lines } }

theorem getA_setA_ite {β : Type} (j k : Nat) (v : β) (l : List (Nat × β)) :
    getA j (setA k v l) = if j = k then some v else getA j l := by
  split
  case isTrue h => rw [h, getA_setA]
  case isFalse h => exact getA_setA_other _ _ _ _ h

theorem Run.stored_of_store {r t : Run} {a : Nat} {v : Word} (h : r.store a v = .ok t) : r.Stored t a v := by
  simp only [store] at h
  split at h
  case isTrue => exact nomatch h
  case isFalse halign =>
    have halign' : a % 4 = 0 := not_not.mp halign
    split at h
    case isTrue => exact nomatch h
    case isFalse hin =>
      have hlow : r.areas.state ≤ a := by omega
      have hhigh : a < r.areas.stop := by omega
      have hstored (ls : List Nat) (hs : a < r.areas.scratch) :
          r.Stored { r with c := { r.c with stateW := setA a v r.c.stateW, lines := ls } } a v :=
        ⟨halign', hlow, hhigh, fun b => by simp only [getA_setA_ite, hs, true_and],
          fun b => ⟨fun _ => rfl, fun hge => absurd hs (Nat.not_lt.mpr hge)⟩, rfl⟩
      split at h
      case isTrue hs =>
        split at h
        case isTrue =>
          cases h
          exact hstored r.c.lines hs
        case isFalse =>
          split at h
          case isTrue => exact nomatch h
          case isFalse =>
            cases h
            exact hstored _ hs
      case isFalse hs =>
        cases h
        exact ⟨halign', hlow, hhigh, fun b => by simp only [hs, false_and, if_false],
          fun b => ⟨fun hb => getA_setSparse_other _ _ _ _ _ hb, fun _ => getA_setSparse _ _ _ _⟩, rfl⟩

/-- A load reads the word stored last at its address. -/
theorem Run.Stored.load {r t : Run} {a : Nat} {v : Word} (h : r.Stored t a v) (hconst : r.areas.const ≤ r.areas.par)
    (hpar : r.areas.par ≤ r.areas.state) : t.load a = .ok v := by
  have hareas : t.areas = r.areas := by rw [h.frame]
  rw [Run.load_data (hareas ▸ hconst) (hareas ▸ hpar) h.align (hareas ▸ h.low) (hareas ▸ h.high), hareas, h.state a]
  by_cases hs : a < r.areas.scratch
  · rw [if_pos hs, if_pos ⟨hs, rfl⟩]
    rfl
  · rw [if_neg hs, (h.data a).2 (Nat.not_lt.mp hs)]

theorem Run.Stored.load_other {r t : Run} {a b : Nat} {v : Word} (h : r.Stored t a v) (hb : b ≠ a) : t.load b = r.load b :=
  Run.load_congr h.frame ((h.state b).trans (if_neg fun hboth => hb hboth.2)) ((h.data b).1 hb)

theorem Run.store_ended {r t : Run} {a : Nat} {v : Word} (h : r.store a v = .ok t) : t.ended = r.ended := by
  rw [(Run.stored_of_store h).frame]

/-! ### Vector accesses -/

/-- A property that every step of a fold keeps, where the fold does not trap. -/
theorem foldlM_keeps {α : Type} {P : Run → Prop} {f : Run → α → Exec} (hf : ∀ r t x, P r → f r x = .ok t → P t) (l : List α)
    {r t : Run} (hr : P r) (h : l.foldlM f r = .ok t) : P t := by
  induction l generalizing r with
  | nil =>
    cases h
    exact hr
  | cons x l ih =>
    rw [List.foldlM_cons] at h
    cases hx : f r x with
    | error e =>
      rw [hx] at h
      exact nomatch h
    | ok u =>
      rw [hx] at h
      exact ih (hf r u x hr hx) h

theorem Run.scatter_ended {r t : Run} {mask : BitVec 128} {vals : List Word} {addr : Nat → Nat}
    (h : r.scatter mask vals addr = .ok t) : t.ended = r.ended :=
  foldlM_keeps (P := fun u => u.ended = r.ended) (fun _ _ _ hu hstore => (Run.store_ended hstore).trans hu) _ rfl h

theorem Run.vStep_ended (w : IWord) (r : Run) : (r.vStep w).ended = r.ended := by
  unfold vStep
  split
  case isTrue => exact stepP_ended _ _ _
  case isFalse => rfl

/-- What a map of a list that does not trap leaves in each place. -/
theorem mapM_ok {α β : Type} {f : α → Except (Nat × Nat) β} {l : List α} {v : List β} (h : l.mapM f = .ok v) :
    v.length = l.length ∧ ∀ (i : Nat) (x : α), l[i]? = some x → ∃ y, f x = .ok y ∧ v[i]? = some y := by
  induction l generalizing v with
  | nil =>
    cases h
    exact ⟨rfl, fun i x hx => nomatch hx⟩
  | cons x l ih =>
    rw [List.mapM_cons] at h
    cases hx : f x with
    | error e =>
      rw [hx] at h
      exact nomatch h
    | ok y =>
      rw [hx] at h
      cases hl : l.mapM f with
      | error e =>
        rw [hl] at h
        exact nomatch h
      | ok ys =>
        rw [hl] at h
        cases h
        obtain ⟨hlen, hall⟩ := ih hl
        refine ⟨congrArg (· + 1) hlen, fun i z hz => ?_⟩
        cases i with
        | zero =>
          cases hz
          exact ⟨y, hx, rfl⟩
        | succ i => exact hall i z hz

/-- What a gather reads: the word at the address of each masked lane (R365). -/
theorem Run.gather_ok {r : Run} {mask : BitVec 128} {old v : List Word} {addr : Nat → Nat}
    (h : r.gather mask old addr = .ok v) : v.length = old.length ∧ ∀ (l : Nat) (x : Word), old[l]? = some x →
      if mask.getLsbD l then ∃ y, r.load (addr l) = .ok y ∧ v[l]? = some y else v[l]? = some x := by
  obtain ⟨hlen, hall⟩ := mapM_ok h
  refine ⟨hlen.trans List.length_zipIdx, fun l x hx => ?_⟩
  obtain ⟨y, hy, hv⟩ := hall l (x, l) (by simp [List.getElem?_zipIdx, hx])
  cases hm : mask.getLsbD l with
  | true =>
    rw [if_pos hm] at hy
    exact ⟨y, hy, hv⟩
  | false =>
    rw [if_neg (ne_true_of_eq_false hm)] at hy
    cases hy
    exact hv

section Accesses

variable {w : IWord} {r t : Run} {v : Word} {l : List Word} {e : Nat × Nat}

theorem iLds_eq (h : r.load (r.c.sr w.a.toNat + w.imm).toNat = .ok v) :
    iLds w r = .ok (r.puts [keyS w.a.toNat] 1 [(keyS w.d.toNat, 3)] (Ctx.setS w.d.toNat v)) := by
  unfold iLds
  rw [h]
  rfl

theorem iLds_traps (h : r.load (r.c.sr w.a.toNat + w.imm).toNat = .error e) : iLds w r = .error e := by
  unfold iLds
  rw [h]
  rfl

/-- The run after the issue of a vector access, its P register stepped. -/
def Run.vIssued (w : IWord) (r : Run) : Run := (r.puts (vReads w) 1 ((keyV w.d.toNat, 3) :: vWrites w) fun c => c).vStep w

theorem iVld_eq (h : r.gather (r.c.mr w.m.toNat) (r.c.vr w.d.toNat) (r.vAddr w) = .ok l) :
    iVld w r = .ok { r.vIssued w with c := (r.vIssued w).c.setV w.d.toNat l } := by
  unfold iVld
  rw [h]
  rfl

theorem iVldb_eq (h : r.load (r.vAddr w 0) = .ok v) : iVldb w r = .ok { r.vIssued w with
    c := (r.vIssued w).c.setV w.d.toNat
      (laneMap (r.c.mr w.m.toNat) (fun _ _ _ => v) 0 (r.c.vr w.d.toNat) zeroLanes zeroLanes) } := by
  unfold iVldb
  rw [h]
  rfl

theorem iVst_eq (h : (r.puts (keyV w.d.toNat :: vReads w) 1 (vWrites w) fun c => c).scatter (r.c.mr w.m.toNat)
    (r.c.vr w.d.toNat) (r.vAddr w) = .ok t) : iVst w r = .ok (t.vStep w) := by
  have h' : (r.issue (keyV w.d.toNat :: vReads w) 1 (vWrites w)).scatter (r.c.mr w.m.toNat) (r.c.vr w.d.toNat) (r.vAddr w) =
    .ok t := h
  unfold iVst
  rw [h']
  rfl

theorem iVlds_eq (h : r.gather (r.c.mr w.m.toNat) (r.c.vr w.d.toNat) (r.sAddr w) = .ok l) :
    iVlds w r = .ok (r.puts (strideReads w) 4 [(keyV w.d.toNat, 3)] (Ctx.setV w.d.toNat l)) := by
  unfold iVlds
  rw [h]
  rfl

theorem Run.vIssued_ended : (r.vIssued w).ended = r.ended := vStep_ended _ _

end Accesses

end Machine

/-- Settles O42. -/
theorem benchMemory : Obligations.BenchMemory := by
  unfold Obligations.BenchMemory
  refine ⟨fun s inst w r v h hload => congrArg _ (instr_of_puts (f := iLds) h (iLds_eq hload)),
    fun s inst w r cause h hload => congrArg _ (instr_trap (f := iLds) h (iLds_traps hload)),
    fun s inst w r t h hstore => ?sts, KrnHeader.areas_ordered,
    fun r t a v hconst hpar hstore => ?stored,
    fun r a v halign => ⟨Run.load_unaligned halign, Run.store_unaligned v halign⟩,
    fun r a v halign hstop => ⟨Run.load_beyond halign hstop, Run.store_outside v halign (.inr hstop)⟩,
    fun r a v halign hlow => Run.store_outside v halign (.inl hlow), fun s inst w r v h hload => ?vld,
    fun s inst w r t h hstore => ?vst, fun s inst w r v h hload => ?vldb,
    fun s inst w r v h hload => congrArg _ (instr_of_puts (f := iVlds) h (iVlds_eq hload)),
    fun s inst w r t h hstore => ?vsts, fun r mask old v addr hgather => Run.gather_ok hgather,
    fun r n inc h => Run.stepP_of_no_pending inc h⟩
  case sts => exact congrArg _ (instr_ran (f := iSts) h hstore ((Run.store_ended hstore).trans h.fresh.1))
  case stored =>
    have hstored := Run.stored_of_store hstore
    exact ⟨hstored.load hconst hpar, fun b hb => hstored.load_other hb, hstored.frame⟩
  case vld =>
    exact ⟨_, rfl, congrArg _ (instr_ran (f := iVld) h (iVld_eq hload) (Run.vIssued_ended.trans h.fresh.1))⟩
  case vst =>
    have hended : (t.vStep w).ended = false := (Run.vStep_ended w t).trans ((Run.scatter_ended hstore).trans h.fresh.1)
    exact congrArg _ (instr_ran (f := iVst) h (iVst_eq hstore) hended)
  case vldb =>
    exact ⟨_, rfl, congrArg _ (instr_ran (f := iVldb) h (iVldb_eq hload) (Run.vIssued_ended.trans h.fresh.1))⟩
  case vsts => exact congrArg _ (instr_ran (f := iVsts) h hstore ((Run.scatter_ended hstore).trans h.fresh.1))

end Sys2Proof

/-! Memory, Haul and the packet queues (R383 to R400): their commands, jobs, and the host's side of the queues. -/

namespace Sys2Proof

open Machine

namespace Machine

/-! ### Bytes written and read back -/

theorem Mem.readBytes_writeBytes_disjoint {m : Mem} (h : m.wf = true) {addr at_ n : Nat} {b : Bytes}
    (hdisjoint : at_ + n ≤ addr ∨ addr + b.length ≤ at_) : (m.writeBytes addr b).readBytes at_ n = m.readBytes at_ n := by
  refine List.map_congr_left fun i hi => Mem.read_writeBytes_outside h addr (at_ + i) b ?_
  have hlt := List.mem_range.mp hi
  omega

/-! ### Haul (R389, R390) -/

section Haul

variable (s : State) (mb addr : Nat) (b : Bytes)

theorem State.haulRead_haulWrite {space : Nat} (huser : s.mem.user.wf = true) (hhost : s.mem.host.wf = true)
    (hbar : s.mem.bar2.wf = true) (hspace : space = 1 ∨ space = 2 ∨ space = 3) :
    (s.haulWrite mb space addr b).haulRead mb space addr b.length = b := by
  rcases hspace with rfl | rfl | rfl
  · exact Mem.readBytes_writeBytes huser addr b
  · exact Mem.readBytes_writeBytes hhost addr b
  · exact Mem.readBytes_writeBytes hbar _ b

/-- A read of the bytes of a space that lie beside those written. -/
theorem State.haulRead_haulWrite_disjoint {space at_ n : Nat} (huser : s.mem.user.wf = true) (hhost : s.mem.host.wf = true)
    (hbar : s.mem.bar2.wf = true) (hspace : space = 1 ∨ space = 2 ∨ space = 3)
    (hdisjoint : at_ + n ≤ addr ∨ addr + b.length ≤ at_) :
    (s.haulWrite mb space addr b).haulRead mb space at_ n = s.haulRead mb space at_ n := by
  rcases hspace with rfl | rfl | rfl
  · exact Mem.readBytes_writeBytes_disjoint huser hdisjoint
  · exact Mem.readBytes_writeBytes_disjoint hhost hdisjoint
  · exact Mem.readBytes_writeBytes_disjoint hbar (by omega)

theorem State.haulRead_haulWrite_other {space k at_ n : Nat} (hspace : space = 1 ∨ space = 2 ∨ space = 3)
    (hk : k = 1 ∨ k = 2 ∨ k = 3) (hne : k ≠ space) :
    (s.haulWrite mb space addr b).haulRead mb k at_ n = s.haulRead mb k at_ n := by
  rcases hspace with rfl | rfl | rfl
  · rcases hk with rfl | rfl | rfl
    · exact absurd rfl hne
    · rfl
    · rfl
  · rcases hk with rfl | rfl | rfl
    · rfl
    · exact absurd rfl hne
    · rfl
  · rcases hk with rfl | rfl | rfl
    · rfl
    · rfl
    · exact absurd rfl hne

variable (limit moved : Nat) (d : HaulDesc) (rest : List HaulDesc)

/-- A whole descriptor is moved where the limit allows. -/
theorem State.haulRun_whole (hgood : s.badAt d.src d.srcAddr d.len = none) (hfits : moved + d.len ≤ limit) :
    s.haulRun mb limit (d :: rest) moved =
      State.haulRun mb limit rest (moved + d.len) (s.haulWrite mb d.dst d.dstAddr (s.haulRead mb d.src d.srcAddr d.len)) := by
  have hstop : min (limit - moved) d.len = d.len := by omega
  simp only [haulRun, hgood, Option.getD_none, hstop]
  rw [if_neg (Nat.lt_irrefl _), Nat.min_self]

/-- The move stops within a descriptor that the limit cuts. -/
theorem State.haulRun_cut (hgood : s.badAt d.src d.srcAddr d.len = none) (hover : limit < moved + d.len) (hle : moved ≤ limit) :
    s.haulRun mb limit (d :: rest) moved = (limit, some (d, limit - moved),
      s.haulWrite mb d.dst d.dstAddr (s.haulRead mb d.src d.srcAddr (limit - moved))) := by
  have hstop : min (limit - moved) d.len = limit - moved := by omega
  simp only [haulRun, hgood, Option.getD_none, hstop]
  rw [if_pos (by omega), Nat.add_sub_cancel' hle]

end Haul

/-- Without an error of link ECC the job ends once all bytes are moved. -/
theorem State.endHaul_of_moved {s t : State} {mb : Fin 8} {j : HaulJob} {limit moved : Nat}
    (h : State.haulRun mb limit j.descs 0 { s with mem := { s.mem with jobs := s.mem.jobs.filter fun x => x.mb != mb.val } } =
      (moved, none, t)) :
    s.endHaul mb j limit = t.finish 0x0B10 mb j.req ((s.box mb).sess == .opened) true 0 { payload := leBytes 8 moved } := by
  simp only [endHaul, h]
  rfl

theorem State.endHaul_of_stopped {s t : State} {mb : Fin 8} {j : HaulJob} {limit moved k : Nat} {d : HaulDesc}
    (h : State.haulRun mb limit j.descs 0 { s with mem := { s.mem with jobs := s.mem.jobs.filter fun x => x.mb != mb.val } } =
      (moved, some (d, k), t)) :
    s.endHaul mb j limit = (t.haulSmear mb d k).finish 0x0B10 mb j.req ((s.box mb).sess == .opened) true Err.fault
      { payload := leBytes 8 moved } := by
  simp only [endHaul, h]
  rfl

end Machine

/-- Settles O47. -/
theorem memoryAndHaul : Obligations.MemoryAndHaul := by
  unfold Obligations.MemoryAndHaul
  refine ⟨fun s mb r q w h hpass hq hle hw hbound hclash hshare hh => ?config, fun s mb r q h hpass hq hlt hh => ?status,
    fun s mb r q hpass hq hle => ?internal, fun s mb r n ds hpass hn hlen hok hds hqspi hhits => ?submit,
    fun s mb r hpass => Completes.of_lasting hpass rfl rfl rfl,
    fun s u t mb j n moved hjob hn hu hrun => ?complete, fun s u t mb j n k moved d hjob hn hu hrun => ?timeout,
    fun s mb limit moved d rest => s.haulRun_whole mb limit moved d rest,
    fun s mb limit moved d rest => s.haulRun_cut mb limit moved d rest,
    fun s mb space addr b huser hhost hbar h1 h3 => s.haulRead_haulWrite mb addr b huser hhost hbar (by omega),
    fun s mb space addr at_ k n b huser hhost hbar h1 h3 hk1 hk3 hother => ?beside⟩
  case config =>
    subst hh
    refine Completes.of_lasting hpass rfl ?_ (State.lasting_putQueue _ _ _)
    have hbound' : ¬ (s.accept queueConfig.opcode mb).queueBound q = true := ne_true_of_eq_false hbound
    have hshare' : ¬ (!(s.accept queueConfig.opcode mb).queueShareOk q w) = true := by
      rw [show (s.accept queueConfig.opcode mb).queueShareOk q w = true from hshare]
      exact Bool.false_ne_true
    simp only [queueConfig] at hbound' hshare' ⊢
    rw [hq, hw, if_neg (Nat.not_lt.mpr hle), if_neg hbound', if_neg ?noClash, if_neg hshare']
    · rfl
    case noClash =>
      rw [List.any_eq_true]
      rintro ⟨i, hi, hboth⟩
      obtain ⟨hne, hmatch⟩ := Bool.and_eq_true_iff.mp hboth
      split at hmatch
      next m o l hwin =>
        obtain ⟨hm, hover⟩ := Bool.and_eq_true_iff.mp hmatch
        exact hclash i m o l (List.mem_range.mp hi) (bne_iff_ne.mp hne) hwin ⟨eq_of_beq hm, hover⟩
      next => exact Bool.false_ne_true hmatch
  case status =>
    subst hq hh
    refine Completes.of_lasting hpass rfl ?_ ?_
    · simp only [queueStatus]
      rw [if_pos hlt]
      rfl
    · cases bit (field r.payload 0 1) 0 with
      | false => rfl
      | true => rfl
  case internal =>
    subst hq
    exact ⟨_, rfl, Completes.of_lasting hpass rfl (if_neg (Nat.not_lt.mpr hle)) rfl⟩
  case submit =>
    subst hn hds
    refine Waits.of_lasting hpass rfl ?_ rfl
    have hok' : (List.range (field r.payload 0 2)).all ((s.accept haulSubmit.opcode mb).haulDescOk r.payload) = true :=
      List.all_eq_true.mpr fun j hj => hok j (List.mem_range.mp hj)
    have hqspi' : ¬ ((s.accept haulSubmit.opcode mb).id.straps.hostQspi &&
        ((List.range (field r.payload 0 2)).map (haulDesc r.payload)).any
          fun d => decide (d.src = 2) || decide (d.dst = 2)) = true := by
      intro hboth
      obtain ⟨hstrap, hany⟩ := Bool.and_eq_true_iff.mp hboth
      obtain ⟨d, hd, hhost⟩ := List.any_eq_true.mp hany
      obtain ⟨hsrc, hdst⟩ := hqspi d hd hstrap
      simp [hsrc, hdst] at hhost
    have hhits' : ¬ (((List.range (field r.payload 0 2)).map (haulDesc r.payload)).any fun d =>
        (decide (d.src = 3) && (s.accept haulSubmit.opcode mb).hitsAttachment mb d.srcAddr d.len) ||
        (decide (d.dst = 3) && (s.accept haulSubmit.opcode mb).hitsAttachment mb d.dstAddr d.len)) = true := by
      intro hany
      obtain ⟨d, hd, hhit⟩ := List.any_eq_true.mp hany
      obtain ⟨hsrc, hdst⟩ := hhits d hd
      rcases Bool.or_eq_true_iff.mp hhit with h | h
      · obtain ⟨h3, hhit⟩ := Bool.and_eq_true_iff.mp h
        exact absurd hhit (ne_true_of_eq_false (hsrc (of_decide_eq_true h3)))
      · obtain ⟨h3, hhit⟩ := Bool.and_eq_true_iff.mp h
        exact absurd hhit (ne_true_of_eq_false (hdst (of_decide_eq_true h3)))
    simp only [haulSubmit] at hok' hqspi' hhits' ⊢
    rw [if_neg (not_not.mpr hlen), hok', if_neg (by decide), if_neg hqspi', if_neg hhits']
  case complete =>
    subst hn hu
    change execHaulComplete mb s = _
    simp only [execHaulComplete, hjob]
    rw [State.endHaul_of_moved hrun]
  case timeout =>
    subst hu
    have hmin : min n (sumN (j.descs.map (·.len)) - 1) = n := by omega
    change execHaulTimeout mb n s = _
    simp only [execHaulTimeout, hjob, hmin]
    rw [State.endHaul_of_stopped hrun]
  case beside =>
    by_cases hne : k = space
    · subst hne
      exact s.haulRead_haulWrite_disjoint mb addr b huser hhost hbar (by omega) (hother.resolve_left (not_not.mpr rfl))
    · exact s.haulRead_haulWrite_other mb addr b (by omega) (by omega) hne

end Sys2Proof

/-! The host's side of the packet queues (R391 to R399) and a channel's retraining (R384). -/

namespace Sys2Proof

open Machine

namespace Machine

section Queues

variable {s : State} {q : Fin 16}

theorem State.whenReady_of_ready (off : Nat) (k : State → State) (hawake : s.awake = true) (hready : s.ready = true) :
    s.whenReady off k = k s := by
  unfold whenReady
  rw [hawake, hready]
  rfl

theorem State.queue_setQueueRaw (s : State) (q : Fin 16) (h : HostQueue) : (s.setQueueRaw q h).queue q = h := by
  simp [queue, setQueueRaw, q.isLt]

theorem State.queue_setCause (s : State) (v k : Nat) : (s.setCause v).queue k = s.queue k := by
  unfold queue
  rw [State.setCause_mem]

/-! ### Writes (R391 to R393, R398) -/

theorem State.writeHqCtrl_flush (v : Word) (hv : v.getLsbD 1 = false) :
    s.writeHqCtrl q (v ||| 1) = s.putQueue q (s.queue q).flush := by
  have h0 : (v ||| 1).getLsbD 0 = true := by simp
  have h1 : (v ||| 1).getLsbD 1 = false := by rw [BitVec.getLsbD_or, hv]; rfl
  unfold writeHqCtrl
  rw [h0, h1]
  rfl

theorem State.writeHqCtrl_spoil (v : Word) (hv : v.getLsbD 0 = false) :
    s.writeHqCtrl q (v ||| 2) = if 8 ≤ q.val then s.putQueue q (s.queue q).spoilNow else s := by
  have h0 : (v ||| 2).getLsbD 0 = false := by rw [BitVec.getLsbD_or, hv]; rfl
  have h1 : (v ||| 2).getLsbD 1 = true := by simp
  unfold writeHqCtrl
  rw [h0, h1]
  simp only [Bool.false_eq_true, if_false, Bool.true_and, decide_eq_true_eq]

theorem State.pushHost_of_open (last : Bool) (w : BitVec 64) (hq : 8 ≤ q.val) (hwin : (s.queue q).window = none) :
    s.pushHost q last w = s.putQueue q ((s.queue q).push (w, false) last) :=
  if_neg (by rw [hwin, decide_eq_false (Nat.not_lt.mpr hq)]; exact Bool.false_ne_true)

theorem State.pushHost_of_closed (last : Bool) (w : BitVec 64) (h : q.val < 8 ∨ (s.queue q).window ≠ none) :
    s.pushHost q last w = s :=
  if_pos (Bool.or_eq_true_iff.mpr (h.imp decide_eq_true Option.isSome_iff_ne_none.mpr))

/-! ### Reads (R397) -/

theorem State.takeHqWord_of_some {v : BitVec 64} {p : Bool} {g : HostQueue} (hq : q.val < 8) (hwin : (s.queue q).window = none)
    (hpop : (s.queue q).popWord = some ((v, p), g)) : ∃ t, s.takeHqWord q = (v, t) ∧
      t.queue q = { g with poisonLast := p, poisonSeen := g.poisonSeen || p } := by
  unfold takeHqWord
  dsimp only
  rw [if_neg (by rw [hwin, decide_eq_false (Nat.not_le.mpr hq)]; exact Bool.false_ne_true), hpop]
  refine ⟨_, rfl, ?_⟩
  dsimp only
  split
  case isTrue => exact s.queue_putQueue _ q.isLt
  case isFalse => exact (State.queue_setCause _ _ _).trans (s.queue_putQueue _ q.isLt)

theorem State.takeHqWord_of_empty (hq : q.val < 8) (hwin : (s.queue q).window = none) (hempty : (s.queue q).packets = []) :
    s.takeHqWord q = (0, s.setQueueRaw q { s.queue q with underrun := true }) := by
  unfold takeHqWord
  dsimp only
  rw [if_neg (by rw [hwin, decide_eq_false (Nat.not_le.mpr hq)]; exact Bool.false_ne_true), HostQueue.popWord, hempty]

end Queues

/-! ### A packet taken whole -/

theorem HostQueue.popWord_window {h g : HostQueue} {w : BitVec 64 × Bool} (hpop : h.popWord = some (w, g)) :
    g.window = h.window ∧ g.winHead = h.winHead := by
  unfold popWord at hpop
  split at hpop
  case h_1 => exact nomatch hpop
  case h_2 =>
    cases hpop
    exact ⟨rfl, rfl⟩
  case h_3 =>
    cases hpop
    exact ⟨rfl, rfl⟩

/-- Taking a word stores the queue without it. -/
theorem State.popOne_of_some {s : State} {q : Nat} {w : BitVec 64 × Bool} {g : HostQueue} (h : (s.queue q).popWord = some (w, g)) :
    s.popOne q = s.putQueue q g := by
  rw [popOne, h]

/-- The words of the head packet taken one after another. -/
theorem State.popAll_packets {q : Nat} (hq : q < 16) (p : QPacket) (rest : List QPacket) {s : State}
    (hhead : (s.queue q).packets = p :: rest) (l : List Nat) (hlen : l.length = max 1 p.length) :
    ((l.foldl (fun s _ => s.popOne q) s).queue q).packets = rest := by
  induction p generalizing s l with
  | nil =>
    obtain ⟨k, rfl⟩ := List.length_eq_one_iff.mp hlen
    have hpop : (s.queue q).popWord = some ((0, false), { s.queue q with packets := rest }) := by
      rw [HostQueue.popWord, hhead]
    rw [List.foldl_cons, List.foldl_nil, popOne_of_some hpop, s.queue_putQueue _ hq]
  | cons w ws ih =>
    have hpop : (s.queue q).popWord = some (w, { s.queue q with
        packets := if ws.isEmpty then rest else ws :: rest
        poisoned := if w.2 then satAdd32 (s.queue q).poisoned 1 else (s.queue q).poisoned
        poisonBlock := if w.2 then (s.queue q).poisonBlock + 1 else (s.queue q).poisonBlock }) := by
      rw [HostQueue.popWord, hhead]
    cases l with
    | nil => exact absurd hlen (by simp)
    | cons k l =>
      rw [List.foldl_cons, popOne_of_some hpop]
      cases ws with
      | nil =>
        have hnil : l = [] := List.length_eq_zero_iff.mp (by simpa using hlen)
        rw [hnil, List.foldl_nil, s.queue_putQueue _ hq]
        rfl
      | cons w' ws =>
        refine ih ?_ l (by simpa using hlen)
        rw [s.queue_putQueue _ hq]
        rfl

theorem State.popOne_bar2 (q : Nat) (s : State) : (s.popOne q).mem.bar2 = s.mem.bar2 := by
  unfold popOne
  split
  case h_1 => rw [putQueue_mem]; rfl
  case h_2 => rfl

theorem State.popPacket_of_head {s : State} {q : Nat} {p : QPacket} {rest : List QPacket} (hq : q < 16)
    (hhead : (s.queue q).packets = p :: rest) : ∃ t, s.popPacket q = some (p, t) ∧ (t.queue q).packets = rest ∧
      t.mem.bar2 = s.mem.bar2 := by
  refine ⟨_, ?_, popAll_packets hq p rest hhead _ List.length_range, ?_⟩
  · rw [popPacket, hhead]
  · exact List.foldlRecOn (motive := fun t : State => t.mem.bar2 = s.mem.bar2) _ _ rfl
      fun t ht k _ => (popOne_bar2 q t).trans ht

/-! ### Window rings (R399) -/

/-- The bytes of a ring after the first `n` of those put. -/
theorem Mem.read_ringPut (base len pos : Nat) (b : Bytes) (n : Nat) (hn : n ≤ len) {m : Mem} (hm : m.wf = true) :
    ((List.range n).foldl (fun m i => m.writeBytes (base + (pos + i) % len) [b.getD i 0]) m).wf = true ∧
    ∀ i < n, ((List.range n).foldl (fun m i => m.writeBytes (base + (pos + i) % len) [b.getD i 0]) m).read
      (base + (pos + i) % len) = b.getD i 0 := by
  induction n with
  | zero => exact ⟨hm, fun i hi => absurd hi (Nat.not_lt_zero i)⟩
  | succ n ih =>
    obtain ⟨hwf, hread⟩ := ih (Nat.le_of_succ_le hn)
    rw [List.range_succ, List.foldl_append, List.foldl_cons, List.foldl_nil]
    refine ⟨Mem.writeBytes_wf hwf _ _, fun i hi => ?_⟩
    have hwrite := Mem.read_write hwf (base + (pos + n) % len) (base + (pos + i) % len) (b.getD n 0)
    refine hwrite.trans ?_
    by_cases hin : i = n
    · subst hin
      rw [if_pos rfl]
    · have hlt : i < n := by omega
      have hne : ¬ base + (pos + i) % len = base + (pos + n) % len := by
        intro heq
        have hmod : (pos + i) % len = (pos + n) % len := by omega
        have hin' : i % len = n % len := Nat.ModEq.add_left_cancel' pos hmod
        rw [Nat.mod_eq_of_lt (by omega), Nat.mod_eq_of_lt (by omega)] at hin'
        exact hin hin'
      rw [if_neg hne]
      exact hread i hlt

theorem State.ringPut_eq (mb off len pos : Nat) (b : Bytes) (s : State) : s.ringPut mb off len pos b = { s with mem := { s.mem with
    bar2 := (List.range b.length).foldl (fun m i => m.writeBytes (bulkBase mb + (off + (pos + i) % len)) [b.getD i 0]) s.mem.bar2 } } := by
  unfold ringPut
  generalize List.range b.length = l
  induction l generalizing s with
  | nil => rfl
  | cons i l ih =>
    rw [List.foldl_cons, ih]
    rfl

/-- What a ring gives back of the bytes put into it. -/
theorem State.ringGet_ringPut {s t : State} {mb off len pos : Nat} {b : Bytes} (hm : s.mem.bar2.wf = true) (hlen : b.length ≤ len)
    (ht : t.mem.bar2 = (s.ringPut mb off len pos b).mem.bar2) : t.ringGet mb off len pos b.length = b := by
  rw [ringPut_eq] at ht
  refine List.ext_getElem (by simp [ringGet]) fun i hi hb => ?_
  simp only [ringGet, List.getElem_map, List.getElem_range, ht]
  have hread := (Mem.read_ringPut (bulkBase mb + off) len pos b b.length hlen hm).2 i hb
  simp only [Nat.add_assoc] at hread ⊢
  rw [hread, List.getD_eq_getElem _ _ hb]

theorem packetBytes_length (p : QPacket) : (packetBytes p).length = 8 * p.length := by
  induction p with
  | nil => rfl
  | cons w p ih =>
    rw [show packetBytes (w :: p) = leBytes 8 w.1.toNat ++ packetBytes p from rfl, List.length_append, leBytes_length, ih,
      List.length_cons]
    omega

end Machine

/-- Settles O49. -/
theorem hostQueueRows : Obligations.HostQueueRows := by
  unfold Obligations.HostQueueRows
  refine ⟨fun s q v hawake hready hv => ?flush, fun s q v hawake hready hv => ?spoil,
    fun s q w hawake hready hq hwin => ?push, fun s q lo hi hawake hready hq hwin hheld => ?high,
    fun s q lo hawake hready => ?low, fun s q d hawake hready hclosed w hd => ?closed,
    fun s q w v p g hawake hready hq hwin hpop => ?read, fun s q w hawake hready hq hwin hempty => ?underrun,
    fun s q v hawake hready => ?windows, fun s q m o len need p rest hbar hq hwin hpackets hneed hroom => ?toHost,
    fun s q m o len n hq hwin hhead hlt havail hroom => ?fromHost, fun s c margin hready => ?retrain⟩
  case flush =>
    change execHqFlush q v s = _
    rw [execHqFlush, State.whenReady_of_ready _ _ hawake hready, State.writeHqCtrl_flush v hv]
  case spoil =>
    change execHqSpoil q v s = _
    rw [execHqSpoil, State.whenReady_of_ready _ _ hawake hready, State.writeHqCtrl_spoil v hv]
  case push =>
    change execHqDataWrite q _ s = _ ∧ execHqDataLast q _ s = _
    rw [execHqDataWrite, execHqDataLast, State.whenReady_of_ready _ _ hawake hready, State.whenReady_of_ready _ _ hawake hready]
    exact ⟨congrArg _ (State.pushHost_of_open false w hq hwin), congrArg _ (State.pushHost_of_open true w hq hwin)⟩
  case high =>
    refine ⟨_, rfl, ?_⟩
    change execHqDataWrite q _ s = _
    rw [execHqDataWrite, State.whenReady_of_ready _ _ hawake hready]
    have hqueue := s.queue_setQueueRaw q { s.queue q with heldWrite := none }
    have hopen := State.pushHost_of_open (s := s.setQueueRaw q { s.queue q with heldWrite := none }) false
      (BitVec.ofNat 64 (lo.toNat + 2 ^ 32 * hi.toNat)) hq (by rw [hqueue]; exact hwin)
    rw [hqueue] at hopen
    rw [← hopen]
    simp only [State.writeHqData, hheld]
    rfl
  case low =>
    change execHqDataWrite q _ s = _
    rw [execHqDataWrite, State.whenReady_of_ready _ _ hawake hready]
    rfl
  case closed =>
    subst hd
    change execHqDataWrite q _ s = _ ∧ execHqDataLast q _ s = _
    rw [execHqDataWrite, execHqDataLast, State.whenReady_of_ready _ _ hawake hready, State.whenReady_of_ready _ _ hawake hready]
    exact ⟨congrArg _ (State.pushHost_of_closed false w hclosed), congrArg _ (State.pushHost_of_closed true w hclosed)⟩
  case read =>
    obtain ⟨t, htake, hqueue⟩ := State.takeHqWord_of_some hq hwin hpop
    refine ⟨_, congrArg Host.Outcome.next (State.whenReady_of_ready _ _ hawake hready), ?_⟩
    simp only [State.readHqData, htake]
    rw [State.queue_setQueueRaw, hqueue]
  case underrun =>
    refine ⟨_, congrArg Host.Outcome.next (State.whenReady_of_ready _ _ hawake hready), ?_⟩
    simp only [State.readHqData, State.takeHqWord_of_empty hq hwin hempty, State.queue_setQueueRaw]
    exact ⟨trivial, rfl⟩
  case windows =>
    change execHqWinHeadWrite q v s = _ ∧ execHqWinTailWrite q v s = _
    rw [execHqWinHeadWrite, execHqWinTailWrite, State.whenReady_of_ready _ _ hawake hready,
      State.whenReady_of_ready _ _ hawake hready]
    exact ⟨rfl, rfl⟩
  case toHost =>
    have hbytes : (leBytes 8 (8 * p.length + 2 ^ 32 * ofBool p.poisoned) ++ packetBytes p).length = need := by
      rw [List.length_append, leBytes_length, packetBytes_length, hneed]
    have hlen : need ≤ len := hroom.trans (Nat.sub_le _ _)
    have hput : ((s.ringPut m o len (s.queue q).winHead.toNat
        (leBytes 8 (8 * p.length + 2 ^ 32 * ofBool p.poisoned) ++ packetBytes p)).queue q).packets = p :: rest := by
      rw [State.ringPut_eq]
      exact hpackets
    obtain ⟨t, hpop, hrest, hmem⟩ := State.popPacket_of_head q.isLt hput
    subst hneed
    have hexec : exec (.windowCopyToHost q) s = .next (t.setQueueRaw q { t.queue q with
        winHead := (s.queue q).winHead + BitVec.ofNat 32 (8 + 8 * p.length) }) := by
      change execWindowCopyToHost q s = _
      simp only [execWindowCopyToHost, hwin, hpackets]
      rw [if_pos ⟨hq, hroom⟩]
      have hpop' : (s.ringPut m o len (s.queue q).winHead.toNat
        (leBytes 8 (8 * p.length + 0x100000000 * ofBool (p.any (·.2))) ++ packetBytes p)).popPacket q = some (p, t) := hpop
      rw [hpop']
    refine ⟨_, hexec, ?_, ?_, ?_⟩
    · rw [State.queue_setQueueRaw]
      exact hrest
    · rw [State.queue_setQueueRaw]
    · rw [← hbytes]
      exact State.ringGet_ringPut hbar (hbytes ▸ hlen) hmem
  case fromHost =>
    have hn : (8 * n % 0x100000000 + 7) / 8 = n := by omega
    have hgood : ¬ (bit (8 * n) 33 = true ∨ 8 * n / 0x100000000 ≠ 0 ∨ 8 * n % 8 ≠ 0) := by
      rintro (hbit | hhigh | hlow)
      · exact absurd hbit (ne_true_of_eq_false (Nat.testBit_lt_two_pow (hlt.trans (by decide))))
      · omega
      · omega
    change execWindowMoveFromHost q s = _
    simp only [execWindowMoveFromHost, hwin, hhead, hn]
    rw [if_neg (by omega), if_neg hgood, if_neg (Nat.not_lt.mpr hroom)]
  case retrain => exact if_pos hready

end Sys2Proof

/-! Ashlar jobs and contexts (R414 to R418). -/

namespace Sys2Proof

open Machine

namespace Machine

/-- A write into a Haul space leaves the pair's settings. -/
theorem State.pairEn_haulWrite (mb space addr : Nat) (b : Bytes) (s : State) : (s.haulWrite mb space addr b).pairEn = s.pairEn := by
  unfold haulWrite
  split
  · rfl
  · split
    · rfl
    · rfl

/-- A job whose input is all there and whose run has no fault ends with its output written (R414). -/
theorem State.endAshJob_of_done {s : State} {i : Nat} {mb : Fin 8} {r : Req} {j : AshJob} {run : AshRun}
    (hj : ashJobOf r.payload = j) (hgood : s.badAt j.inSpace j.inAddr j.inLen = none)
    (hrun : run = AshRun.run (s.ashCfg i) j.start j.finish j.user
      { dyn := { s.ashDyn i with job := none }, input := s.haulRead mb j.inSpace j.inAddr j.inLen, room := j.outLen })
    (hfault : run.fault = none) :
    s.endAshJob i mb r none = ((s.haulWrite mb j.outSpace j.outAddr run.out.reverse.flatten).setAsh run.dyn).finish 0x0C01 mb r
      ((s.box mb).sess == .opened) true 0 { payload := run.record } := by
  simp only [endAshJob, hj, hgood, Option.getD_none, Nat.min_self, Option.isNone_none, Bool.and_true, ← hrun, hfault,
    Option.isSome_none, Bool.false_and, Bool.false_eq_true, if_false]

end Machine

/-- Settles O50. -/
theorem ashlarCommands : Obligations.AshlarCommands := by
  unfold Obligations.AshlarCommands
  refine ⟨fun s mb r i j c x hpass hi hj hc hx hen hwhole hstream hpending hqspi hin hout => ?job,
    fun s i mb r j x run out hx hjob hj hgood hrun hfault hout => ?ends, fun s mb r hpass hspace => ?save,
    fun s mb r i b hpass hi hen hspace hgood hb hmagic hcrc hcfg => ?restore, fun s x => s.ashDyn_setAsh x⟩
  case job =>
    refine Waits.of_lasting hpass rfl ?_ (State.lasting_setAsh _ _)
    have hc' : (s.accept ashJob.opcode mb).ashCfg i = c := hc
    have hx' : (s.accept ashJob.opcode mb).ashDyn i = x := hx
    have hen' : ¬ (!(s.accept ashJob.opcode mb).enabled (ashId i)) = true := by
      rw [show (s.accept ashJob.opcode mb).enabled (ashId i) = true from hen]
      exact Bool.false_ne_true
    have hwhole' : ¬ (decide (c.dir = 1) && decide (c.mode = 1) && j.finish && decide (j.inLen % 4096 % c.frame ≠ 0)) = true := by
      simp only [Bool.and_eq_true, decide_eq_true_eq]
      rintro ⟨⟨⟨hdir, hmode⟩, hfinish⟩, hrest⟩
      exact hrest (hwhole hdir hmode hfinish)
    have hstream' : ¬ (!j.start && !x.inStream && (decide (c.dir = 1) || decide (c.framing = 1))) = true := by
      simp only [Bool.and_eq_true, Bool.or_eq_true, decide_eq_true_eq, Bool.not_eq_true']
      rintro ⟨⟨hstart, hnot⟩, hkind⟩
      rcases hstream with h | h | ⟨hdir, hframing⟩
      · exact absurd h (ne_true_of_eq_false hstart)
      · exact absurd h (ne_true_of_eq_false hnot)
      · exact hkind.elim hdir hframing
    have hpending' : ¬ (j.start && decide (x.pending ≠ 0)) = true := by
      simp only [Bool.and_eq_true, decide_eq_true_eq]
      rintro ⟨hstart, hne⟩
      exact hne (hpending hstart)
    have hqspi' : ¬ ((s.accept ashJob.opcode mb).id.straps.hostQspi && (decide (j.inSpace = 2) || decide (j.outSpace = 2))) = true := by
      simp only [Bool.and_eq_true, Bool.or_eq_true, decide_eq_true_eq]
      rintro ⟨hstrap, hspace⟩
      obtain ⟨hne, hne'⟩ := hqspi hstrap
      exact hspace.elim hne hne'
    have hhits' : ¬ ((decide (j.inSpace = 3) && (s.accept ashJob.opcode mb).hitsAttachment mb j.inAddr j.inLen) ||
        (decide (j.outSpace = 3) && (s.accept ashJob.opcode mb).hitsAttachment mb j.outAddr j.outLen)) = true := by
      simp only [Bool.or_eq_true, Bool.and_eq_true, decide_eq_true_eq]
      rintro (⟨h3, hhit⟩ | ⟨h3, hhit⟩)
      · exact absurd hhit (ne_true_of_eq_false (hin h3))
      · exact absurd hhit (ne_true_of_eq_false (hout h3))
    simp only [ashJob] at hc' hx' hen' hqspi' hhits' ⊢
    rw [hi, hj, hc', hx', if_neg hwhole', if_neg hen', if_neg hstream', if_neg hpending', if_neg hqspi', if_neg hhits']
  case ends =>
    subst hx hout
    change execAshJobComplete i s = _
    simp only [execAshJobComplete, hjob]
    rw [dif_pos mb.isLt, State.endAshJob_of_done hj hgood hrun hfault]
  case save =>
    have hspace' : ¬ ctxSpace (s.accept ashCtxSave.opcode mb) mb r.payload ≠ 0 := not_not.mpr hspace
    exact Completes.intro hpass rfl (if_neg hspace') ((State.pairEn_haulWrite _ _ _ _ _).trans hpass.single)
  case restore =>
    refine Completes.of_lasting hpass rfl ?_ (State.lasting_setAsh _ _)
    have hen' : ¬ (!(s.accept ashCtxRestore.opcode mb).enabled (ashId i)) = true := by
      rw [show (s.accept ashCtxRestore.opcode mb).enabled (ashId i) = true from hen]
      exact Bool.false_ne_true
    have hspace' : ¬ ctxSpace (s.accept ashCtxRestore.opcode mb) mb r.payload ≠ 0 := not_not.mpr hspace
    have hgood' : ¬ ((s.accept ashCtxRestore.opcode mb).badAt (field r.payload 0 1) (field r.payload 8 8) ashImageBytes).isSome = true :=
      ne_true_of_eq_false hgood
    have hread : (s.accept ashCtxRestore.opcode mb).haulRead mb (field r.payload 0 1) (field r.payload 8 8) ashImageBytes = b := hb.symm
    have hcfg' : ¬ slice b 8 8 ≠ ((s.accept ashCtxRestore.opcode mb).ashCfg i).bytes := not_not.mpr hcfg
    have hsum : ¬ (decide (field b 0 4 ≠ 0x58435341) || decide (field b 4 4 ≠ (crc32c (b.drop 8)).toNat)) = true := by
      rw [hmagic, hcrc]
      simp
    simp only [ashCtxRestore] at hen' hspace' hgood' hread hcfg' ⊢
    rw [hi, hread, if_neg hen', if_neg hspace', if_neg hgood', if_neg hsum, if_neg hcfg']
    rfl

end Sys2Proof

/-! The Farxis link (R422 to R449): bring-up, tests and counters, traffic, lanes and errors. -/

namespace Sys2Proof

open Machine

namespace Machine

/-! ### What the link's operations leave of it -/

/-- Events change nothing of the link but the packets that wait for the partner. -/
theorem OnlyEvents.link {s t : State} (h : OnlyEvents s t) :
    t.link = { s.link with vc0 := { s.link.vc0 with ready := t.link.vc0.ready } } := congrArg State.link h

theorem State.farxisEvent_only (cause : Nat) (s : State) : OnlyEvents s (s.farxisEvent cause) := raise_only _ _ _ _ _

theorem State.link_setCause (v : Nat) (s : State) : (s.setCause v).link = s.link := by rw [setCause_eq]

theorem State.link_number (e : EvRec) (s : State) : (s.number e).link = s.link := by
  unfold number
  extract_lets q e' t
  have hnote : t.link = s.link := note_link s _
  split
  case h_1 => exact hnote
  case h_2 =>
    split
    case isTrue =>
      rw [apply_ite State.link, link_setCause, ite_self]
      exact hnote
    case isFalse => exact (link_setCause _ _).trans hnote

/-- A device that follows no partner sends no event on the link. -/
theorem State.link_raise_of_leads {s : State} (src code node : Nat) (d : Bytes) (h : s.following = false) :
    (s.raise src code node d).link = s.link := by
  unfold raise raiseRec
  split
  case isTrue => rfl
  case isFalse =>
    split
    case isTrue => rfl
    case isFalse =>
      rw [if_neg (by rw [forwardsEvent, h]; exact Bool.false_ne_true), if_neg (ne_true_of_eq_false h)]
      exact link_number _ s

/-- Nothing of the pair follows the link on a device without one. -/
theorem State.pairLinkDown_of_alone {s : State} (h : s.pairEn = false) : s.pairLinkDown = s :=
  if_pos (by rw [h]; rfl)

theorem State.pairLinkUp_of_alone {s : State} (h : s.pairEn = false) : s.pairLinkUp = s :=
  if_neg (ne_true_of_eq_false h)

theorem State.linkWake_of_active {s : State} (h : s.link.state = .active) : s.linkWake = s :=
  if_neg (by rw [h]; exact nofun)

theorem Link.moves_of_active {l : Link} (h : l.state = .active) : l.moves = true := by
  rw [moves, h]
  rfl

/-- What a failed attempt leaves of the link where another one starts (R437). -/
theorem State.linkFail_again {s : State} (reason : Nat) (hfew : s.link.attempts < 2) (hpresent : s.link.absent = false) :
    (s.linkFail reason).link.state = .detect ∧ (s.linkFail reason).link.attempts = s.link.attempts + 1 := by
  have hmore : ¬ (s.link.absent = true ∨ 3 ≤ s.link.attempts + 1) := by
    rw [hpresent]
    exact not_or.mpr ⟨Bool.false_ne_true, by omega⟩
  have hsat : satN 255 (s.link.attempts + 1) = s.link.attempts + 1 := if_pos (by omega)
  simp only [linkFail]
  rw [if_neg hmore, hpresent]
  exact ⟨rfl, (congrArg Link.attempts (raise_only _ _ _ _ _).link).trans hsat⟩

/-- The third failure in a row leaves the link ABSENT. -/
theorem State.linkFail_absent {s : State} (reason : Nat) (hmany : 2 ≤ s.link.attempts) :
    (s.linkFail reason).link.state = .absent := by
  have hmore : s.link.absent = true ∨ 3 ≤ s.link.attempts + 1 := .inr (by omega)
  simp only [linkFail]
  rw [if_pos hmore, apply_ite State.link, apply_ite Link.state, congrArg Link.state (raise_only _ _ _ _ _).link]
  exact ite_self _

/-! ### The middle code of a sweep (R435) -/

/-- One code of a sweep: the longest run so far and the run that ends here. -/
def runStep (mask : Nat) (a : (Nat × Nat) × (Nat × Nat)) (c : Nat) : (Nat × Nat) × (Nat × Nat) :=
  let cur := if bit mask c then (if a.2.2 = 0 then (c, 1) else (a.2.1, a.2.2 + 1)) else (0, 0)
  (if a.1.2 < cur.2 then cur else a.1, cur)

theorem longestRun_eq (mask : Nat) : longestRun mask = ((List.range 16).foldl (runStep mask) ((0, 0), (0, 0))).1 := rfl

/-- A run of error-free codes below `k`. -/
def GoodRun (mask k : Nat) (r : Nat × Nat) : Prop := r.1 + r.2 ≤ k ∧ ∀ i, r.1 ≤ i → i < r.1 + r.2 → bit mask i = true

theorem GoodRun.mono {mask k : Nat} {r : Nat × Nat} (h : GoodRun mask k r) : GoodRun mask (k + 1) r :=
  ⟨Nat.le_succ_of_le h.1, h.2⟩

theorem GoodRun.empty (mask k : Nat) : GoodRun mask k (0, 0) := ⟨Nat.zero_le k, fun i _ hi => absurd hi (Nat.not_lt_zero i)⟩

/-- The run that ends at a code, longer by that code. -/
theorem GoodRun.extend {mask k : Nat} {r : Nat × Nat} (h : GoodRun mask k r) (hend : r.1 + r.2 = k) (hbit : bit mask k = true) :
    GoodRun mask (k + 1) (r.1, r.2 + 1) := by
  refine ⟨by omega, fun i hlow hhigh => ?_⟩
  by_cases hi : i = k
  · rw [hi, hbit]
  · exact h.2 i hlow (by omega)

/-- Both runs of a sweep's fold are error-free, and the second ends where the fold stands. -/
theorem runs_good (mask n : Nat) : GoodRun mask n ((List.range n).foldl (runStep mask) ((0, 0), (0, 0))).1 ∧
    GoodRun mask n ((List.range n).foldl (runStep mask) ((0, 0), (0, 0))).2 ∧
    (((List.range n).foldl (runStep mask) ((0, 0), (0, 0))).2.2 ≠ 0 →
      ((List.range n).foldl (runStep mask) ((0, 0), (0, 0))).2.1 + ((List.range n).foldl (runStep mask) ((0, 0), (0, 0))).2.2 = n) := by
  induction n with
  | zero => exact ⟨GoodRun.empty mask 0, GoodRun.empty mask 0, fun h => absurd rfl h⟩
  | succ n ih =>
    rw [List.range_succ, List.foldl_append, List.foldl_cons, List.foldl_nil]
    generalize (List.range n).foldl (runStep mask) ((0, 0), (0, 0)) = a at ih
    obtain ⟨hbest, hcur, hends⟩ := ih
    have hnext : GoodRun mask (n + 1) (runStep mask a n).2 ∧
        ((runStep mask a n).2.2 ≠ 0 → (runStep mask a n).2.1 + (runStep mask a n).2.2 = n + 1) := by
      unfold runStep
      cases hbit : bit mask n with
      | false => exact ⟨GoodRun.empty mask _, fun h => absurd rfl h⟩
      | true =>
        dsimp only
        rw [if_pos rfl]
        by_cases hzero : a.2.2 = 0
        · rw [if_pos hzero]
          have hone : GoodRun mask n (n, 0) := ⟨Nat.le_refl n, fun i hlow hhigh => absurd hlow (Nat.not_le.mpr hhigh)⟩
          exact ⟨hone.extend rfl hbit, fun _ => rfl⟩
        · rw [if_neg hzero]
          exact ⟨hcur.extend (hends hzero) hbit, fun _ => congrArg (· + 1) (hends hzero)⟩
    refine ⟨?_, hnext⟩
    show GoodRun mask (n + 1) (if a.1.2 < (runStep mask a n).2.2 then (runStep mask a n).2 else a.1)
    split
    · exact hnext.1
    · exact hbest.mono

theorem middleCode_good {mask c : Nat} (h : middleCode mask = some c) : c < 16 ∧ bit mask c = true := by
  obtain ⟨hlen, hall⟩ := (runs_good mask 16).1
  rw [← longestRun_eq] at hlen hall
  simp only [middleCode] at h
  split at h
  case isTrue => exact nomatch h
  case isFalse hne =>
    have hc : (longestRun mask).1 + ((longestRun mask).2 - 1) / 2 = c := Option.some.inj h
    exact ⟨by omega, hall c (by omega) (by omega)⟩

theorem lanesOf_contains {m k : Nat} (h : k < 8) : (lanesOf m).contains k = bit m k := by
  simp [lanesOf, List.contains_eq_mem, h]

end Machine

/-- Settles O51. -/
theorem linkBringUp : Obligations.LinkBringUp := by
  unfold Obligations.LinkBringUp
  refine ⟨fun s mb r want hpass hwant hup => ?power, fun s mb r hpass hstart hoff hnone => ?test,
    fun s mb r hpass hstop htest => ?testEnd, fun s mb r l hpass hl => ?counters, fun s lane hstate hstep hlane => ?lock,
    fun s m hstep hmsg hf2 hn => ?wake, fun s m hstep hmsg hrung => ?rate, fun s m hstep hmsg => ?go,
    fun s codes cs t hstep hswept hpick => ?sweep, fun mask c => middleCode_good,
    fun s u mask hstate hstep hown hcount => ?prbs, fun s hstep hlong hdeep => ?late, fun s hstep hdeep => ?bad,
    fun s hstep hdeep => ?badDeep, fun s reason => State.linkFail_absent reason, fun s reason => State.linkFail_again reason,
    fun s hstate hlong => if_pos ⟨hstate, hlong⟩ |> congrArg _, fun s hpair => ?upNow⟩
  case power =>
    have hup' : ¬ (!(s.accept linkPower.opcode mb).link.up) = true := by
      rw [show (s.accept linkPower.opcode mb).link.up = true from hup]
      exact Bool.false_ne_true
    have halone : (s.accept linkPower.opcode mb).pairEn = false := hpass.single
    have hdeep : ¬ (want = .deep ∧ (s.accept linkPower.opcode mb).pairEn = true) := fun h => absurd h.2 (ne_true_of_eq_false halone)
    have hfield : (if field r.payload 0 1 = 0 then LinkState.active else if field r.payload 0 1 = 1 then .quiet else .deep) = want := by
      simp only [List.mem_cons, Prod.mk.injEq, List.not_mem_nil, or_false] at hwant
      rcases hwant with ⟨hf, rfl⟩ | ⟨hf, rfl⟩ | ⟨hf, rfl⟩
      all_goals
        rw [hf]
        rfl
    simp only [linkPower] at hup' hdeep
    refine ⟨fun hsame => ?_, fun hother hawake => ?_, fun hother hasleep => ?_⟩
    · refine Completes.of_lasting hpass rfl ?_ rfl
      simp only [linkPower, hfield]
      rw [if_neg hup', if_neg hdeep]
      exact if_pos hsame
    · refine Completes.of_lasting hpass rfl ?_ (State.lasting_farxisEvent _ _)
      simp only [linkPower, hfield]
      rw [if_neg hup', if_neg hdeep]
      exact (if_neg hother).trans (if_neg hawake)
    · refine Completes.of_lasting hpass rfl ?_ ?_
      · simp only [linkPower, hfield]
        rw [if_neg hup', if_neg hdeep]
        exact (if_neg hother).trans (if_pos hasleep)
      · exact State.lasting_of_ite (State.lasting_linkSweep _) (State.lasting_linkRate _ _)
  case test =>
    refine Completes.of_lasting hpass rfl ?_ rfl
    have hoff' : ¬ (s.accept linkTest.opcode mb).enabled linkNode = true := ne_true_of_eq_false hoff
    have hnone' : ¬ (s.accept linkTest.opcode mb).link.test.isSome = true := by
      rw [show (s.accept linkTest.opcode mb).link.test = none from hnone]
      exact Bool.false_ne_true
    have hlanes : (List.range 8).map (fun x => if (lanesOf (field r.payload 3 1)).contains x then 8 else s.link.ctle.getD x 0) =
        (List.range 8).map fun x => if bit (field r.payload 3 1) x then 8 else s.link.ctle.getD x 0 :=
      List.map_congr_left fun x hx => by rw [lanesOf_contains (List.mem_range.mp hx)]
    rw [← hlanes]
    simp only [linkTest] at hoff' hnone' ⊢
    rw [hstart, if_neg (by decide), if_neg hoff', if_neg hnone']
    rfl
  case testEnd =>
    refine Completes.of_lasting hpass rfl ?_ rfl
    have htest' : ¬ (s.accept linkTest.opcode mb).link.test.isNone = true := by
      rw [Option.isNone_iff_eq_none, ← Option.not_isSome_iff_eq_none, not_not]
      exact htest
    simp only [linkTest] at htest' ⊢
    rw [if_pos hstop, if_neg htest']
    rfl
  case counters =>
    subst hl
    refine Completes.of_lasting hpass rfl rfl ?_
    exact State.lasting_of_ite rfl rfl
  case lock =>
    change execBlockLock lane s = _
    simp only [execBlockLock]
    rw [if_neg (by rw [hstate]; exact nofun), if_pos hstep, if_pos hlane]
  case wake =>
    change execTrainMessageRx m s = _
    simp only [execTrainMessageRx, State.trainRx, hstep, hmsg]
    rw [if_neg (by decide), if_pos trivial, if_neg hn, if_pos hf2]
    rfl
  case rate =>
    change execTrainMessageRx m s = _
    simp only [execTrainMessageRx, State.trainRx, hstep, hmsg]
    rw [if_neg (by decide), if_pos ⟨trivial, hrung⟩]
  case go =>
    change execTrainMessageRx m s = _
    simp only [execTrainMessageRx, State.trainRx, hstep, hmsg]
    rw [if_neg (by decide), if_pos trivial]
  case sweep =>
    change execCtleSweep codes s = _
    simp only [execCtleSweep, hpick]
    rw [if_pos ⟨hstep, by rw [hswept]; rfl⟩]
  case prbs =>
    change execPrbsTest mask s = _
    simp only [execPrbsTest, hcount]
    rw [if_neg (by rw [hstate]; exact nofun), if_pos ⟨hstep, by rw [hown]; rfl⟩]
  case late =>
    change execLinkTrainFail false s = _
    simp only [execLinkTrainFail]
    rw [if_pos ⟨hstep, .inr hlong⟩, hdeep]
    rfl
  case bad =>
    change execLinkTrainFail true s = _
    simp only [execLinkTrainFail]
    rw [if_pos ⟨hstep, .inl trivial⟩, hdeep]
    rfl
  case badDeep =>
    change execLinkTrainFail true s = _
    simp only [execLinkTrainFail]
    rw [if_pos ⟨hstep, .inl trivial⟩, if_pos (Option.isSome_iff_ne_none.mpr hdeep)]
  case upNow =>
    have halone : (State.farxisEvent 1 (s.setLink { s.link with
        state := .active, step := 0, attempts := 0, absent := false, holder := 0
        vc0 := { credits := 256 }, vc1 := { credits := 512 }, lastPacket := s.time.ticks, lock := s.link.laneSet })).pairEn = false :=
      (State.pairEn_of_lasting (State.lasting_farxisEvent _ _)).trans hpair
    have hlink := (State.farxisEvent_only 1 (s.setLink { s.link with
        state := .active, step := 0, attempts := 0, absent := false, holder := 0
        vc0 := { credits := 256 }, vc1 := { credits := 512 }, lastPacket := s.time.ticks, lock := s.link.laneSet })).link
    simp only [State.linkUpNow, State.pairLinkUp_of_alone halone]
    rw [hlink]
    exact ⟨rfl, rfl, rfl, rfl⟩

end Sys2Proof

/-! The Farxis link in use (R424, R427, R429 to R431, R439 to R447): packets, credits, lanes, errors and the scrambler. -/

namespace Sys2Proof

open Machine

namespace Machine

/-! ### Packets and credits -/

theorem creditsFor_eq (n : Nat) : creditsFor n = (16 + n + 63) / 64 := by
  rw [creditsFor, ceilDiv]
  congr 1

/-- A VC without a packet to send again sends its next one, if it has the credits (R431). -/
theorem State.sendNew_of_ready {s : State} {v len : Nat} {x : Vc} {p : PairPayload} {rest : List (Nat × PairPayload)}
    (hactive : s.link.state = .active) (hx : s.link.vc v = x) (hready : x.ready = (len, p) :: rest)
    (hcredits : creditsFor len ≤ x.credits) : s.sendNew v = (s.setLink { s.link.setVc v { x with
        ready := rest, waited := false, credits := x.credits - creditsFor len, txSeq := (x.txSeq + 1) % 4096
        unacked := x.unacked ++ [⟨x.txSeq, len, p, 1⟩], sent := x.sent + 1 } with
      lastPacket := s.time.ticks }).emitLink (.packet v x.txSeq len p) := by
  simp only [sendNew, hx, hready]
  rw [if_neg (Nat.not_lt.mpr hcredits), linkWake_of_active hactive, hx]

/-- An acknowledgment of the oldest packet frees it and returns its credits. -/
theorem Vc.credit_oldest {x : Vc} {credits : Nat} {p : SentPacket} {rest : List SentPacket} (hunacked : x.unacked = p :: rest)
    (hle : x.returned ≤ credits) (hlt : credits < 65536) : (x.credit credits p.seq).unacked = rest ∧
      (x.credit credits p.seq).credits = x.credits + (credits - x.returned) ∧ (x.credit credits p.seq).returned = credits := by
  have hfirst : x.unacked.findIdx? (fun q => q.seq == p.seq) = some 0 := by
    rw [hunacked, List.findIdx?_cons, beq_self_eq_true]
    rfl
  have hgained : (credits + 65536 - x.returned) % 65536 = credits - x.returned := by omega
  simp only [credit, hfirst, hgained]
  exact ⟨by rw [hunacked]; rfl, trivial, trivial⟩

/-! ### Lost lanes and a link that goes down (R439, R440) -/

/-- A lane lost while the others hold block lock leaves the link a narrower width. -/
theorem State.loseLanes_one {s : State} {lane w : Nat} {good : List Nat} (hup : s.link.up = true) (hin : lane ∈ s.link.laneSet)
    (hmap : lane ∈ s.link.laneMap) (hlock : ∀ x ∈ s.link.laneSet, x ∈ s.link.lock)
    (hgood : good = s.link.laneSet.filter (fun x => x ≠ lane)) (hw : w = widthFor good.length) (hne : w ≠ 0) :
    s.loseLanes [lane] = ((s.setLink { s.link with
      laneSet := good, lost := s.link.lost ++ [lane], lock := s.link.lock.filter fun x => x ≠ lane, width := w
      laneMap := good.take w, rewidths := satN u32max (s.link.rewidths + 1)
      vc0 := s.link.vc0.again, vc1 := s.link.vc1.again }).emitLink (.rewidth (maskOf good) w)).farxisEvent 2 := by
  have hgone : [lane].filter (fun x => s.link.laneSet.contains x) = [lane] := by simp [hin]
  have hcarries : ¬ (!s.link.up || !([lane] : List Nat).any s.link.laneMap.contains) = true := by simp [hup, hmap]
  have hset : s.link.laneSet.filter (fun x => s.link.lock.contains x && !([lane] : List Nat).contains x) = good := by
    rw [hgood]
    refine List.filter_congr fun x hx => ?_
    simp [hlock x hx]
  have hlocks : s.link.lock.filter (fun x => !([lane] : List Nat).contains x) = s.link.lock.filter fun x => x ≠ lane :=
    List.filter_congr fun x _ => by simp
  simp only [loseLanes, hgone]
  rw [if_neg hcarries, hset, ← hw, if_neg hne, hlocks]

/-- What a link reset leaves of the link on a device that runs alone. -/
theorem State.link_linkDown {s : State} (cause : Nat) (halone : s.pairEn = false) (hleads : s.pair.role ≠ 2) :
    (s.linkDown cause).link = (State.linkDetect (s.setLink { s.link with
      resets := satN u32max (s.link.resets + 1), holder := if s.link.hadPair then s.pair.holder else 0, attempts := 0
      absent := false })).link := by
  have hfollows (t : State) (ht : t.pair.role = s.pair.role) : t.following = false := by
    rw [following, ht, beq_false_of_ne hleads]
    rfl
  have hpair (t : State) (ht : t.lasting = s.lasting) : t.pairEn = false := (pairEn_of_lasting ht).trans halone
  simp only [linkDown]
  rw [pairLinkDown_of_alone (hpair _ (by simp))]
  exact link_raise_of_leads _ _ _ _ (hfollows _ rfl)

theorem State.mostErrors_le (s : State) (count : Nat) : count ≤ s.mostErrors count := by
  unfold mostErrors
  split
  case h_1 =>
    split
    · exact Nat.le_max_right _ _
    · exact Nat.le_refl _
  case h_2 => exact Nat.le_refl _

theorem State.mostErrors_first {s : State} (count : Nat) (h : s.link.errInterval = none) : s.mostErrors count = count := by
  rw [mostErrors, h]

/-! ### The scrambler (R424) -/

theorem scramble_length (t : Scrambler) (bits : List Bool) : (scramble t bits).1.length = bits.length := by
  induction bits generalizing t with
  | nil => rfl
  | cons d rest ih => exact congrArg (· + 1) (ih _)

/-- A receiver whose scrambler stands as the sender's gets the bits back. -/
theorem descramble_scramble (t : Scrambler) (bits : List Bool) : descramble t (scramble t bits).1 = (bits, (scramble t bits).2) := by
  induction bits generalizing t with
  | nil => rfl
  | cons d rest ih =>
    simp only [scramble, descramble, ih]
    rw [Bool.xor_assoc, Bool.xor_self, Bool.xor_false]

end Machine

/-- Settles O52. -/
theorem linkTraffic : Obligations.LinkTraffic := by
  unfold Obligations.LinkTraffic
  refine ⟨fun s p x hmoves hhdr hpay hx hseq => ?accepted, fun s p hmoves hhdr hpay hseq => ?outOfTurn,
    fun s p hmoves hbad => ?broken, fun s v x len p rest hactive hx hsent hready hcredits => ?tx,
    fun s c hmoves h0 h1 => ?credit, fun x credits p rest => Vc.credit_oldest, fun s hactive => ?creditTx,
    fun s hactive => ?marker, fun s lane good w hup hin hmap hlock hgood hw hne => ?lost, fun s mask w => rfl,
    fun s hstate => if_pos hstate |> congrArg _, fun s cause halone hleads => ?down,
    fun s hactive hidle hlong => if_pos ⟨hactive, hidle, hlong⟩ |> congrArg _,
    fun s lane c t hactive hin hc ht hle hlow hhigh hlt => ?track, fun s lane count hmoves hmany => ?errors,
    fun s count => ⟨s.mostErrors_le count, State.mostErrors_first count⟩, fun t d rest => rfl,
    fun t bits => ⟨scramble_length t bits, descramble_scramble t bits⟩⟩
  case accepted =>
    subst hx
    change execLinkPacketRx p s = _
    simp only [execLinkPacketRx]
    rw [if_pos hmoves, hhdr, hpay, if_neg (by decide), if_neg (not_not.mpr hseq), creditsFor_eq]
  case outOfTurn =>
    change execLinkPacketRx p s = _
    simp only [execLinkPacketRx]
    rw [if_pos hmoves, hhdr, hpay, if_neg (by decide), if_pos hseq]
  case broken =>
    have hbad' : (!p.headerCrcOk || !p.payloadCrcOk) = true := by
      rcases hbad with h | h
      · rw [h]
        rfl
      · rw [h, Bool.or_comm]
        rfl
    change execLinkPacketRx p s = _
    simp only [execLinkPacketRx]
    rw [if_pos hmoves, if_pos hbad']
  case tx =>
    change execLinkPacketTx v s = _
    simp only [execLinkPacketTx, hx, List.getElem?_eq_none hsent]
    rw [if_pos (Link.moves_of_active hactive), State.sendNew_of_ready hactive hx hready hcredits]
  case credit =>
    change execCreditRx c s = _
    simp only [execCreditRx, h0, h1]
    rw [if_pos hmoves]
    rfl
  case creditTx =>
    change execCreditTx s = _
    simp only [execCreditTx]
    rw [if_pos (Link.moves_of_active hactive), State.linkWake_of_active hactive]
  case marker =>
    change execLaneMarkerTx s = _
    simp only [execLaneMarkerTx]
    rw [if_pos (Link.moves_of_active hactive), if_pos hactive]
  case lost => exact congrArg _ (State.loseLanes_one hup hin hmap hlock hgood hw hne)
  case down =>
    rw [State.link_linkDown cause halone hleads]
    exact ⟨rfl, rfl, rfl, rfl⟩
  case track =>
    subst hc ht
    change execCtleTrack lane true s = _
    exact congrArg _ (if_pos ⟨hactive, List.contains_iff_mem.mpr hin, Nat.succ_ne_self _, hlt, hlow,
      hhigh.trans (Nat.le_succ _)⟩)
  case errors =>
    refine ⟨_, rfl, ?_⟩
    change execLinkErrors lane count s = _
    simp only [execLinkErrors]
    rw [if_pos (.inr hmoves)]
    exact congrArg _ (if_pos hmany)

end Sys2Proof

/-! The redundant pair (R450 to R476): heartbeats, the token, takeover, the join, records and the planned hand-over. -/

namespace Sys2Proof

open Machine

namespace Machine

/-! ### What changes of the pair leave of the state -/

/-- Nothing but the pair registers, the mailboxes and the mark of a formed pair differs, and events. -/
def PairOnly (s t : State) : Prop :=
  OnlyEvents { s with pair := t.pair, mbx := t.mbx, link := { s.link with hadPair := t.link.hadPair } } t

theorem OnlyEvents.withPair {s t : State} (h : OnlyEvents s t) (p : Pair) (m : Vector Mbx 8) (b : Bool) :
    OnlyEvents { s with pair := p, mbx := m, link := { s.link with hadPair := b } }
      { t with pair := p, mbx := m, link := { t.link with hadPair := b } } := by
  rw [h]
  rfl

theorem OnlyEvents.pair {s t : State} (h : OnlyEvents s t) :
    t.pair = { s.pair with log := t.pair.log, unnumbered := t.pair.unnumbered } := congrArg State.pair h

theorem PairOnly.of_only {s t : State} {p : Pair} {m : Vector Mbx 8} {b : Bool}
    (h : OnlyEvents { s with pair := p, mbx := m, link := { s.link with hadPair := b } } t) : PairOnly s t := by
  have hpair : t.pair = { p with log := t.pair.log, unnumbered := t.pair.unnumbered } := h.pair
  have hmbx : t.mbx = m := h.mbx
  have hhad : t.link.hadPair = b := congrArg Link.hadPair h.link
  unfold PairOnly OnlyEvents at *
  refine h.trans ?_
  rw [hmbx, hhad, hpair]

theorem OnlyEvents.pairOnly {s t : State} (h : OnlyEvents s t) : PairOnly s t :=
  .of_only (p := s.pair) (m := s.mbx) (b := s.link.hadPair) h

theorem PairOnly.trans {s t u : State} (h : PairOnly s t) (k : PairOnly t u) : PairOnly s u :=
  (h.withPair u.pair u.mbx u.link.hadPair).trans k

/-- A change of the pair that forms none. -/
theorem PairOnly.unformed {s t : State} (h : PairOnly s t) (hhad : t.link.hadPair = s.link.hadPair) :
    OnlyEvents { s with pair := t.pair, mbx := t.mbx } t := by
  unfold PairOnly at h
  rw [hhad] at h
  exact h

theorem State.driveToken_only (on : Bool) (s : State) : OnlyEvents s (s.driveToken on) := by
  unfold driveToken
  split <;> rfl

theorem State.pair_driveToken (on : Bool) (s : State) : (s.driveToken on).pair = s.pair := by
  unfold driveToken
  split <;> rfl

/-! ### Held responses (R67, R462) -/

/-- One mailbox of `releaseHeld`. -/
def State.releaseBox (upTo : Nat) (degraded : Bool) (s : State) (mb : Nat) : State :=
  match (s.box mb).held with
  | some h =>
    if h.block ≤ upTo then
      let p := { h.resp with degraded := degraded }
      let b := s.box mb
      (s.setBox mb { b with tags := b.tags.map fun e => if e.resp = h.resp then { e with resp := p } else e }).deliver mb p
    else s
  | none => s

theorem State.releaseHeld_eq (upTo : Nat) (degraded : Bool) (s : State) :
    s.releaseHeld upTo degraded = (List.range 8).foldl (releaseBox upTo degraded) s := rfl

theorem State.releaseBox_of_held {s : State} {upTo mb : Nat} {h : Held} (degraded : Bool) (hheld : (s.box mb).held = some h)
    (hdue : h.block ≤ upTo) : s.releaseBox upTo degraded mb =
      (s.setBox mb { s.box mb with tags := (s.box mb).tags.map fun e =>
        if e.resp = h.resp then { e with resp := { h.resp with degraded := degraded } } else e }).deliver mb
          { h.resp with degraded := degraded } := by
  simp only [releaseBox, hheld]
  exact if_pos hdue

theorem State.releaseBox_of_none {s : State} {mb : Nat} (upTo : Nat) (degraded : Bool) (hheld : (s.box mb).held = none) :
    s.releaseBox upTo degraded mb = s := by
  simp only [releaseBox, hheld]

theorem State.deliver_only (mb : Nat) (p : Resp) (s : State) : OnlyEvents { s with mbx := (s.deliver mb p).mbx } (s.deliver mb p) := by
  rw [deliver, setCause_mbx]
  exact setCause_only _ _

theorem State.box_deliver_other {s : State} {mb k : Nat} (p : Resp) (h : k ≠ mb) : (s.deliver mb p).box k = s.box k := by
  simp [deliver, box, setBox, Ne.symm h]

theorem State.box_deliver (s : State) (mb : Fin 8) (p : Resp) : ((s.deliver mb p).box mb).held = none ∧
    ((s.deliver mb p).box mb).busy = false ∧ ((s.deliver mb p).box mb).resp = p := by
  rw [deliver, setCause_box, box_setBox]
  exact ⟨rfl, rfl, rfl⟩

theorem State.releaseBox_only (upTo : Nat) (degraded : Bool) (s : State) (mb : Nat) :
    PairOnly s (s.releaseBox upTo degraded mb) := by
  unfold releaseBox
  split
  case h_1 =>
    split
    case isTrue => exact .of_only (p := s.pair) (b := s.link.hadPair) (deliver_only mb _ (s.setBox mb _))
    case isFalse => exact (OnlyEvents.refl s).pairOnly
  case h_2 => exact (OnlyEvents.refl s).pairOnly

theorem State.box_releaseBox_other {s : State} {upTo mb k : Nat} (degraded : Bool) (h : k ≠ mb) :
    (s.releaseBox upTo degraded mb).box k = s.box k := by
  unfold releaseBox
  split
  case h_1 =>
    split
    case isTrue =>
      rw [box_deliver_other _ h]
      simp [box, setBox, Ne.symm h]
    case isFalse => rfl
  case h_2 => rfl

theorem State.releaseHeld_only (upTo : Nat) (degraded : Bool) (s : State) : PairOnly s (s.releaseHeld upTo degraded) := by
  rw [releaseHeld_eq]
  exact List.foldlRecOn (motive := fun t : State => PairOnly s t) _ _ (OnlyEvents.refl s).pairOnly
    fun t h mb _ => h.trans (releaseBox_only upTo degraded t mb)

/-- A mailbox that holds no response is left alone. -/
theorem State.box_releaseBoxes_of_none {s : State} {k : Nat} (upTo : Nat) (degraded : Bool) (l : List Nat)
    (h : (s.box k).held = none) : (l.foldl (releaseBox upTo degraded) s).box k = s.box k := by
  induction l generalizing s with
  | nil => rfl
  | cons mb l ih =>
    have hsame : (s.releaseBox upTo degraded mb).box k = s.box k := by
      by_cases hmb : k = mb
      · rw [← hmb, releaseBox_of_none _ _ h]
      · exact box_releaseBox_other degraded hmb
    rw [List.foldl_cons, ih (by rw [hsame, h]), hsame]

/-- A response held up to the block is delivered. -/
theorem State.box_releaseBoxes {s : State} {k : Fin 8} {h : Held} {upTo : Nat} (degraded : Bool) {l : List Nat} (hin : k.val ∈ l)
    (hheld : (s.box k).held = some h) (hdue : h.block ≤ upTo) :
    ((l.foldl (releaseBox upTo degraded) s).box k).held = none ∧ ((l.foldl (releaseBox upTo degraded) s).box k).busy = false ∧
      ((l.foldl (releaseBox upTo degraded) s).box k).resp = { h.resp with degraded := degraded } := by
  induction l generalizing s with
  | nil => exact nomatch hin
  | cons mb l ih =>
    rw [List.foldl_cons]
    by_cases hmb : k.val = mb
    · have hgiven : ((s.releaseBox upTo degraded mb).box k).held = none ∧ ((s.releaseBox upTo degraded mb).box k).busy = false ∧
          ((s.releaseBox upTo degraded mb).box k).resp = { h.resp with degraded := degraded } := by
        rw [← hmb, releaseBox_of_held degraded hheld hdue]
        exact box_deliver _ k _
      rw [box_releaseBoxes_of_none _ _ _ hgiven.1]
      exact hgiven
    · exact ih ((List.mem_cons.mp hin).resolve_left hmb) (by rw [box_releaseBox_other degraded hmb, hheld])

/-! ### One update of role, state or token (R455, R474) -/

/-- Role, state or token differ. -/
def Pair.turns (o n : Pair) : Bool := o.role != n.role || o.state != n.state || o.holder != n.holder

/-- The pair registers after such an update. -/
def Pair.turned (o n : Pair) : Pair :=
  { n with
    changes := n.changes + 1, alertRole := n.alertRole || o.role != n.role, alertState := n.alertState || o.state != n.state
    alertToken := n.alertToken || o.holder != n.holder, log := if n.role = 1 ∧ (n.state = 2 ∨ n.state = 3) then n.log else [] }

/-- The update, its alerts, cause 11 and PAIR_STATE, before any response is released. -/
def State.pairTold (f : Pair → Pair) (cause : Nat) (s : State) : State :=
  let t := { s with pair := s.pair.turned (f s.pair) }
  ((if (f s.pair).state = 3 then { t with link := { t.link with hadPair := true } } else t).setCause 11).settleEvents.pairEvent
    s.pair.state cause

theorem State.pairChange_eq (f : Pair → Pair) (cause : Nat) (s : State) :
    s.pairChange f cause = if s.pair.turns (f s.pair) then
        if s.pair.state = 3 ∧ (f s.pair).state ≠ 3 then
          (s.pairTold f cause).releaseHeld ((s.pairTold f cause).time.block + 2) true
        else s.pairTold f cause
      else { s with pair := f s.pair } := rfl

theorem State.settleEvents_only (s : State) : OnlyEvents s s.settleEvents := by
  unfold settleEvents
  split
  case isTrue => exact .refl s
  case isFalse => exact OnlyEvents.foldl (fun s e => number_only e s) _ { s with pair := { s.pair with unnumbered := [] } }

theorem State.pairTold_only (f : Pair → Pair) (cause : Nat) (s : State) : OnlyEvents { s with
    pair := s.pair.turned (f s.pair)
    link := { s.link with hadPair := (if (f s.pair).state = 3 then true else s.link.hadPair) } } (s.pairTold f cause) := by
  unfold pairTold
  split
  case isTrue => exact ((setCause_only _ _).trans (settleEvents_only _)).trans (raise_only _ _ _ _ _)
  case isFalse => exact ((setCause_only _ _).trans (settleEvents_only _)).trans (raise_only _ _ _ _ _)

theorem State.pairTold_pairOnly (f : Pair → Pair) (cause : Nat) (s : State) : PairOnly s (s.pairTold f cause) :=
  .of_only (pairTold_only f cause s)

theorem State.pairChange_only (f : Pair → Pair) (cause : Nat) (s : State) : PairOnly s (s.pairChange f cause) := by
  rw [pairChange_eq]
  split
  case isTrue =>
    split
    case isTrue => exact (pairTold_pairOnly f cause s).trans (releaseHeld_only _ _ _)
    case isFalse => exact pairTold_pairOnly f cause s
  case isFalse => exact .of_only (p := f s.pair) (m := s.mbx) (b := s.link.hadPair) (.refl _)

theorem State.kept_releaseHeld (upTo : Nat) (degraded : Bool) (s : State) :
    (s.releaseHeld upTo degraded).pair = s.pair ∧ (s.releaseHeld upTo degraded).link = s.link ∧
      (s.releaseHeld upTo degraded).eth = s.eth := by
  rw [releaseHeld_eq]
  refine List.foldlRecOn (motive := fun t : State => t.pair = s.pair ∧ t.link = s.link ∧ t.eth = s.eth) _ _ ⟨rfl, rfl, rfl⟩
    fun t ht mb _ => ?_
  unfold releaseBox
  split
  case h_1 =>
    split
    case isTrue =>
      simp only [deliver]
      rw [setCause_eq]
      exact ht
    case isFalse => exact ht
  case h_2 => exact ht

/-- `q` is `p` but for the registers that count and tell a change, and the pair's record. -/
def Pair.Told (p q : Pair) : Prop := q = { p with
  changes := q.changes, alertRole := q.alertRole, alertState := q.alertState, alertToken := q.alertToken, log := q.log
  unnumbered := q.unnumbered }

theorem State.pair_pairTold (f : Pair → Pair) (cause : Nat) (s : State) : (f s.pair).Told (s.pairTold f cause).pair := by
  unfold Pair.Told
  rw [(pairTold_only f cause s).pair]
  rfl

theorem State.pair_pairChange (f : Pair → Pair) (cause : Nat) (s : State) : (f s.pair).Told (s.pairChange f cause).pair := by
  rw [pairChange_eq]
  split
  case isTrue =>
    split
    case isTrue =>
      rw [(kept_releaseHeld _ _ _).1]
      exact pair_pairTold f cause s
    case isFalse => exact pair_pairTold f cause s
  case isFalse => rfl

/-- A change that leaves the pair out of lockstep forms none. -/
theorem State.hadPair_pairChange {f : Pair → Pair} {s : State} (cause : Nat) (h : (f s.pair).state ≠ 3) :
    (s.pairChange f cause).link.hadPair = s.link.hadPair := by
  have htold : (s.pairTold f cause).link.hadPair = s.link.hadPair :=
    (congrArg Link.hadPair (pairTold_only f cause s).link).trans (if_neg h)
  rw [pairChange_eq]
  split
  case isTrue =>
    split
    case isTrue =>
      rw [(kept_releaseHeld _ _ _).2.1]
      exact htold
    case isFalse => exact htold
  case isFalse => rfl

theorem State.eth_pairChange (f : Pair → Pair) (cause : Nat) (s : State) : (s.pairChange f cause).eth = s.eth := by
  rw [(pairChange_only f cause s).eth]

/-! ### The takeover (R469) -/

theorem OnlyEvents.withEth {s t : State} (h : OnlyEvents s t) (e : Ethernet) :
    OnlyEvents { s with eth := e } { t with eth := e } := by
  rw [h]
  rfl

/-- A change of the pair that forms none, and one of the interfaces after it. -/
theorem PairOnly.withEth {s t u : State} {e : Ethernet} (h : PairOnly s t) (hhad : t.link.hadPair = s.link.hadPair)
    (k : OnlyEvents { t with eth := e } u) : OnlyEvents { s with pair := u.pair, mbx := u.mbx, eth := u.eth } u := by
  have hall : OnlyEvents { s with pair := t.pair, mbx := t.mbx, eth := e } u := ((h.unformed hhad).withEth e).trans k
  have hlink : u.link.hadPair = s.link.hadPair := (congrArg Link.hadPair hall.link).trans rfl
  have hown : PairOnly { s with eth := e } u := .of_only (b := s.link.hadPair) hall
  have honly : OnlyEvents { s with eth := e, pair := u.pair, mbx := u.mbx } u := hown.unformed hlink
  have heth : u.eth = e := k.eth
  rw [← heth] at honly
  exact honly

theorem State.startRing_only (s : State) : OnlyEvents s s.startRing := by
  unfold startRing
  extract_lets
  split
  case isTrue => exact setCause_only _ _
  case isFalse => rfl

theorem State.setConfigErr_only (s : State) : OnlyEvents s s.setConfigErr := by
  unfold setConfigErr
  split
  case isTrue => rfl
  case isFalse => exact setCause_only _ _

theorem State.resumeRing_only (before : Nat) (s : State) : OnlyEvents s (s.resumeRing before) := by
  unfold resumeRing
  extract_lets
  split
  case isTrue =>
    split
    case isTrue => exact startRing_only _
    case isFalse => exact setConfigErr_only _
  case isFalse => exact .refl s

theorem State.tokenHigh_of_released {s : State} (h : s.pair.partnerToken = false) : s.tokenHigh = (true, s) :=
  if_pos (by rw [h]; rfl)

theorem late_or_wait_ne_peer {p : Prop} [Decidable p] (u : State) :
    (if p then failWith Err.late else .wait u) ≠ .fail Err.peer [] := by
  split
  case isTrue =>
    intro h
    injection h with h
    exact absurd h (by decide)
  case isFalse => exact nofun

theorem Pair.Told.only {p : Pair} {s t : State} (h : p.Told s.pair) (k : OnlyEvents s t) : p.Told t.pair := by
  unfold Pair.Told at *
  rw [k.pair, h]

theorem PairOnly.of_box (s : State) (mb : Nat) (b : Mbx) : PairOnly s (s.setBox mb b) := rfl

theorem PairOnly.of_pair (s : State) (p : Pair) : PairOnly s { s with pair := p } := rfl

/-- The primary counts the acknowledged block and releases what waited for it (R462). -/
theorem State.acknowledge_eq {s : State} {n : Nat} (hrole : s.pair.role = 1) (hstate : s.pair.state = 3)
    (hn : n ≤ s.pair.recordClosed) : ∃ p : Pair, p.recordAcked = max s.pair.recordAcked n ∧
      s.acknowledge n = State.releaseHeld n false { s with pair := p } :=
  ⟨_, rfl, if_pos ⟨hrole, .inr hstate, hn⟩⟩

/-- What a command in an open session comes to on the primary of a pair, once it passes checks 1 to 6 (R55, R458). -/
theorem runCommand_primary {c : Contract} {s a : State} {mb : Fin 8} {r : Req} (hawake : s.awake = true)
    (hready : s.ready = true) (hidle : (s.box mb).busy = false) (hshort : r.payload.length ≤ 8176)
    (ha : (s.note (.bell mb)).accept c.opcode mb = a) (hopen : (a.box mb).sess = .opened) (hrole : a.pair.role = 1)
    (htag : (a.box mb).tagOf r.tag = none) (hearly : c.early a mb r = 0) (hfree : a.mustWait c.opcode r = false) :
    runCommand c mb r s = .next (c.settle mb r true a) := by
  have hlen : ¬ 8176 < r.payload.length := Nat.not_lt.mpr hshort
  simp only [runCommand, State.doorbell, hawake, hready, hidle, ha, hlen, Contract.checked, hopen, hrole, htag, hearly, hfree]
  simp

end Machine

/-- Settles O53: each row's effect, with the changes of role, state and token by `pairChange_only` and `pair_pairChange`, and
the release of held responses by induction on the mailboxes. -/
theorem pairRows : Obligations.PairRows := by
  unfold Obligations.PairRows
  refine ⟨fun s mb r p hpass hp => ?status, fun s mb r hpass hstate => ?config,
    fun s a mb r at_ hawake hready hidle hopen hfresh hshort ha hearly hfree hgrid hnode hactive hrole hstate hkind hat
      hlate => ?switch,
    fun s mb r => ?refused, fun s hbeat hdue => ?instant, fun s h hbeat hup => ?heard, fun s hbeat hmiss hdecide => ?edge,
    fun s hbeat hrole htoken hpartner hquiet => ?acquire,
    fun s hbeat hrole htake haverted hlink hpin hpartner => ?declare, fun s hbeat hpos htake hring => ?takeover,
    fun s hbeat hstate hup hcut hstored => ?join, fun s hbeat hrec hview => ?close,
    fun s n hrole hstate hn => ?ack, fun s mb h hrole hstate hheld hlate => ?timeout,
    fun s at_ mb r hswitch hpos hat hrole => ?handover⟩
  case status =>
    subst hp
    refine Completes.of_lasting hpass rfl ?_ rfl
    have hrole : ¬ (s.accept pairStatus.opcode mb).pair.role = 1 := by
      rw [show (s.accept pairStatus.opcode mb).pair.role = s.pair.role from rfl, hpass.alone]
      decide
    simp only [pairStatus] at hrole ⊢
    rw [if_neg hrole]
    rfl
  case config =>
    refine Completes.of_lasting hpass rfl ?_ rfl
    exact congrArg okay (if_neg hstate)
  case switch =>
    subst ha
    generalize hu : s.note (.bell mb) = u at *
    have honly : OnlyEvents s u := hu ▸ State.note_only _ s
    have hbox (k : Nat) : u.box k = s.box k := honly.box k
    have hrole' : (u.accept pairSwitch.opcode mb).pair.role = 1 := (congrArg Pair.role honly.pair).trans hrole
    have hstate' : (u.accept pairSwitch.opcode mb).pair.state = 3 := (congrArg Pair.state honly.pair).trans hstate
    have hactive' : (u.accept pairSwitch.opcode mb).power.state = .active := (congrArg Power.state honly.power).trans hactive
    have hlate' : ¬ at_ < 16 * ((u.accept pairSwitch.opcode mb).time.block + 4) := by
      rw [show (u.accept pairSwitch.opcode mb).time = s.time from honly.time]
      exact Nat.not_lt.mpr hlate
    have hsess : ((u.accept pairSwitch.opcode mb).box mb).sess = .opened := by rw [State.accept_sess, hbox, hopen]
    have htag : ((u.accept pairSwitch.opcode mb).box mb).tagOf r.tag = none := by
      rw [State.box_accept, hbox]
      exact hfresh
    have happly : pairSwitch.apply (u.accept pairSwitch.opcode mb) mb r = .wait { u.accept pairSwitch.opcode mb with
        pair := { (u.accept pairSwitch.opcode mb).pair with switchAt := some (at_, mb.val, r) } } := by
      have hnode' : pairSwitch.node (u.accept pairSwitch.opcode mb) mb r = 0 := by
        change onCp s mb r = 0
        rw [onCp, hnode]
        rfl
      have hfields : pairSwitch.fields (u.accept pairSwitch.opcode mb) mb r = true := by
        change (if field r.payload 0 1 = 0 then _ else decide (field r.payload 8 8 % 16 = 0)) = true
        rw [if_neg (by rw [hkind]; decide), decide_eq_true hgrid]
      simp only [Contract.apply]
      rw [if_neg (not_not.mpr hnode'), if_neg (by rw [hactive']; decide), if_neg (by rw [hfields]; decide)]
      have hdue : (if field r.payload 0 1 = 0 then 16 * ((u.accept pairSwitch.opcode mb).time.block + 4)
          else field r.payload 8 8) = at_ := by
        rw [if_neg (by rw [hkind]; decide), hat]
      simp only [pairSwitch] at hstate' hlate' hdue ⊢
      rw [if_neg (not_not.mpr hstate'), hdue, if_neg hlate']
    change runCommand pairSwitch mb r s = _
    rw [runCommand_primary hawake hready hidle hshort (a := u.accept pairSwitch.opcode mb) (by rw [hu]) hsess hrole' htag
      hearly hfree, Contract.settle, happly]
    rfl
  case refused =>
    change (if s.pair.state ≠ 3 then failWith Err.peer else if _ < _ then failWith Err.late else .wait _) = .fail Err.peer [] ↔ _
    constructor
    case mp =>
      intro h hstate
      rw [if_neg (not_not.mpr hstate)] at h
      exact late_or_wait_ne_peer _ h
    case mpr => exact fun h => if_pos h
  case instant =>
    refine ⟨_, _, ?_, rfl, rfl⟩
    change execHeartbeatInstant s = _
    simp only [execHeartbeatInstant]
    rw [if_pos hbeat, decide_eq_false (Nat.not_lt.mpr hdue)]
  case heard => exact congrArg _ (if_pos (by rw [hbeat, hup]; rfl))
  case edge =>
    change execPairAliveEdge s = _
    simp only [execPairAliveEdge]
    rw [if_pos hbeat, if_neg (Nat.not_le.mpr hmiss), if_neg (by rw [hdecide]; exact Bool.false_ne_true)]
  case acquire =>
    change execTokenAcquire s = _
    simp only [execTokenAcquire, State.tokenHigh_of_released hpartner]
    rw [if_pos]
    · rfl
    · rw [hbeat, hrole, htoken]
      cases hside : s.id.straps.pairSideB with
      | false => rfl
      | true =>
        obtain ⟨hhigh, hedge⟩ := hquiet hside
        have hline : (decide (s.pair.highSince + tokenWait ≤ s.time.ticks) &&
            decide (s.pair.lastEdge + tokenWait ≤ s.time.ticks)) = true :=
          Bool.and_eq_true_iff.mpr ⟨decide_eq_true hhigh, decide_eq_true hedge⟩
        rw [hline]
        rfl
  case declare =>
    have hmissed : (decide (3 ≤ s.pair.missLink) && decide (3 ≤ s.pair.missPin)) = true := by
      rw [decide_eq_true hlink, decide_eq_true hpin]
      rfl
    let s1 : State := { s with pair := { s.pair with linkHb := false, pinHb := false } }
    let u := (s1.driveToken true).pairChange
      (fun p => { p with token := true, partnerToken := false, takeover := true, deciding := false }) 7
    have hexec : exec .pairDeclareFailure s = .next (u.setCause 11) := by
      change execPairDeclareFailure s = _
      simp only [execPairDeclareFailure, State.declareFailure]
      rw [if_pos hbeat, if_pos hmissed, if_pos ⟨hrole, by rw [htake]; rfl, by rw [haverted]; rfl⟩,
        State.tokenHigh_of_released (s := s1) hpartner]
      rfl
    have honly : PairOnly s (u.setCause 11) :=
      ((PairOnly.of_only (p := s1.pair) (m := s.mbx) (b := s.link.hadPair) (State.driveToken_only true s1)).trans
        (State.pairChange_only _ _ _)).trans (State.setCause_only 11 u).pairOnly
    have hpair : Pair.Told _ u.pair := State.pair_pairChange _ _ _
    rw [State.pair_driveToken] at hpair
    have htold := hpair.only (State.setCause_only 11 u)
    exact ⟨_, hexec, congrArg Pair.takeover htold, congrArg Pair.token htold, congrArg Pair.linkHb htold,
      congrArg Pair.pinHb htold, State.setCause_getLsbD u (by decide), honly⟩
  case takeover =>
    let u := (s.driveToken true).pairChange (fun p => { p with
      token := true, partnerToken := false, role := 1, state := 1, takeover := false, averted := false, deciding := false
      lastTakeover := s.m }) 7
    let v := u.raise 929 0x0E01 0 (evData [(0, leBytes 8 s.time.block), (8, leBytes 8 s.pair.recordGot)])
    have hexec : exec .pairTakeover s = .next (v.announceShared.resumeRing (s.evq.nextSeq + s.pair.unnumbered.length)) := by
      change execPairTakeover s = _
      simp only [execPairTakeover]
      rw [if_pos (by rw [hbeat, hpos]; rfl), if_pos htake]
      rfl
    generalize ht : v.announceShared.resumeRing (s.evq.nextSeq + s.pair.unnumbered.length) = t at hexec
    have hlast : OnlyEvents v.announceShared t := ht ▸ State.resumeRing_only _ _
    have hraise : OnlyEvents u v := State.raise_only _ _ _ _ _
    have hdrive : OnlyEvents s (s.driveToken true) := State.driveToken_only true s
    have hfirst : PairOnly s v := (hdrive.pairOnly.trans (State.pairChange_only _ _ _)).trans hraise.pairOnly
    have hhad : v.link.hadPair = s.link.hadPair := by
      rw [congrArg Link.hadPair hraise.link, State.hadPair_pairChange 7 (show (1 : Nat) ≠ 3 by decide), congrArg Link.hadPair hdrive.link]
    have honly := hfirst.withEth hhad hlast
    have hpair : Pair.Told _ u.pair := State.pair_pairChange _ _ _
    have htold := (hpair.only hraise).only (s := v.announceShared) hlast
    exact ⟨t, hexec, congrArg Pair.role htold, congrArg Pair.state htold, congrArg Pair.token htold,
      congrArg Pair.takeover htold, congrArg Pair.lastTakeover htold, honly⟩
  case join =>
    let f : Pair → Pair := fun p => { p with
      state := 3, recordGot := max p.recordGot s.time.block, recordAcked := max p.recordAcked s.time.block }
    have hturns : s.pair.turns (f s.pair) = true := by
      simp [Pair.turns, f, hstate]
    have hexec : exec .joinComplete s = .next (s.pairTold f 2) := by
      change execJoinComplete s = _
      simp only [execJoinComplete]
      rw [if_pos (by rw [hbeat, hstate, hup, hcut, hstored]; rfl), State.pairChange_eq, if_pos hturns,
        if_neg (fun h => by rw [hstate] at h; exact absurd h.1 (by decide))]
    have honly := State.pairTold_only f 2 s
    have hpair := honly.pair
    have hown := (State.pairTold_pairOnly f 2 s)
    have hhad : (s.pairTold f 2).link.hadPair = true := congrArg Link.hadPair honly.link
    have hmbx : (s.pairTold f 2).mbx = s.mbx := honly.mbx
    unfold PairOnly at hown
    rw [hhad, hmbx] at hown
    refine ⟨_, hexec, (congrArg Pair.state hpair).trans rfl, (congrArg Pair.role hpair).trans rfl, ?_,
      (congrArg Pair.changes hpair).trans rfl, hhad, hown⟩
    rw [congrArg Pair.alertState hpair]
    simp [Pair.turned, f, hstate]
  case close =>
    have hexec : exec .decisionRecordClose s = .next (State.sendPacket 0 (recordLength s.pair.log)
        (.record (s.time.block + 1) s.pair.log s.oldestEvent) { s with
          closedView := some ((s.nodes.filter fun x => x.2.state == .enabled).map fun x => (x.1, x.2.order), s.conns)
          pair := { s.pair with
            recordClosed := s.time.block + 1, log := [], closes := s.pair.closes ++ [(s.time.block + 1, s.evq.nextSeq)] } }) := by
      change execDecisionRecordClose s = _
      simp only [execDecisionRecordClose]
      exact congrArg _ (if_pos (by rw [hbeat, hrec, hview]; rfl))
    exact ⟨_, hexec, rfl, rfl, rfl, rfl, rfl⟩
  case ack =>
    obtain ⟨p, hacked, hexec⟩ := State.acknowledge_eq hrole hstate hn
    obtain ⟨hpair, hlink, -⟩ := State.kept_releaseHeld n false { s with pair := p }
    have honly := (PairOnly.of_pair s p).trans (State.releaseHeld_only n false _)
    have hrun : exec (.recordAck n) s = .next (State.releaseHeld n false { s with pair := p }) := by
      change execRecordAck n s = _
      rw [execRecordAck, hexec]
    refine ⟨_, hrun, ?_, honly.unformed (by rw [hlink]), fun mb h hheld hdue => ?_⟩
    · rw [hpair, hacked]
    · exact State.box_releaseBoxes (s := { s with pair := p }) false (List.mem_range.mpr mb.isLt) hheld hdue
  case timeout =>
    have hexec : exec .ackTimeout s = .next (s.leaveLockstep 3) := by
      change execAckTimeout s = _
      simp only [execAckTimeout]
      rw [if_pos]
      refine Bool.and_eq_true_iff.mpr ⟨by rw [hrole, hstate]; rfl, ?_⟩
      refine List.any_eq_true.mpr ⟨mb.val, List.mem_range.mpr mb.isLt, ?_⟩
      simp only [hheld]
      exact decide_eq_true hlate
    have htold : Pair.Told _ (s.leaveLockstep 3).pair := State.pair_pairChange _ _ _
    exact ⟨_, hexec, congrArg Pair.state htold, congrArg Pair.cause htold,
      (State.pairChange_only _ _ _).unformed (State.hadPair_pairChange _ (show (4 : Nat) ≠ 3 by decide))⟩
  case handover =>
    let v : State := { s with pair := { s.pair with switchAt := none } }
    let u := (v.driveToken false).pairChange (fun p => { p with token := false, partnerToken := true, role := 2 }) 8
    have hexec : exec .tokenHandover s = .next (u.setBox mb { u.box mb with busy := false }) := by
      change execTokenHandover s = _
      simp only [execTokenHandover, hswitch]
      rw [if_pos (by rw [hpos, decide_eq_true hat]; rfl), if_pos hrole]
    have htold : Pair.Told _ u.pair := State.pair_pairChange _ _ _
    rw [State.pair_driveToken] at htold
    have honly : PairOnly s u := (PairOnly.of_only (p := v.pair) (m := s.mbx) (b := s.link.hadPair)
      (State.driveToken_only false v)).trans (State.pairChange_only _ _ _)
    exact ⟨_, hexec, congrArg Pair.role htold, congrArg Pair.token htold, congrArg Pair.partnerToken htold,
      congrArg Pair.switchAt htold, by rw [State.box_setBox], honly.trans (PairOnly.of_box u _ _)⟩

end Sys2Proof

/-! Faults (R477 to R489): retired clusters, lost slices, scrubbing, self tests and injections. -/

namespace Sys2Proof

open Machine

namespace Machine

/-! ### Holds and cluster retirement (R483) -/

theorem OnlyEvents.withFaults {s t : State} (h : OnlyEvents s t) (f : Faults) :
    OnlyEvents { s with faults := f } { t with faults := f } := by
  rw [h]
  rfl

theorem State.holdNode_only (until_ : Nat) (s : State) (id : Nat) :
    ∃ l, OnlyEvents { s with faults := { s.faults with holds := l } } (s.holdNode until_ id) :=
  ⟨_, note_only _ (s.setFaults { s.faults with holds := _ })⟩

theorem State.holdNodes_only (until_ : Nat) (ids : List Nat) (s : State) :
    ∃ l, OnlyEvents { s with faults := { s.faults with holds := l } } (ids.foldl (holdNode until_) s) := by
  refine List.foldlRecOn (motive := fun t : State => ∃ l, OnlyEvents { s with faults := { s.faults with holds := l } } t) _ _
    ⟨s.faults.holds, .refl s⟩ fun t ⟨l, ht⟩ id _ => ?_
  obtain ⟨l', hstep⟩ := holdNode_only until_ t id
  have hfaults : t.faults = { s.faults with holds := l } := ht.faults
  rw [hfaults] at hstep
  exact ⟨l', (ht.withFaults _).trans hstep⟩

/-- A cluster in service that is found faulty leaves it, its instances hold, and the step of the next block is due. -/
theorem State.retireCluster_of_in {s : State} {c : Nat} (cause : Nat) (h : c ∉ s.bench.clustersOut) :
    ∃ r l, c ∈ r.clusters ∧ OnlyEvents { s with
      bench := { s.bench with clustersOut := s.bench.clustersOut ++ [c] }
      faults := { s.faults with retire := some r, retirements := satAdd32 s.faults.retirements 1, holds := l } }
      (s.retireCluster c cause) := by
  have hin : ¬ s.bench.clustersOut.contains c = true := fun hc => h (List.contains_iff_mem.mp hc)
  unfold retireCluster
  rw [if_neg hin]
  extract_lets b fl f ids clusters t
  have hc : c ∈ clusters := by
    unfold clusters
    split
    case h_1 => exact List.mem_append_right _ (List.mem_singleton_self c)
    case h_2 => exact List.mem_singleton_self c
  obtain ⟨l, hhold⟩ := holdNodes_only (f + 3) ids t
  exact ⟨⟨f, clusters⟩, l, hc, hhold.trans (raise_only _ _ _ _ _)⟩

theorem State.retireCluster_of_out {s : State} {c : Nat} (cause : Nat) (h : c ∈ s.bench.clustersOut) :
    s.retireCluster c cause = s := if_pos (List.contains_iff_mem.mpr h)

/-! ### Slice loss (R208) -/

theorem OnlyEvents.withPorts {s t : State} (h : OnlyEvents s t) (g : Gallery) (w : List (Nat × Nat × List Int)) :
    OnlyEvents { s with gal := g, wr := w } { t with gal := g, wr := w } := by
  rw [h]
  rfl

/-- Only the ports of the matrix, their blocks in flight and events differ. -/
def PortsOnly (s t : State) : Prop := OnlyEvents { s with gal := t.gal, wr := t.wr } t

theorem State.holdPort_only (resume : Nat) (s : State) (o : Nat) : PortsOnly s (s.holdPort resume o) :=
  (note_only _ s).withPorts _ _

theorem State.holdPorts_only (resume : Nat) (on : List Nat) (s : State) : PortsOnly s (on.foldl (holdPort resume) s) :=
  List.foldlRecOn (motive := fun t : State => PortsOnly s t) _ _ (OnlyEvents.refl s)
    fun t ht o _ => (OnlyEvents.withPorts ht _ _).trans (holdPort_only resume t o)

/-- A slice that fails in service is out from the next block, and its ports hold within 3 blk (R208, R485). -/
theorem State.sliceFails_of_in {s : State} {k : Nat} (hin : k ∉ s.gal.slicesOut) (hnew : k ∉ s.faults.sliceLost) :
    ∃ b, (s.sliceFails k).faults = { s.faults with
        sliceLost := s.faults.sliceLost ++ [k], sliceHold := some b, sliceLosses := satAdd32 s.faults.sliceLosses 1 } ∧
      s.time.block < b ∧ b ≤ s.time.block + 3 ∧
      OnlyEvents { s with
        gal := (s.sliceFails k).gal, faults := (s.sliceFails k).faults, wr := (s.sliceFails k).wr, free := s.free + 1 }
        (s.sliceFails k) := by
  have hcond : ¬ (s.gal.slicesOut.contains k || s.faults.sliceLost.contains k) = true := by
    simp [hin, hnew]
  unfold sliceFails
  rw [if_neg hcond]
  simp only [drawFree]
  generalize hu : List.foldl _ _ _ = u
  have honly : PortsOnly { s with free := s.free + 1 } u := hu ▸ holdPorts_only _ _ _
  have hfaults : u.faults = s.faults := honly.faults
  refine ⟨s.time.block + 1 + Config.freeValue s.free % 3, ?_, by omega, by omega, OnlyEvents.withFaults honly _⟩
  rw [setFaults, hfaults]

end Machine

/-- Settles O54: what a retired cluster leaves by `retireCluster_of_in`, a lost slice by `sliceFails_of_in`, and the commands
and rows by their branches. -/
theorem faultsAndUnits : Obligations.FaultsAndUnits := by
  unfold Obligations.FaultsAndUnits
  refine ⟨fun s mb r f hpass hf => ?status, fun s mb r kind i hpass hkind hi hout htests hrestoring => ?restore,
    fun s mb r t i hpass ht hi hcluster hslice => ?inject, fun s c cause hawake hlow hhigh hin => ?retired,
    fun s c cause hout => ?gone, fun s k hawake hin hnew => ?slice, fun s found hawake => congrArg _ (if_pos hawake),
    fun s => rfl, fun s c => ?lost, fun s u x hdue hu => ?tested⟩
  case status =>
    subst hf
    refine Completes.of_lasting hpass rfl ?_ ?_
    · simp only [faultStatus, answer, List.flatMap_cons, List.flatMap_nil, List.append_nil, List.append_assoc]
      rfl
    · exact State.lasting_of_ite rfl rfl
  case restore =>
    refine Waits.of_lasting hpass rfl ?_ rfl
    have htests' : (s.accept faultRestore.opcode mb).faults.tests.any (fun t => t.kind == kind && t.index == i) = false :=
      List.any_eq_false.mpr fun t ht => by
        rw [Bool.and_eq_true, beq_iff_eq, beq_iff_eq]
        exact htests t ht
    have hrestoring' : (s.accept faultRestore.opcode mb).faults.restoring.contains (kind, i) = false := by
      rw [← Bool.not_eq_true, List.contains_iff_mem]
      exact hrestoring
    have hout' : (s.accept faultRestore.opcode mb).unitOut kind i = true := hout
    simp only [faultRestore, hkind, hi] at htests' hrestoring' hout' ⊢
    rw [htests', hrestoring', hout', if_neg (by decide), if_neg (by decide)]
    rfl
  case inject =>
    refine Completes.of_lasting hpass rfl ?_ (State.lasting_atBoundary _ _)
    have hsingle : ¬ (s.accept faultInject.opcode mb).pairEn = true := ne_true_of_eq_false hpass.single
    have hin : ¬ (t = 3 ∧ (s.accept faultInject.opcode mb).bench.clustersOut.contains i = true ∨
        t = 4 ∧ (s.accept faultInject.opcode mb).gal.slicesOut.contains i = true) := by
      rintro (⟨h3, hc⟩ | ⟨h4, hs⟩)
      · exact absurd hc (ne_true_of_eq_false (hcluster h3))
      · exact absurd hs (ne_true_of_eq_false (hslice h4))
    simp only [faultInject, ht, hi] at hsingle hin ⊢
    rw [if_neg hsingle, if_neg hin]
    rfl
  case retired =>
    obtain ⟨x, l, hc, honly⟩ := State.retireCluster_of_in cause hin
    have hexec : exec (.clusterRetired c cause) s = .next (s.retireCluster c cause) :=
      congrArg Host.Outcome.next (if_pos ⟨hawake, hlow, hhigh⟩)
    have hbench := honly.bench
    have hfaults := honly.faults
    refine ⟨_, hexec, ?_, ?_, ⟨x, ?_, hc⟩, ?_⟩
    · rw [hbench]
    · rw [hfaults]
    · rw [hfaults]
    · rw [hbench, hfaults]
      exact honly
  case gone =>
    change execClusterRetired c cause s = _
    rw [execClusterRetired, State.retireCluster_of_out cause hout, ite_self]
  case slice =>
    have hexec : exec (.gallerySliceLost k) s = .next (s.sliceFails k) := congrArg Host.Outcome.next (if_pos hawake)
    obtain ⟨b, hfaults, hlow, hhigh, honly⟩ := State.sliceFails_of_in hin hnew
    exact ⟨_, b, hexec, congrArg Faults.sliceLost hfaults, congrArg Faults.sliceLosses hfaults,
      congrArg Faults.sliceHold hfaults, hlow, hhigh, honly⟩
  case lost =>
    change (State.localLost c.val 1 s).bench.clustersOut.contains c.val = true ∧ (State.localLost c.val 1 s).faults.localUnc = _
    unfold State.localLost
    extract_lets _ u
    by_cases hin : c.val ∈ s.bench.clustersOut
    · rw [State.retireCluster_of_out (s := u) 1 hin]
      exact ⟨List.contains_iff_mem.mpr hin, rfl⟩
    · obtain ⟨x, l, hc, honly⟩ := State.retireCluster_of_in (s := u) 1 hin
      rw [honly.bench, honly.faults]
      exact ⟨List.contains_iff_mem.mpr (List.mem_append_right _ (List.mem_singleton_self _)), rfl⟩
  case tested =>
    subst hu
    refine ⟨⟨_, rfl, ?_⟩, ?_⟩
    · change execUnitSelfTestDone true s = _
      simp only [execUnitSelfTestDone, hdue]
      rfl
    · change execUnitSelfTestDone false s = _
      simp only [execUnitSelfTestDone, hdue]
      rfl

end Sys2Proof

/-! Power (R495, R499 to R509): throttle requests, dips, temperature, voltage scaling, Sleep and the wakes from it. -/

namespace Sys2Proof

open Machine

namespace Machine

/-! ### Latches (R122) -/

theorem State.key_latch (s : State) (src no : Nat) : Latch.key (s.latch src no) = 4 * src + no := key_getD_findKey rfl

theorem State.latch_setLatch_of_key {s : State} {l : Latch} {src no : Nat} (h : l.key = 4 * src + no) :
    (s.setLatch l).latch src no = l := by
  rw [latch, ← h]
  simp only [setLatch]
  rw [findKey_putKey]
  rfl

theorem State.latches_setCause (v : Nat) (s : State) : (s.setCause v).evq.latches = s.evq.latches := by rw [setCause_eq]

theorem State.latches_number (e : EvRec) (s : State) : (s.number e).evq.latches = s.evq.latches := by
  unfold number
  extract_lets q e' t
  split
  case h_1 => rfl
  case h_2 =>
    split
    case isTrue =>
      split
      case isTrue => exact latches_setCause _ _
      case isFalse => rfl
    case isFalse => exact latches_setCause _ _

theorem State.latches_raise (src code node : Nat) (d : Bytes) (s : State) :
    (s.raise src code node d).evq.latches = s.evq.latches := by
  unfold raise raiseRec
  split
  case isTrue => rfl
  case isFalse =>
    split
    case isTrue => rfl
    case isFalse =>
      split
      case isTrue => rfl
      case isFalse =>
        split
        case isTrue => rfl
        case isFalse => exact latches_number _ _

/-! ### The throttle (R503) -/

/-- Nothing but the power unit and the free values drawn differs, and events. -/
def PowerOnly (s t : State) : Prop := OnlyEvents { s with power := t.power, free := t.free } t

theorem OnlyEvents.withPower {s t : State} (h : OnlyEvents s t) (p : Power) (n : Nat) :
    OnlyEvents { s with power := p, free := n } { t with power := p, free := n } := by
  rw [h]
  rfl

theorem PowerOnly.of_only {s t : State} {p : Power} {n : Nat} (h : OnlyEvents { s with power := p, free := n } t) :
    PowerOnly s t := by
  have hpower : t.power = p := h.power
  have hfree : t.free = n := h.free
  unfold PowerOnly
  rw [hpower, hfree]
  exact h

theorem OnlyEvents.powerOnly {s t : State} (h : OnlyEvents s t) : PowerOnly s t := .of_only (p := s.power) (n := s.free) h

theorem PowerOnly.of_power (s : State) (p : Power) (n : Nat) : PowerOnly s { s with power := p, free := n } := rfl

theorem PowerOnly.trans {s t u : State} (h : PowerOnly s t) (k : PowerOnly t u) : PowerOnly s u :=
  (OnlyEvents.withPower h u.power u.free).trans k

/-- The throttle starts or ends with an event, or notes its causes; latches stay. -/
theorem State.followThrottle_eq (s : State) : ∃ x n,
    OnlyEvents { s with power := { s.power with throttled := x }, free := n } s.followThrottle ∧
      s.followThrottle.evq.latches = s.evq.latches := by
  simp only [followThrottle]
  split
  case h_1 =>
    split
    case isTrue => exact ⟨s.power.throttled, s.free, .refl s, rfl⟩
    case isFalse => exact ⟨_, s.free, raise_only _ _ _ _ _, latches_raise _ _ _ _ _⟩
  case h_2 =>
    split
    case isTrue => exact ⟨_, s.free, .refl _, rfl⟩
    case isFalse => exact ⟨_, _, raise_only _ _ _ _ _, latches_raise _ _ _ _ _⟩

theorem State.followThrottle_only (s : State) : PowerOnly s s.followThrottle := by
  obtain ⟨x, n, honly, -⟩ := s.followThrottle_eq
  exact .of_only honly

/-- Nothing of the power unit but the throttle follows the requests. -/
theorem State.power_followThrottle (s : State) :
    s.followThrottle.power = { s.power with throttled := s.followThrottle.power.throttled } := by
  obtain ⟨x, n, honly, -⟩ := s.followThrottle_eq
  rw [honly.power]

theorem State.latches_followThrottle (s : State) : s.followThrottle.evq.latches = s.evq.latches := by
  obtain ⟨x, n, -, hlatches⟩ := s.followThrottle_eq
  exact hlatches

theorem State.rail_followThrottle (s : State) (i : Nat) : s.followThrottle.rail i = s.rail i := by
  rw [rail, power_followThrottle]
  rfl

/-! ### Rails -/

theorem State.rail_setRail (s : State) (i : Fin 16) (r : Rail) : (s.setRail i r).rail i = r := by
  simp [rail, setRail]

theorem State.rail_setRail_other {s : State} {i j : Fin 16} (r : Rail) (h : j ≠ i) : (s.setRail i r).rail j = s.rail j := by
  have hval : i.val ≠ j.val := fun e => h (Fin.ext e.symm)
  simp [rail, setRail, hval]

theorem State.rail_eq (s : State) (i : Fin 16) : s.rail i = s.power.rails[i.val] := by
  simp [rail]

theorem State.rail_of_only {s t : State} (h : OnlyEvents s t) (i : Nat) : t.rail i = s.rail i := by
  rw [rail, h.power]
  rfl

/-! ### Dips (R500, R501) -/

theorem State.countDip_only (i mv : Nat) (s : State) : OnlyEvents s (s.countDip i mv) := rfl

theorem State.count_countDip (i mv : Nat) (s : State) :
    ((s.countDip i mv).latch (64 + i) 0).count = satN 65535 ((s.latch (64 + i) 0).count + 1) := by
  simp only [countDip]
  rw [latch_setLatch_of_key]
  exact s.key_latch _ _

/-- A sample below the warning level starts a dip, and the first one is counted. -/
theorem State.exec_railWarning {s : State} {i : Fin 16} {mv : Nat} (hup : s.railUp i = true) (hdip : (s.rail i).dip = none)
    (hlow : mv < (s.rail i).warnLevel s.time.ticks) : ∃ owes v, exec (.railWarning i mv) s = .next v.followThrottle ∧
      OnlyEvents (s.setRail i { s.rail i with voltage := mv, state := 3, dip := some (mv, s.m, owes), throttle := true }) v ∧
      ((s.rail i).lastDipEnd = none → (v.latch (64 + i) 0).count = satN 65535 ((s.latch (64 + i) 0).count + 1)) := by
  have hgo : (s.railUp i && (s.rail i).dip.isNone && decide (mv < (s.rail i).warnLevel s.time.ticks)) = true := by
    rw [hup, hdip, decide_eq_true hlow]
    rfl
  have hrun : exec (.railWarning i mv) s = execRailWarning i mv s := rfl
  simp only [hrun, execRailWarning]
  rw [if_pos hgo]
  refine ⟨_, _, rfl, OnlyEvents.ite (countDip_only _ _ _) (setLatch_only _ _), fun hfirst => ?_⟩
  rw [if_pos (by rw [Rail.crosses, hfirst])]
  exact count_countDip _ _ _

/-- A dip's report: it ends, or lasts on. -/
theorem State.exec_pwrWarn {s : State} {i : Fin 16} {low start : Nat} {owes : Bool} (min_ us : Nat) (ended : Bool)
    (hdip : (s.rail i).dip = some (low, start, owes)) : ∃ t, exec (.pwrWarn i min_ us ended) s = .next t ∧
      OnlyEvents (State.setRail i
        (if ended then { s.rail i with
          dip := none, lastDipEnd := some s.time.ticks, state := 2
          voltage := if ended then (s.rail i).warnLevel s.time.ticks + Config.freeValue s.free % 4096 else (s.rail i).voltage }
        else { s.rail i with dip := some (min low min_, start, false) }) { s with free := s.free + 1 }) t := by
  have hrun : exec (.pwrWarn i min_ us ended) s = execPwrWarn i min_ us ended s := rfl
  simp only [hrun, execPwrWarn, hdip]
  exact ⟨_, rfl, OnlyEvents.ite ((setLatch_only _ _).trans (raiseLatched_only _ _ _ _ _)) (setLatch_only _ _)⟩

/-! ### Sleep (R508) -/

/-- Switching rails changes their states only. -/
theorem State.setRails_eq (l : List Nat) (st : Nat) (s : State) :
    s.setRails l st = { s with power := { s.power with rails := (s.setRails l st).power.rails } } := by
  unfold setRails
  refine List.foldlRecOn (motive := fun t : State => t = { s with power := { s.power with rails := t.power.rails } }) _ _ rfl
    fun t ht i _ => ?_
  split
  case h_1 => rw [ht]
  case h_2 => exact ht

theorem State.railsOff_eq (s : State) : s.railsOff = { s with power := { s.power with rails := s.railsOff.power.rails } } :=
  setRails_eq _ _ _

theorem State.powerDown_eq (s : State) : s.powerDown = { s with sent := s.powerDown.sent } :=
  List.foldlRecOn (motive := fun t : State => t = { s with sent := t.sent }) _ _ rfl
    fun t ht k _ => by rw [ht]; rfl

theorem State.startPair_eq (k : Nat) (s : State) : s.startPair k = { s with
    sent := (s.startPair k).sent, power := { s.power with seqPair := k, rails := (s.startPair k).power.rails } } := by
  unfold startPair
  rw [setRails_eq]
  rfl

theorem State.wake_of_sleep {s : State} {src : Nat} (hsleep : s.power.state = .sleep)
    (henabled : bit s.power.wakeSources src = true) : ∃ secs, (s.wake src).power.state = .down ∧ (s.wake src).power.seqPair = 0 ∧
      (s.wake src).power.log.head? = some (0x0B, 2 ^ src, secs) ∧ (s.wake src).power.lastCause = 0x0B ∧
      s.wake src = { s with power := (s.wake src).power, sent := (s.wake src).sent } := by
  have hwake : s.wake src = State.startPair 0 { s.logReset 0x0B (2 ^ src) with
      power := { (s.logReset 0x0B (2 ^ src)).power with state := .down } } :=
    if_pos (by rw [hsleep, henabled]; rfl)
  rw [hwake, startPair_eq]
  exact ⟨s.pmuSeconds, rfl, rfl, rfl, rfl, rfl⟩

/-- A row of an enabled wake source; the timer's brings local time to its end. -/
theorem State.exec_wake {s : State} {src : Nat} {i : Instr} (hsleep : s.power.state = .sleep)
    (henabled : bit s.power.wakeSources src = true)
    (hsrc : (i, src) ∈ [(Instr.wakeN, 0), (.pmuWake 0x574B0001 true, 2), (.wakeTimer, 3)] ∨
      (∃ g : Fin 8, bit s.power.wakeGpios g = true ∧ (i, src) = (.wakeGpio g, 1))) :
    ∃ n, exec i s = .next (State.wake src { s with time := { s.time with ticks := n } }) := by
  rcases hsrc with hsrc | ⟨g, hg, hsrc⟩
  · simp only [List.mem_cons, List.not_mem_nil, or_false, Prod.mk.injEq] at hsrc
    rcases hsrc with ⟨rfl, rfl⟩ | ⟨rfl, rfl⟩ | ⟨rfl, rfl⟩
    · exact ⟨s.time.ticks, rfl⟩
    · exact ⟨s.time.ticks, rfl⟩
    · exact ⟨_, congrArg Host.Outcome.next (if_pos (by rw [hsleep, henabled]; rfl))⟩
  · obtain ⟨rfl, rfl⟩ := Prod.mk.inj hsrc
    exact ⟨s.time.ticks, congrArg Host.Outcome.next (if_pos hg)⟩

/-- A link that stops leaves the power unit, and by itself the boot unit. -/
theorem State.kept_linkStop (cause : Nat) (s : State) :
    (s.linkStop cause).power = s.power ∧ (s.linkStop cause).boot = s.boot := by
  have hevent : OnlyEvents (s.setLink s.link.stopped) ((s.setLink s.link.stopped).farxisEvent cause) := farxisEvent_only _ _
  have hdown (u : State) : PairOnly u u.pairLinkDown := by
    unfold pairLinkDown
    split
    case isTrue => exact (OnlyEvents.refl u).pairOnly
    case isFalse =>
      split
      case isTrue => exact pairChange_only _ _ u
      case isFalse =>
        split
        case isTrue => exact pairChange_only _ _ u
        case isFalse => exact (OnlyEvents.refl u).pairOnly
  simp only [linkStop]
  split
  case isTrue => exact ⟨(OnlyEvents.power (hdown _)).trans hevent.power, (OnlyEvents.boot (hdown _)).trans hevent.boot⟩
  case isFalse => exact ⟨hevent.power, hevent.boot⟩

theorem State.kept_releaseToken (s : State) : s.releaseToken.power = s.power ∧ s.releaseToken.boot = s.boot :=
  ⟨(driveToken_only false s).power, (driveToken_only false s).boot⟩

theorem State.kept_enterSleep (s : State) : s.enterSleep.power.state = .sleep ∧ s.enterSleep.boot.slots = s.boot.slots ∧
    s.enterSleep.nodes = [] ∧ s.enterSleep.conns = [] ∧ s.enterSleep.pair.token = false ∧
    s.enterSleep.power.scratch = s.power.scratch ∧ s.enterSleep.boot.code = 0 := by
  simp only [enterSleep]
  generalize hu : (if (s.releaseToken.link.state == .disabled) = true then s.releaseToken else s.releaseToken.linkStop 6) = u
  have hkept : u.power = s.power ∧ u.boot = s.boot := by
    rw [← hu]
    split
    case isTrue => exact s.kept_releaseToken
    case isFalse =>
      obtain ⟨hpower, hboot⟩ := kept_linkStop 6 s.releaseToken
      exact ⟨hpower.trans s.kept_releaseToken.1, hboot.trans s.kept_releaseToken.2⟩
  have hslots : u.boot.slots = s.boot.slots := congrArg Boot.slots hkept.2
  have hscratch : u.power.scratch = s.power.scratch := congrArg Power.scratch hkept.1
  rw [railsOff_eq, powerDown_eq, ← hslots, ← hscratch]
  exact ⟨rfl, rfl, rfl, rfl, rfl, rfl, rfl⟩

/-- Outside a pair nobody is told of a request for Sleep. -/
theorem State.tellSleep_of_alone {s : State} (old new : Power) (h : s.pairEn = false) :
    State.tellSleep old { s with power := new } = { s with power := new } := by
  have hnot (p q : State) (b c : Bool) : (if (s.pairEn && b && c) = true then p else q) = q :=
    if_neg (by rw [h]; exact Bool.false_ne_true)
  unfold tellSleep
  extract_lets w told
  split
  case h_1 => exact hnot _ _ _ _
  case h_2 => exact hnot _ _ _ _
  case h_3 => rfl

end Machine

/-- Settles O55: each row's effect on the power unit, through what `followThrottle` and the sequencing of rails leave
unchanged. -/
theorem powerRows : Obligations.PowerRows := by
  unfold Obligations.PowerRows
  refine ⟨fun s mb r dest hpass hdest hne htime => ?state, fun s mb r hpass => ?hold,
    fun s hfree hreq hawake => ⟨_, rfl, ?throttle⟩, fun s i mv hup hdip hlow => ?warning,
    fun s i low start min_ us owes hdip => ?dip, fun s i hthrottle hdip => ?release,
    fun s tj k hawake hcool hhot => ?warm, fun s tj hwarm hcool => ?cool, fun s i w hw => ?fault, fun s i w f hf => ?failed,
    fun s up mv hawake hreq hstep hmv hlow hhigh => ?avs, fun s u dest due hchange hawake hdest hpos hdue hu => ?power,
    fun s due hchange hawake hpos hdue => ?entry, State.kept_enterSleep, fun s src i hsleep hbit hsrc => ?wake⟩
  case state =>
    have hsingle : (s.accept pwrState.opcode mb).pairEn = false := hpass.single
    have hlate : (decide (field r.payload 1 1 = 2) &&
        decide (field r.payload 8 8 < 16 * ((s.accept pwrState.opcode mb).time.block + 3))) = false := by
      rw [Bool.and_eq_false_iff, decide_eq_false_iff_not, decide_eq_false_iff_not]
      rcases htime with h0 | hdue
      · exact .inl (by rw [h0]; decide)
      · exact .inr (Nat.not_lt.mpr hdue)
    have hstays : (dest == (s.accept pwrState.opcode mb).power.state) = false := beq_eq_false_iff_ne.mpr hne
    refine Completes.of_lasting hpass rfl ?_ rfl
    simp only [pwrState, hdest] at hsingle hlate hstays ⊢
    rw [hlate, hstays, if_neg (by rw [Bool.false_and]; exact Bool.false_ne_true),
      if_neg (by rw [Bool.false_and]; exact Bool.false_ne_true), State.tellSleep_of_alone _ _ hsingle]
    simp
  case hold => exact Completes.of_lasting hpass rfl rfl (State.lasting_followThrottle _)
  case throttle =>
    have hstarts : ¬ (decide (s.power.requests = 0) || !s.awake) = true := by
      rw [decide_eq_false hreq, hawake]
      exact Bool.false_ne_true
    simp only [State.followThrottle, hfree]
    rw [if_neg hstarts]
  case warning =>
    obtain ⟨owes, v, hexec, honly, hcount⟩ := State.exec_railWarning hup hdip hlow
    refine ⟨_, owes, hexec, ?_, fun j hj => ?_, fun hfirst => ?_, ?_⟩
    · rw [State.rail_followThrottle, State.rail_of_only honly, State.rail_setRail]
    · rw [State.rail_followThrottle, State.rail_of_only honly, State.rail_setRail_other _ hj]
    · rw [State.latch, State.latches_followThrottle]
      exact hcount hfirst
    · exact (PowerOnly.of_only (n := s.free) honly).trans v.followThrottle_only
  case dip =>
    refine ⟨?ends, ?lasts⟩
    case ends =>
      obtain ⟨t, hexec, honly⟩ := State.exec_pwrWarn min_ us true hdip
      rw [if_pos rfl, if_pos rfl] at honly
      have hrail : t.rail i = _ := (State.rail_of_only honly i).trans (State.rail_setRail _ i _)
      refine ⟨t, hexec, ?_, ?_, ?_, ?_, PowerOnly.of_only honly⟩
      · rw [hrail]
      · rw [hrail]
      · rw [hrail]
      · rw [hrail]
        exact Nat.le_add_right _ _
    case lasts =>
      obtain ⟨t, hexec, honly⟩ := State.exec_pwrWarn min_ us false hdip
      rw [if_neg Bool.false_ne_true] at honly
      have hrail : t.rail i = _ := (State.rail_of_only honly i).trans (State.rail_setRail _ i _)
      exact ⟨t, hexec, by rw [hrail], PowerOnly.of_only honly⟩
  case release =>
    have hany : (s.power.rails.any fun r => r.throttle && r.dip.isNone) = true := by
      rw [Vector.any_eq_true]
      exact ⟨i, i.isLt, by rw [← s.rail_eq i, hthrottle, hdip]; rfl⟩
    refine ⟨_, if_pos hany, ?_, fun j => ?_⟩
    · exact (PowerOnly.of_power s _ s.free).trans (State.followThrottle_only _)
    · rw [State.rail_followThrottle, State.rail_eq, State.rail_eq, Vector.getElem_map]
      cases hj : s.power.rails[j.val].dip with
      | none => simp
      | some x => simp
  case warm =>
    let u : State := { s with power := { s.power with tj := tj, thermWarn := true, thermReq := true } }
    let v := u.cross 80 0 0 tj false (evData [(0, leSigned 2 tj), (2, leBytes 1 k.val), u.mBytes])
    have hexec : exec (.thermalWarn tj k) s = .next v.followThrottle := by
      change execThermalWarn tj k s = _
      simp only [execThermalWarn]
      rw [if_pos (by rw [hawake, hcool, decide_eq_true hhot]; rfl)]
      rfl
    have honly : OnlyEvents u v := State.cross_only _ _ _ _ _ _ _
    have hpower := v.power_followThrottle
    rw [honly.power] at hpower
    exact ⟨_, hexec, congrArg Power.thermWarn hpower, congrArg Power.thermReq hpower, congrArg Power.tj hpower,
      ((PowerOnly.of_power s u.power s.free).trans honly.powerOnly).trans v.followThrottle_only⟩
  case cool =>
    let u : State := { s with power := { s.power with tj := tj, thermWarn := false, thermReq := false } }
    let v := u.setLevel 80 0 tj false false
    have hexec : exec (.thermalWarnEnd tj) s = .next v.followThrottle := by
      change execThermalWarnEnd tj s = _
      simp only [execThermalWarnEnd]
      rw [if_pos (by rw [hwarm, decide_eq_true hcool]; rfl)]
      rfl
    have honly : OnlyEvents u v := State.setLevel_only _ _ _ _ _ _
    have hpower := v.power_followThrottle
    rw [honly.power] at hpower
    exact ⟨_, hexec, congrArg Power.thermWarn hpower, congrArg Power.thermReq hpower, congrArg Power.tj hpower,
      ((PowerOnly.of_power s u.power s.free).trans honly.powerOnly).trans v.followThrottle_only⟩
  case fault =>
    change execPmbusAlert i ⟨w, 0⟩ s = _
    simp only [execPmbusAlert]
    rw [if_neg (not_not.mpr rfl), if_neg hw]
    rfl
  case failed => exact congrArg Host.Outcome.next (if_pos hf)
  case avs =>
    have hmay : (s.rail 0).mayStep s.time.ticks = true := by
      unfold Rail.mayStep
      split
      case h_1 => rfl
      case h_2 t0 ht0 => exact decide_eq_true (hstep t0 ht0)
    subst hmv
    have hrun : exec (.avsStep up) s = execAvsStep up s := rfl
    simp only [hrun, execAvsStep]
    rw [if_pos (by rw [hawake, decide_eq_true hreq, hmay, decide_eq_true hlow, decide_eq_true hhigh]; rfl)]
    refine ⟨_, rfl, ?_, fun j hj => State.rail_setRail_other (i := 0) _ hj, rfl⟩
    refine (congrArg Rail.setpoint (State.rail_setRail _ (0 : Fin 16) _)).trans ?_
    rw [apply_ite Rail.setpoint, ite_self]
  case power =>
    subst hu
    have hgo : (s.awake && dest != .sleep && s.time.pos == 0 && decide (due ≤ s.m)) = true := by
      rw [hawake, hpos, decide_eq_true hdue, bne_iff_ne.mpr hdest]
      rfl
    change execPowerState s = _
    simp only [execPowerState, hchange]
    rw [if_pos hgo]
    simp only [beq_iff_eq]
  case entry =>
    change execSleepEntry s = _
    simp only [execSleepEntry, hchange]
    rw [if_pos (by rw [hawake, hpos, decide_eq_true hdue]; rfl)]
  case wake =>
    obtain ⟨n, hexec⟩ := State.exec_wake hsleep hbit hsrc
    obtain ⟨secs, hstate, hpair, hlog, hcause, ht⟩ :=
      State.wake_of_sleep (s := { s with time := { s.time with ticks := n } }) hsleep hbit
    refine ⟨_, secs, hexec, hstate, hpair, hlog, hcause, ?_⟩
    rw [ht]

end Sys2Proof

/-! Resets and sequencing (R491 to R493, R500, R502, R510 to R516), the end of boot and the fallback of a trial (R519, R521). -/

namespace Sys2Proof

open Machine

namespace Machine

/-! ### Key slots over a reset (R515) -/

theorem State.slot_mapSlots {s t : State} {f : Bool → KeySlot → KeySlot} (h : t.boot.slots = mapSlots f s.boot.slots)
    (k : Fin 16) : t.slot k = f (8 ≤ k.val) (s.slot k) := by
  simp [slot, h, mapSlots]

/-! ### What a PORST leaves (R510) -/

theorem State.releaseToken_eq (s : State) :
    s.releaseToken = { s with sent := s.releaseToken.sent, pair := s.releaseToken.pair } := by
  simp only [releaseToken, driveToken]
  split <;> rfl

theorem State.token_releaseToken (s : State) : s.releaseToken.pair.token = false := rfl

/-- The state that a PORST starts from: the token released, its entry in the log. -/
theorem State.logReset_releaseToken (s : State) (cause detail : Nat) : s.releaseToken.logReset cause detail = { s with
    sent := s.releaseToken.sent, pair := s.releaseToken.pair
    power := { s.power with
      log := ((cause, detail, s.pmuSeconds) :: s.power.log).take 8, lastCause := cause, lastDetail := detail } } := by
  rw [releaseToken_eq]
  rfl

theorem State.boot_porst (s : State) (cause detail : Nat) : (s.porst cause detail).boot = { s.boot.lasting with
    startedAt := s.time.ticks, slots := mapSlots KeySlot.afterPorst s.boot.slots } := by
  simp only [porst, logReset_releaseToken]
  rfl

/-- What a PORST gives the power unit. -/
theorem State.power_porst (s : State) (cause detail : Nat) :
    (s.porst cause detail).power.log = ((cause, detail, s.pmuSeconds) :: s.power.log).take 8 ∧
      (s.porst cause detail).power.tj = s.power.tj := by
  simp only [porst, logReset_releaseToken]
  exact ⟨rfl, rfl⟩

theorem State.ticks_porst (s : State) (cause detail : Nat) : (s.porst cause detail).time.ticks = s.time.ticks := by
  simp only [porst, logReset_releaseToken]
  rfl

/-- A power-down: the rails that the PMU switches are off, and nothing restarts before its time. -/
theorem State.power_fall (s : State) (cause detail wait : Nat) : (s.fall cause detail wait).power.state = .down ∧
    (s.fall cause detail wait).power.retryAt = s.time.ticks + wait ∧ (s.fall cause detail wait).power.tj = s.power.tj ∧
    (s.fall cause detail wait).power.log.head? = some (cause, detail, s.pmuSeconds) := by
  simp only [fall]
  rw [railsOff_eq, powerDown_eq]
  obtain ⟨hlog, htj⟩ := s.power_porst cause detail
  refine ⟨rfl, congrArg (· + wait) (s.ticks_porst cause detail), htj, ?_⟩
  exact (congrArg List.head? hlog).trans rfl

/-! ### RST_N (R510) -/

/-- Before the end of boot an event waits for its number. -/
theorem State.nextSeq_raise_of_booting {s : State} (src code node : Nat) (d : Bytes) (h : s.ready = false) :
    (s.raise src code node d).evq.nextSeq = s.evq.nextSeq := by
  unfold raise raiseRec
  split
  case isTrue => rfl
  case isFalse => rw [if_pos (by rw [h]; rfl)]

theorem State.nextSeq_followThrottle_of_booting {s : State} (h : s.ready = false) :
    s.followThrottle.evq.nextSeq = s.evq.nextSeq := by
  simp only [followThrottle]
  split
  case h_1 =>
    split
    case isTrue => rfl
    case isFalse => exact nextSeq_raise_of_booting _ _ _ _ h
  case h_2 =>
    split
    case isTrue => rfl
    case isFalse => exact nextSeq_raise_of_booting _ _ _ _ h

/-- What the always-on domain keeps over RST_N, before the throttle follows it. -/
theorem State.rstPin_eq (s : State) : ∃ u : State, s.rstPin = u.followThrottle ∧
    u.power.log.head? = some (7, 0, s.pmuSeconds) ∧ u.evq.nextSeq = s.evq.nextSeq ∧ u.power.scratch = s.power.scratch ∧
    u.power.hostReq = false ∧ u.nodes = [] ∧ u.boot.code = 0 ∧ u.boot.slots = mapSlots KeySlot.afterRstN s.boot.slots := by
  simp only [rstPin, logReset_releaseToken]
  exact ⟨_, rfl, rfl, rfl, rfl, rfl, rfl, rfl, rfl⟩

/-! ### Warm resets (R510, R515) -/

theorem State.setServo_only (v : Servo) (s : State) :
    ∃ t : Time, t.actions = s.time.actions ∧ OnlyEvents { s with time := t } (s.setServo v) := by
  unfold setServo
  extract_lets old
  split
  case isTrue => exact ⟨s.time, rfl, .refl s⟩
  case isFalse =>
    refine ⟨s.time.enterServo v, ?_, raise_only _ _ _ _ _⟩
    unfold Time.enterServo
    split <;> rfl

theorem State.power_setNode (id : Nat) (n : Node) (s : State) : (s.setNode id n).power = s.power := by rw [setNode_eq]

theorem State.power_storePar (id pid : Nat) (v : Bytes) (s : State) : (s.storePar id pid v).power = s.power := by
  unfold storePar
  split
  case isTrue => exact power_setNode _ _ _
  case isFalse => rfl

theorem State.power_spkStandby (s : State) : s.spkStandby.power = s.power :=
  List.foldlRecOn (motive := fun t : State => t.power = s.power) _ _ rfl
    fun _ ht k _ => (power_storePar (spkId k) 0x109 _ _).trans ht

theorem State.log_storeChange (m : Nat) (s : State) (c : Change) : (s.storeChange m c).power.log = s.power.log := by
  unfold storeChange
  extract_lets t i set
  split
  case isTrue => rfl
  case isFalse =>
    split
    case isTrue => split <;> rfl
    case isFalse => rw [power_storePar]

theorem State.power_applySetting (s : State) (p : Pend) : (s.applySetting p).power = s.power := by
  unfold applySetting
  split <;> rfl

theorem State.log_settlePend (s : State) : s.settlePend.power.log = s.power.log := by
  unfold settlePend
  extract_lets l other t u
  have ht : t.power.log = s.power.log :=
    List.foldlRecOn (motive := fun v : State => v.power.log = s.power.log) _ _ rfl
      fun v hv c _ => (log_storeChange s.m v c).trans hv
  have hu : u.power.log = s.power.log :=
    List.foldlRecOn (motive := fun v : State => v.power.log = s.power.log) _ _ ht
      fun v hv c _ => (congrArg Power.log (power_storePar _ _ _ v)).trans hv
  refine List.foldlRecOn (motive := fun v : State => v.power.log = s.power.log) _ _ hu fun v hv p _ => ?_
  unfold other
  split
  case h_1 => exact (congrArg Power.log (power_applySetting v _)).trans hv
  case h_2 => exact (congrArg Power.log (power_applySetting v _)).trans hv

/-- What a warm reset keeps, and what it ends. -/
theorem State.kept_warmReset (s : State) (cause detail : Nat) : (s.warmReset cause detail).boot.slots = s.boot.slots ∧
    (s.warmReset cause detail).boot.rows = s.boot.rows ∧ (s.warmReset cause detail).boot.code = 0 ∧
    (s.warmReset cause detail).mem.user = s.mem.user ∧ (s.warmReset cause detail).time.actions = [] ∧
    (s.warmReset cause detail).slabs = [] ∧ (s.warmReset cause detail).pair.token = false ∧
    (s.warmReset cause detail).power.log = ((cause, detail, s.pmuSeconds) :: s.power.log).take 8 ∧
    ∀ n ∈ (s.warmReset cause detail).nodes, n.2.state = .disabled ∧ n.2.bcu = 0 ∧ n.2.cluster = none := by
  unfold warmReset
  extract_lets s1 s2 s3 g b q bank group p alone power n
  have hlast1 : s1.lasting = s.lasting := by simp [s1]
  have hlast2 : s2.lasting = s.lasting := by
    unfold s2
    split
    case isTrue => exact hlast1
    case isFalse => exact hlast1
  have hlasting : s3.lasting = s.lasting := by simp [s3, hlast2]
  have hlog2 : s2.power.log = ((cause, detail, s.pmuSeconds) :: s.power.log).take 8 := by
    have hpower : s2.power = s1.power := by
      unfold s2
      split <;> rfl
    rw [hpower]
    simp only [s1, logReset_releaseToken]
  have hlog : s3.power.log = ((cause, detail, s.pmuSeconds) :: s.power.log).take 8 := by
    rw [← hlog2, log_settlePend, power_spkStandby]
  have hboot : s3.boot = s.boot := congrArg Lasting.boot hlasting
  have hslots : s3.boot.slots = s.boot.slots := congrArg Boot.slots hboot
  have hrows : s3.boot.rows = s.boot.rows := congrArg Boot.rows hboot
  have huser : s3.mem.user = s.mem.user := congrArg Lasting.user hlasting
  generalize (if s3.time.everLocked = true then Servo.holdover else Servo.free) = v
  obtain ⟨t, hactions, honly⟩ := n.setServo_only v
  rw [honly.boot, honly.mem, honly.time, honly.slabs, honly.pair, honly.power, honly.nodes]
  refine ⟨hslots, hrows, rfl, huser, hactions, rfl, rfl, hlog, fun x hx => ?_⟩
  obtain ⟨y, -, hy⟩ := List.mem_map.mp (List.mem_of_mem_filter hx)
  rw [← hy]
  exact ⟨rfl, rfl, rfl⟩

/-! ### RST_CTRL (R511) -/

/-- FULL and WARM stand outside the key. -/
theorem rstKey_or (v : Word) {n : Nat} (h : n < 65536) : rstKey (v ||| BitVec.ofNat 32 n) = rstKey v := by
  have hhigh : (v ||| BitVec.ofNat 32 n).toNat / 65536 = v.toNat / 65536 := by
    rw [BitVec.toNat_or, BitVec.toNat_ofNat, Nat.mod_eq_of_lt (by omega), show 65536 = 2 ^ 16 from rfl,
      ← Nat.shiftRight_eq_div_pow, ← Nat.shiftRight_eq_div_pow, Nat.shiftRight_or_distrib, Nat.shiftRight_eq_div_pow n,
      Nat.div_eq_of_lt h, Nat.or_zero]
  rw [rstKey, hhigh, rstKey]

/-! ### The end of boot (R519, R521) -/

/-- What boot found of the image, the memory and the sample rate. -/
theorem State.kept_bootFound (s : State) (b : BootReport) :
    (s.mem.density = 0 → s.boot.source ≠ 2 → (s.bootFound b).mem.density = b.density) ∧
    (s.mem.density = 0 → (s.bootFound b).time.rate96 = b.rate96) ∧
    (s.boot.warm = false → s.boot.source ≠ 2 → (s.bootFound b).boot.running = bootInfo b) := by
  refine ⟨fun hdensity hsource => ?_, fun hdensity => ?_, fun hwarm hsource => ?_⟩
  · simp only [bootFound, if_pos hdensity, if_neg hsource]
    split <;> rfl
  · simp only [bootFound, if_pos hdensity]
    split <;> rfl
  · have hread (low : Bool) (t : State) : (t.readToken low).boot = t.boot := by
      unfold readToken
      split <;> rfl
    have hflash : (!s.boot.warm && decide (s.boot.source ≠ 2)) = true := by
      rw [hwarm, decide_eq_true hsource]
      rfl
    simp only [bootFound, hflash, if_true]
    split
    case isTrue =>
      split
      case isTrue => rw [hread]; rfl
      case isFalse => exact congrArg Boot.running (hread _ _)
    case isFalse => rw [hread]; rfl

end Machine

/-- Settles O56: what each reset keeps and clears, by the equation of its state, and the rails' order by the branches of the
rows. -/
theorem resetRows : Obligations.ResetRows := by
  unfold Obligations.ResetRows
  refine ⟨fun s straps => ?porst, fun s hawake => ?rst, fun s v hkey => ?full, fun s v hkey hfull hawake => ?warm,
    fun s v hkey => ?unkeyed, fun s v => ?log, fun s hawake hhost => ?pcie, fun s hawake => congrArg _ (if_pos hawake),
    fun s b hat hawake hdue => ?activate, fun s cause detail => ?keeps, fun s hdown hretry hhot => ?up,
    fun s k hdown hk => ?rise, fun s k hdown hk hlt => ?failure, fun s d hawake hd => ?brown, fun s k hawake => ?shutdown,
    fun s tj hhot hdown hcool => ?recovery, fun s b hboot => ?ready, fun s b hawake hcode htrial hlate => ?fallback⟩
  case porst =>
    have hboot := s.boot_porst 2 0
    have hslots : (s.porst 2 0).boot.slots = mapSlots KeySlot.afterPorst s.boot.slots := by rw [hboot]
    have hrows : (s.porst 2 0).boot.rows = s.boot.rows := by rw [hboot, Boot.lasting]
    have hmin : (s.porst 2 0).boot.secMin = s.boot.secMin := by rw [hboot, Boot.lasting]
    have hcode : (s.porst 2 0).boot.code = 0 := by rw [hboot, Boot.lasting]
    have hlog : (s.porst 2 0).power.log.head? = some (2, 0, s.pmuSeconds) := by
      rw [(s.power_porst 2 0).1]
      rfl
    refine ⟨_, s.pmuSeconds, rfl, rfl, hrows, hmin, hcode, rfl, rfl, rfl, rfl, rfl, hlog, fun k => ?_⟩
    refine (State.slot_mapSlots (t := s.porst 2 0) hslots k).trans ?_
    by_cases hk : k.val < 8
    · rw [if_pos hk, decide_eq_false (Nat.not_le.mpr hk)]
      rfl
    · rw [if_neg hk, decide_eq_true (Nat.not_lt.mp hk)]
      rfl
  case rst =>
    obtain ⟨u, hpin, hlog, hseq, hscratch, hreq, hnodes, hcode, hslots⟩ := s.rstPin_eq
    have hexec : exec .rstN s = .next u.followThrottle := by
      change execRstN s = _
      rw [execRstN, if_pos hawake, hpin]
    have hpower := u.power_followThrottle
    have honly := u.followThrottle_only
    have hbooting : u.ready = false := by rw [State.ready, hcode]; rfl
    have hslots' : u.followThrottle.boot.slots = mapSlots KeySlot.afterRstN s.boot.slots := by rw [honly.boot, ← hslots]
    refine ⟨_, s.pmuSeconds, hexec, ?_, ?_, ?_, ?_, ?_, fun k hk => ?_, fun k hk => ?_⟩
    · rw [hpower, ← hlog]
    · rw [State.nextSeq_followThrottle_of_booting hbooting, hseq]
    · rw [hpower, ← hscratch]
    · rw [hpower, ← hreq]
    · rw [honly.nodes, ← hnodes]
    · rw [State.slot_mapSlots hslots', decide_eq_false (Nat.not_le.mpr hk)]
      rfl
    · rw [State.slot_mapSlots hslots', decide_eq_true hk]
      rfl
  case full =>
    have hkeyed : rstKey (v ||| 2) = true := (rstKey_or v (by decide)).trans (beq_iff_eq.mpr hkey)
    change Host.Outcome.next (s.writeRstCtrl (v ||| 2)) = _
    rw [State.writeRstCtrl, hkeyed, if_neg (by decide), if_pos (by simp)]
  case warm =>
    have hkeyed : rstKey (v ||| 1) = true := (rstKey_or v (by decide)).trans (beq_iff_eq.mpr hkey)
    change Host.Outcome.next (s.writeRstCtrl (v ||| 1)) = _
    rw [State.writeRstCtrl, hkeyed, if_neg (by decide), if_neg (by rw [BitVec.getLsbD_or, hfull]; decide), if_pos (by simp [hawake])]
  case unkeyed =>
    have hkeyed (n : Nat) (h : n < 65536) : rstKey (v ||| BitVec.ofNat 32 n) = false :=
      (rstKey_or v h).trans (beq_eq_false_iff_ne.mpr hkey)
    refine ⟨congrArg Host.Outcome.next (if_pos ?_), congrArg Host.Outcome.next (if_pos ?_)⟩
    · exact (congrArg Bool.not (hkeyed 1 (by decide))).trans rfl
    · exact (congrArg Bool.not (hkeyed 2 (by decide))).trans rfl
  case log => exact congrArg Host.Outcome.next (if_pos (by simp))
  case pcie =>
    have hreach : (s.awake && !s.id.straps.hostQspi) = true := by
      rw [hawake, hhost]
      rfl
    exact ⟨congrArg Host.Outcome.next (if_pos hreach), congrArg Host.Outcome.next (if_pos hreach)⟩
  case activate =>
    change execFwActivateReset s = _
    simp only [execFwActivateReset, hat]
    rw [if_pos (by rw [hawake, decide_eq_true hdue]; rfl)]
  case keeps =>
    obtain ⟨hslots, hrows, hcode, huser, hactions, hslabs, htoken, hlog, hnodes⟩ := s.kept_warmReset cause detail
    exact ⟨hslots, hrows, hcode, huser, hactions, hslabs, htoken, ⟨_, hlog⟩, hnodes⟩
  case up =>
    refine ⟨fun hfails => congrArg Host.Outcome.next (if_pos ?_), fun hlow hhigh => congrArg Host.Outcome.next (if_pos ?_)⟩
    · rw [hdown, decide_eq_true hretry, hhot, hfails]
      rfl
    · rw [hdown, decide_eq_true hretry, hhot, decide_eq_true hlow, decide_eq_true hhigh]
      rfl
  case rise =>
    subst hk
    refine ⟨fun hlt => ?_, fun hlast => ?_⟩
    · change execPmuPgRise s = _
      simp only [execPmuPgRise]
      rw [if_pos (by rw [hdown, decide_eq_true (Nat.lt_succ_of_lt hlt)]; rfl), if_pos hlt]
    · have hrun : exec .pmuPgRise s = execPmuPgRise s := rfl
      simp only [hrun, execPmuPgRise]
      rw [if_pos (by rw [hdown, hlast]; rfl), if_neg (by rw [hlast]; decide), State.setRails_eq]
      exact ⟨_, rfl, rfl, rfl, rfl⟩
  case failure =>
    subst hk
    have hrun : exec .sequencingFailure s = execSequencingFailure s := rfl
    obtain ⟨hstate, hretry, -, hlog⟩ := s.power_fall 5 s.power.seqPair smpPerSecond
    simp only [hrun, execSequencingFailure]
    rw [if_pos (by rw [hdown, decide_eq_true hlt]; rfl)]
    exact ⟨_, s.pmuSeconds, rfl, rfl, hstate, hretry, hlog⟩
  case brown =>
    obtain ⟨hstate, hretry, -, hlog⟩ := s.power_fall 3 d.toNat 4800
    have hgo : ((decide (d.toNat < 16) || decide (0x80 ≤ d.toNat) && decide (d.toNat < 0x88)) &&
        (s.awake || decide (d.toNat = 3) || decide (d.toNat = 4))) = true := by
      rw [hawake, Bool.true_or, Bool.true_or, Bool.and_true]
      simpa using hd
    exact ⟨_, s.pmuSeconds, congrArg Host.Outcome.next (if_pos hgo), hstate, hretry, hlog⟩
  case shutdown =>
    obtain ⟨hstate, -, htj, hlog⟩ := (s.setTj (max s.power.tj 11500)).power_fall 4 k.val 0
    have hrun : exec (.thermalShutdown k) s = execThermalShutdown k s := rfl
    simp only [hrun, execThermalShutdown]
    rw [if_pos hawake]
    exact ⟨_, s.pmuSeconds, rfl, hstate, rfl, (le_max_right _ _).trans (ge_of_eq htj), hlog⟩
  case recovery =>
    have hrun : exec (.thermalRecovery tj) s = execThermalRecovery tj s := rfl
    simp only [hrun, execThermalRecovery]
    rw [if_pos (by rw [hhot, hdown, decide_eq_true hcool]; rfl), State.startPair_eq]
    exact ⟨_, rfl, rfl, rfl, rfl, rfl⟩
  case ready =>
    have honly := (s.bootFound b).setCode_only 7
    obtain ⟨hdensity, hrate, hrunning⟩ := s.kept_bootFound b
    refine ⟨_, rfl, ?_, fun hd hs => ?_, fun hd => ?_, fun hw hs => ?_, if_pos hboot⟩
    · rw [honly.boot]
    · rw [honly.mem, ← hdensity hd hs]
    · rw [honly.time, ← hrate hd]
    · rw [honly.boot, ← hrunning hw hs]
  case fallback =>
    have hexpired : s.trialExpired = true := by
      rw [State.trialExpired, htrial, decide_eq_true (show s.boot.startedAt + 2 * smpPerSecond ≤ s.time.ticks from hlate)]
      rfl
    have hrun : exec (.trialFallback b) s = execTrialFallback b s := rfl
    simp only [hrun, execTrialFallback]
    rw [if_pos (by rw [hawake, decide_eq_true hcode, hexpired]; rfl)]
    obtain ⟨hboot, honly⟩ := (State.setCode_only 6 _).ownBoot
    exact ⟨_, rfl, (congrArg Boot.active hboot).trans rfl, (congrArg Boot.trial hboot).trans rfl,
      (congrArg Boot.fallback hboot).trans rfl, (congrArg Boot.running hboot).trans rfl, (congrArg Boot.code hboot).trans rfl, honly⟩

end Sys2Proof

/-! Accesses of the host (R44, R534, R537 to R541, R547 to R551), waiting commands (R71), the block strobe and GPIO edges. -/

namespace Sys2Proof

open Machine

namespace Machine

/-! ### Register reads (R1, R10, R13, R538) -/

theorem regBlock_doorbell (n : Fin 8) : regBlock (0x1000 + 0x100 * n.val) = .mailbox n.val ∧
    (0x1000 + 0x100 * n.val) % 0x100 = 0 := by
  revert n
  decide

theorem State.readReg_of_early {s : State} {off : Nat} (q : Bool) (hneeds : (regBlock off).needsReady = true)
    (hready : s.ready = false) :
    s.readReg q off = (0, s.flagAccess off fun i => { i with errNotReady := true }) := by
  simp [readReg, hneeds, hready]

theorem State.readReg_mailbox {s : State} {n off : Nat} (q : Bool) (h : regBlock off = .mailbox n) (hready : s.ready = true) :
    s.readReg q off = (s.readMailbox n off, s) := by
  simp [readReg, h, hready]

theorem State.readReg_events {s : State} {off : Nat} (q : Bool) (h : regBlock off = .events) (hready : s.ready = true) :
    s.readReg q off = (s.readEvents off, s) := by
  simp [readReg, h, hready]

theorem State.readReg_unmapped {off : Nat} (q : Bool) (s : State) (h : regBlock off = .unmapped) :
    s.readReg q off = (0, s.flagAccess off fun i => { i with errUnmapped := true }) := by
  simp [readReg, h, RegBlock.needsReady]

/-! ### Register writes (R538, R541) -/

theorem State.writeReg_of_early {s : State} {off : Nat} (q : Bool) (v : Word) (hneeds : (regBlock off).needsReady = true)
    (hready : s.ready = false) :
    s.writeReg q off v = s.flagAccess off fun i => { i with errNotReady := true } := by
  simp [writeReg, hneeds, hready]

theorem State.writeReg_unmapped {off : Nat} (q : Bool) (v : Word) (s : State) (h : regBlock off = .unmapped) :
    s.writeReg q off v = s.flagAccess off fun i => { i with errUnmapped := true } := by
  simp [writeReg, h, RegBlock.needsReady]

theorem State.writeReg_events {s : State} {off : Nat} (q : Bool) (v : Word) (h : regBlock off = .events)
    (hready : s.ready = true) : s.writeReg q off v = s.writeEvents off v := by
  simp [writeReg, h, hready]

/-! ### The bytes of a response (R51) -/

/-- The number at the front of the bytes. -/
theorem field_leBytes_append (n v : Nat) (b : Bytes) : field (leBytes n v ++ b) 0 n = v % 256 ^ n := by
  have hfront : slice (leBytes n v ++ b) 0 n = leBytes n v := by
    rw [slice, List.drop_zero]
    exact List.take_left' (leBytes_length n v)
  rw [field, hfront, leNat_leBytes]

/-- A field behind the number at the front. -/
theorem field_skip {k off : Nat} (v n : Nat) (b : Bytes) (h : k ≤ off) :
    field (leBytes k v ++ b) off n = field b (off - k) n := by
  have hlen := leBytes_length k v
  rw [field, slice, List.drop_append, List.drop_eq_nil_of_le (by omega), List.nil_append, hlen, field, slice]

/-- The header of a response and its payload, read back from its bytes. -/
theorem Resp.fields_bytes {p : Resp} (hstatus : p.status < 0x10000) (hcount : p.count < 0x10000)
    (hlen : p.payload.length < 0x10000) : field p.bytes 0 2 = p.status ∧
    field p.bytes 2 2 = ofBool p.degraded + 2 * ofBool p.replayed + 4 * ofBool p.late ∧
    field p.bytes 4 4 = p.tag.toNat ∧ field p.bytes 8 4 = p.node.toNat ∧
    field p.bytes 12 2 = p.payload.length ∧ field p.bytes 14 2 = p.count ∧ p.bytes.drop 16 = p.payload := by
  have hflag (b : Bool) : ofBool b ≤ 1 := by cases b <;> decide
  have hdegraded := hflag p.degraded
  have hreplayed := hflag p.replayed
  have hlate := hflag p.late
  have hbytes : p.bytes = leBytes 2 p.status ++ (leBytes 2 (ofBool p.degraded + 2 * ofBool p.replayed + 4 * ofBool p.late)
      ++ (leBytes 4 p.tag.toNat ++ (leBytes 4 p.node.toNat ++ (leBytes 2 p.payload.length ++ (leBytes 2 p.count
        ++ p.payload))))) := by
    simp only [Resp.bytes, List.append_assoc]
  have htag : p.tag.toNat % 256 ^ 4 = p.tag.toNat := Nat.mod_eq_of_lt p.tag.isLt
  have hnode : p.node.toNat % 256 ^ 4 = p.node.toNat := Nat.mod_eq_of_lt p.node.isLt
  rw [hbytes]
  refine ⟨?_, ?_, ?_, ?_, ?_, ?_, rfl⟩
  · rw [field_leBytes_append]
    omega
  · rw [field_skip _ _ _ (by decide), field_leBytes_append]
    omega
  · rw [field_skip _ _ _ (by decide), field_skip _ _ _ (by decide), field_leBytes_append, htag]
  · rw [field_skip _ _ _ (by decide), field_skip _ _ _ (by decide), field_skip _ _ _ (by decide), field_leBytes_append, hnode]
  · rw [field_skip _ _ _ (by decide), field_skip _ _ _ (by decide), field_skip _ _ _ (by decide),
      field_skip _ _ _ (by decide), field_leBytes_append]
    omega
  · rw [field_skip _ _ _ (by decide), field_skip _ _ _ (by decide), field_skip _ _ _ (by decide),
      field_skip _ _ _ (by decide), field_skip _ _ _ (by decide), field_leBytes_append]
    omega

/-! ### The block boundary (R14, R16) -/

theorem State.swapBlocks_eq (u : State) : u.swapBlocks.time.block = u.time.block + 1 ∧ u.swapBlocks.time.pos = 0 ∧
    u.swapBlocks.wr = [] ∧ u.swapBlocks.rd = u.wr.map (fun x => (x.1, x.2.1, x.2.2.reverse)) ∧ u.swapBlocks.nodes = u.nodes :=
  ⟨rfl, rfl, rfl, rfl, rfl⟩

/-! ### Accesses of one register or one byte (R537) -/

theorem accessBytes_word (space : Space) (off : Nat) (v : Word) :
    accessBytes { space := space, offset := off, data := leBytes 4 v.toNat, enables := List.replicate 4 true } =
      [(off, BitVec.ofNat 8 v.toNat), (off + 1, BitVec.ofNat 8 (v.toNat / 256)),
        (off + 2, BitVec.ofNat 8 (v.toNat / 256 / 256)), (off + 3, BitVec.ofNat 8 (v.toNat / 256 / 256 / 256))] := rfl

theorem State.exec_registerWrite_bar0 {s : State} {a : Access} (hspace : a.space = .bar0) (hawake : s.awake = true)
    (hpcie : s.id.straps.hostQspi = false) : exec (.registerWrite a) s =
      .next (s.writeBar0 false false ((accessBytes a).filter fun x => x.1 < 0x10000)) := by
  change execRegisterWrite a s = _
  simp only [execRegisterWrite, hspace]
  rw [if_pos (by rw [hawake, hpcie]; rfl)]

/-- Bytes of one aligned 64-bit unit. -/
theorem State.writeBar0_unit {s : State} {x : Nat × Byte} {l : List (Nat × Byte)} {u : Nat}
    (h : ∀ y ∈ x :: l, y.1 / 8 * 8 = u) :
    s.writeBar0 false false (x :: l) = s.writePair64 false false (x :: l) u := by
  have hunits : ((x :: l).map fun y => y.1 / 8 * 8).eraseDups = [u] := by
    rw [List.map_cons, h x List.mem_cons_self, List.eraseDups_cons, List.filter_eq_nil_iff.mpr, List.eraseDups_nil]
    intro v hv
    obtain ⟨y, hy, rfl⟩ := List.mem_map.mp hv
    simp [h y (List.mem_cons_of_mem _ hy)]
  rw [writeBar0, hunits]
  rfl

/-- Fewer than 8 bytes are no access to a 64-bit data register. -/
theorem State.writePair64_of_short {s : State} {l : List (Nat × Byte)} (u : Nat) (h : l.length < 8) :
    s.writePair64 false false l u = (s.writeUnit false false l u).writeUnit false false l (u + 4) := by
  have hlen := List.length_filter_le (fun x : Nat × Byte => u ≤ x.1 && x.1 < u + 8) l
  simp only [writePair64]
  rw [if_neg]
  rw [Bool.and_eq_true, decide_eq_true_eq]
  omega

theorem State.writeUnit_of_outside {l : List (Nat × Byte)} {off : Nat} (s : State)
    (h : ∀ x ∈ l, ¬ (off ≤ x.1 ∧ x.1 < off + 4)) : s.writeUnit false false l off = s := by
  have hgot : (l.filter fun x => off ≤ x.1 && x.1 < off + 4) = [] := by
    refine List.filter_eq_nil_iff.mpr fun x hx => ?_
    rw [Bool.and_eq_true, decide_eq_true_eq, decide_eq_true_eq]
    exact h x hx
  simp only [writeUnit, hgot]
  rfl

/-- The bytes of a 32-bit unit. -/
theorem unit_filter {l : List (Nat × Byte)} {off : Nat} (h : ∀ x ∈ l, off ≤ x.1 ∧ x.1 < off + 4) :
    (l.filter fun x => off ≤ x.1 && x.1 < off + 4) = l := by
  refine List.filter_eq_self.mpr fun x hx => ?_
  rw [Bool.and_eq_true, decide_eq_true_eq, decide_eq_true_eq]
  exact h x hx

theorem State.writeUnit_whole {l : List (Nat × Byte)} {off : Nat} (s : State) (h : ∀ x ∈ l, off ≤ x.1 ∧ x.1 < off + 4)
    (hlen : l.length = 4) : s.writeUnit false false l off = s.writeReg false off (wordOf (l.map (·.2))) := by
  have hsome : l.isEmpty = false := by
    rw [List.isEmpty_eq_false_iff_exists_mem]
    exact List.exists_mem_of_length_pos (by omega)
  simp only [writeUnit, unit_filter h, hsome]
  rw [if_neg (by simp), if_pos hlen]

/-- A part of a register sets the error bit and writes nothing (R541). -/
theorem State.writeUnit_part {x : Nat × Byte} {off : Nat} (s : State) (h : off ≤ x.1 ∧ x.1 < off + 4)
    (hdebug : regBlock off ≠ .debug) (hmapped : regBlock off ≠ .unmapped) : s.writeUnit false false [x] off =
      s.flagAccess off fun i => { i with
        errPartial := true, errNotReady := i.errNotReady || ((regBlock off).needsReady && !s.ready) } := by
  have hone : ∀ y ∈ [x], off ≤ y.1 ∧ y.1 < off + 4 := fun y hy => (List.mem_singleton.mp hy) ▸ h
  simp only [writeUnit, unit_filter hone]
  rw [if_neg (by simp), if_neg (by simp), if_neg hdebug, if_neg hmapped]

theorem wordOf_leBytes (v : Word) : wordOf (leBytes 4 v.toNat) = v := by
  rw [wordOf, leNat_leBytes_word, BitVec.ofNat_toNat, BitVec.setWidth_eq]

/-- A word lies in one of the two units of its 64-bit unit. -/
theorem State.writePair64_word {l : List (Nat × Byte)} {off : Nat} (s : State) (halign : off % 4 = 0)
    (h : ∀ x ∈ l, off ≤ x.1 ∧ x.1 < off + 4) (hlen : l.length = 4) :
    s.writePair64 false false l (off / 8 * 8) = s.writeReg false off (wordOf (l.map (·.2))) := by
  rw [writePair64_of_short _ (by omega)]
  by_cases hlow : off / 8 * 8 = off
  · rw [hlow, writeUnit_whole s h hlen, writeUnit_of_outside]
    intro x hx
    have := h x hx
    omega
  · have hhigh : off / 8 * 8 + 4 = off := by omega
    rw [writeUnit_of_outside s (fun x hx => by have := h x hx; omega), hhigh, writeUnit_whole s h hlen]

/-- A byte lies in one of the two units of its 64-bit unit. -/
theorem State.writePair64_byte {x : Nat × Byte} (s : State) :
    s.writePair64 false false [x] (x.1 / 8 * 8) = s.writeUnit false false [x] (x.1 / 4 * 4) := by
  have hone (off : Nat) (h : ¬ (off ≤ x.1 ∧ x.1 < off + 4)) : ∀ y ∈ [x], ¬ (off ≤ y.1 ∧ y.1 < off + 4) :=
    fun y hy => (List.mem_singleton.mp hy) ▸ h
  rw [writePair64_of_short _ (by simp)]
  by_cases hlow : x.1 / 8 * 8 = x.1 / 4 * 4
  · rw [hlow, writeUnit_of_outside _ (hone _ (by omega))]
  · have hhigh : x.1 / 8 * 8 + 4 = x.1 / 4 * 4 := by omega
    rw [writeUnit_of_outside s (hone (x.1 / 8 * 8) (by omega)), hhigh]

theorem accessBytes_byte (space : Space) (off : Nat) (b : Byte) :
    accessBytes { space := space, offset := off, data := [b], enables := [true] } = [(off, b)] := rfl

end Machine

/-- Settles O57: reads and writes of a register through its block (`readReg_events` and the like), an access through the
units that it touches (`writePair64_word`, `writePair64_byte`), a response's bytes by `Resp.fields_bytes`. -/
theorem hostAccess : Obligations.HostAccess := by
  unfold Obligations.HostAccess
  refine ⟨fun s q => ⟨rfl, rfl, fun h => ?fw⟩, fun s q off hoff => ?writeOnly, fun s q n hready => ?bell,
    fun s q hready => ?ints, fun s q off hblock => ?absent, fun s q off hneeds hready => ?early,
    fun s n i hready hi => ?area, fun p hstatus hcount hlen => ?header, fun s off v hawake hpcie halign hoff => ?word,
    fun s v => rfl, fun s v hready => ?intWrites, fun s off v hneeds hready => ?earlyWrite, fun s off v hblock => ?absentWrite,
    fun s off b hawake hpcie hoff hdebug hmapped => ?part, fun s off b hawake hready hpcie hoff hwf hplace => ?window,
    fun s hup => ?status, fun s b hbad hup => ?invalid, fun s w rest c h hawake hready hfree hcontract => ?deferred,
    ?opcodes, fun s io hawake hlive => ?strobe, fun s io hawake hcatches hcut => ?stores, fun s io hasleep => ?dark,
    fun s g level n hawake hsel hnone => ?edge, fun s g m n level hedges => ?told⟩
  case fw =>
    change (s.readIdentity 8, s) = _
    exact congrArg (·, s) (if_pos h)
  case writeOnly =>
    rcases hoff with rfl | rfl | rfl
    · rfl
    · rfl
    · rfl
  case bell =>
    obtain ⟨hblock, hoff⟩ := regBlock_doorbell n
    rw [State.readReg_mailbox q hblock hready, State.readMailbox, hoff]
    rfl
  case ints =>
    rw [State.readReg_events q (by decide) hready, State.readReg_events q (by decide) hready]
    exact ⟨rfl, rfl⟩
  case absent =>
    rw [State.readReg_unmapped q s hblock]
    exact ⟨rfl, rfl⟩
  case early =>
    rw [State.readReg_of_early q hneeds hready]
    exact ⟨rfl, rfl⟩
  case area =>
    have hbox : (0x4000 * n.val + 0x2000 + i) / 0x4000 = n.val := by omega
    have hbyte : (0x4000 * n.val + 0x2000 + i) % 0x4000 - 0x2000 = i := by omega
    rw [State.readBar2, if_pos (by rw [hready]; rfl), if_pos (by omega), hbox, hbyte]
  case header => exact Resp.fields_bytes hstatus hcount hlen
  case word =>
    have hin : ∀ x ∈ accessBytes { space := .bar0, offset := off, data := leBytes 4 v.toNat, enables := List.replicate 4 true },
        off ≤ x.1 ∧ x.1 < off + 4 := by
      rw [accessBytes_word]
      simp
    have hlow : (accessBytes { space := .bar0, offset := off, data := leBytes 4 v.toNat, enables := List.replicate 4 true }).filter
        (fun x => decide (x.1 < 0x10000)) =
          accessBytes { space := .bar0, offset := off, data := leBytes 4 v.toNat, enables := List.replicate 4 true } :=
      List.filter_eq_self.mpr fun x hx => decide_eq_true (by have := hin x hx; omega)
    have hword := State.writePair64_word s halign hin rfl
    rw [State.exec_registerWrite_bar0 rfl hawake hpcie, hlow]
    rw [accessBytes_word] at hin hword ⊢
    rw [State.writeBar0_unit (u := off / 8 * 8) (fun x hx => by have := hin x hx; omega), hword]
    exact congrArg (fun w => Host.Outcome.next (s.writeReg false off w)) (wordOf_leBytes v)
  case intWrites =>
    rw [State.writeReg_events false v (by decide) hready, State.writeReg_events false v (by decide) hready]
    exact ⟨rfl, rfl⟩
  case earlyWrite => rw [State.writeReg_of_early false v hneeds hready, State.flagAccess]
  case absentWrite => rw [State.writeReg_unmapped false v s hblock, State.flagAccess]
  case part =>
    have hlow : ([(off, b)].filter fun x => decide (x.1 < 0x10000)) = [(off, b)] := by simp [hoff]
    have hexec := State.exec_registerWrite_bar0 (s := s) (a := { space := .bar0, offset := off, data := [b], enables := [true] })
      rfl hawake hpcie
    rw [accessBytes_byte, hlow, State.writeBar0_unit (u := off / 8 * 8) (by simp), State.writePair64_byte (x := (off, b)),
      State.writeUnit_part (off := off / 4 * 4) (x := (off, b)) s (by simp only; omega) hdebug hmapped] at hexec
    exact ⟨_, hexec, rfl, rfl⟩
  case window =>
    have hexec : exec (.registerWrite { space := .bar2, offset := off, data := [b], enables := [true] }) s =
        .next { s with mem := { s.mem with bar2 := s.mem.bar2.write off b } } := by
      have hrun : exec (.registerWrite { space := .bar2, offset := off, data := [b], enables := [true] }) s =
        .next (if (s.awake && !s.id.straps.hostQspi) = true
          then ([(off, b)].filter fun x => decide (x.1 < 0x100000)).foldl State.writeBar2 s else s) := rfl
      have hone : ([(off, b)].filter fun x => decide (x.1 < 0x100000)) = [(off, b)] := by simp [hoff]
      rw [hrun, if_pos (by rw [hawake, hpcie]; rfl), hone, List.foldl_cons, List.foldl_nil, State.writeBar2,
        if_pos (by rw [hready]; rfl), if_neg (by simp only; omega)]
      rfl
    refine ⟨_, hexec, ?_, fun a ha => ?_, rfl⟩
    · rw [Mem.read_write hwf, if_pos rfl]
    · rw [Mem.read_write hwf, if_neg ha]
  case status => exact congrArg Host.Outcome.next (if_neg (by simp [hup]))
  case invalid =>
    have hrun : exec (.qspiInvalidInstruction b) s = execQspiInvalidInstruction b s := rfl
    simp only [hrun, execQspiInvalidInstruction]
    rw [if_neg (by rw [hbad, beq_false_of_ne hup]; exact Bool.false_ne_true)]
    exact ⟨_, rfl, rfl, rfl⟩
  case deferred =>
    change execDeferredCommandApply s = _
    simp only [execDeferredCommandApply, hfree, hcontract, hready, hawake]
    exact dif_pos h
  case opcodes => decide +kernel
  case strobe =>
    have hexec : exec (.blockStrobe io) s = .next (s.strobe io) := by
      change execBlockStrobe io s = _
      rw [execBlockStrobe, hawake, hlive]
      rfl
    exact ⟨_, rfl, hexec, State.swapBlocks_eq _⟩
  case stores =>
    change execBlockStrobe io s = _
    rw [execBlockStrobe, hawake, hcatches, hcut]
    rfl
  case dark =>
    change execBlockStrobe io s = _
    rw [execBlockStrobe, hasleep]
    rfl
  case edge =>
    change execGpioEdge g level n s = _
    rw [execGpioEdge, if_pos (by rw [hawake, hsel]; rfl)]
    simp only [Gpio.edge, hnone]
  case told =>
    simp only [State.gpioBlock, hedges]
    rfl

end Sys2Proof

/-! What one operation may do to the queue, to one-time programmable memory and to the sparse memories: nothing, or move on
(R524, R527). The relation composes, and holds of every operation that leaves what lasts alone. -/

namespace Sys2Proof

open Machine

/-! ### One-time programmable memory moves forward -/

theorem OtpForward.refl (s : State) : OtpForward s s where
  row _ := Nat.le_refl _
  hash _ _ := rfl
  minimum := Nat.le_refl _
  revoked _ h := h
  key _ _ _ := .inl rfl

theorem OtpForward.trans {s t u : State} (h : OtpForward s t) (k : OtpForward t u) : OtpForward s u where
  row x := (h.row x).trans (k.row x)
  hash x hx := by
    have hle := h.row (x + 1)
    exact (k.hash x fun h0 => hx (by omega)).trans (h.hash x hx)
  minimum := h.minimum.trans k.minimum
  revoked x hx := k.revoked x (h.revoked x hx)
  key x hx hkey := by
    rcases h.key x hx hkey with hsame | hgone
    · rcases k.key x hx (hsame ▸ hkey) with hsame' | hgone'
      · exact .inl (hsame'.trans hsame)
      · exact .inr hgone'
    · exact .inr (k.revoked x hgone)

namespace Machine

/-! ### One-time programmable memory -/

/-- The part of `Kept` that speaks of one-time programmable memory. -/
structure OtpKept (s : State) : Prop where
  rows : s.boot.rows.length = 4
  row : ∀ v ∈ s.boot.rows, v ≤ 2
  minimum : s.boot.secMin ≤ 63
  revoked : ∀ k, (s.slot k).revoked = true → k < 8 ∧ (s.slot k).key = none

/-- The queue stays, one-time programmable memory stays legal and moves forward, and each memory stays canonical. -/
structure Moves (s t : State) : Prop where
  pending : t.pending = s.pending
  otp : OtpKept s → OtpKept t ∧ OtpForward s t
  user : s.mem.user.wf = true → t.mem.user.wf = true
  host : s.mem.host.wf = true → t.mem.host.wf = true
  bar2 : s.mem.bar2.wf = true → t.mem.bar2.wf = true

theorem Moves.refl (s : State) : Moves s s where
  pending := rfl
  otp h := ⟨h, .refl s⟩
  user h := h
  host h := h
  bar2 h := h

theorem Moves.trans {s t u : State} (h : Moves s t) (k : Moves t u) : Moves s u where
  pending := k.pending.trans h.pending
  otp hs := ⟨(k.otp (h.otp hs).1).1, (h.otp hs).2.trans (k.otp (h.otp hs).1).2⟩
  user hs := k.user (h.user hs)
  host hs := k.host (h.host hs)
  bar2 hs := k.bar2 (h.bar2 hs)

theorem Moves.foldl {α : Type} {f : State → α → State} (hf : ∀ s x, Moves s (f s x)) (l : List α) (s : State) :
    Moves s (l.foldl f s) :=
  List.foldlRecOn (motive := fun t : State => Moves s t) l f (.refl s) fun t ht x _ => ht.trans (hf t x)

theorem Moves.ite {p : Prop} [Decidable p] {s t u : State} (ht : Moves s t) (hu : Moves s u) :
    Moves s (if p then t else u) := by
  split
  case isTrue => exact ht
  case isFalse => exact hu

/-! ### Key slots -/

/-- A legal slot stays legal, a revoked one stays revoked, and an OTP key stays until it is revoked. -/
def SlotMoves (k : Nat) (x y : KeySlot) : Prop :=
  (x.revoked = true → k < 8 ∧ x.key = none) → (x.revoked = true → y.revoked = true) ∧
    (y.revoked = true → k < 8 ∧ y.key = none) ∧ (k < 8 → x.key ≠ none → y.key = x.key ∨ y.revoked = true)

theorem SlotMoves.of_same {k : Nat} {x y : KeySlot} (hkey : y.key = x.key) (hrevoked : y.revoked = x.revoked) :
    SlotMoves k x y := fun h => by
  rw [hkey, hrevoked]
  exact ⟨id, h, fun _ _ => .inl rfl⟩

theorem SlotMoves.refl (k : Nat) (x : KeySlot) : SlotMoves k x x := .of_same rfl rfl

/-- A volatile slot takes any key, or none. -/
theorem SlotMoves.of_volatile {k : Nat} {x y : KeySlot} (hk : 8 ≤ k) (h : y.revoked = x.revoked ∨ y.revoked = false) :
    SlotMoves k x y := fun hx => by
  have hnot : x.revoked ≠ true := fun hr => absurd (hx hr).1 (Nat.not_lt.mpr hk)
  have hnot' : y.revoked ≠ true := by
    rcases h with h | h
    · rw [h]
      exact hnot
    · exact ne_true_of_eq_false h
  exact ⟨fun hr => absurd hr hnot, fun hr => absurd hr hnot', fun hlt => absurd hlt (Nat.not_lt.mpr hk)⟩

/-- A blank slot takes a key. -/
theorem SlotMoves.of_blank {k : Nat} {x y : KeySlot} (hblank : x.blank = true) (h : y.revoked = x.revoked) :
    SlotMoves k x y := fun _ => by
  obtain ⟨hkey, hrevoked⟩ := Bool.and_eq_true_iff.mp hblank
  have hnot : x.revoked = false := by simpa using hrevoked
  have hnone : x.key = none := Option.isNone_iff_eq_none.mp hkey
  rw [h, hnot]
  exact ⟨id, nofun, fun _ hk => absurd hnone hk⟩

/-- An OTP slot is revoked. -/
theorem SlotMoves.of_revoked {k : Nat} {x y : KeySlot} (hk : k < 8) (hkey : y.key = none) (h : y.revoked = true) :
    SlotMoves k x y := fun _ => ⟨fun _ => h, fun _ => ⟨hk, hkey⟩, fun _ _ => .inr h⟩

/-! ### Operations that leave one-time programmable memory, or all but its slots -/

/-- The parts of one-time programmable memory and the sparse memories. -/
structure Steady where
  pending : List Instr
  rows : List Nat
  rowHashes : List Bytes
  secMin : Nat
  slots : Vector KeySlot 16
  user : Mem
  host : Mem
  bar2 : Mem

def State.steady (s : State) : Steady :=
  { pending := s.pending, rows := s.boot.rows, rowHashes := s.boot.rowHashes, secMin := s.boot.secMin, slots := s.boot.slots
    user := s.mem.user, host := s.mem.host, bar2 := s.mem.bar2 }

/-- An operation that moves key slots and memories only. -/
theorem Moves.of_parts {s t : State} (hpending : t.pending = s.pending) (hrows : t.boot.rows = s.boot.rows)
    (hhashes : t.boot.rowHashes = s.boot.rowHashes) (hmin : t.boot.secMin = s.boot.secMin)
    (hslots : ∀ k, SlotMoves k (s.slot k) (t.slot k)) (huser : s.mem.user.wf = true → t.mem.user.wf = true)
    (hhost : s.mem.host.wf = true → t.mem.host.wf = true) (hbar2 : s.mem.bar2.wf = true → t.mem.bar2.wf = true) :
    Moves s t where
  pending := hpending
  otp hs := by
    refine ⟨⟨hrows ▸ hs.rows, hrows ▸ hs.row, hmin ▸ hs.minimum, fun k => (hslots k (hs.revoked k)).2.1⟩, ?_⟩
    exact { row := fun x => Nat.le_of_eq (by rw [hrows]), hash := fun x _ => by rw [hhashes]
            minimum := Nat.le_of_eq hmin.symm, revoked := fun k => (hslots k (hs.revoked k)).1
            key := fun k => (hslots k (hs.revoked k)).2.2 }
  user := huser
  host := hhost
  bar2 := hbar2

theorem Moves.of_slots {s t : State} (h : t.steady = { s.steady with slots := t.boot.slots })
    (hslots : ∀ k, SlotMoves k (s.slot k) (t.slot k)) : Moves s t := by
  have huser : t.mem.user = s.mem.user := congrArg Steady.user h
  have hhost : t.mem.host = s.mem.host := congrArg Steady.host h
  have hbar2 : t.mem.bar2 = s.mem.bar2 := congrArg Steady.bar2 h
  exact .of_parts (congrArg Steady.pending h) (congrArg Steady.rows h) (congrArg Steady.rowHashes h) (congrArg Steady.secMin h)
    hslots (huser ▸ id) (hhost ▸ id) (hbar2 ▸ id)

theorem Moves.of_steady {s t : State} (h : t.steady = s.steady) : Moves s t := by
  have hslots : t.boot.slots = s.boot.slots := congrArg Steady.slots h
  have hslot : ∀ k, t.slot k = s.slot k := fun k => congrArg (fun v : Vector KeySlot 16 => v[k]?.getD {}) hslots
  exact .of_slots (by rw [h, hslots]; rfl) fun k => hslot k ▸ .refl k (s.slot k)

def Lasting.steady (x : Lasting) : Steady :=
  { pending := x.pending, rows := x.boot.rows, rowHashes := x.boot.rowHashes, secMin := x.boot.secMin, slots := x.boot.slots
    user := x.user, host := x.host, bar2 := x.bar2 }

theorem State.steady_of_lasting {s t : State} (h : t.lasting = s.lasting) : t.steady = s.steady := congrArg Lasting.steady h

theorem Moves.of_lasting {s t : State} (h : t.lasting = s.lasting) : Moves s t := .of_steady (State.steady_of_lasting h)

/-- What lasts stays in the last part of an operation. -/
theorem Moves.lasting {s t u : State} (h : Moves s t) (hu : u.lasting = t.lasting) : Moves s u := h.trans (.of_lasting hu)

/-- One slot moves. -/
theorem State.setSlot_moves {k : Nat} {x : KeySlot} {s : State} (h : SlotMoves k (s.slot k) x) : Moves s (s.setSlot k x) := by
  refine .of_slots rfl fun j => ?_
  by_cases hj : j = k
  · subst hj
    by_cases hlt : j < 16
    · have hslot : (s.setSlot j x).slot j = x := by simp [slot, setSlot, hlt]
      rw [hslot]
      exact h
    · have hslot : (s.setSlot j x).slot j = s.slot j := by simp [slot, setSlot, hlt]
      rw [hslot]
      exact .refl _ _
  · have hslot : (s.setSlot k x).slot j = s.slot j := by
      simp [slot, setSlot, Vector.getElem?_setIfInBounds_ne (Ne.symm hj)]
    rw [hslot]
    exact .refl _ _

/-! ### Sessions (R61, R62) -/

theorem State.endOpens_moves (k : Nat) (remember : Bool) (s : State) : Moves s (s.endOpens k remember) := .of_lasting rfl

theorem State.failProof_moves (k : Nat) (s : State) : Moves s (s.failProof k) := by
  unfold failProof
  extract_lets x
  split
  case isTrue => exact setSlot_moves (.of_same rfl rfl)
  case isFalse =>
    have hmoves : SlotMoves k (s.slot k) { x with failures := 5, lockUntil := some (s.time.ticks + 60 * smpPerSecond) } :=
      .of_same rfl rfl
    exact (setSlot_moves hmoves).trans (endOpens_moves _ _ _)

theorem State.expire_moves (x : Expiry) (s : State) : Moves s (s.expire x) := by
  unfold expire
  split
  case h_1 mb => exact .of_lasting ((lasting_raise _ _ _ _ _).trans (lasting_closeSession _ _ _))
  case h_2 mb => exact .ite (.of_lasting rfl) (.of_lasting rfl)
  case h_3 k => exact setSlot_moves (.of_same rfl rfl)

theorem State.runExpiry_moves (x : Expiry) (s : State) : Moves s (s.runExpiry x) := by
  unfold runExpiry
  exact .ite ((Moves.of_lasting (lasting_note _ s)).trans (expire_moves _ _)) (.refl s)

end Machine

end Sys2Proof

/-! One-time programmable memory and the sparse memories over the operations that reach them: the event ring, Haul and Ashlar,
the boot ROM and the keys, and the resets. -/

namespace Sys2Proof.Machine

namespace State

/-! ### Memories that the host and Haul reach (R389, log 10) -/

/-- An operation that writes one of the memories. -/
theorem moves_of_memory {s t : State} (hpending : t.pending = s.pending) (hboot : t.boot = s.boot)
    (huser : s.mem.user.wf = true → t.mem.user.wf = true) (hhost : s.mem.host.wf = true → t.mem.host.wf = true)
    (hbar2 : s.mem.bar2.wf = true → t.mem.bar2.wf = true) : Moves s t := by
  refine .of_parts hpending (congrArg Boot.rows hboot) (congrArg Boot.rowHashes hboot) (congrArg Boot.secMin hboot) (fun k => ?_)
    huser hhost hbar2
  have hslot : t.slot k = s.slot k := by rw [slot, hboot, ← slot]
  exact hslot ▸ .refl k (s.slot k)

theorem putRecord_moves (e : EvRec) (s : State) : Moves s (s.putRecord e) := by
  refine moves_of_memory rfl rfl (fun h => h) (fun h => ?_) fun h => h
  simp only [putRecord]
  split
  case isTrue => exact h
  case isFalse => exact Mem.writeBytes_wf (Mem.writeBytes_wf h _ _) _ _

theorem writeBulk_moves (mb off : Nat) (b : Bytes) (s : State) : Moves s (s.writeBulk mb off b) :=
  moves_of_memory rfl rfl (fun h => h) (fun h => h) fun h => Mem.writeBytes_wf h _ _

theorem ringPut_moves (mb off len pos : Nat) (b : Bytes) (s : State) : Moves s (s.ringPut mb off len pos b) :=
  .foldl (fun s _ => writeBulk_moves mb _ _ s) _ s

theorem haulWrite_moves (mb space addr : Nat) (b : Bytes) (s : State) : Moves s (s.haulWrite mb space addr b) := by
  unfold haulWrite
  split
  case isTrue => exact moves_of_memory rfl rfl (fun h => Mem.writeBytes_wf h _ _) (fun h => h) fun h => h
  case isFalse =>
    exact .ite (moves_of_memory rfl rfl (fun h => h) (fun h => Mem.writeBytes_wf h _ _) fun h => h) (writeBulk_moves _ _ _ _)

theorem haulRun_moves (mb limit : Nat) (l : List HaulDesc) (moved : Nat) (s : State) :
    Moves s (haulRun mb limit l moved s).2.2 := by
  induction l generalizing moved s with
  | nil => exact .refl s
  | cons d r ih =>
    simp only [haulRun]
    split
    case isTrue => exact haulWrite_moves _ _ _ _ _
    case isFalse => exact (haulWrite_moves _ _ _ _ _).trans (ih _ _)

theorem haulSmear_moves (mb : Nat) (d : HaulDesc) (k : Nat) (s : State) : Moves s (haulSmear mb d k s) :=
  .trans (t := { s with free := s.free + (d.len - k) }) (.of_lasting rfl) (haulWrite_moves _ _ _ _ _)

theorem endHaul_moves (mb : Fin 8) (j : HaulJob) (limit : Nat) (s : State) : Moves s (s.endHaul mb j limit) := by
  unfold endHaul
  extract_lets m s1 opened
  have hstart : Moves s s1 := .of_lasting rfl
  have hrun := hstart.trans (haulRun_moves mb limit j.descs 0 s1)
  split
  case h_1 moved t heq =>
    rw [heq] at hrun
    exact hrun.trans (.of_lasting (lasting_finish _ _ _ _ _ _ _ _))
  case h_2 moved d k t heq =>
    rw [heq] at hrun
    exact (hrun.trans (haulSmear_moves mb.val d k t)).trans (.of_lasting (lasting_finish _ _ _ _ _ _ _ _))

theorem ashSmear_moves (mb : Nat) (j : AshJob) (k : Nat) (s : State) : Moves s (ashSmear mb j k s) :=
  .trans (t := { s with free := s.free + (j.outLen - k) }) (.of_lasting rfl) (haulWrite_moves _ _ _ _ _)

theorem endAshJob_moves (i : Nat) (mb : Fin 8) (r : Req) (limit : Option Nat) (s : State) :
    Moves s (s.endAshJob i mb r limit) := by
  unfold endAshJob
  extract_lets d x c j opened cut input run s1 fail
  have hwrite : Moves s s1 := haulWrite_moves _ _ _ _ _
  have hfail (code detail off : Nat) (payload : Bytes) : Moves s (fail code detail off payload) := by
    have hsmear : Moves s ((s1.setAsh x).ashSmear mb.val j run.produced) :=
      hwrite.trans (.trans (.of_lasting (lasting_setAsh x s1)) (ashSmear_moves _ _ _ _))
    exact .lasting (.lasting hsmear (lasting_ashFailed _ _ _ _ _)) (lasting_finish _ _ _ _ _ _ _ _)
  split
  case h_1 => exact hfail _ _ _ _
  case h_2 => exact .ite (hfail _ _ _ _) (hwrite.trans (.of_lasting (by simp)))

/-! ### The boot ROM (R519, R522) -/

theorem setCode_moves (c : Nat) (s : State) : Moves s (s.setCode c) :=
  .ite (.refl s) (.lasting (t := { s with boot := { s.boot with code := c } }) (.of_steady rfl) (lasting_setCause _ _))

theorem dlGo_moves (s : State) : Moves s s.dlGo := .ite (.of_steady rfl) (.refl s)

theorem dlFinal_moves (s : State) : Moves s s.dlFinal := by
  have hcodes (b c : Nat) : Moves s ((s.setCode b).setCode c) := (setCode_moves b s).trans (setCode_moves c _)
  unfold dlFinal
  extract_lets k info s1 s2
  exact .ite ((hcodes 4 5).trans (.of_steady rfl)) ((hcodes 4 0x83).trans (.of_steady rfl))

theorem writeDlCtrl_moves (v : Word) (s : State) : Moves s (s.writeDlCtrl v) := by
  unfold writeDlCtrl
  split
  case isTrue =>
    extract_lets s1 s2
    have hgo : Moves s s2 := (setCode_moves 3 s).trans (.ite (dlGo_moves _) (.refl _))
    exact .ite (hgo.trans (dlFinal_moves _)) hgo
  case isFalse => exact .refl s

/-! ### The keys (R527 to R529) -/

theorem keyChanged_moves (slot action minimum : Nat) (s : State) : Moves s (s.keyChanged slot action minimum) :=
  .of_lasting (lasting_raise _ _ _ _ _)

/-- A slot moves, its opens end and KEY_CHANGED tells it. -/
theorem changeKey_moves {k : Nat} {x : KeySlot} {s : State} (h : SlotMoves k (s.slot k) x) (action : Nat) :
    Moves s (((s.setSlot k x).endOpens k false).keyChanged k action 0) :=
  ((setSlot_moves h).trans (endOpens_moves _ _ _)).trans (keyChanged_moves _ _ _ _)

theorem registerKey_moves (k : Nat) (s : State) : Moves s (s.registerKey k) := by
  unfold registerKey
  extract_lets b key x s1 s2
  have hcleared : Moves s s1 := .of_steady rfl
  split
  case isTrue hok =>
    have hk : 8 ≤ k := by
      simp only [Bool.and_eq_true, decide_eq_true_eq] at hok
      omega
    have hset : Moves s s2 := hcleared.trans (setSlot_moves (.of_volatile hk (.inl rfl)))
    have htaken : Moves s { s2 with boot := { s2.boot with keyRefused := false } } := hset.trans (.of_steady rfl)
    exact (htaken.trans (endOpens_moves _ _ _)).trans (keyChanged_moves _ _ _ _)
  case isFalse => exact hcleared.trans (.of_steady rfl)

theorem writeKeyCtrl_moves (v : Word) (s : State) : Moves s (s.writeKeyCtrl v) := by
  unfold writeKeyCtrl
  split
  case isTrue =>
    extract_lets s1
    have hwrite : Moves s s1 := .ite (registerKey_moves _ s) (.refl s)
    exact .ite (hwrite.trans (.of_steady rfl)) hwrite
  case isFalse => exact .refl s

theorem activateStaged_moves (s : State) : Moves s s.activateStaged := .of_steady rfl

/-! ### Resets (R491 to R493, R510 to R515) -/

/-- A reset of the slots that keeps OTP keys and revocations. -/
theorem mapSlots_moves {s : State} {f : Bool → KeySlot → KeySlot}
    (hotp : ∀ x, (f false x).key = x.key ∧ (f false x).revoked = x.revoked) (hvolatile : ∀ x, (f true x).revoked = false)
    {t : State} (h : t.boot.slots = mapSlots f s.boot.slots) (k : Nat) : SlotMoves k (s.slot k) (t.slot k) := by
  by_cases hk : k < 16
  · rw [slot_mapSlots h ⟨k, hk⟩]
    by_cases hv : 8 ≤ k
    · rw [decide_eq_true hv]
      exact .of_volatile hv (.inr (hvolatile _))
    · rw [decide_eq_false hv]
      exact .of_same (hotp _).1 (hotp _).2
  · have hout (u : State) : u.slot k = {} := by simp [slot, hk]
    rw [hout, hout]
    exact .refl k _

/-- What keeps a reset's values from moving one-time programmable memory backwards: it keeps the fuses and host memory. -/
theorem moves_of_reset {s t : State} (hpending : t.pending = s.pending) (hrows : t.boot.rows = s.boot.rows)
    (hhashes : t.boot.rowHashes = s.boot.rowHashes) (hmin : t.boot.secMin = s.boot.secMin)
    (hslots : ∀ k, SlotMoves k (s.slot k) (t.slot k)) (hmem : t.mem.user = [] ∧ t.mem.host = s.mem.host ∧ t.mem.bar2 = []) :
    Moves s t := by
  obtain ⟨huser, hhost, hbar2⟩ := hmem
  exact .of_parts hpending hrows hhashes hmin hslots (fun _ => huser ▸ rfl) (fun h => hhost ▸ h) fun _ => hbar2 ▸ rfl

theorem porst_moves (cause detail : Nat) (s : State) : Moves s (s.porst cause detail) := by
  have hboot := boot_porst s cause detail
  have hrest : (s.porst cause detail).pending = s.pending ∧ (s.porst cause detail).mem = { host := s.mem.host } := by
    simp only [porst, logReset_releaseToken]
    exact ⟨rfl, rfl⟩
  refine moves_of_reset hrest.1 ((congrArg Boot.rows hboot).trans rfl) ((congrArg Boot.rowHashes hboot).trans rfl)
    ((congrArg Boot.secMin hboot).trans rfl)
    (mapSlots_moves (f := KeySlot.afterPorst) (fun _ => ⟨rfl, rfl⟩) (fun _ => rfl) ((congrArg Boot.slots hboot).trans rfl)) ?_
  rw [hrest.2]
  exact ⟨rfl, rfl, rfl⟩

theorem rstPin_moves (s : State) : Moves s s.rstPin := by
  unfold rstPin
  extract_lets s1 n
  have hlog : Moves s s1 := .of_lasting (by simp [s1])
  refine .lasting (hlog.trans ?_) (lasting_followThrottle _)
  refine moves_of_reset rfl rfl rfl rfl ?_ ⟨rfl, rfl, rfl⟩
  exact mapSlots_moves (f := KeySlot.afterRstN) (fun _ => ⟨rfl, rfl⟩) (fun _ => rfl) rfl

theorem enterSleep_moves (s : State) : Moves s s.enterSleep := by
  unfold enterSleep
  extract_lets s1 s2 n p quiet
  have hlasting : s2.lasting = s.lasting := by
    unfold s2
    split
    case isTrue => exact lasting_releaseToken s
    case isFalse => exact (lasting_linkStop _ _).trans (lasting_releaseToken s)
  refine .lasting (.lasting (.trans (.of_lasting hlasting) ?_) (lasting_powerDown _)) (lasting_railsOff _)
  exact moves_of_reset rfl rfl rfl rfl (fun k => .refl k _) ⟨rfl, rfl, rfl⟩

theorem fall_moves (cause detail wait : Nat) (s : State) : Moves s (s.fall cause detail wait) := by
  unfold fall
  extract_lets s1
  have hdown : Moves s { s1 with power := { s1.power with state := .down, retryAt := s1.time.ticks + wait } } :=
    (porst_moves cause detail s).lasting rfl
  exact .lasting (.lasting hdown (lasting_powerDown _)) (lasting_railsOff _)

theorem warmReset_moves (cause detail : Nat) (s : State) : Moves s (s.warmReset cause detail) := by
  unfold warmReset
  extract_lets s1 s2 s3 g b q bank group p alone power n
  have hlast1 : s1.lasting = s.lasting := by simp [s1]
  have hlast2 : s2.lasting = s.lasting := by
    unfold s2
    split
    case isTrue => exact hlast1
    case isFalse => exact hlast1
  have hlasting : s3.lasting = s.lasting := by simp [s3, hlast2]
  have hkept : Moves s3 n := .of_parts rfl rfl rfl rfl (fun k => .refl k _) (fun h => h) (fun h => h) fun _ => rfl
  exact .lasting (.trans (.of_lasting hlasting) hkept) (lasting_setServo _ n)

theorem writeRstCtrl_moves (v : Word) (s : State) : Moves s (s.writeRstCtrl v) :=
  .ite (.refl s) (.ite (porst_moves _ _ s) (.ite (warmReset_moves _ _ s) (.refl s)))

theorem pcieReset_moves (detail : Nat) (s : State) : Moves s (s.pcieReset detail) :=
  .ite (warmReset_moves _ _ s) (.refl s)

theorem bootFound_moves (b : BootReport) (s : State) : Moves s (s.bootFound b) := by
  unfold bootFound
  extract_lets o flash full info download board mv aux s1 s2 m time bench gal power t
  have hfound : Moves s s2 := .trans (t := s1) (.of_steady rfl) (.of_lasting (lasting_readToken _ _))
  have hfull : Moves s t := hfound.trans (.of_lasting rfl)
  exact .ite (.ite hfull (hfull.trans (.of_lasting (lasting_replacePorts _ _)))) hfound

end State

end Sys2Proof.Machine

/-! One-time programmable memory over the mailbox commands, whatever contract they follow: the effect of each body moves it
forward, and the path from a doorbell to a response leaves it alone (R46, R55, R72). -/

namespace Sys2Proof.Machine

/-! ### The effect of a command -/

/-- Whatever state a command's effect reaches, the given one moved to it. -/
def Verdict.Leads (s : State) : Verdict → Prop
  | .fail _ _ => True
  | .done t _ => Moves s t
  | .wait t => Moves s t

/-- Whatever state a command's effect reaches, what lasts is that of the given one. -/
def Verdict.Lasts (s : State) : Verdict → Prop
  | .fail _ _ => True
  | .done t _ => t.lasting = s.lasting
  | .wait t => t.lasting = s.lasting

@[simp] theorem Verdict.lasts_failWith (s : State) (k : Nat) : (failWith k).Lasts s := trivial
@[simp] theorem Verdict.lasts_fail (s : State) (k : Nat) (p : Bytes) : (Verdict.fail k p).Lasts s := trivial
@[simp] theorem Verdict.lasts_okay (s t : State) : (okay t).Lasts s ↔ t.lasting = s.lasting := .rfl
@[simp] theorem Verdict.lasts_answer (s t : State) (p : Bytes) : (answer t p).Lasts s ↔ t.lasting = s.lasting := .rfl
@[simp] theorem Verdict.lasts_done (s t : State) (rep : Reply) : (Verdict.done t rep).Lasts s ↔ t.lasting = s.lasting := .rfl
@[simp] theorem Verdict.lasts_wait (s t : State) : (Verdict.wait t).Lasts s ↔ t.lasting = s.lasting := .rfl

theorem Verdict.Lasts.leads {s : State} {v : Verdict} (h : v.Lasts s) : v.Leads s :=
  match v with
  | .fail _ _ => trivial
  | .done _ _ => .of_lasting h
  | .wait _ => .of_lasting h

theorem Verdict.Leads.ite {p : Prop} [Decidable p] {s : State} {u v : Verdict} (hu : p → u.Leads s) (hv : ¬ p → v.Leads s) :
    (if p then u else v).Leads s := by
  split
  case isTrue h => exact hu h
  case isFalse h => exact hv h

/-- A check that fails changes nothing. -/
theorem Verdict.Leads.check {p : Prop} [Decidable p] {s : State} {k : Nat} {v : Verdict} (hv : ¬ p → v.Leads s) :
    (if p then failWith k else v).Leads s := .ite (fun _ => trivial) hv

/-- A contract whose effect moves every state forward. -/
def Contract.Leads (c : Contract) : Prop := ∀ s mb r, (c.body s mb r).Leads s

theorem Contract.Leads.apply {c : Contract} (h : c.Leads) (s : State) (mb : Fin 8) (r : Req) : (c.apply s mb r).Leads s := by
  unfold Contract.apply
  extract_lets k
  repeat' split
  case isFalse => exact h s mb r
  all_goals trivial

/-! ### The contracts that move key slots or rows (R61, R527, R529) -/

theorem sessionProve_leads : sessionProve.Leads := fun s mb r => by
  simp only [sessionProve]
  repeat' split
  case h_1 => exact .of_lasting rfl
  case h_2.isTrue => trivial
  case h_2.isFalse.isTrue => exact .trans (.of_lasting (State.lasting_setBox _ _ s)) (State.setSlot_moves (.of_same rfl rfl))
  case h_2.isFalse.isFalse => exact .trans (.of_lasting (State.lasting_setBox _ _ s)) (State.failProof_moves _ _)

theorem keyWrite_leads : keyWrite.Leads := fun s mb r => by
  simp only [keyWrite]
  refine .check fun _ => .check fun hopen => State.changeKey_moves ?_ 1
  by_cases hk : field r.payload 0 1 ≤ 7
  · have hblank : (s.slot (field r.payload 0 1)).blank = true := by simpa [hk] using hopen
    exact .of_blank hblank rfl
  · exact .of_volatile (Nat.lt_of_not_le hk) (.inl rfl)

theorem keyLock_leads : keyLock.Leads := fun s mb r => by
  simp only [keyLock]
  refine .check fun _ => .check fun hside => .ite (fun hrevoke => .check fun _ => State.changeKey_moves ?_ 4) fun hother => ?_
  · have hk : field r.payload 0 1 ≤ 7 := by simpa [hrevoke] using hside
    exact .of_revoked (Nat.lt_succ_of_le hk) rfl rfl
  · have hk : 8 ≤ field r.payload 0 1 := by
      have hnot : ¬ field r.payload 0 1 ≤ 7 := by simpa [beq_eq_false_iff_ne.mpr hother] using hside
      exact Nat.lt_of_not_le hnot
    refine .ite (fun _ => .ite (fun _ => .refl s) fun _ => .trans (State.setSlot_moves ?_) (State.keyChanged_moves _ _ _ _))
      fun _ => .check fun _ => .ite (fun _ => .refl s) fun _ => State.changeKey_moves ?_ 3
    · exact .of_same rfl rfl
    · exact .of_volatile hk (.inl rfl)

/-- Fuses of the image-key rows and of the security minimum that move forward (R524, R527). -/
theorem Moves.of_fuses {s : State} {b : Boot} (hslots : b.slots = s.boot.slots) (hlength : b.rows.length = s.boot.rows.length)
    (hrow : ∀ v ∈ b.rows, v ∈ s.boot.rows ∨ v ≤ 2) (hrows : ∀ x, s.boot.rows.getD x 0 ≤ b.rows.getD x 0)
    (hhash : ∀ x, s.boot.rows.getD (x + 1) 0 ≠ 0 → b.rowHashes[x]? = s.boot.rowHashes[x]?)
    (hmin : s.boot.secMin ≤ b.secMin) (hmax : b.secMin = s.boot.secMin ∨ b.secMin ≤ 63) : Moves s { s with boot := b } := by
  have hslot (k : Nat) : State.slot { s with boot := b } k = s.slot k :=
    congrArg (fun v : Vector KeySlot 16 => v[k]?.getD {}) hslots
  refine { pending := rfl, otp := fun hs => ⟨?_, ?_⟩, user := id, host := id, bar2 := id }
  · exact { rows := hlength.trans hs.rows, row := fun v hv => (hrow v hv).elim (hs.row v) id
            minimum := hmax.elim (fun h => h ▸ hs.minimum) id, revoked := fun k hk => hslot k ▸ hs.revoked k (hslot k ▸ hk) }
  · exact { row := hrows, hash := hhash, minimum := hmin, revoked := fun k hk => by rw [hslot]; exact hk
            key := fun k _ _ => .inl (by rw [hslot]) }

/-- Setting one entry of a list that held less. -/
theorem getD_le_getD_set {l : List Nat} {x v : Nat} (h : l.getD x 0 ≤ v) (j : Nat) : l.getD j 0 ≤ (l.set x v).getD j 0 := by
  simp only [List.getD_eq_getElem?_getD, List.getElem?_set] at h ⊢
  split
  case isTrue hj =>
    subst hj
    split
    case isTrue => exact h
    case isFalse hout => simp [List.getElem?_eq_none (Nat.not_lt.mp hout)]
  case isFalse => exact Nat.le_refl _

/-- A blank row is programmed with its hash. -/
theorem State.programRow_moves {s : State} {x : Nat} (hx : 1 ≤ x) (hblank : s.boot.rows.getD x 0 = 0) (hash : Bytes) : Moves s
    { s with boot := { s.boot with rows := s.boot.rows.set x 1, rowHashes := s.boot.rowHashes.set (x - 1) hash } } := by
  refine .of_fuses rfl List.length_set (fun v hv => ?_) (getD_le_getD_set (by omega)) (fun j hj => ?_) (Nat.le_refl _) (.inl rfl)
  · exact (List.mem_or_eq_of_mem_set hv).imp_right fun h => by omega
  · have hne : x - 1 ≠ j := fun h => hj (by rw [← h, Nat.sub_add_cancel hx, hblank])
    exact List.getElem?_set_ne hne

/-- A programmed row is revoked. -/
theorem State.revokeRow_moves {s : State} {x : Nat} (hset : s.boot.rows.getD x 0 = 1) :
    Moves s { s with boot := { s.boot with rows := s.boot.rows.set x 2 } } := by
  refine .of_fuses rfl List.length_set (fun v hv => ?_) (getD_le_getD_set (by omega)) (fun _ _ => rfl) (Nat.le_refl _) (.inl rfl)
  exact (List.mem_or_eq_of_mem_set hv).imp_right fun h => by omega

theorem State.raiseMinimum_moves {s : State} {x : Nat} (hmin : s.boot.secMin ≤ x) (hmax : x ≤ 63) :
    Moves s { s with boot := { s.boot with secMin := x } } :=
  .of_fuses rfl rfl (fun _ => .inl) (fun _ => Nat.le_refl _) (fun _ _ => rfl) hmin (.inr hmax)

theorem keyFuse_leads : keyFuse.Leads := fun s mb r => by
  simp only [keyFuse]
  refine .check fun hlegal => ?_
  have hrange : 1 ≤ field r.payload 1 1 ∧ field r.payload 1 1 ≤ 63 := by
    simp only [Bool.not_eq_true, Bool.not_eq_false'] at hlegal
    split at hlegal
    all_goals
      simp only [Bool.and_eq_true, decide_eq_true_eq] at hlegal
      omega
  refine .check fun _ => .ite (fun _ => .check fun hblank => ?_) fun _ =>
    .ite (fun _ => .check fun hset => ?_) fun _ => .check fun hmin => .check fun _ => ?_
  · exact (State.programRow_moves hrange.1 (not_not.mp hblank) _).trans (State.keyChanged_moves _ _ _ _)
  · exact (State.revokeRow_moves (not_not.mp hset)).trans (State.keyChanged_moves _ _ _ _)
  · exact (State.raiseMinimum_moves (by omega) hrange.2).trans (State.keyChanged_moves _ _ _ _)

theorem fwStage_leads : fwStage.Leads := fun s mb r => by
  simp only [fwStage]
  exact .check fun _ => .check fun _ => .check fun _ => .of_steady rfl

theorem fwActivate_leads : fwActivate.Leads := fun s mb r => by
  simp only [fwActivate]
  refine .ite (fun _ => .check fun _ => .check fun _ => .refl s) fun _ => .check fun _ => .check fun _ => ?_
  exact State.activateStaged_moves s

/-! ### The other contracts -/

/-- ASH_CTX_SAVE writes the image of a context (R418). -/
theorem ashCtxSave_leads : ashCtxSave.Leads := fun s mb r => by
  simp only [ashCtxSave]
  exact .check fun _ => State.haulWrite_moves _ _ _ _ s

theorem sysContracts_lead : ∀ c ∈ [sysGetId, sessionOpen, sessionProve, sessionClose, sysCapacity], c.Leads := by
  simp only [List.forall_mem_cons, List.not_mem_nil, false_imp_iff, implies_true, and_true]
  refine ⟨?_, ?_, sessionProve_leads, ?_, ?_⟩
  all_goals
    intro s mb r
    simp only [sysGetId, sessionOpen, sessionClose, sysCapacity]
    refine Verdict.Lasts.leads ?_
    repeat' split
    all_goals simp

theorem eventContracts_lead : ∀ c ∈ [evtSourceSet, evtLatchRead, evtLatchClear], c.Leads := by
  simp only [List.forall_mem_cons, List.not_mem_nil, false_imp_iff, implies_true, and_true]
  refine ⟨?_, ?_, ?_⟩
  all_goals
    intro s mb r
    simp only [evtSourceSet, evtLatchRead, evtLatchClear]
    refine Verdict.Lasts.leads ?_
    repeat' split
    all_goals simp

theorem nodeContracts_lead :
    ∀ c ∈ [nodeCreate, nodeDestroy, nodeSet, nodeGet, nodeConnect, nodeDisconnect, nodeEnable, nodeDisable], c.Leads := by
  simp only [List.forall_mem_cons, List.not_mem_nil, false_imp_iff, implies_true, and_true]
  refine ⟨?_, ?_, ?_, ?_, ?_, ?_, ?_, ?_⟩
  all_goals
    intro s mb r
    simp only [nodeCreate, nodeDestroy, nodeSet, nodeGet, nodeConnect, nodeDisconnect, nodeEnable, nodeDisable]
    refine Verdict.Lasts.leads ?_
    repeat' split
    all_goals simp

theorem slabContracts_lead : ∀ c ∈ [slabOpen, slabWrite, slabCommit, slabAbort], c.Leads := by
  simp only [List.forall_mem_cons, List.not_mem_nil, false_imp_iff, implies_true, and_true]
  refine ⟨?_, ?_, ?_, ?_⟩
  all_goals
    intro s mb r
    simp only [slabOpen, slabWrite, slabCommit, slabAbort]
    refine Verdict.Lasts.leads ?_
    repeat' split
    all_goals simp

theorem timeContracts_lead :
    ∀ c ∈ [timeSchedule, timeCancel, timeGet, timeConfig, timePortSet, timeSet, timePinSet], c.Leads := by
  simp only [List.forall_mem_cons, List.not_mem_nil, false_imp_iff, implies_true, and_true]
  refine ⟨?_, ?_, ?_, ?_, ?_, ?_, ?_⟩
  all_goals
    intro s mb r
    simp only [timeSchedule, timeCancel, timeGet, timeConfig, timePortSet, timeSet, timePinSet]
    refine Verdict.Lasts.leads ?_
    repeat' split
    all_goals simp

theorem mixerContracts_lead : ∀ c ∈ [feResync, galXpWrite, galXpBulk, galXpRead, galProfileSet, galStatus], c.Leads := by
  simp only [List.forall_mem_cons, List.not_mem_nil, false_imp_iff, implies_true, and_true]
  refine ⟨?_, ?_, ?_, ?_, ?_, ?_⟩
  all_goals
    intro s mb r
    simp only [feResync, galXpWrite, galXpBulk, galXpRead, galProfileSet, galStatus]
    refine Verdict.Lasts.leads ?_
    repeat' split
    all_goals simp

theorem rendererContracts_lead :
    ∀ c ∈ [renConfig, renPosBatch, renPosQueue, renFootprintRead, spkBankLoad, spkBankRead, spkBankClear], c.Leads := by
  simp only [List.forall_mem_cons, List.not_mem_nil, false_imp_iff, implies_true, and_true]
  refine ⟨?_, ?_, ?_, ?_, ?_, ?_, ?_⟩
  all_goals
    intro s mb r
    simp only [renConfig, renPosBatch, renPosQueue, renFootprintRead, spkBankLoad, spkBankRead, spkBankClear]
    refine Verdict.Lasts.leads ?_
    repeat' split
    all_goals simp

theorem captureContracts_lead : ∀ c ∈ [capLocatorConfig, capLocatorRead, capAecReset, capAecStatus], c.Leads := by
  simp only [List.forall_mem_cons, List.not_mem_nil, false_imp_iff, implies_true, and_true]
  refine ⟨?_, ?_, ?_, ?_⟩
  all_goals
    intro s mb r
    simp only [capLocatorConfig, capLocatorRead, capAecReset, capAecStatus]
    refine Verdict.Lasts.leads ?_
    repeat' split
    all_goals simp

theorem streamContracts_lead :
    ∀ c ∈ [ethIfSet, streamKeySet, streamStats, ethCounters, voiceDigitSend, voiceDigitCancel, voiceLecReset], c.Leads := by
  simp only [List.forall_mem_cons, List.not_mem_nil, false_imp_iff, implies_true, and_true]
  refine ⟨?_, ?_, ?_, ?_, ?_, ?_, ?_⟩
  all_goals
    intro s mb r
    simp only [ethIfSet, streamKeySet, streamStats, ethCounters, voiceDigitSend, voiceDigitCancel, voiceLecReset]
    refine Verdict.Lasts.leads ?_
    repeat' split
    all_goals simp

theorem memoryContracts_lead :
    ∀ c ∈ [krnImageLoad, krnImageClear, krnImageInfo, queueConfig,
      queueStatus, haulSubmit, memInfo, ashJob, ashCtxSave, ashCtxRestore], c.Leads := by
  simp only [List.forall_mem_cons, List.not_mem_nil, false_imp_iff, implies_true, and_true]
  refine ⟨?_, ?_, ?_, ?_, ?_, ?_, ?_, ?_, ashCtxSave_leads, ?_⟩
  all_goals
    intro s mb r
    simp only [krnImageLoad, krnImageClear, krnImageInfo, queueConfig, queueStatus, haulSubmit, memInfo, ashJob, ashCtxRestore]
    refine Verdict.Lasts.leads ?_
    repeat' split
    all_goals simp

theorem linkContracts_lead : ∀ c ∈ [linkPower, linkTest, linkCounters, pairStatus, pairConfig, pairSwitch], c.Leads := by
  simp only [List.forall_mem_cons, List.not_mem_nil, false_imp_iff, implies_true, and_true]
  refine ⟨?_, ?_, ?_, ?_, ?_, ?_⟩
  all_goals
    intro s mb r
    simp only [linkPower, linkTest, linkCounters, pairStatus, pairConfig, pairSwitch]
    refine Verdict.Lasts.leads ?_
    repeat' split
    all_goals simp

theorem powerContracts_lead : ∀ c ∈ [pwrState, pwrThrottle, faultStatus, faultRestore, faultInject], c.Leads := by
  simp only [List.forall_mem_cons, List.not_mem_nil, false_imp_iff, implies_true, and_true]
  refine ⟨?_, ?_, ?_, ?_, ?_⟩
  all_goals
    intro s mb r
    simp only [pwrState, pwrThrottle, faultStatus, faultRestore, faultInject]
    refine Verdict.Lasts.leads ?_
    repeat' split
    all_goals simp

theorem keyContracts_lead : ∀ c ∈ [keyWrite, keyLock, keyFuse, keyInfo, fwStage, fwActivate], c.Leads := by
  simp only [List.forall_mem_cons, List.not_mem_nil, false_imp_iff, implies_true, and_true]
  exact ⟨keyWrite_leads, keyLock_leads, keyFuse_leads, fun s _ _ => .refl s, fwStage_leads, fwActivate_leads⟩

theorem allContracts_lead : ∀ c ∈ allContracts, c.Leads := by
  have hchapters := List.forall_mem_append.mpr ⟨sysContracts_lead, List.forall_mem_append.mpr ⟨eventContracts_lead,
    List.forall_mem_append.mpr ⟨nodeContracts_lead, List.forall_mem_append.mpr ⟨slabContracts_lead,
    List.forall_mem_append.mpr ⟨timeContracts_lead, List.forall_mem_append.mpr ⟨mixerContracts_lead,
    List.forall_mem_append.mpr ⟨rendererContracts_lead, List.forall_mem_append.mpr ⟨captureContracts_lead,
    List.forall_mem_append.mpr ⟨streamContracts_lead, List.forall_mem_append.mpr ⟨memoryContracts_lead,
    List.forall_mem_append.mpr ⟨linkContracts_lead, List.forall_mem_append.mpr ⟨powerContracts_lead, keyContracts_lead⟩⟩⟩⟩⟩⟩⟩⟩⟩⟩⟩⟩
  exact hchapters

theorem contractOf_leads {op : Nat} {c : Contract} (h : contractOf op = some c) : c.Leads :=
  allContracts_lead c (List.mem_of_find?_eq_some h)

/-! ### From the doorbell to the response (R46, R55, R71) -/

section Path

variable {c : Contract} (hc : c.Leads) (mb : Fin 8) (r : Req)

include hc

theorem Contract.Leads.settle_moves (opened : Bool) (s : State) : Moves s (c.settle mb r opened s) := by
  have happly := hc.apply s mb r
  unfold Contract.settle
  split
  case h_1 => exact .of_lasting (State.lasting_finish _ _ _ _ _ _ _ _)
  case h_2 t rep heq =>
    rw [heq] at happly
    exact .lasting happly (by simp)
  case h_3 t heq =>
    rw [heq] at happly
    exact .lasting happly (by simp)

theorem Contract.Leads.checked_moves (s : State) : Moves s (c.checked mb r s) := by
  unfold Contract.checked
  extract_lets b opened out early fresh
  have hout (tagged : Bool) (k : Nat) : Moves s (out tagged k) := .of_lasting (State.lasting_finish _ _ _ _ _ _ _ _)
  have hfresh : Moves s fresh := .ite (hout _ _) (.ite (.of_lasting rfl) (hc.settle_moves mb r opened s))
  repeat' split
  case isTrue => exact hout _ _
  case isFalse.isTrue => exact hout _ _
  case h_1.isTrue => exact .of_lasting (State.lasting_deliver _ _ s)
  case h_1.isFalse => exact hout _ _
  all_goals exact hfresh

end Path

theorem State.doorbell_moves (op : Nat) (mb : Fin 8) {k : State → State} (hk : ∀ s, Moves s (k s)) (s : State) :
    Moves s (s.doorbell op mb k) := by
  refine .ite (.refl s) (.ite (.of_lasting (by simp)) (.ite (.of_lasting (lasting_setBox _ _ s)) ?_))
  exact .trans (.of_lasting ((lasting_accept _ _ _).trans (lasting_note _ s))) (hk _)

/-- What a mailbox command does to the state. -/
theorem Contract.Leads.command_moves {c : Contract} (hc : c.Leads) (mb : Fin 8) (r : Req) (s : State) : Moves s
    (s.doorbell c.opcode mb fun s =>
      if 8176 < r.payload.length then s.finish c.opcode mb r ((s.box mb).sess == .opened) false Err.length {}
      else c.checked mb r s) :=
  State.doorbell_moves _ _ (fun _ => .ite (.of_lasting (State.lasting_finish _ _ _ _ _ _ _ _)) (hc.checked_moves mb r _)) s

theorem State.ring_moves (mb : Nat) (v : Word) (s : State) : Moves s (s.ring mb v) := by
  unfold ring
  extract_lets length
  split
  next op hdr r _ =>
  split
  case isFalse => exact .refl s
  case isTrue =>
    refine doorbell_moves _ _ (fun t => ?_) s
    split
    case h_1 c _ hc => exact (contractOf_leads hc).checked_moves _ _ t
    case h_2 => exact .of_lasting (lasting_finish _ _ _ _ _ _ _ _)

end Sys2Proof.Machine

/-! One-time programmable memory over everything the block does: the standby that follows its primary, the register writes, and
each command of the table; and the invariant of the block, assembled from them (R524, R527). -/

namespace Sys2Proof.Machine

namespace State

/-! ### Records on the standby (R458 to R462) -/

/-- A command applied with the primary's bulk window leaves the standby's own. -/
theorem asPrimary_moves (c : Mirrored) {f : State → State} (hf : ∀ s, Moves s (f s)) (s : State) :
    Moves s (s.asPrimary c f) := by
  unfold asPrimary
  extract_lets t u
  obtain ⟨hpending, hotp, huser, hhost, -⟩ := hf { s with
    time := { t with block := c.block, pos := c.pos, net := c.net }, free := c.draws, mem := { s.mem with bar2 := c.bulk } }
  refine { pending := hpending, otp := fun hs => ?_, user := huser, host := hhost, bar2 := fun h => h }
  obtain ⟨⟨hrows, hrow, hmin, hrevoked⟩, hforward⟩ := hotp ⟨hs.rows, hs.row, hs.minimum, hs.revoked⟩
  exact ⟨⟨hrows, hrow, hmin, hrevoked⟩, ⟨hforward.row, hforward.hash, hforward.minimum, hforward.revoked, hforward.key⟩⟩

theorem applyMirrored_moves (c : Mirrored) (s : State) : Moves s (s.applyMirrored c) := by
  unfold applyMirrored
  split
  case h_1 => exact .refl s
  case h_2 k hk =>
    refine asPrimary_moves c (fun t => ?_) s
    have happly := (contractOf_leads hk).apply t c.mb c.r
    split
    case h_1 => exact .refl t
    case h_2 u rep heq => exact (heq ▸ happly : (Verdict.done u rep).Leads t)
    case h_3 u heq => exact (heq ▸ happly : (Verdict.wait u).Leads t)

theorem follow_moves (s : State) (d : Decision) : Moves s (s.follow d) := by
  cases d
  case command c => exact applyMirrored_moves c s
  case expired x => exact expire_moves x s
  all_goals exact .of_lasting (by simp [follow])

theorem applyRecords_moves (s : State) : Moves s s.applyRecords := by
  unfold applyRecords
  extract_lets p n due s1
  split
  case isTrue =>
    have hrest : Moves s s1 := .of_lasting rfl
    exact .lasting (hrest.trans (.foldl follow_moves _ s1)) (lasting_settleEvents _)
  case isFalse => exact .refl s

theorem strobe_moves (io : BlockIn) (s : State) : Moves s (s.strobe io) :=
  .lasting (.trans (.of_lasting (lasting_reach _ s)) (applyRecords_moves _))
    ((lasting_sendCut _).trans ((lasting_beginBlock io _).trans ((lasting_swapBlocks _).trans (lasting_endBlock io _))))

theorem idle_moves (s : State) : Moves s s.idle := by
  unfold idle
  split
  case h_1 io rest _ =>
    have hrest : Moves s { s with pair := { s.pair with stored := rest } } := .of_lasting rfl
    exact .ite (hrest.trans (strobe_moves io _)) (.refl s)
  case h_2 => exact .refl s

/-- The state cut of a join leaves the standby's own keys, and brings the user region in canonical form (R457). -/
theorem loadCut_moves (c : Cut) (s : State) : Moves s (s.loadCut c) := by
  refine .of_parts rfl rfl rfl rfl (fun k => ?_) (fun _ => Mem.ofCells_wf _) (fun h => h) fun h => h
  by_cases hk : k < 16
  · have hslot : (s.loadCut c).slot k = (s.slot k).loadFrom ((s.time.ticks : Int) - c.ticks) c.slots[k] := by
      simp [slot, loadCut, hk]
    rw [hslot]
    exact .of_same rfl rfl
  · have hout (u : State) : u.slot k = {} := by simp [slot, hk]
    rw [hout, hout]
    exact .refl k _

theorem pairReceive_moves (x : PairPayload) (s : State) : Moves s (s.pairReceive x) := by
  cases x
  case cut n c =>
    simp only [pairReceive]
    split
    case isTrue =>
      have hcount : Moves s { s with pair := { s.pair with joinBytes := s.pair.joinBytes + n } } := .of_lasting rfl
      split
      case h_1 => exact hcount.trans (loadCut_moves _ _)
      case h_2 => exact hcount
    case isFalse => exact .refl s
  all_goals
    simp only [pairReceive]
    repeat' split
    all_goals exact .of_lasting (by simp)

/-! ### Register writes (R534, R537 to R551) -/

theorem writeBoot_moves (off : Nat) (v : Word) (s : State) : Moves s (s.writeBoot off v) := by
  unfold writeBoot
  repeat' split
  case isFalse.isFalse.isTrue => exact writeDlCtrl_moves v s
  case isFalse.isFalse.isFalse.isFalse.isTrue => exact writeKeyCtrl_moves v s
  all_goals exact .of_steady rfl

theorem writeMailbox_moves (n off : Nat) (v : Word) (s : State) : Moves s (s.writeMailbox n off v) :=
  .ite (ring_moves n v s) (.of_lasting (by simp))

theorem writeReg_moves (viaQspi : Bool) (off : Nat) (v : Word) (s : State) : Moves s (s.writeReg viaQspi off v) := by
  unfold writeReg
  extract_lets b
  split
  case isTrue => exact .of_lasting (by simp)
  case isFalse =>
    cases b
    case reset => exact .ite (writeRstCtrl_moves v s) (.of_lasting (by simp))
    case boot => exact writeBoot_moves off v s
    case mailbox n => exact writeMailbox_moves n off v s
    all_goals exact .of_lasting (by simp)

theorem writeUnit_moves (viaQspi only : Bool) (bytes : List (Nat × Byte)) (s : State) (off : Nat) :
    Moves s (s.writeUnit viaQspi only bytes off) := by
  unfold writeUnit
  extract_lets got b
  exact .ite (.refl s) (.ite (writeReg_moves _ _ _ s) (.of_lasting (by simp)))

theorem writePair64_moves (viaQspi only : Bool) (bytes : List (Nat × Byte)) (s : State) (off : Nat) :
    Moves s (s.writePair64 viaQspi only bytes off) := by
  unfold writePair64
  extract_lets got
  refine .ite (.of_lasting (by simp)) ?_
  exact (writeUnit_moves _ _ _ s off).trans (writeUnit_moves _ _ _ _ _)

theorem writeBar0_moves (viaQspi only : Bool) (bytes : List (Nat × Byte)) (s : State) :
    Moves s (s.writeBar0 viaQspi only bytes) := .foldl (writePair64_moves viaQspi only bytes) _ s

theorem writeBar2_moves (s : State) (x : Nat × Byte) : Moves s (s.writeBar2 x) := by
  unfold writeBar2
  refine .ite (.ite (.refl s) ?_) (.of_lasting (by simp))
  exact moves_of_memory rfl rfl (fun h => h) (fun h => h) fun h => Mem.writeBytes_wf h _ _

/-! ### Packets of the position queue (R237) -/

theorem lasting_drainPositions (q n : Nat) (s : State) : (drainPositions q n s).lasting = s.lasting := by
  induction n generalizing s with
  | zero => rfl
  | succ n ih =>
    simp only [drainPositions]
    split
    case h_1 p t heq =>
      have hpop := lasting_popPacket heq
      split
      case isTrue => exact (ih _).trans hpop
      case isFalse => exact lasting_of_ite rfl ((ih _).trans (by simp [hpop]))
    case h_2 => rfl

theorem lasting_alignedAt {n : Nat} {s t : State} (h : alignedAt n s = some t) : t.lasting = s.lasting := by
  induction n generalizing s with
  | zero =>
    simp only [alignedAt] at h
    split at h
    case isTrue => exact congrArg lasting (Option.some.inj h).symm
    case isFalse => exact absurd h nofun
  | succ n ih =>
    simp only [alignedAt] at h
    split at h
    case isTrue => exact congrArg lasting (Option.some.inj h).symm
    case isFalse => exact (ih h).trans (lasting_sampleStep s)

end State

end Sys2Proof.Machine

/-! One-time programmable memory over each command of the table, and the invariant of the block (R524, R527). -/

namespace Sys2Proof.Machine

/-- Whatever next state a command reaches, the given one moved to it. -/
def Leads (s : State) (o : Host.Outcome State Fault Refusal) : Prop := ∀ t, o = .next t → Moves s t

theorem Leads.next {s t : State} (h : Moves s t) : Leads s (.next t) := fun _ ht => Host.Outcome.next.inj ht ▸ h

/-- A command that leaves what lasts. -/
theorem Leads.of_lasting {s t : State} (h : t.lasting = s.lasting) : Leads s (.next t) := .next (.of_lasting h)

/-! ### Commands that reach one-time programmable memory or a memory -/

theorem runCommand_leads {c : Contract} (hc : c ∈ allContracts) (mb : Fin 8) (r : Req) (s : State) :
    Leads s (runCommand c mb r s) := .next ((allContracts_lead c hc).command_moves mb r s)

theorem execMbxDoorbell_leads (mb : Fin 8) (length : Nat) (opcode : BitVec 16) (hdrLength : Nat) (r : Req) (s : State) :
    Leads s (execMbxDoorbell mb length opcode hdrLength r s) := by
  unfold execMbxDoorbell
  extract_lets k
  split
  case isTrue => exact .next (.refl s)
  case isFalse => exact .next (State.doorbell_moves _ _ (fun _ => .of_lasting (State.lasting_finish _ _ _ _ _ _ _ _)) s)

theorem execDeferredCommandApply_leads (s : State) : Leads s (execDeferredCommandApply s) := by
  unfold execDeferredCommandApply
  split
  case h_1 => exact .next (.refl s)
  case h_2 w rest _ =>
    have hrest : Moves s { s with deferred := rest } := .of_lasting rfl
    split
    case h_1 c hc _ =>
      split
      case isTrue => exact .next (hrest.trans ((contractOf_leads hc).settle_moves _ _ _ _))
      case isFalse => exact .next hrest
    case h_2 => exact .next (.refl s)

theorem execRingRecordWrite_leads (s : State) : Leads s (execRingRecordWrite s) := by
  unfold execRingRecordWrite
  repeat' split
  case h_1.isTrue e _ _ => exact .next (.lasting (State.putRecord_moves e s) (by simp))
  all_goals exact .next (.refl s)

theorem execWindowCopyToHost_leads (q : Fin 16) (s : State) : Leads s (execWindowCopyToHost q s) := by
  unfold execWindowCopyToHost
  extract_lets h
  split
  case h_1 mb off len p _ _ _ =>
    extract_lets need poison head s1
    split
    case isTrue =>
      have hput : Moves s s1 := State.ringPut_moves _ _ _ _ _ s
      split
      case h_1 t heq => exact .next (.lasting (.lasting hput (State.lasting_popPacket heq)) (by simp))
      case h_2 => exact .next hput
    case isFalse => exact .next (.refl s)
  case h_2 => exact .next (.refl s)

theorem execHaulComplete_leads (mb : Fin 8) (s : State) : Leads s (execHaulComplete mb s) := by
  unfold execHaulComplete
  split
  case h_1 j _ => exact .next (State.endHaul_moves mb j _ s)
  case h_2 => exact .next (.refl s)

theorem execHaulTimeout_leads (mb : Fin 8) (moved : Nat) (s : State) : Leads s (execHaulTimeout mb moved s) := by
  unfold execHaulTimeout
  split
  case h_1 j _ => exact .next (State.endHaul_moves mb j _ s)
  case h_2 =>
    split
    case h_1 a _ =>
      split
      case h_1 => exact .next (State.endAshJob_moves _ _ _ _ s)
      case h_2 => exact .next (.refl s)
    case h_2 => exact .next (.refl s)

theorem execAshJobComplete_leads (ctx : Nat) (s : State) : Leads s (execAshJobComplete ctx s) := by
  unfold execAshJobComplete
  repeat' split
  case h_1.isTrue => exact .next (State.endAshJob_moves _ _ _ _ s)
  all_goals exact .next (.refl s)

theorem execHostFrameTx_leads (port : Fin 4) (s : State) : Leads s (execHostFrameTx port s) := by
  unfold execHostFrameTx
  extract_lets p q
  split
  case isTrue => exact .next (.refl s)
  case isFalse =>
    split
    case h_1 => exact .next (.refl s)
    case h_2 pkt t heq =>
      have hpop := State.lasting_popPacket heq
      extract_lets b
      repeat' split
      all_goals exact .of_lasting (by simp [hpop])

theorem execLinkPacketRx_leads (p : VcPacket) (s : State) : Leads s (execLinkPacketRx p s) := by
  unfold execLinkPacketRx
  extract_lets v l x x'
  refine .next (.ite ?_ (.refl s))
  split
  case isTrue => exact .of_lasting (by simp)
  case isFalse =>
    split
    case isTrue => exact .of_lasting (by simp)
    case isFalse => exact .trans (.of_lasting (State.lasting_setLink _ s)) (State.pairReceive_moves _ _)

theorem execMediaAligned_leads (s : State) : Leads s (execMediaAligned s) := by
  unfold execMediaAligned
  split
  case h_1 =>
    split
    case h_1 t heq =>
      have haligned : Moves s { t with time := { t.time with residual := none } } :=
        .trans (.of_lasting (State.lasting_alignedAt heq)) (.of_lasting rfl)
      exact .next (.lasting haligned (State.lasting_raise _ _ _ _ _))
    case h_2 => exact .next (.refl s)
  case h_2 => exact .next (.refl s)

theorem execRegisterWrite_leads (a : Access) (s : State) : Leads s (execRegisterWrite a s) := by
  unfold execRegisterWrite
  extract_lets bytes pcie s' win
  split
  case h_1 => exact .next (.ite (.of_lasting (by simp)) (.refl s))
  case h_2 => exact .next (.ite (State.writeBar0_moves _ _ _ s) (.refl s))
  case h_3 => exact .next (.ite (.foldl State.writeBar2_moves _ s) (.refl s))
  case h_4 =>
    split
    case isTrue => exact .next (.refl s)
    case isFalse =>
      have hregs : Moves s s' := State.writeBar0_moves _ _ _ s
      exact .next (.ite hregs (hregs.trans (.foldl State.writeBar2_moves _ s')))

/-! ### Boot and resets -/

theorem State.lasting_withPower (s : State) (p : Power) : State.lasting { s with power := p } = s.lasting := rfl

theorem execDownloadReturn_leads (s : State) : Leads s (execDownloadReturn s) := by
  unfold execDownloadReturn
  repeat' split
  case h_1.isTrue =>
    have hcleared : Moves s { s with boot := { s.boot with dlImage := [], dlReturnAt := none } } := .of_steady rfl
    exact .next (hcleared.trans (State.setCode_moves 3 _))
  all_goals exact .next (.refl s)

theorem execBootStop_leads (code : Byte) (unit : Nat) (s : State) : Leads s (execBootStop code unit s) := by
  unfold execBootStop
  split
  case isTrue =>
    extract_lets detail
    have hdetail : Moves s { s with boot := { s.boot with detail := BitVec.ofNat 32 detail } } := .of_steady rfl
    exact .next (hdetail.trans (State.setCode_moves _ _))
  case isFalse => exact .next (.refl s)

theorem execFwStaged_leads (readBackOk : Bool) (s : State) : Leads s (execFwStaged readBackOk s) := by
  unfold execFwStaged
  extract_lets b info k reason s1
  split
  case isTrue =>
    have hstaged : Moves s s1 := .of_steady rfl
    exact .next (.lasting hstaged (State.lasting_raise _ _ _ _ _))
  case isFalse => exact .next (.refl s)

theorem execDaluoReady_leads (b : BootReport) (s : State) : Leads s (execDaluoReady b s) := by
  unfold execDaluoReady
  split
  case isTrue =>
    extract_lets s1 p at_ s2
    have hfound : Moves s s1 := (State.bootFound_moves b s).trans (State.setCode_moves 7 _)
    exact .next (.lasting hfound (by simp [s2]))
  case isFalse => exact .next (.refl s)

theorem execTrialFallback_leads (b : BootReport) (s : State) : Leads s (execTrialFallback b s) := by
  unfold execTrialFallback
  extract_lets o slot
  split
  case isTrue =>
    refine .next (.trans ?_ (State.setCode_moves 6 _))
    exact .of_steady rfl
  case isFalse => exact .next (.refl s)

theorem execFwActivateReset_leads (s : State) : Leads s (execFwActivateReset s) := by
  unfold execFwActivateReset
  split
  case h_1 => exact .next (.ite (State.warmReset_moves _ _ s) (.refl s))
  case h_2 => exact .next (.refl s)

theorem execPorstN_leads (straps : Straps) (s : State) : Leads s (execPorstN straps s) :=
  .next ((State.porst_moves 2 0 s).trans (.of_steady rfl))

theorem execPmuPgRise_leads (s : State) : Leads s (execPmuPgRise s) := by
  unfold execPmuPgRise
  extract_lets k s1
  split
  case isTrue =>
    have hrails : Moves s s1 := .of_lasting (State.lasting_setRails _ _ s)
    exact .next (.ite (.lasting hrails (State.lasting_startPair _ _)) (hrails.trans (.of_steady rfl)))
  case isFalse => exact .next (.refl s)

theorem execSequencingFailure_leads (s : State) : Leads s (execSequencingFailure s) := by
  unfold execSequencingFailure
  extract_lets k n s1
  split
  case isTrue =>
    have hfall : Moves s s1 := State.fall_moves _ _ _ s
    exact .next (hfall.lasting (State.lasting_withPower s1 _))
  case isFalse => exact .next (.refl s)

theorem execThermalShutdown_leads (sensor : Fin 16) (s : State) : Leads s (execThermalShutdown sensor s) := by
  unfold execThermalShutdown
  extract_lets s1
  split
  case isTrue =>
    have hfall : Moves s s1 := .trans (.of_lasting (by simp)) (State.fall_moves _ _ _ _)
    exact .next (hfall.lasting (State.lasting_withPower s1 _))
  case isFalse => exact .next (.refl s)

theorem execSleepEntry_leads (s : State) : Leads s (execSleepEntry s) := by
  unfold execSleepEntry
  split
  case h_1 => exact .next (.ite (State.enterSleep_moves s) (.refl s))
  case h_2 => exact .next (.refl s)

/-! ### The strobe and the instants inside a block -/

theorem execBlockStrobe_leads (io : BlockIn) (s : State) : Leads s (execBlockStrobe io s) := by
  unfold execBlockStrobe
  repeat' split
  case isTrue => exact .of_lasting rfl
  case isFalse.isTrue => exact .of_lasting (by simp)
  case isFalse.isFalse => exact .next (State.strobe_moves io s)

theorem execPdmValid_leads (mic : Fin 256) (s : State) : Leads s (execPdmValid mic s) := by
  unfold execPdmValid
  split
  case h_1 => exact .of_lasting (State.lasting_instant (fun _ _ => State.lasting_pdmValid _ _ _ _) _ s)
  case h_2 => exact .next (.refl s)

theorem execAecReconverge_leads (beam ref : Nat) (s : State) : Leads s (execAecReconverge beam ref s) := by
  unfold execAecReconverge
  split
  case h_1 => exact .of_lasting (State.lasting_of_ite (State.lasting_instant (fun _ _ => by simp) _ s) rfl)
  case h_2 => exact .next (.refl s)

theorem execPosPacketApply_leads (s : State) : Leads s (execPosPacketApply s) := by
  unfold execPosPacketApply
  split
  case h_1 q _ =>
    extract_lets s1
    have hdrain : Moves s s1 := .ite (.refl s) (.of_lasting (State.lasting_drainPositions _ _ s))
    exact .next (.ite (hdrain.lasting (by simp)) hdrain)
  case h_2 => exact .next (.refl s)

end Sys2Proof.Machine

/-! The invariant of the block, assembled from the commands (R524, R527). -/

namespace Sys2Proof

namespace Machine

theorem exec_leads (i : Instr) (s : State) : Leads s (exec i s) := by
  cases i
  case sysGetId | sessionOpen | sessionProve | sessionClose | sysCapacity | evtSourceSet | evtLatchRead | evtLatchClear |
    nodeCreate | nodeDestroy | nodeSet | nodeGet | nodeConnect | nodeDisconnect | nodeEnable | nodeDisable | slabOpen |
    slabWrite | slabCommit | slabAbort | timeSchedule | timeCancel | timeGet | timeConfig | timePortSet | timeSet |
    timePinSet | feResync | galXpWrite | galXpBulk | galXpRead | galProfileSet | galStatus | renConfig | renPosBatch |
    renPosQueue | renFootprintRead | spkBankLoad | spkBankRead | spkBankClear | capLocatorConfig | capLocatorRead |
    capAecReset | capAecStatus | ethIfSet | streamKeySet | streamStats | ethCounters | voiceDigitSend | voiceDigitCancel |
    voiceLecReset | krnImageLoad | krnImageClear | krnImageInfo | queueConfig | queueStatus | haulSubmit | memInfo | ashJob
    | ashCtxSave | ashCtxRestore | linkPower | linkTest | linkCounters | pairStatus | pairConfig | pairSwitch | pwrState |
    pwrThrottle | faultStatus | faultRestore | faultInject | keyWrite | keyLock | keyFuse | keyInfo | fwStage | fwActivate
    =>
    exact runCommand_leads (by simp only [allContracts, List.mem_append, List.mem_cons, true_or, or_true]) _ _ s
  case nop | endInvocation | br | brz | brnz | loop | trap | add | sub | addi | andS | orS | xorS | shl | shr | sar | mul |
    slt | shli | lds | sts | vld | vst | vldb | vlds | vsts | vadd | vsub | vmul | vand | vor | vxor | vshl | vsar | vmov |
    vbc | vcmplt | vsel | vlane | mac | msu | macs | macm | macmm | aclr | ext | extw | ald | ovfm | satm | smax | smin |
    rmax | rmin | psetb | psetl | pseti | pgeti | padd =>
    exact .of_lasting (State.lasting_instr _ _ _ _ _ s)
  case deferredCommandApply => exact execDeferredCommandApply_leads s
  case registerWrite a => exact execRegisterWrite_leads a s
  case ringRecordWrite => exact execRingRecordWrite_leads s
  case mediaAligned => exact execMediaAligned_leads s
  case hostFrameTx port => exact execHostFrameTx_leads port s
  case haulComplete mb => exact execHaulComplete_leads mb s
  case haulTimeout mb moved => exact execHaulTimeout_leads mb moved s
  case ashJobComplete ctx => exact execAshJobComplete_leads ctx s
  case windowCopyToHost q => exact execWindowCopyToHost_leads q s
  case linkPacketRx p => exact execLinkPacketRx_leads p s
  case porstN straps => exact execPorstN_leads straps s
  case pmuPgRise => exact execPmuPgRise_leads s
  case sequencingFailure => exact execSequencingFailure_leads s
  case thermalShutdown sensor => exact execThermalShutdown_leads sensor s
  case sleepEntry => exact execSleepEntry_leads s
  case daluoReady b => exact execDaluoReady_leads b s
  case trialFallback b => exact execTrialFallback_leads b s
  case downloadReturn => exact execDownloadReturn_leads s
  case fwStaged readBackOk => exact execFwStaged_leads readBackOk s
  case fwActivateReset => exact execFwActivateReset_leads s
  case mbxDoorbell mb length opcode hdrLength r => exact execMbxDoorbell_leads mb length opcode hdrLength r s
  case bootStop code unit => exact execBootStop_leads code unit s
  case rstCtrlWarm v => exact .next (State.writeRstCtrl_moves _ s)
  case rstCtrlFull v => exact .next (State.writeRstCtrl_moves _ s)
  case bootDlGo v => exact .next (State.writeDlCtrl_moves _ s)
  case bootDlFinal v => exact .next (State.writeDlCtrl_moves _ s)
  case bootKeyWrite v => exact .next (State.writeKeyCtrl_moves _ s)
  case bootKeyLock v => exact .next (State.writeKeyCtrl_moves _ s)
  case sessionIdleClosed mb => exact .next (State.runExpiry_moves _ s)
  case openLapse mb => exact .next (State.runExpiry_moves _ s)
  case slotUnlock slot => exact .next (State.runExpiry_moves _ s)
  case blockStrobe io => exact execBlockStrobe_leads io s
  case pdmValid mic => exact execPdmValid_leads mic s
  case aecReconverge beam ref => exact execAecReconverge_leads beam ref s
  case posPacketApply => exact execPosPacketApply_leads s
  case rstN => exact .next (.ite (State.rstPin_moves s) (.refl s))
  case pcieHotReset => exact .next (State.pcieReset_moves 1 s)
  case perst => exact .next (State.pcieReset_moves 2 s)
  case cpWatchdogReset => exact .next (.ite (State.warmReset_moves 10 0 s) (.refl s))
  case brownOut detail => exact .next (.ite (State.fall_moves _ _ _ s) (.refl s))
  case handOverComplete | responseSwap | rampEnd =>
    exact .of_lasting (State.lasting_instant (fun _ _ => by simp) _ s)
  case geometryRecordStart | spkBankSwap | delayXfadeEnd | micFilterFadeEnd | doubleTalkEnd | reconvergenceEnd |
    callSendFrame | voiceDigitDone =>
    exact .of_lasting (State.lasting_of_ite (State.lasting_instant (fun _ _ => by simp) _ s) rfl)
  case rstLogClear | pmuWake | hqFlush | hqSpoil | hqDataWrite | hqDataLast | hqDataRead | hqWinHeadWrite | hqWinTailWrite |
    evqEnable | evqDisable | evqTailWrite | qspiReadStatus | qspiInvalidInstruction | eventsLost | ringCoalesceTimer |
    windowMoveFromHost | lpddrRetrain | gpioEdge =>
    simp only [exec, execRstLogClear, execPmuWake, execHqFlush, execHqSpoil, execHqDataWrite, execHqDataLast,
      execHqDataRead, execHqWinHeadWrite, execHqWinTailWrite, execEvqEnable, execEvqDisable, execEvqTailWrite,
      execQspiReadStatus, execQspiInvalidInstruction, execEventsLost, execRingCoalesceTimer, execWindowMoveFromHost,
      execLpddrRetrain, execGpioEdge]
    repeat' split
    all_goals exact .of_lasting (by simp)
  case slabApplied | actionFired | ptpMessageRx | ptpMessageTx | timeStep | holdoverEntry | ppsInEdge | ppsInLost |
    mediaSourceSlewEnd | portCalibrated | announceReceiptTimeout =>
    simp only [exec, execSlabApplied, execActionFired, execPtpMessageRx, execPtpMessageTx, execTimeStep, execHoldoverEntry,
      execPpsInEdge, execPpsInLost, execMediaSourceSlewEnd, execPortCalibrated, execAnnounceReceiptTimeout]
    repeat' split
    all_goals exact .of_lasting (by simp)
  case tdmFrame | tdmClockLost | rampQueueStart | fadingSlotFree | adaptationPeriod | aecDiverged | aecRefIdle |
    locatorChange | callReceiveFrame | voiceDigit | voiceCpTone | voiceFaxTone | voiceLec | eventTimeout | budgetTrap =>
    simp only [exec, execTdmFrame, execTdmClockLost, execRampQueueStart, execFadingSlotFree, execAdaptationPeriod,
      execAecDiverged, execAecRefIdle, execLocatorChange, execCallReceiveFrame, execVoiceDigit, execVoiceCpTone,
      execVoiceFaxTone, execVoiceLec, execEventTimeout, execBudgetTrap]
    repeat' split
    all_goals exact .of_lasting (by simp)
  case ethFrameRx | ethLink | gratuitousArp | streamNoRoute | streamTimeout | rtcpSend | jbResync | aes67PacketSend =>
    simp only [exec, execEthFrameRx, execEthLink, execGratuitousArp, execStreamNoRoute, execStreamTimeout, execRtcpSend,
      execJbResync, execAes67PacketSend]
    repeat' split
    all_goals exact .of_lasting (by simp)
  case scrubPass | clusterRetired | gallerySliceLost | unitSelfTestDone | trainMessageRx | blockLock | laneLost | ctleSweep
    | prbsTest | linkTrainFail | linkAbsentRetry | linkPacketTx | creditRx | creditTx | rewidthRx | laneMarkerTx |
    linkClockLost | linkQuiet | ctleTrack | linkErrors =>
    simp only [exec, execScrubPass, execClusterRetired, execGallerySliceLost, execUnitSelfTestDone, execTrainMessageRx,
      execBlockLock, execLaneLost, execCtleSweep, execPrbsTest, execLinkTrainFail, execLinkAbsentRetry, execLinkPacketTx,
      execCreditRx, execCreditTx, execRewidthRx, execLaneMarkerTx, execLinkClockLost, execLinkQuiet, execCtleTrack,
      execLinkErrors]
    repeat' split
    all_goals exact .of_lasting (by simp)
  case heartbeatInstant | heartbeatRx | pairAliveEdge | tokenAcquire | pairDeclareFailure | pairTakeover | joinComplete |
    decisionRecordClose | recordAck | ackTimeout | tokenHandover =>
    simp only [exec, execHeartbeatInstant, execHeartbeatRx, execPairAliveEdge, execTokenAcquire, execPairDeclareFailure,
      execPairTakeover, execJoinComplete, execDecisionRecordClose, execRecordAck, execAckTimeout, execTokenHandover]
    repeat' split
    all_goals exact .of_lasting (by simp)
  case pmuPowerUp | sequencingRetry | railWarning | pwrWarn | throttleRelease | thermalWarn | thermalWarnEnd |
    thermalRecovery | pmbusAlert | avsStep | powerState | wakeN | wakeGpio | wakeTimer =>
    simp only [exec, execPmuPowerUp, execSequencingRetry, execRailWarning, execPwrWarn, execThrottleRelease,
      execThermalWarn, execThermalWarnEnd, execThermalRecovery, execPmbusAlert, execAvsStep, execPowerState, execWakeN,
      execWakeGpio, execWakeTimer]
    repeat' split
    all_goals exact .of_lasting (by simp)

end Machine

open Machine

/-! ### The invariant -/

theorem Kept.otp {s : State} (h : Kept s) : OtpKept s := ⟨h.rows, h.row, h.minimum, h.revoked⟩

/-- A legal state that moves stays legal, and its one-time programmable memory moves forward. -/
theorem Machine.Moves.kept {s t : State} (h : Moves s t) (hs : Kept s) : Kept t ∧ OtpForward s t := by
  obtain ⟨⟨hrows, hrow, hmin, hrevoked⟩, hforward⟩ := h.otp hs.otp
  exact ⟨⟨hrows, hrow, hmin, hrevoked, h.user hs.user, h.host hs.host, h.bar2 hs.bar2⟩, hforward⟩

/-- Settles O60: a step moves the state that the front command's removal leaves (R524, R527). -/
theorem everyStepKeepsOtp : Obligations.EveryStepKeepsOtp := by
  intro s t hs hstep
  cases hp : s.pending with
  | nil =>
    have hidle : s.idle = t := Host.Outcome.next.inj ((step_of_empty hp).symm.trans hstep)
    have hmoves : Moves s t := hidle ▸ State.idle_moves s
    exact ⟨(hmoves.kept hs).1, (hmoves.kept hs).2, hmoves.pending.trans hp⟩
  | cons c rest =>
    have hmoves : Moves { s with pending := rest } t := exec_leads c _ t ((step_of_pending hp).symm.trans hstep)
    have hfront : Kept { s with pending := rest } := ⟨hs.rows, hs.row, hs.minimum, hs.revoked, hs.user, hs.host, hs.bar2⟩
    obtain ⟨hkept, hrow, hhash, hmin, hrevoked, hkey⟩ := hmoves.kept hfront
    exact ⟨hkept, ⟨hrow, hhash, hmin, hrevoked, hkey⟩, hmoves.pending⟩

end Sys2Proof
